-- ==== Sys2Proof/Word.lean ====
section
/-! DEFINITION. The word types of the device and the sparse table in which State holds its arrays. -/

namespace Sys2Proof

/-- A 32-bit register, memory or instruction word (R66, R375). -/
abbrev Word := BitVec 32

/-- A byte of memory, of an image, or of a frame. -/
abbrev Byte := BitVec 8

/-- A sparse table: (key, value) pairs, keys strictly rising, no value equal to what an absent key reads as. -/
abbrev Tab (α : Type) := List (Nat × α)

end Sys2Proof
end

