-- ==== Sys2Proof/Syntax.lean ====
section
/-! DEFINITION. The commands of the block: one constructor for each row of the opcode table, with the operands that the
manual gives it. -/

namespace Sys2Proof

/-! ### Operands -/

/-- Through which port software reaches the register window: the management core, the host over PCIe, the host over SPI. -/
inductive Port where
  | core | pcie | spi
deriving DecidableEq, Repr

/-- The supervised quantities: VBUS overvoltage, VINT, VCORE under and over, VIO18, VIO33, VANA, VSD, VIO33 current, the
junction temperature at its warning and critical thresholds. -/
inductive Sup where
  | vbusOv | vintUv | vcoreUv | vcoreOv | vio18Uv | vio33Uv | vanaUv | vsdUv | vio33Oc | tjWarn | tjCrit
deriving DecidableEq, Repr

/-- The registers whose writes the crosspoint stages beside the slot commands (R120). -/
inductive XptReg where
  | genCfg (g : Fin 16)
  | genFreq (g : Fin 16)
  | genLevel (g : Fin 16)
  | genSeed (g : Fin 16)
  | silCfg (x : Fin 4096)
  | psmSil (n : Fin 32)
deriving DecidableEq, Repr

/-- When an event falls: TCLK ticks after the command before it, and sixteenths of a nanosecond into that tick. -/
structure Moment where
  ticks : Nat
  sub : Fin 64
deriving DecidableEq, Repr

/-- A link that leaves ACTIVE in the middle of a cell: the cell's class and the bytes of it that have arrived, none where no cell was
arriving (R193). -/
structure LinkCut where
  link : Fin 8
  cls : Fin 4
  part : List Byte
deriving DecidableEq, Repr

/-- A control block of a link: its type and its body (R178). -/
structure ControlBlock where
  ty : Byte
  body : BitVec 56
deriving DecidableEq, Repr

/-- An interval of `ps` between consecutive rising, or falling, edges of a reference candidate, or since the latest (R264, R265). -/
structure EdgeGap where
  cand : Fin 17
  falling : Bool
  ps : Nat
deriving DecidableEq, Repr

/-- What a loop measures at an edge of its candidate: the edge's number since the entry to QUAL, how much later the nearest MCLK edge is, in
ps, and f_DCO ÷ f_XOIN in 2^−40 (R272, R277). -/
structure EdgeMeas where
  n : Nat
  late : Int
  ratio : Nat
deriving DecidableEq, Repr

/-- The level of a power-fault pin: low, or high again (R146, R306). -/
structure FltPin where
  grp : Fin 4
  low : Bool
deriving DecidableEq, Repr

/-- The voltage at the ISENSE pins of a channel in µV (R147). -/
structure IsnsMean where
  chan : Fin 32
  uv : Int
deriving DecidableEq, Repr

/-- What a MIRROR frame carries (R301): a mirrored write, with the word that goes with it; a commit of the crosspoint or of the
parameters, with its block. -/
inductive MirrorMsg where
  | write (a : Nat) (w : Word) (aux : Nat)
  | commit (xpt : Bool) (b : Nat)
deriving DecidableEq, Repr

/-- What the host does with an entry of the MSI-X table in BAR2 (R359, R367): it writes the entry's data word unmasked or masked, or reads
the entry and the pending-bit array. -/
inductive MsixUse where
  | unmask (data : Nat)
  | mask (data : Nat)
  | look
deriving DecidableEq, Repr

/-! ### The forms of a Sprig instruction (R66): the fields of bits [31:6] -/

/-- Form R. -/
structure RForm where
  fmt : BitVec 2
  neg : BitVec 1
  aux : BitVec 8
  b : BitVec 5
  a : BitVec 5
  d : BitVec 5
deriving DecidableEq, Repr

/-- Form I. -/
structure IForm where
  imm : BitVec 16
  a : BitVec 5
  d : BitVec 5
deriving DecidableEq, Repr

/-- Form B. -/
structure BForm where
  off : BitVec 16
  b : BitVec 5
  a : BitVec 5
deriving DecidableEq, Repr

/-- Form J. -/
structure JForm where
  off : BitVec 21
  d : BitVec 5
deriving DecidableEq, Repr

/-- Form L. -/
structure LForm where
  lc : BitVec 1
  imm : BitVec 1
  cnt : BitVec 13
  len : BitVec 11
deriving DecidableEq, Repr

/-- Form M; `lanes` is LANES − 1. -/
structure MForm where
  step : BitVec 14
  lanes : BitVec 2
  c : BitVec 5
  d : BitVec 5
deriving DecidableEq, Repr

/-- Form C; `zero` is bits [31:28]. -/
structure CForm where
  zero : BitVec 4
  csr : BitVec 12
  a : BitVec 5
  d : BitVec 5
deriving DecidableEq, Repr

/-! ### Commands -/

/-- The commands. `dt` is the number of TCLK ticks that have passed when an event arrives (`t` where its place within the tick counts), `p` the port of a register access. -/
inductive Instr where
  /-- A write to a register that has no row of its own: typed field effects, reserved and image fields ignored, and mirrored-write rejection on a STANDBY (R377). -/
  | regWrite (p : Port) (a : Nat) (w : Word)
  /-- An access that decodes to no register, is narrower than a word, or reads an image field before an image has set it; it raises SYS.BUS_ERR (R376). -/
  | undecodedAccess (p : Port) (a : Nat) (narrow : Bool) (wr : Option Word)
  /-- VBUS rises through 35 V: the converter soft-starts and the rails ramp in sequence while POR is held (R354). -/
  | powerUp (dt : Nat) (mv : Nat)
  /-- All rails are good and the TCLK PLL is locked: POR is released, TESTEN is sampled and boot starts (R354). -/
  | porRelease (dt : Nat) (testen : Bool)
  /-- VBUS falls below 32 V: POR is asserted, outputs go low and every POR-domain register resets (R346). -/
  | por (dt : Nat) (mv : Nat)
  /-- RESET_N goes low: the CHIP, BLOCK and MGMT domains reset and the outputs go safe (R10). -/
  | chipReset (dt : Nat) (ns : Nat)
  /-- RESET_N rises or POR is released: the boot ROM samples BOOTSEL and chooses the boot source (R21). -/
  | bootStart (dt : Nat) (sel : Fin 4)
  /-- Both flash directory copies have been read; the loader picks the valid copy with the higher SEQ and the slot to try (R22). -/
  | flashDirectoryRead (dt : Nat) (a b : List Byte)
  /-- Image bytes arrive from flash or host and are checked in order: header, section table, section CRCs, PORT_FP and DIGEST (R24). -/
  | imageDataArrive (dt : Nat) (bs : List Byte)
  /-- Signature verification completes and authentication is judged under R18 or R19 (R20). -/
  | signatureVerified (dt : Nat)
  /-- All sections have been applied to their blocks: the firmware starts and loops, time bases and links begin acquisition (R28). -/
  | sectionsApplied (dt : Nat)
  /-- A flash read fails or the trailer lacks a valid TMAGIC: the attempt ends with reason 0x0E (R25). -/
  | flashReadError (dt : Nat)
  /-- The host leaves more than 1 s between chunks: the attempt ends with reason 0x0F (R25). -/
  | hostLoadTimeout (dt : Nat)
  /-- A write to SYS_CHUNK stores the word, or is discarded and sets ERROR while READY = 0 (R27). -/
  | chunkWrite (p : Port) (i : Fin 8192) (w : Word)
  /-- A write of SYS_LOAD_CTRL.LEN hands a chunk to the loader (R25). -/
  | loadChunk (p : Port) (w : Word)
  /-- A write of LEN with LAST = 1 hands the final chunk; a short image is judged when the chunk is taken (R25). -/
  | loadLastChunk (p : Port) (w : Word)
  /-- The loader finishes taking a chunk and READY rises again (R416). -/
  | chunkTaken (dt : Nat)
  /-- START begins staging an image into the slot that is not RUNNING (R29). -/
  | stageStart (p : Port) (w : Word)
  /-- ABORT stops staging and the slot becomes EMPTY (R34). -/
  | stageAbort (p : Port) (w : Word)
  /-- Staging finishes: the slot becomes STAGED or INVALID and HITLESS_OK is evaluated (R30). -/
  | stagingComplete (dt : Nat)
  /-- ARM arms a swap for SYS_SWAP_TARGET.BLOCK, or is refused as not staged or late (R34). -/
  | swapArm (p : Port) (w : Word)
  /-- DISARM cancels an armed swap before its target boundary (R34). -/
  | swapDisarm (p : Port) (w : Word)
  /-- RAMP + 2 × Tb after a planned restart begins, outputs are silent and the block cycle stops (R33). -/
  | restartSilent (dt : Nat)
  /-- The block loop reports lock, or the servo locks with WAIT_SYNC set: the sequencer arms the block-cycle alarm (R39). -/
  | blockCycleArm (dt : Nat)
  /-- SYNC_TMO seconds pass in WAIT_SYNC: FREE is set and the cycle is armed (R39). -/
  | syncTimeout (dt : Nat)
  /-- Nb × MCLK/Fi MCLK periods elapse: the block counter increments and a new block begins (R40). -/
  | blockBoundary (dt : Nat) (sub : Fin 64) (sense : List (Nat × List Int))
  /-- REALIGN command on a RUNNING cycle: the cycle is made to fade out, stop and restart (R39). -/
  | blockRealign (p : Port) (w : Word)
  /-- RAMP + 2 × Tb after the fade began, the cycle stops and returns to WAIT_LOOP (R39). -/
  | realignStop (dt : Nat)
  /-- The seal completes: ready counters are loaded and root jobs are pushed (R86). -/
  | sealComplete (dt : Nat)
  /-- The crosspoint pass completes: destinations, fades, gain steps and silence detectors are updated and XIN jobs become ready (R119). -/
  | xptPassDone (dt : Nat)
  /-- Deadline D of the instance: unfinished jobs are dropped or stopped and the output stage takes the outputs (R93). -/
  | deadline (dt : Nat)
  /-- An idle Sprig pops its own deque or probes its partners to steal a job (R88). -/
  | sprigTakeJob (dt : Nat) (m : Fin 64)
  /-- The 100 ns wait after a fruitless probe round ends and the Sprig probes again (R88). -/
  | stealRetry (dt : Nat) (m : Fin 64)
  /-- A job's end has issued and all its stores are complete: its successors' counters are decremented (R87). -/
  | jobComplete (dt : Nat) (m : Fin 64)
  /-- A write of 1 to THK_AVS_CFG.EN enables AVS and restarts the window (R100). -/
  | avsEnable (p : Port) (w : Word)
  /-- A write through the shared-store window is staged, applied at once, or discarded according to region kind and cycle state (R96). -/
  | sharedStoreWrite (p : Port) (k : Fin 0x100000) (w : Word)
  /-- THK_PCTRL.ARM arms a commit of the staged PARAM and TABLE writes (R96). -/
  | pcommitArm (p : Port) (w : Word)
  /-- After the last body instruction, control returns to the body start, or the loop count is used up and the counter deactivates (R73). -/
  | loopIterate (m : Fin 64)
  /-- Scalar add modulo 2^32 (R69). -/
  | add (m : Fin 64) (f : RForm)
  /-- Scalar subtract modulo 2^32 (R69). -/
  | sub (m : Fin 64) (f : RForm)
  /-- Bitwise and (R69). -/
  | and (m : Fin 64) (f : RForm)
  /-- Bitwise or (R69). -/
  | or (m : Fin 64) (f : RForm)
  /-- Bitwise exclusive or (R69). -/
  | xor (m : Fin 64) (f : RForm)
  /-- Logical shift left (R69). -/
  | sll (m : Fin 64) (f : RForm)
  /-- Logical shift right (R69). -/
  | srl (m : Fin 64) (f : RForm)
  /-- Arithmetic shift right (R69). -/
  | sra (m : Fin 64) (f : RForm)
  /-- Low 32 bits of a scalar product (R69). -/
  | mul (m : Fin 64) (f : RForm)
  /-- Add a sign-extended immediate (R69). -/
  | addi (m : Fin 64) (f : IForm)
  /-- Load an upper immediate (R69). -/
  | lui (m : Fin 64) (f : IForm)
  /-- Branch if equal (R69). -/
  | beq (m : Fin 64) (f : BForm)
  /-- Branch if not equal (R69). -/
  | bne (m : Fin 64) (f : BForm)
  /-- Branch if less than, signed (R69). -/
  | blt (m : Fin 64) (f : BForm)
  /-- Branch if greater or equal, signed (R69). -/
  | bge (m : Fin 64) (f : BForm)
  /-- Jump and link (R69). -/
  | jal (m : Fin 64) (f : JForm)
  /-- Jump to the address in a register (R69). -/
  | jr (m : Fin 64) (f : RForm)
  /-- Activate a hardware loop counter over the LEN following instructions (R73). -/
  | loop (m : Fin 64) (f : LForm)
  /-- Load a word (R70). -/
  | ldw (m : Fin 64) (f : IForm)
  /-- Store a word (R70). -/
  | stw (m : Fin 64) (f : IForm)
  /-- Load a 16-byte vector (R70). -/
  | vld (m : Fin 64) (f : IForm)
  /-- Store a 16-byte vector (R70). -/
  | vst (m : Fin 64) (f : IForm)
  /-- Circular vector load, then advance OFF (R70). -/
  | vldc (m : Fin 64) (f : MForm)
  /-- Circular vector store, then advance OFF (R70). -/
  | vstc (m : Fin 64) (f : MForm)
  /-- Load one word into every lane (R70). -/
  | vlds (m : Fin 64) (f : IForm)
  /-- Lane-wise add or subtract (R71). -/
  | vadd (m : Fin 64) (f : RForm)
  /-- Lane-wise multiply (R71). -/
  | vmul (m : Fin 64) (f : RForm)
  /-- Lane-wise multiply-accumulate (R71). -/
  | vmac (m : Fin 64) (f : RForm)
  /-- Multiply-accumulate by a scalar (R71). -/
  | vmacs (m : Fin 64) (f : RForm)
  /-- Lane-wise minimum (R71). -/
  | vmin (m : Fin 64) (f : RForm)
  /-- Lane-wise maximum (R71). -/
  | vmax (m : Fin 64) (f : RForm)
  /-- Lane-wise absolute value (R71). -/
  | vabs (m : Fin 64) (f : RForm)
  /-- Lane-wise correctly rounded divide (R71). -/
  | vdiv (m : Fin 64) (f : RForm)
  /-- Lane shuffle (R71). -/
  | vshf (m : Fin 64) (f : RForm)
  /-- Format conversion (R71). -/
  | vcvt (m : Fin 64) (f : RForm)
  /-- Insert a scalar into a lane (R71). -/
  | vins (m : Fin 64) (f : RForm)
  /-- Extract a lane to a scalar (R71). -/
  | vext (m : Fin 64) (f : RForm)
  /-- Zero an accumulator and set its tag (R71). -/
  | accz (m : Fin 64) (f : RForm)
  /-- Scale, round and read an accumulator (R71). -/
  | accrd (m : Fin 64) (f : RForm)
  /-- Reduce accumulator lanes into lane 0 (R71). -/
  | accred (m : Fin 64) (f : RForm)
  /-- Set a circular-address register (R70). -/
  | setca (m : Fin 64) (f : RForm)
  /-- Read the OFF field of a circular-address register (R70). -/
  | caoff (m : Fin 64) (f : RForm)
  /-- Write OFF modulo LEN (R70). -/
  | caoffW (m : Fin 64) (f : RForm)
  /-- Read the pace counter; this is a non-deterministic instruction (R72). -/
  | rdpace (m : Fin 64) (f : RForm)
  /-- Read a CSR (R74). -/
  | csrr (m : Fin 64) (f : CForm)
  /-- Write a CSR (R74). -/
  | csrw (m : Fin 64) (f : CForm)
  /-- Complete earlier stores before later accesses (R72). -/
  | fence (m : Fin 64) (f : RForm)
  /-- Raise BREAK (R72). -/
  | brk (m : Fin 64) (f : RForm)
  /-- Complete the job once its stores are complete (R72). -/
  | endJob (m : Fin 64) (f : RForm)
  /-- A write of XPT_CMD_DATA with OP = route stages a route command for a slot (R123). -/
  | xptRouteCmd (p : Port) (w : Word)
  /-- A write of XPT_CMD_DATA with OP = gain stages a gain command for a slot (R127). -/
  | xptGainCmd (p : Port) (w : Word)
  /-- A write to a generator, silence-configuration or PSM-link register is staged for the next commit (R120). -/
  | xptStagedWrite (p : Port) (x : XptReg) (w : Word)
  /-- XPT_CTRL.ARM arms a commit of the staged crosspoint writes (R120). -/
  | xptArm (p : Port) (w : Word)
  /-- A fade reaches sample L − 1; deferred and held route commands start (R125). -/
  | fadeComplete (dt : Nat) (slot : Fin 32768) (lone : Bool)
  /-- No crossing within T samples: the pending gain applies at sample T (R127). -/
  | zcTimeout (dt : Nat) (slot : Fin 32768)
  /-- H consecutive blocks below threshold: the destination becomes SILENT (R131). -/
  | silenceEnter (dt : Nat) (x : Fin 4096)
  /-- Port samples arrive at an IDLE converted channel: it enters ACQUIRE (R112). -/
  | asrcStart (dt : Nat) (c : Fin 256) (ratio : Nat)
  /-- The ratio error stays below 1 ppm for 50 ms: the channel enters LOCKED and fades in (R112). -/
  | asrcLock (dt : Nat) (c : Fin 256) (ratio : Nat) (dly : Int)
  /-- The ratio error stays above 1,000 ppm for 1 ms: the channel enters RETRACK and ASRC.SLIP is raised (R112). -/
  | asrcSlip (dt : Nat) (c : Fin 256) (ratio : Nat)
  /-- The ratio stays within range for 100 ms: the channel returns to ACQUIRE (R112). -/
  | asrcRangeClear (dt : Nat) (c : Fin 256) (ratio : Nat)
  /-- No port sample for 4 expected periods: the channel returns to IDLE (R112). -/
  | asrcIdle (dt : Nat) (c : Fin 256)
  /-- Each carrier period, a channel computes m, limits it, runs the noise shaper and places the leg edges (R141). -/
  | carrierPeriod (dt : Nat) (g : Fin 4) (uv : Nat)
  /-- All eight channels have been idle for DEEP ms: PSEN_Gx is driven low (R151). -/
  | deepSleep (dt : Nat) (g : Fin 4)
  /-- START begins diagnosis and start-up of a group (R146). -/
  | psmStart (p : Port) (g : Fin 4) (w : Word)
  /-- STOP ramps the group to zero and turns it off (R146). -/
  | psmStop (p : Port) (g : Fin 4) (w : Word)
  /-- The leg test completes; the group goes to ENABLING or FAULT (R147). -/
  | legtestDone (dt : Nat) (g : Fin 4) (legs : List (Nat × Nat))
  /-- TEN elapses after PSEN_Gx rises; the load test begins (R146). -/
  | enableTimeDone (dt : Nat) (g : Fin 4)
  /-- The load test completes; channels are classified and the group enters RUN (R147). -/
  | loadtestDone (dt : Nat) (g : Fin 4) (meas : List (Int × Int))
  /-- The stop ramp completes: the zero state is held for one period, then PSEN_Gx goes low (R146). -/
  | stopRampDone (dt : Nat) (g : Fin 4)
  /-- PSFLT_N_Gx is low for at least 200 ns: the group enters FAULT (R146). -/
  | psfltAssert (dt : Nat) (x : FltPin)
  /-- The current comparator trips: the legs go to the zero state for the rest of the carrier period (R152). -/
  | ilimTrip (dt : Nat) (n : Fin 32) (isns : Int) (va vb : Nat)
  /-- Writing 1 to LATCH moves the channel to OFF (R153). -/
  | latchClear (p : Port) (n : Fin 32) (w : Word)
  /-- A frame start arrives at a serial port and is placed in a block sample position (R169). -/
  | frameStart (dt : Nat) (q : Fin 16) (bclk : Nat) (ofs : Int) (ws : List Word)
  /-- A 1,024-frame gate ends: RATE is updated and a rate change is judged (R164). -/
  | rateGateEnd (dt : Nat) (q : Fin 16) (rate : Nat)
  /-- No frame start for 4 expected frame periods: CLKLOSS is set and a rate change is declared (R165). -/
  | clockStop (dt : Nat) (q : Fin 16)
  /-- Group START: the group starts at the first rejoin instant at least 2 blocks ahead (R166). -/
  | sapGroupStart (p : Port) (k : Fin 16) (w : Word)
  /-- Group STOP: all member ports go to OFF (R168). -/
  | sapGroupStop (p : Port) (k : Fin 16) (w : Word)
  /-- RESTART moves a port to PENDING (R168). -/
  | sapRestart (p : Port) (q : Fin 16) (w : Word)
  /-- A LINK control block arrives: it drives the INIT condition, or an RFAULT takes the link DOWN (R190). -/
  | linkBlockReceive (dt : Nat) (l : Fin 8) (body : BitVec 56) (cls : Fin 4) (part : List Byte)
  /-- An IDLE or SOC control block delivers cumulative credit counters (R179). -/
  | creditReturn (dt : Nat) (l : Fin 8) (x : ControlBlock)
  /-- At a cell boundary, the transmitter starts the highest-priority waiting cell that has credit (R188). -/
  | cellTransmit (t : Moment) (l : Fin 8)
  /-- 64 consecutive valid sync headers: the link enters INIT (R190). -/
  | blockLock (dt : Nat) (l : Fin 8)
  /-- Signal is lost at the receive balls: the link goes DOWN (R191). -/
  | lossOfSignal (dt : Nat) (l : Fin 8) (cls : Fin 4) (part : List Byte)
  /-- An invalid-sync-header count completes: the link goes DOWN (R191). -/
  | headerErrorLimit (dt : Nat) (x : LinkCut) (slow : Bool)
  /-- A class's credit does not advance for 1 ms: the link goes DOWN with cause CREDIT (R188). -/
  | creditTimeout (dt : Nat) (x : LinkCut) (k : Fin 4)
  /-- RETRAIN takes an ACTIVE link DOWN (R190). -/
  | linkRetrain (p : Port) (x : LinkCut) (w : Word)
  /-- Writing DISABLE = 1 takes the link to DISABLED; writing it 0 lets it train (R190). -/
  | linkDisable (p : Port) (l : Fin 8) (w : Word)
  /-- The DREQ interval expires: a DREQ stamped T1 is sent (R198). -/
  | dreqSend (t : Moment) (l : Fin 8)
  /-- A DREQ arrives and is answered with a DRSP carrying T2 and T3 (R198). -/
  | dreqReceive (t : Moment) (l : Fin 8) (bs : List Byte)
  /-- A DRSP arrives: a delay sample is formed and HLK_DELAY updated (R198). -/
  | drspReceive (t : Moment) (l : Fin 8) (bs : List Byte)
  /-- Every INT × 125 µs a SYNC cell is sent on links with TXEN = 1 (R199). -/
  | syncSend (t : Moment) (l : Fin 8)
  /-- A SYNC cell arrives on the time-source link and delivers an offset to the servo (R200). -/
  | syncReceive (t : Moment) (l : Fin 8) (bs : List Byte)
  /-- An ISO AUDIO cell arrives: it is checked, forwarded and/or accepted by its receive flow context (R221). -/
  | isoCellReceive (dt : Nat) (l : Fin 8) (bs : List Byte)
  /-- A CTRL or BULK cell addressed to this node goes to its receive ring, or is dropped at a ring mark (R201). -/
  | ringCellReceive (dt : Nat) (l : Fin 8) (bulk : Bool) (bs : List Byte)
  /-- A reservation write is accepted for the next boundary, or refused over RCAP (R196). -/
  | rsvWrite (p : Port) (l : Fin 8) (i : Fin 256) (w : Word)
  /-- Every 1 ms a HELLO cell is sent on each ACTIVE link (R205). -/
  | helloSend (dt : Nat) (l : Fin 8)
  /-- A HELLO arrives and advances the adjacency state machine (R206). -/
  | helloReceive (dt : Nat) (l : Fin 8) (bs : List Byte)
  /-- No valid HELLO for DEAD ms: the adjacency returns to NONE (R206). -/
  | adjDeadTimeout (dt : Nat) (l : Fin 8)
  /-- A TOPO record is originated after a change or every 1 s (R208). -/
  | topoOriginate (dt : Nat)
  /-- A TOPO record updates the topology database (R208). -/
  | topoReceive (dt : Nat) (bs : List Byte)
  /-- A CLAIM or DEFEND cell arrives; a holder defends its ID (R211). -/
  | electReceive (dt : Nat) (bs : List Byte)
  /-- A write of HFB_NODE.ID is accepted or ignored by mode (R210). -/
  | nodeIdWrite (p : Port) (w : Word)
  /-- FWD_CMD OP = 1 writes a forwarding entry, or is refused (R214). -/
  | fwdWrite (p : Port) (w : Word)
  /-- FWD_CMD OP = 2 reads an entry into W0 and W1 (R214). -/
  | fwdRead (p : Port) (w : Word)
  /-- FWD_CMD OP = 3 invalidates an entry (R214). -/
  | fwdInvalidate (p : Port) (w : Word)
  /-- An Ethernet frame is filtered, stamped and delivered to its ring, or discarded (R228). -/
  | frameReceive (dt : Nat) (e : Fin 2) (fcs : Bool) (f : List Byte)
  /-- An RTP packet of an enabled stream is placed by presentation instant, or counted late or early (R238). -/
  | rtpReceive (dt : Nat) (e : Fin 2) (fcs : Bool) (f : List Byte)
  /-- A frame from a transmit ring is sent, with one-step insertion or stamp capture (R231). -/
  | frameTransmit (dt : Nat) (e : Fin 2)
  /-- A read of ETH_TXTS_INFO pops a transmit stamp and loads SEC and NS (R231). -/
  | txtsPop (p : Port) (e : Fin 2)
  /-- A port link is lost and ETH.LINK is raised (R242). -/
  | ethLinkLoss (dt : Nat) (e : Fin 2)
  /-- A write of ETH_STR_CTRL.EN starts a stream, or stops it after the packet in progress (R243). -/
  | streamEnable (p : Port) (x : Fin 128) (w : Word)
  /-- SET loads the time base from TIME_OFS_MSEC and TIME_OFS_MNS (R246). -/
  | tbSet (p : Port) (t : Fin 4) (w : Word)
  /-- A read of TIME_TB_T0 captures the whole value for T1 and T2 (R246). -/
  | tbRead (p : Port) (t : Fin 4)
  /-- A write to TIME_TB_RATE_HI in FREE commits ADJ (R247). -/
  | rateCommit (p : Port) (t : Fin 4) (w : Word)
  /-- A write of TIME_OFS_VAL submits a firmware offset, judged timely or late (R248). -/
  | offsetSubmit (p : Port) (t : Fin 4) (w : Word)
  /-- No accepted offset for HOLD_TMO ms: the servo enters HOLD (R250). -/
  | servoHoldTimeout (dt : Nat) (t : Fin 4)
  /-- Writing FREE = 1 takes the servo to FREE (R250). -/
  | servoFree (p : Port) (t : Fin 4) (w : Word)
  /-- Every 1 ms the selector delivers an offset to the media time base (R252). -/
  | selectorTick (dt : Nat)
  /-- A SWITCH command switches to the other time base, or is refused (R254). -/
  | selectorSwitch (p : Port) (w : Word)
  /-- TB_A has been LOCKED for RVT s: the selector reverts to it (R254). -/
  | selectorRevert (dt : Nat)
  /-- A write of TIME_ALM_NS with EN = 1 arms the alarm, or fires it late (R258). -/
  | alarmArm (p : Port) (a : Fin 32) (w : Word)
  /-- Writing EN = 0 disarms an armed alarm (R258). -/
  | alarmDisarm (p : Port) (a : Fin 32) (w : Word)
  /-- The time base reaches the alarm target: the alarm fires, acts on its TIO pin and advances (R257). -/
  | alarmFire (dt : Nat) (a : Fin 32) (sub : Fin 64)
  /-- An event of a capture unit's source records the time-base value (R261). -/
  | captureEvent (dt : Nat) (pin : Fin 12) (rising : Bool) (sub : Fin 64)
  /-- A read of TIME_CAP_T0 captures T1 and T2 of the record (R261). -/
  | captureRead (p : Port) (c : Fin 16)
  /-- An edge interval shorter than 0.75 T disqualifies a candidate (R265). -/
  | candGlitch (dt : Nat) (x : EdgeGap)
  /-- No edge for 3.5 T disqualifies a candidate (R265). -/
  | candActivityTimeout (dt : Nat) (x : EdgeGap)
  /-- A frequency gate ends: OFS is reported and qualification is advanced (R267). -/
  | qualGateEnd (dt : Nat) (c : Fin 17) (ofs : Int)
  /-- The hold-off timer ends: the candidate becomes QUAL (R267). -/
  | holdoffExpire (dt : Nat) (c : Fin 17)
  /-- A write to RCU_LOOP_RANK or RCU_LOOP_CTRL re-evaluates the selection within 10 µs (R268). -/
  | loopRankWrite (p : Port) (k : Fin 4) (x : Option (Fin 3)) (w : Word)
  /-- A band trial ends, and the search succeeds, tries the next entry or fails (R271). -/
  | bandTrialDone (dt : Nat) (k : Fin 4) (f fine : Nat)
  /-- A comparison edge gives a phase error e to the loop (R272). -/
  | comparisonEdge (dt : Nat) (k : Fin 4) (x : EdgeMeas)
  /-- A dwell ends and the bandwidth narrows, reaching TRACK at TRK (R274). -/
  | narrowStep (dt : Nat) (k : Fin 4)
  /-- The pull offset reaches 0 and the loop enters TRACK (R275). -/
  | pullComplete (dt : Nat) (k : Fin 4)
  /-- RETUNE applies FOUT and MDIV and enters SEARCH, or is refused (R279). -/
  | retune (p : Port) (k : Fin 4) (w : Word)
  /-- GO hops the loop to a Quickset entry, or is ignored (R281). -/
  | qsHop (p : Port) (k : Fin 2) (w : Word)
  /-- A write of SEED loads the dither LFSR (R282). -/
  | ditherSeedWrite (p : Port) (k : Fin 4) (w : Word)
  /-- The DLL span equals the MCLK period: the DLL enters ALIGNING (R286). -/
  | dllLock (dt : Nat) (x : Fin 28)
  /-- An anchor instant: the DLL aligns and ungates, or measures ERR and steps a tap (R289). -/
  | dllAnchor (dt : Nat) (x : Fin 28) (sec frac : Nat) (err : Int)
  /-- The span drifts by more than 4 taps: outputs are gated and ALN.UNLOCK raised (R286). -/
  | dllUnlock (dt : Nat) (x : Fin 28)
  /-- REALIGN gates the DLL and realigns it at the next anchor (R290). -/
  | dllRealign (p : Port) (x : Fin 28) (w : Word)
  /-- A write of ALN_OUT_OFS while RUN realigns the output (R290). -/
  | outOfsWrite (p : Port) (o : Fin 8) (w : Word)
  /-- A partner heartbeat frame arrives and is recorded (R300). -/
  | heartbeatReceive (dt : Nat) (bs : List Byte)
  /-- At B(k) + HBWIN the heartbeat and LIVE paths are judged present or lost (R300). -/
  | pairEvaluate (dt : Nat)
  /-- LIVE_IN changes level; its skew is recorded (R300). -/
  | liveEdge (dt : Nat) (level : Bool)
  /-- OWN_IN rises on an ACTIVE outside a handover: the chip yields (R312). -/
  | ownInChange (dt : Nat) (high : Bool)
  /-- YIELD moves the ACTIVE to STANDBY (R312). -/
  | yield (p : Port) (w : Word)
  /-- RESYNC schedules THK and XPT resets on both chips at PAIR_RESYNC.BLOCK (R305). -/
  | resync (p : Port) (w : Word)
  /-- CLEAR moves a FAILED chip to NONE (R296). -/
  | pairClear (p : Port) (w : Word)
  /-- FAIL puts the chip in FAILED and releases its outputs (R296). -/
  | pairFail (p : Port) (w : Word)
  /-- HANDOVER proposes a planned handover at PAIR_HO_BLK, or is refused (R309). -/
  | handover (p : Port) (w : Word)
  /-- A VBUS frame delivers the ACTIVE's bus reading and dip state to the STANDBY (R155). -/
  | pairVbusReceive (dt : Nat) (g : Fin 4) (v val : Nat) (st : Fin 3) (ceil : Bool)
  /-- An ASRC frame delivers ratio words and states for the block (R114). -/
  | pairAsrcReceive (dt : Nat) (b : Nat) (ws : List (Nat × Nat × Nat × Nat))
  /-- A MIRROR frame applies a mirrored write or commit on the STANDBY (R301). -/
  | mirrorReceive (dt : Nat) (x : MirrorMsg)
  /-- A PSM frame gives the STANDBY the ACTIVE's diagnosis, group and latch states (R302). -/
  | pairPsmReceive (dt : Nat) (g : Fin 4) (state : Nat) (chans : List (Nat × Nat × Nat × Nat))
  /-- A partner health record arrives over the pair link (R307). -/
  | healthReceive (dt : Nat) (bs : List Byte)
  /-- The pair link leaves ACTIVE: UNMIRRORED is set and PAIR.LINK raised (R302). -/
  | pairLinkDown (dt : Nat)
  /-- No boundary within HBWIN of Tb after the previous one: the chip enters FAILED (R302). -/
  | boundaryMissed (dt : Nat)
  /-- Every INT blocks a health record is written to the ring and sent (R307). -/
  | healthRecord (dt : Nat)
  /-- The scrub engine visits a word, rewrites a correctable error and reports errors (R418). -/
  | scrub (dt : Nat) (a : Nat) (err : Fin 3)
  /-- A GRAVE log record completes in MRAM; a waiting C reaction proceeds (R327). -/
  | graveLogWritten (dt : Nat)
  /-- The escalation timer reaches ESC: the escalation reaction is taken (R318). -/
  | escalationExpire (dt : Nat) (n : Fin 192)
  /-- No counted event within WIN: a COUNTING source returns to IDLE (R318). -/
  | faultWindowExpire (dt : Nat) (n : Fin 192)
  /-- SHADOW ms after the reset ends, the reset shadow closes (R324). -/
  | shadowClose (dt : Nat) (b : Fin 19)
  /-- A write of 1 to an FLT_SEV bit acknowledges the source (R318). -/
  | faultAck (p : Port) (k : Fin 6) (w : Word)
  /-- A write of 1 to an FLT_ERRH bit releases the event-level ERR_N hold (R320). -/
  | errhClear (p : Port) (k : Fin 6) (w : Word)
  /-- FLT_INJ.GO starts injection in factory test mode, or is refused (R328). -/
  | faultInject (p : Port) (w : Word)
  /-- 1 µs after the previous injected event, the next one is raised (R328). -/
  | injectNext (dt : Nat)
  /-- ERASE clears the GRAVE log when no condition is active (R327). -/
  | glogErase (p : Port) (w : Word)
  /-- Every 100 µs while the cycle is not RUNNING, a new once-per-block period begins (R321). -/
  | pseudoBlock (dt : Nat)
  /-- A read of PERF_CNT_LO returns the low word and snapshots the high bits for the port (R336). -/
  | cntLoRead (p : Port) (i : Fin 32)
  /-- A write of PERF_CNT_HI stages the high bits for the port (R337). -/
  | cntHiWrite (p : Port) (i : Fin 32) (w : Word)
  /-- A write of PERF_CNT_LO replaces the count with the staged and written bits (R337). -/
  | cntLoWrite (p : Port) (i : Fin 32) (w : Word)
  /-- CLR replaces every slot counter with 0 (R337). -/
  | slotClear (p : Port) (w : Word)
  /-- A read of PERF_SLOT_LO snapshots the high bits of a slot counter (R336). -/
  | slotLoRead (p : Port) (m : Fin 64) (c : Fin 4)
  /-- A counter wraps: WRAP is set and the PERF interrupt is raised when enabled (R338). -/
  | counterWrap (dt : Nat) (i : Fin 32)
  /-- A sampling interval completes and the instruction is recorded to the trace ring (R339). -/
  | sampleRecord (dt : Nat)
  /-- VBUS falls below LEVEL: PWR.VBUS_WARN is raised and the dip policy applied (R347). -/
  | vbusWarn (dt : Nat) (mv : Nat)
  /-- VBUS rises above LEVEL + 1 V: the warning clears and the restore ramp begins (R348). -/
  | vbusRecover (dt : Nat) (mv : Nat)
  /-- A rail, bus or temperature supervisor trips and raises its source (R345). -/
  | supervisorTrip (dt : Nat) (x : Sup) (v : Int)
  /-- A write of PWR_VCORE.SET with AVS off sets a new target (R353). -/
  | vcoreSetWrite (p : Port) (w : Word)
  /-- Every 10 µs VCORE moves 5 mV toward SET (R353). -/
  | vcoreSetStep (dt : Nat)
  /-- A write of 0xC1A5 restarts the watchdog; any other value sets BADKICK (R368). -/
  | wdogKick (p : Port) (w : Word)
  /-- The watchdog expires: WDEV is set, MGMT.WDOG raised and a MGMT reset taken (R368). -/
  | wdogExpire (dt : Nat)
  /-- MRST resets the management core and its MGMT-domain registers (R368). -/
  | mgmtReset (p : Port) (w : Word)
  /-- The boot ROM checks the MGFW copy and restarts firmware, or sets FWFAIL (R368). -/
  | mgmtResetDone (dt : Nat)
  /-- DOORBELL interrupts the core (R357). -/
  | doorbell (p : Port) (w : Word)
  /-- A write of MGMT_VEC_RAISE raises vector 24–31 (R366). -/
  | vectorRaise (p : Port) (w : Word)
  /-- A write of MGMT_RING_CFG enables a ring, or is refused with BADCFG (R361). -/
  | ringEnable (p : Port) (q : Fin 32) (w : Word)
  /-- A software producer advances WR and notifies the consumer, or the write is ignored with OVR (R364). -/
  | ringWrWrite (p : Port) (q : Fin 32) (w : Word)
  /-- A software consumer advances RD (R364). -/
  | ringRdWrite (p : Port) (q : Fin 32) (w : Word)
  /-- A write of MGMT_HPORT_SEL sets the host-port cursor to RD or WR of a ring (R365). -/
  | hportSelect (p : Port) (w : Word)
  /-- A read of MGMT_HPORT_DATA returns the word at the cursor and advances it (R365). -/
  | hportRead (p : Port)
  /-- A write of MGMT_HPORT_DATA stores a word and advances the cursor, or is discarded with OVR (R365). -/
  | hportWrite (p : Port) (w : Word)
  /-- COMMIT sets RD or WR to the cursor, or is refused with MISALIGN (R365). -/
  | hportCommit (p : Port) (w : Word)
  /-- A scene-store word write enters the buffer, waits for room, or is discarded when protected (R371). -/
  | sceneWrite (p : Port) (k : Fin 0x100000) (w : Word)
  /-- A buffered word is written and read back, rewritten once, and raises MGMT.SCENE on a second failure (R371). -/
  | sceneWordDone (dt : Nat) (bad : Bool)
  /-- SPI command 0x02 writes successive register words (R360). -/
  | spiWrite (a : Fin 0x1000000) (ws : List Word)
  /-- SPI command 0x0B reads successive register words (R360). -/
  | spiRead (a : Fin 0x1000000) (n : Nat)
  /-- A write of SYS_BLKRST asserts a BLOCK reset and opens its shadow, or is refused (R382). -/
  | blockResetCmd (p : Port) (w : Word)
  /-- A block reset ends and the shadow timer starts (R324). -/
  | blockResetEnd (dt : Nat) (b : Fin 19)
  /-- A key write to TEST_FTM advances, restarts or discards the factory-test-mode sequence (R413). -/
  | ftmKey (p : Port) (w : Word)
  /-- A register-window read with an effect of its own: an RC field returns its value and clears, or an ECC error in the word read raises its fault source (R8). -/
  | regRead (p : Port) (a : Nat) (err : Fin 3)
  /-- An Ethernet port's link comes up: LINK reads 1 and streams stopped by a block reset restart at the next boundary (R243). -/
  | ethLinkUp (dt : Nat) (e : Fin 2)
  /-- A Sprig issues a word with an unassigned opcode, such as an unwritten all-zero word, and raises ILLEGAL (R67). -/
  | unassignedOpcode (m : Fin 64) (w : Word)
  /-- A CTRL or BULK cell addressed to another node or to an unjoined group arrives and is checked, looked up and forwarded, or discarded (R215). -/
  | transitCellReceive (dt : Nat) (l : Fin 8) (bulk : Bool) (bs : List Byte)
  /-- TRST_N low or POR puts the TAP in Test-Logic-Reset (R412). -/
  | tapReset (dt : Nat)
  /-- EXTEST drives the boundary cells onto the balls when permitted (R408). -/
  | extest (dt : Nat) (pins : Nat) (shifted : Option Nat)
  /-- IDCODE selects the identification register (R409). -/
  | idcode (dt : Nat)
  /-- SAMPLE/PRELOAD samples or preloads the boundary register (R408). -/
  | samplePreload (dt : Nat) (pins shifted : Nat)
  /-- EXTEST_PULSE drives pulses on AC-coupled differential balls (R408). -/
  | extestPulse (dt : Nat) (pins : Nat) (shifted : Option Nat)
  /-- EXTEST_TRAIN drives pulse trains on AC-coupled differential balls (R408). -/
  | extestTrain (dt : Nat) (pins : Nat) (shifted : Option Nat)
  /-- HIGHZ sets the outputs to high impedance (R408). -/
  | highz (dt : Nat)
  /-- CLAMP holds the outputs at preloaded values with bypass selected (R408). -/
  | clamp (dt : Nat)
  /-- BYPASS selects the one-bit bypass register (R408). -/
  | bypass (dt : Nat) (code : Fin 256)
  /-- A write of TEST_ATB_CFG connects a bus to a node for sensing (R406). -/
  | atbSelect (p : Port) (x : Fin 2) (w : Word)
  /-- FORCE = 1 forces the node from the ball in factory test mode, or sets FREF (R407). -/
  | atbForce (p : Port) (x : Fin 2) (w : Word)
  /-- A rail fails to reach regulation within 10 ms of its ramp; POR stays asserted (R354). -/
  | railTimeout (dt : Nat)
  /-- 100 ms after a failed rail, the whole power-up sequence is retried (R354). -/
  | powerUpRetry (dt : Nat)
  /-- 1 s after a failed search, the search starts again (R271). -/
  | bandSearchRetry (dt : Nat) (k : Fin 4)
  /-- The DCO settles and the divider phase is set at the first comparison edge (R281). -/
  | hopSettled (dt : Nat) (k : Fin 4)
  /-- The hop check ends: the loop enters NARROW, or ACQUIRE with HOPFAIL (R281). -/
  | hopCheckDone (dt : Nat) (k : Fin 4)
  /-- No block lock for 50 ms: the receive polarity is inverted (R190). -/
  | polarityInvert (dt : Nat) (l : Fin 8)
  /-- 10 ms in INIT without the entry condition: the link returns to TRAIN (R190). -/
  | initTimeout (dt : Nat) (l : Fin 8)
  /-- 1 ms in DOWN: the link returns to TRAIN (R190). -/
  | downTimeout (dt : Nat) (l : Fin 8)
  /-- No DRSP 1 ms after its DREQ: the exchange is abandoned (R198). -/
  | drspTimeout (dt : Nat) (l : Fin 8)
  /-- A flood-cache key ages out 100 ms after entry (R207). -/
  | floodKeyExpire (dt : Nat)
  /-- A record not refreshed within 3.5 s is removed (R208). -/
  | topoExpire (dt : Nat) (uid : BitVec 64)
  /-- 1.5 s after the first adjacency UP, an AUTO node chooses a candidate ID (R211). -/
  | electWaitDone (dt : Nat)
  /-- A CLAIM of the candidate ID is sent, three times 50 ms apart (R211). -/
  | claimSend (dt : Nat)
  /-- 150 ms after the first CLAIM, the ID is assigned and stored, or the next free ID is tried (R211). -/
  | claimWindowEnd (dt : Nat)
  /-- The restore ramp reaches 1 (R348). -/
  | dipRestoreDone (dt : Nat)
  /-- A supervised quantity returns past its clear threshold (R345). -/
  | supervisorClear (dt : Nat) (x : Sup) (v : Int)
  /-- A function-level, hot or link-down reset resets the endpoint only (R359). -/
  | pcieReset (dt : Nat)
  /-- The PCIe link leaves L0 other than by power management and MGMT.PCIE_DOWN is raised (R359). -/
  | pcieLinkDown (dt : Nat)
  /-- The endpoint reports an uncorrectable error and MGMT.PCIE_ERR is raised (R359). -/
  | pcieError (dt : Nat)
  /-- PERST_N going low resets the PCIe endpoint only, and its rise starts link training within 20 ms (R402). -/
  | perstNChange (dt : Nat) (low : Bool)
  /-- The host unmasks an MSI-X vector in the BAR2 table, and its pending message is sent (R367). -/
  | msixUnmask (dt : Nat) (v : Fin 64) (addr : Nat) (x : MsixUse)
  /-- An idle Sprig runs its known-answer kernel and sets the SPRIG test result (R306). -/
  | pleachKernel (dt : Nat) (m : Fin 64) (good : Bool)
  /-- The 16 + U_k block wait after a start-up yield ends and the chip may take over (R297). -/
  | startupBackoffExpire (dt : Nat)
  /-- The load-test current exceeds VTEST/1 Ω: the channel's test ends and it is classified SHORTED (R147). -/
  | loadtestAbort (dt : Nat) (x : IsnsMean)
deriving DecidableEq, Repr

end Sys2Proof
end

