-- ==== Sys2Proof/Decode.lean ====
section
/-! DEFINITION. Commands from words: the opcode table gives no row bits, so that no word spells a command. -/

namespace Sys2Proof

/-- The command that a word spells by the bits of the opcode table: none, as no row has bits. -/
def decodeTableWord (_nbits _w : Nat) : Option Instr := none

end Sys2Proof
end

