-- ==== Sys2Proof/Machine/Bits.lean ====
section
/-! DEFINITION. Bit fields, byte order, rounding, saturation and the cyclic redundancy checks of the manual. -/

namespace Sys2Proof.Machine

/-- The value of bits [hi:lo] of a word. -/
def fget (w : Word) (hi lo : Nat) : Nat := (w.toNat >>> lo) % 2 ^ (hi + 1 - lo)

/-- The word with bits [hi:lo] replaced by `v` taken modulo the field's width. -/
def fset (w : Word) (hi lo v : Nat) : Word :=
  BitVec.ofNat 32 (w.toNat % 2 ^ lo + (v % 2 ^ (hi + 1 - lo)) * 2 ^ lo + (w.toNat / 2 ^ (hi + 1)) * 2 ^ (hi + 1))

/-- Bit `i` of a natural number, as 0 or 1. -/
def bitOf (n i : Nat) : Nat := (n >>> i) % 2

/-- 1 for true, 0 for false. -/
def b2n (b : Bool) : Nat := if b then 1 else 0

/-- `n` modulo 2^32 read as two's complement. -/
def sgn32 (n : Nat) : Int := if n % 4294967296 < 2147483648 then (n % 4294967296 : Nat) else ((n % 4294967296 : Nat) : Int) - 4294967296

/-- `n` modulo 2^w read as two's complement. -/
def sgnW (w n : Nat) : Int := if n % 2 ^ w < 2 ^ (w - 1) then (n % 2 ^ w : Nat) else ((n % 2 ^ w : Nat) : Int) - (2 ^ w : Nat)

/-- The low `w` bits of an integer in two's complement. -/
def unsW (w : Nat) (z : Int) : Nat := (z % ((2 ^ w : Nat) : Int)).toNat

/-- Signed serial comparison of block numbers: `m` is later than `c` (R37). -/
def later32 (m c : Nat) : Bool :=
  let d := (m + 4294967296 - c % 4294967296) % 4294967296
  decide (1 ≤ d ∧ d ≤ 2147483647)

/-- 16-bit serial comparison (R208). -/
def later16 (m c : Nat) : Bool :=
  let d := (m + 65536 - c % 65536) % 65536
  decide (1 ≤ d ∧ d ≤ 32767)

/-- Round the quotient n / d (d > 0) half to even. -/
def rhe (n : Int) (d : Nat) : Int :=
  let q := n / (d : Int)
  let r := n - q * d
  if 2 * r < d then q
  else if 2 * r > d then q + 1
  else if q % 2 = 0 then q else q + 1

/-- Clamp to [lo, hi]. -/
def clampI (lo hi z : Int) : Int := if z < lo then lo else if z > hi then hi else z

/-- Saturate to the Q1.31 range. -/
def sat31 (z : Int) : Int := clampI (-2147483648) 2147483647 z

/-- Saturate to the Q8.56 (64-bit) range. -/
def sat64 (z : Int) : Int := clampI (-9223372036854775808) 9223372036854775807 z

/-- The 32-bit word of a Q1.31 sample. -/
def q31w (z : Int) : Word := BitVec.ofInt 32 z

/-- The Q1.31 sample of a 32-bit word. -/
def w31q (w : Word) : Int := w.toInt

/-- Little-endian bytes of a number. -/
def leBytes : Nat → Nat → List Byte
  | 0, _ => []
  | n + 1, v => BitVec.ofNat 8 v :: leBytes n (v / 256)

/-- Big-endian bytes of a number. -/
def beBytes (n v : Nat) : List Byte := (leBytes n v).reverse

/-- The number that little-endian bytes hold. -/
def leNat : List Byte → Nat
  | [] => 0
  | b :: bs => b.toNat + 256 * leNat bs

/-- The number that big-endian bytes hold. -/
def beNat (bs : List Byte) : Nat := leNat bs.reverse

/-- `n` bytes of a list from offset `o`, zero bytes where the list ends. -/
def slice (bs : List Byte) (o n : Nat) : List Byte :=
  let t := (bs.drop o).take n
  t ++ List.replicate (n - t.length) 0

/-- Little-endian field of `n` bytes at offset `o`. -/
def leAt (bs : List Byte) (o n : Nat) : Nat := leNat (slice bs o n)

/-- Big-endian field of `n` bytes at offset `o`. -/
def beAt (bs : List Byte) (o n : Nat) : Nat := beNat (slice bs o n)

/-- One bit step of the reflected CRC-32 of IEEE 802.3. -/
def crc32Bits : Nat → Nat → Nat
  | 0, c => c
  | k + 1, c => crc32Bits k (if c % 2 = 1 then (c / 2) ^^^ 0xEDB88320 else c / 2)

/-- CRC-32 register after a list of bytes. -/
def crc32Run : List Byte → Nat → Nat
  | [], c => c
  | b :: bs, c => crc32Run bs (crc32Bits 8 (c ^^^ b.toNat))

/-- CRC-32 with the IEEE 802.3 polynomial (R13, R180, R303). -/
def crc32 (bs : List Byte) : Nat := crc32Run bs 0xFFFFFFFF ^^^ 0xFFFFFFFF

/-- One bit step of the header CRC-8, most significant bit first (R181). -/
def crc8Bits : Nat → Nat → Nat
  | 0, c => c
  | k + 1, c => crc8Bits k (if c / 128 % 2 = 1 then (c * 2 % 256) ^^^ 7 else c * 2 % 256)

/-- HCRC: CRC-8, polynomial x^8 + x^2 + x + 1, initial value 0 (R181). -/
def crc8Run : List Byte → Nat → Nat
  | [], c => c
  | b :: bs, c => crc8Run bs (crc8Bits 8 (c ^^^ b.toNat))

/-- HCRC of header bytes (R181). -/
def crc8 (bs : List Byte) : Nat := crc8Run bs 0

/-- Ceiling of a / b. -/
def cdiv (a b : Nat) : Nat := (a + b - 1) / b

/-- Least power of a counter, saturating: `n + 1` held at `m`. -/
def satInc (m n : Nat) : Nat := if n < m then n + 1 else m

/-- Natural square of iteration: apply `f` to the numbers 0 … n−1 in order, carrying a value. -/
def forN {α : Type} : Nat → (Nat → α → α) → α → α
  | 0, _, a => a
  | n + 1, f, a => f n (forN n f a)

end Sys2Proof.Machine
end

