-- ==== Sys2Proof/Machine/Crypto.lean ====
section
/-! DEFINITION. The digest and the signature that the loader checks: SHA-256, and ECDSA on the curve P-256 (R14, R18,
R19). -/

namespace Sys2Proof.Machine

/-! ### SHA-256 -/

/-- Is a number below 400 a prime? -/
def isPrime (n : Nat) : Bool := decide (2 ≤ n) && (List.range n).all (fun k => decide (k < 2) || n % k != 0)

/-- The greatest r ≤ `hi` with r^e ≤ n, by halving `fuel` times from `lo`. -/
def rootDown (e n : Nat) : Nat → Nat → Nat → Nat
  | 0, lo, _ => lo
  | f + 1, lo, hi =>
    let m := (lo + hi + 1) / 2
    if m ^ e ≤ n then rootDown e n f m hi else rootDown e n f lo (m - 1)

/-- First 32 bits of the fractional part of the e-th root of a number. -/
def rootFrac (e p : Nat) : BitVec 32 := BitVec.ofNat 32 (rootDown e (p * 2 ^ (32 * e)) 40 0 (2 ^ 40))

/-- The first 64 primes. -/
def primes64 : List Nat := ((List.range 312).filter isPrime).take 64

/-- The round constants: cube roots of the first 64 primes. -/
def shaK : List (BitVec 32) := primes64.map (rootFrac 3)

/-- The initial hash value: square roots of the first 8 primes. -/
def shaInit : List (BitVec 32) := (primes64.take 8).map (rootFrac 2)

/-- Rotate right. -/
def rotr (x : BitVec 32) (n : Nat) : BitVec 32 := x.rotateRight n

/-- Extend the message schedule, newest word first, by so many words. -/
def shaSchedule : Nat → List (BitVec 32) → List (BitVec 32)
  | 0, w => w
  | n + 1, w =>
    let a := nth 0 w 14
    let b := nth 0 w 1
    let s0 := rotr a 7 ^^^ rotr a 18 ^^^ (a >>> 3)
    let s1 := rotr b 17 ^^^ rotr b 19 ^^^ (b >>> 10)
    shaSchedule n ((nth 0 w 15 + s0 + nth 0 w 6 + s1) :: w)
where
  /-- Element of a list. -/
  nth (d : BitVec 32) : List (BitVec 32) → Nat → BitVec 32
    | [], _ => d
    | x :: _, 0 => x
    | _ :: t, n + 1 => nth d t n

/-- The eight working variables. -/
structure Sha where
  a : BitVec 32
  b : BitVec 32
  c : BitVec 32
  d : BitVec 32
  e : BitVec 32
  f : BitVec 32
  g : BitVec 32
  h : BitVec 32
deriving DecidableEq, Repr

/-- One round. -/
def Sha.round (s : Sha) (k w : BitVec 32) : Sha :=
  let s1 := rotr s.e 6 ^^^ rotr s.e 11 ^^^ rotr s.e 25
  let ch := (s.e &&& s.f) ^^^ (~~~s.e &&& s.g)
  let t1 := s.h + s1 + ch + k + w
  let s0 := rotr s.a 2 ^^^ rotr s.a 13 ^^^ rotr s.a 22
  let mj := (s.a &&& s.b) ^^^ (s.a &&& s.c) ^^^ (s.b &&& s.c)
  ⟨t1 + (s0 + mj), s.a, s.b, s.c, s.d + t1, s.e, s.f, s.g⟩

/-- The rounds of one block. -/
def Sha.rounds : List (BitVec 32) → List (BitVec 32) → Sha → Sha
  | k :: ks, w :: ws, s => Sha.rounds ks ws (s.round k w)
  | _, _, s => s

/-- One 64-byte block. -/
def Sha.block (ks : List (BitVec 32)) (s : Sha) (bs : List Byte) : Sha :=
  let w16 := (List.range 16).map (fun i => BitVec.ofNat 32 (beAt bs (4 * i) 4))
  let t := Sha.rounds ks (shaSchedule 48 w16.reverse).reverse s
  ⟨s.a + t.a, s.b + t.b, s.c + t.c, s.d + t.d, s.e + t.e, s.f + t.f, s.g + t.g, s.h + t.h⟩

/-- Blocks of a padded message; `n` is their number. -/
def Sha.blocks (ks : List (BitVec 32)) : Nat → List Byte → Sha → Sha
  | 0, _, s => s
  | n + 1, bs, s => Sha.blocks ks n (bs.drop 64) (s.block ks (bs.take 64))

/-- SHA-256 of a message. -/
def sha256 (bs : List Byte) : List Byte :=
  let pad := (119 - bs.length % 64) % 64
  let m := bs ++ (0x80 : Byte) :: List.replicate pad 0 ++ beBytes 8 (8 * bs.length)
  let g (i : Nat) : BitVec 32 := shaSchedule.nth 0 shaInit i
  let s := Sha.blocks shaK (m.length / 64) m ⟨g 0, g 1, g 2, g 3, g 4, g 5, g 6, g 7⟩
  [s.a, s.b, s.c, s.d, s.e, s.f, s.g, s.h].flatMap (fun x => beBytes 4 x.toNat)

/-! ### ECDSA on P-256 -/

/-- The prime of the field. -/
def p256p : Nat := 2 ^ 256 - 2 ^ 224 + 2 ^ 192 + 2 ^ 96 - 1
/-- The order of the base point. -/
def p256n : Nat := 0xffffffff00000000ffffffffffffffffbce6faada7179e84f3b9cac2fc632551
/-- The coefficient b of the curve y² = x³ − 3x + b. -/
def p256b : Nat := 0x5ac635d8aa3a93e7b3ebbd55769886bc651d06b0cc53b0f63bce3c3e27d2604b
/-- The base point. -/
def p256g : Nat × Nat :=
  (0x6b17d1f2e12c4247f8bce6e563a440f277037d812deb33a0f4a13945d898c296,
   0x4fe342e2fe1a7f9b8ee7eb4a7c0f9e162bce33576b315ececbb6406837bf51f5)

/-- b^e modulo m, the exponent's bits from `k` − 1 down. -/
def powMod (m b e : Nat) : Nat → Nat → Nat
  | 0, acc => acc
  | k + 1, acc => powMod m b e k (if bitOf e k = 1 then acc * acc % m * b % m else acc * acc % m)

/-- The inverse modulo a prime below 2^256. -/
def invMod (m a : Nat) : Nat := powMod m (a % m) (m - 2) 256 1

/-- The sum of two points; `none` is the point at infinity. -/
def ecAdd (a b : Option (Nat × Nat)) : Option (Nat × Nat) :=
  match a, b with
  | none, q => q
  | q, none => q
  | some (x1, y1), some (x2, y2) =>
    let p := p256p
    if x1 = x2 ∧ (y1 + y2) % p = 0 then none
    else
      let l := if x1 = x2 then (3 * x1 * x1 + (p - 3)) * invMod p (2 * y1) % p
        else (y2 + p - y1) * invMod p (x2 + p - x1) % p
      let x3 := (l * l + 2 * p - x1 - x2) % p
      some (x3, (l * (x1 + p - x3) + p - y1) % p)

/-- The multiple of a point by a scalar, the scalar's bits from `k` − 1 down. -/
def ecMul (e : Nat) (q : Option (Nat × Nat)) : Nat → Option (Nat × Nat) → Option (Nat × Nat)
  | 0, acc => acc
  | k + 1, acc =>
    let d := ecAdd acc acc
    ecMul e q k (if bitOf e k = 1 then ecAdd d q else d)

/-- Is (r, s) a valid signature of a digest under a public key (R14, R18)? -/
def ecdsaOk (digest pub : List Byte) (r s : Nat) : Bool :=
  let x := beNat (pub.take 32)
  let y := beNat (slice pub 32 32)
  let p := p256p
  let n := p256n
  if !(decide (1 ≤ r) && decide (r < n) && decide (1 ≤ s) && decide (s < n) && decide (x < p) && decide (y < p))
      || y * y % p != (x * x % p * x + (p - 3) * x + p256b) % p then false
  else
    let w := invMod n s
    let u1 := beNat digest * w % n
    let u2 := r * w % n
    match ecAdd (ecMul u1 (some p256g) 256 none) (ecMul u2 (some (x, y)) 256 none) with
    | some (x1, _) => x1 % n == r
    | none => false

end Sys2Proof.Machine
end

