-- ==== Sys2Proof/Machine/Tables.lean ====
section
/-! DEFINITION. Operations of the sparse tables in which the device's arrays are held. -/

namespace Sys2Proof.Machine

variable {α : Type}

/-- The value at a key, `d` where the key is absent. -/
def tabGet (d : α) : Tab α → Nat → α
  | [], _ => d
  | (k, v) :: t, q => if q = k then v else tabGet d t q

/-- Remove a key. -/
def tabDel : Tab α → Nat → Tab α
  | [], _ => []
  | (k, v) :: t, q => if q = k then tabDel t q else (k, v) :: tabDel t q

/-- Insert or replace, keeping keys rising. -/
def tabIns : Tab α → Nat → α → Tab α
  | [], q, x => [(q, x)]
  | (k, v) :: t, q, x =>
    if q < k then (q, x) :: (k, v) :: t
    else if q = k then (k, x) :: t
    else (k, v) :: tabIns t q x

/-- Write a value; writing what an absent key reads as removes the key. -/
def tabPut [DecidableEq α] (d : α) (t : Tab α) (q : Nat) (x : α) : Tab α :=
  if x = d then tabDel t q else tabIns t q x

/-- Every key of `t` is above `lo`, keys rise strictly, and no value is `d`. -/
def tabWfFrom [DecidableEq α] (d : α) : Nat → Tab α → Bool
  | _, [] => true
  | lo, (k, v) :: t => decide (lo ≤ k) && decide (v ≠ d) && tabWfFrom d (k + 1) t

/-- The canonical form of a table. -/
def tabWf [DecidableEq α] (d : α) (t : Tab α) : Bool := tabWfFrom d 0 t

/-- Element `i` of a list, `d` beyond its end. -/
def nth (d : α) : List α → Nat → α
  | [], _ => d
  | x :: _, 0 => x
  | _ :: t, n + 1 => nth d t n

/-- Replace element `i` of a list; nothing beyond its end. -/
def setNth : List α → Nat → α → List α
  | [], _, _ => []
  | _ :: t, 0, y => y :: t
  | x :: t, n + 1, y => x :: setNth t n y

end Sys2Proof.Machine
end

