-- ==== Sys2Proof/Machine/Fpu.lean ====
section
/-! DEFINITION. The lane arithmetic of the Sprigs: Q1.31 and Q8.56, binary32 and binary64, exact and then rounded once
(R54 to R56, R71). Formats are numbered as FMT: 0 Q1.31, 1 binary32, 2 binary64. SST bits: 1 SAT, 2 FINV, 4 FOVF,
8 FUNF, 16 FDZ (R74). -/

namespace Sys2Proof.Machine

/-- What a lane holds. -/
inductive FKind where
  | num | inf | nan
deriving DecidableEq, Repr

/-- An exact operand: sign and n / d × 2^e. -/
structure FVal where
  k : FKind := .num
  s : Bool := false
  n : Nat := 0
  d : Nat := 1
  e : Int := 0
deriving DecidableEq, Repr

/-- Exponent bits, fraction bits and bias of a floating format. -/
def fmtGeo (fmt : Nat) : Nat × Nat × Int := if fmt = 2 then (11, 52, 1023) else (8, 23, 127)

/-- The canonical quiet NaN (R56). -/
def canonNan (fmt : Nat) : Nat := if fmt = 2 then 0x7FF8000000000000 else 0x7FC00000

/-- n / d × 2^k rounded half to even. -/
def roundAt (n d : Nat) (k : Int) : Nat :=
  if 0 ≤ k then (rhe ((n * 2 ^ k.toNat : Nat) : Int) d).toNat else (rhe (n : Int) (d * 2 ^ (-k).toNat)).toNat

/-- Read a lane (R56: a subnormal is zero of its sign). -/
def fUnpack (fmt bits : Nat) : FVal :=
  if fmt = 0 then
    let z := sgn32 bits
    { s := decide (z < 0), n := z.natAbs, e := -31 }
  else
    let (eb, fb, bias) := fmtGeo fmt
    let s := bitOf bits (eb + fb) == 1
    let ex := (bits >>> fb) % 2 ^ eb
    let f := bits % 2 ^ fb
    if ex = 2 ^ eb - 1 then (if f = 0 then { k := .inf, s := s } else { k := .nan })
    else if ex = 0 then { s := s }
    else { s := s, n := 2 ^ fb + f, e := (ex : Int) - bias - fb }

/-- Saturate to a two's-complement width, with the SAT flag (R55). -/
def satTo (w : Nat) (z : Int) : Nat × Nat :=
  let hi : Int := ((2 ^ (w - 1) : Nat) : Int) - 1
  let c := clampI (-hi - 1) hi z
  (unsW w c, b2n (c != z))

/-- The floor of log2 (n / d) for n, d > 0. -/
def log2Quot (n d : Nat) : Int :=
  let a : Int := (Nat.log2 n : Int) - Nat.log2 d
  let below := if 0 ≤ a then decide (n < d * 2 ^ a.toNat) else decide (n * 2 ^ (-a).toNat < d)
  if below then a - 1 else a

/-- Round and pack an exact value into a floating format (R56). -/
def fPack (fmt : Nat) (x : FVal) : Nat × Nat :=
  let (eb, fb, bias) := fmtGeo fmt
  let top := b2n x.s * 2 ^ (eb + fb)
  let emax : Int := ((2 ^ eb : Nat) : Int) - 1
  match x.k with
  | .nan => (canonNan fmt, 0)
  | .inf => (top + emax.toNat * 2 ^ fb, 0)
  | .num =>
    if x.n = 0 then (top, 0) else
    let a := log2Quot x.n x.d
    let sig := roundAt x.n x.d ((fb : Int) - a)
    let up := decide (2 ^ (fb + 1) ≤ sig)
    let sig := if up then sig / 2 else sig
    let be := a + b2n up + x.e + bias
    if emax ≤ be then (top + emax.toNat * 2 ^ fb, 4)
    else if be ≤ 0 then (top, 8)
    else (top + be.toNat * 2 ^ fb + sig % 2 ^ fb, 0)

/-- Convert an exact value to a format (R55, R56, R71). -/
def fTo (fmt : Nat) (x : FVal) : Nat × Nat :=
  if fmt = 0 then
    match x.k with
    | .nan => (0, 2)
    | .inf => satTo 32 (if x.s then -(2 ^ 40) else 2 ^ 40)
    | .num =>
      let m : Int := roundAt x.n x.d (31 + x.e)
      satTo 32 (if x.s then -m else m)
  else fPack fmt x

/-- The negative of an operand. -/
def FVal.neg (x : FVal) : FVal := { x with s := !x.s }

/-- Signed numerator of n × 2^(e − e0), for d = 1 and e0 ≤ e. -/
def FVal.scaled (x : FVal) (e0 : Int) : Int :=
  let m : Int := ((x.n * 2 ^ (x.e - e0).toNat : Nat) : Int)
  if x.s then -m else m

/-- The exact sum, and FINV for infinities of opposite sign; +0 where unlike terms cancel. -/
def fAdd (x y : FVal) : FVal × Nat :=
  match x.k, y.k with
  | .nan, _ => ({ k := .nan }, 0)
  | _, .nan => ({ k := .nan }, 0)
  | .inf, .inf => if x.s = y.s then (x, 0) else ({ k := .nan }, 2)
  | .inf, _ => (x, 0)
  | _, .inf => (y, 0)
  | .num, .num =>
    if x.n = 0 ∧ y.n = 0 then ({ s := x.s && y.s }, 0)
    else if x.n = 0 then (y, 0)
    else if y.n = 0 then (x, 0)
    else
      let e0 := min x.e y.e
      let z := x.scaled e0 + y.scaled e0
      ({ s := decide (z < 0), n := z.natAbs, e := e0 }, 0)

/-- The exact product, and FINV for 0 × ∞. -/
def fMul (x y : FVal) : FVal × Nat :=
  let s := xor x.s y.s
  match x.k, y.k with
  | .nan, _ => ({ k := .nan }, 0)
  | _, .nan => ({ k := .nan }, 0)
  | .inf, .inf => ({ k := .inf, s := s }, 0)
  | .inf, .num => if y.n = 0 then ({ k := .nan }, 2) else ({ k := .inf, s := s }, 0)
  | .num, .inf => if x.n = 0 then ({ k := .nan }, 2) else ({ k := .inf, s := s }, 0)
  | .num, .num => ({ s := s, n := x.n * y.n, e := x.e + y.e }, 0)

/-- The exact quotient, with FDZ and FINV. -/
def fDiv (x y : FVal) : FVal × Nat :=
  let s := xor x.s y.s
  match x.k, y.k with
  | .nan, _ => ({ k := .nan }, 0)
  | _, .nan => ({ k := .nan }, 0)
  | .inf, .inf => ({ k := .nan }, 2)
  | .inf, .num => ({ k := .inf, s := s }, 0)
  | .num, .inf => ({ s := s }, 0)
  | .num, .num =>
    if y.n = 0 then (if x.n = 0 then ({ k := .nan }, 2) else ({ k := .inf, s := s }, 16))
    else ({ s := s, n := x.n, d := y.n, e := x.e - y.e }, 0)

/-- x before y in the order of vmin and vmax: −0 below +0 (R71). -/
def fLess (x y : FVal) : Bool :=
  match x.k, y.k with
  | .inf, .inf => x.s && !y.s
  | .inf, _ => x.s
  | _, .inf => !y.s
  | _, _ =>
    if x.n = 0 ∧ y.n = 0 then x.s && !y.s
    else
      let e0 := min (if x.n = 0 then y.e else x.e) (if y.n = 0 then x.e else y.e)
      decide (x.scaled e0 < y.scaled e0)

/-- The two-operand lane operations. -/
inductive LaneOp where
  | add | sub | mul | div | min | max
deriving DecidableEq, Repr

/-- A floating result rounded, its flags added. -/
def fRound (fmt : Nat) (r : FVal × Nat) : Nat × Nat :=
  let (b, f) := fPack fmt r.1
  (b, r.2 ||| f)

/-- A two-operand lane operation: the lane and the SST bits it sets. -/
def lane2 (op : LaneOp) (fmt a b : Nat) : Nat × Nat :=
  if fmt = 0 then
    let x := sgn32 a
    let y := sgn32 b
    match op with
    | .add => satTo 32 (x + y)
    | .sub => satTo 32 (x - y)
    | .mul => satTo 32 (rhe (x * y) (2 ^ 31))
    | .min => (unsW 32 (min x y), 0)
    | .max => (unsW 32 (max x y), 0)
    | .div => (0, 0)
  else
    let x := fUnpack fmt a
    let y := fUnpack fmt b
    match op with
    | .add => fRound fmt (fAdd x y)
    | .sub => fRound fmt (fAdd x (if y.k = .nan then y else y.neg))
    | .mul => fRound fmt (fMul x y)
    | .div => fRound fmt (fDiv x y)
    | .min | .max =>
      if x.k = .nan then fPack fmt y
      else if y.k = .nan then fPack fmt x
      else fPack fmt (if fLess y x == (op == .min) then y else x)

/-- The absolute value of a lane, negated where `neg` (R71). -/
def laneAbs (neg : Bool) (fmt a : Nat) : Nat × Nat :=
  if fmt = 0 then
    let x : Int := (sgn32 a).natAbs
    satTo 32 (if neg then -x else x)
  else fPack fmt { fUnpack fmt a with s := neg }

/-- One lane of vmac or vmacs: accumulator, product, sign of the product (R55, R56, R71). A NaN accumulator gives the canonical NaN
and sets no flag, even where the product is 0 × ∞ (DESIGN CHOICE, log entry 123). -/
def laneMac (neg : Bool) (fmt acc a b : Nat) : Nat × Nat :=
  if fmt = 0 then
    let p := rhe (sgn32 a * sgn32 b) 64
    satTo 64 (sgnW 64 acc + (if neg then -p else p))
  else
    let z := fUnpack fmt acc
    let (p, f) := fMul (fUnpack fmt a) (fUnpack fmt b)
    if z.k = .nan then (canonNan fmt, 0) else
    if p.k = .nan then (canonNan fmt, f) else
    let (r, g) := fAdd z (if neg then p.neg else p)
    fRound fmt (r, f ||| g)

/-- An accumulator lane times 2^k rounded to its format: accrd (R71). -/
def laneRead (fmt acc : Nat) (k : Int) : Nat × Nat :=
  if fmt = 0 then
    let z := sgnW 64 acc
    let sh := 25 - k
    satTo 32 (if 0 ≤ sh then rhe z (2 ^ sh.toNat) else z * ((2 ^ (-sh).toNat : Nat) : Int))
  else
    let x := fUnpack fmt acc
    fPack fmt { x with e := x.e + k }

/-- The sum of two accumulator lanes in the accumulator's format. -/
def laneSum (fmt a b : Nat) : Nat × Nat :=
  if fmt = 0 then satTo 64 (sgnW 64 a + sgnW 64 b) else fRound fmt (fAdd (fUnpack fmt a) (fUnpack fmt b))

/-- A lane converted from one format to another: vcvt (R71). -/
def laneCvt (frm tgt a : Nat) : Nat × Nat := fTo tgt (fUnpack frm a)

/-- Number of lanes of a format. -/
def laneCount (fmt : Nat) : Nat := if fmt = 2 then 2 else 4

/-- Lane i of a vector (R52). -/
def laneOf (fmt : Nat) (v : BitVec 128) (i : Nat) : Nat :=
  if fmt = 2 then (v.toNat >>> (64 * i)) % 2 ^ 64 else (v.toNat >>> (32 * i)) % 2 ^ 32

/-- The vector of lanes from lane 0. -/
def ofLanes (fmt : Nat) (ls : List Nat) : BitVec 128 :=
  BitVec.ofNat 128 ((ls.mapIdx (fun i x => x * 2 ^ ((if fmt = 2 then 64 else 32) * i))).foldl (· + ·) 0)

/-- Apply a lane function to lanes 0 to n − 1, joining the SST bits. -/
def lanes (n : Nat) (f : Nat → Nat × Nat) : List Nat × Nat :=
  (List.range n).foldl (fun acc i => (acc.1 ++ [(f i).1], acc.2 ||| (f i).2)) ([], 0)

end Sys2Proof.Machine
end

