-- ==== Sys2Proof/Machine/RegMap.lean ====
section
/-! DEFINITION. The register map of the device: one descriptor per register (or register array) of the manual,
with its window address (R374, R380, R383), its element counts and strides, its reset word and reset domain
(R10), and its fields with their types (R8).  Written from the register tables of the chapters 01 to 21. -/

namespace Sys2Proof.Machine

/-- Reset domains, narrowest first (R10). -/
inductive Dom where
  | block | mgmt | chip | por
deriving DecidableEq, Repr

/-- Field types (R8). -/
inductive FTy where
  | ro | rw | wo | w1c | w1s | rc
deriving DecidableEq, Repr

/-- One field of a register: its bits, its type, and whether its Reset column reads "image" (R376). -/
structure Fld where
  hi : Nat
  lo : Nat
  ty : FTy
  img : Bool
deriving DecidableEq, Repr

/-- One register or register array: window address of element 0, element counts and strides of the two indices
(a count of 1 and a stride of 0 where there is no such index), the reset word of every element, the reset domain,
and the fields, high first. Bits that no field covers are reserved and read 0 (R377). -/
structure Reg where
  base : Nat
  n1 : Nat
  s1 : Nat
  n2 : Nat
  s2 : Nat
  rst : Nat
  dom : Dom
  flds : List Fld
deriving DecidableEq, Repr

/-- A named field: its register and its bits. -/
structure FRef where
  reg : Reg
  hi : Nat
  lo : Nat
deriving DecidableEq, Repr

/-- The block code of a window address: base divided by 0x1_0000 (R374). -/
def Reg.blk (r : Reg) : Nat := r.base / 0x10000

/-- The window address of element (i, j) (R380). -/
def Reg.addr (r : Reg) (i j : Nat) : Nat := r.base + r.s1 * i + r.s2 * j

/-- SYS_BOOT_STATUS, 01_topiary.md. -/
def SYS_BOOT_STATUS : Reg := ⟨0x100, 1, 0, 1, 0, 0x0, .por, [⟨31, 24, .ro, false⟩, ⟨17, 16, .ro, false⟩, ⟨11, 8, .ro, false⟩, ⟨7, 6, .ro, false⟩, ⟨5, 5, .ro, false⟩, ⟨4, 4, .ro, false⟩, ⟨1, 1, .ro, false⟩, ⟨0, 0, .ro, false⟩]⟩
def SYS_BOOT_STATUS.REASON : FRef := ⟨SYS_BOOT_STATUS, 31, 24⟩
def SYS_BOOT_STATUS.ATTEMPTS : FRef := ⟨SYS_BOOT_STATUS, 17, 16⟩
def SYS_BOOT_STATUS.PHASE : FRef := ⟨SYS_BOOT_STATUS, 11, 8⟩
def SYS_BOOT_STATUS.SOURCE : FRef := ⟨SYS_BOOT_STATUS, 7, 6⟩
def SYS_BOOT_STATUS.FALLBACK : FRef := ⟨SYS_BOOT_STATUS, 5, 5⟩
def SYS_BOOT_STATUS.AUTH_OK : FRef := ⟨SYS_BOOT_STATUS, 4, 4⟩
def SYS_BOOT_STATUS.FSLOT : FRef := ⟨SYS_BOOT_STATUS, 1, 1⟩
def SYS_BOOT_STATUS.SLOT : FRef := ⟨SYS_BOOT_STATUS, 0, 0⟩
/-- SYS_SLOT_STATUS, 01_topiary.md. -/
def SYS_SLOT_STATUS : Reg := ⟨0x110, 2, 4, 1, 0, 0xC0, .chip, [⟨31, 24, .ro, false⟩, ⟨7, 6, .ro, false⟩, ⟨2, 0, .ro, false⟩]⟩
def SYS_SLOT_STATUS.REASON : FRef := ⟨SYS_SLOT_STATUS, 31, 24⟩
def SYS_SLOT_STATUS.CODE_BANK : FRef := ⟨SYS_SLOT_STATUS, 7, 6⟩
def SYS_SLOT_STATUS.STATE : FRef := ⟨SYS_SLOT_STATUS, 2, 0⟩
/-- SYS_STAGE_CTRL, 01_topiary.md. -/
def SYS_STAGE_CTRL : Reg := ⟨0x120, 1, 0, 1, 0, 0x0, .chip, [⟨8, 8, .rw, false⟩, ⟨4, 4, .rw, false⟩, ⟨1, 1, .wo, false⟩, ⟨0, 0, .wo, false⟩]⟩
def SYS_STAGE_CTRL.SRC : FRef := ⟨SYS_STAGE_CTRL, 8, 8⟩
def SYS_STAGE_CTRL.FLASH_SLOT : FRef := ⟨SYS_STAGE_CTRL, 4, 4⟩
def SYS_STAGE_CTRL.ABORT : FRef := ⟨SYS_STAGE_CTRL, 1, 1⟩
def SYS_STAGE_CTRL.START : FRef := ⟨SYS_STAGE_CTRL, 0, 0⟩
/-- SYS_SWAP_TARGET, 01_topiary.md. -/
def SYS_SWAP_TARGET : Reg := ⟨0x124, 1, 0, 1, 0, 0x0, .chip, [⟨31, 0, .rw, false⟩]⟩
def SYS_SWAP_TARGET.BLOCK : FRef := ⟨SYS_SWAP_TARGET, 31, 0⟩
/-- SYS_SWAP_CTRL, 01_topiary.md. -/
def SYS_SWAP_CTRL : Reg := ⟨0x128, 1, 0, 1, 0, 0x320000, .chip, [⟨31, 16, .rw, false⟩, ⟨8, 8, .rw, false⟩, ⟨1, 1, .wo, false⟩, ⟨0, 0, .w1s, false⟩]⟩
def SYS_SWAP_CTRL.RAMP : FRef := ⟨SYS_SWAP_CTRL, 31, 16⟩
def SYS_SWAP_CTRL.ALLOW_RESTART : FRef := ⟨SYS_SWAP_CTRL, 8, 8⟩
def SYS_SWAP_CTRL.DISARM : FRef := ⟨SYS_SWAP_CTRL, 1, 1⟩
def SYS_SWAP_CTRL.ARM : FRef := ⟨SYS_SWAP_CTRL, 0, 0⟩
/-- SYS_SWAP_STATUS, 01_topiary.md. -/
def SYS_SWAP_STATUS : Reg := ⟨0x12C, 1, 0, 1, 0, 0x0, .chip, [⟨7, 4, .ro, false⟩, ⟨2, 2, .ro, false⟩, ⟨1, 1, .ro, false⟩, ⟨0, 0, .w1c, false⟩]⟩
def SYS_SWAP_STATUS.RESULT : FRef := ⟨SYS_SWAP_STATUS, 7, 4⟩
def SYS_SWAP_STATUS.HITLESS_OK : FRef := ⟨SYS_SWAP_STATUS, 2, 2⟩
def SYS_SWAP_STATUS.RESTARTING : FRef := ⟨SYS_SWAP_STATUS, 1, 1⟩
def SYS_SWAP_STATUS.DONE : FRef := ⟨SYS_SWAP_STATUS, 0, 0⟩
/-- SYS_LOAD_CTRL, 01_topiary.md. -/
def SYS_LOAD_CTRL : Reg := ⟨0x130, 1, 0, 1, 0, 0x0, .chip, [⟨31, 31, .wo, false⟩, ⟨15, 0, .wo, false⟩]⟩
def SYS_LOAD_CTRL.LAST : FRef := ⟨SYS_LOAD_CTRL, 31, 31⟩
def SYS_LOAD_CTRL.LEN : FRef := ⟨SYS_LOAD_CTRL, 15, 0⟩
/-- SYS_LOAD_STATUS, 01_topiary.md. -/
def SYS_LOAD_STATUS : Reg := ⟨0x134, 1, 0, 1, 0, 0x1, .chip, [⟨1, 1, .w1c, false⟩, ⟨0, 0, .ro, false⟩]⟩
def SYS_LOAD_STATUS.ERROR : FRef := ⟨SYS_LOAD_STATUS, 1, 1⟩
def SYS_LOAD_STATUS.READY : FRef := ⟨SYS_LOAD_STATUS, 0, 0⟩
/-- SYS_CHUNK, 01_topiary.md. -/
def SYS_CHUNK : Reg := ⟨0x8000, 8192, 4, 1, 0, 0x0, .chip, [⟨31, 0, .rw, false⟩]⟩
def SYS_CHUNK.D : FRef := ⟨SYS_CHUNK, 31, 0⟩
/-- SYS_FUSE_STATUS, 01_topiary.md. -/
def SYS_FUSE_STATUS : Reg := ⟨0x140, 1, 0, 1, 0, 0x0, .por, [⟨1, 1, .ro, false⟩, ⟨0, 0, .ro, false⟩]⟩
def SYS_FUSE_STATUS.KEY_PROG : FRef := ⟨SYS_FUSE_STATUS, 1, 1⟩
def SYS_FUSE_STATUS.AUTH_EN : FRef := ⟨SYS_FUSE_STATUS, 0, 0⟩
/-- SYS_BLK_CFG, 02_block_cycle.md. -/
def SYS_BLK_CFG : Reg := ⟨0x200, 1, 0, 1, 0, 0x0, .chip, [⟨20, 16, .ro, true⟩, ⟨13, 12, .ro, true⟩, ⟨9, 8, .ro, true⟩, ⟨5, 4, .ro, true⟩, ⟨1, 0, .ro, true⟩]⟩
def SYS_BLK_CFG.ALARM : FRef := ⟨SYS_BLK_CFG, 20, 16⟩
def SYS_BLK_CFG.LOOP : FRef := ⟨SYS_BLK_CFG, 13, 12⟩
def SYS_BLK_CFG.TB : FRef := ⟨SYS_BLK_CFG, 9, 8⟩
def SYS_BLK_CFG.NB : FRef := ⟨SYS_BLK_CFG, 5, 4⟩
def SYS_BLK_CFG.FI : FRef := ⟨SYS_BLK_CFG, 1, 0⟩
/-- SYS_BLK_PHASE, 02_block_cycle.md. -/
def SYS_BLK_PHASE : Reg := ⟨0x204, 1, 0, 1, 0, 0x0, .chip, [⟨23, 0, .ro, true⟩]⟩
def SYS_BLK_PHASE.PHASE : FRef := ⟨SYS_BLK_PHASE, 23, 0⟩
/-- SYS_BLK_CTRL, 02_block_cycle.md. -/
def SYS_BLK_CTRL : Reg := ⟨0x208, 1, 0, 1, 0, 0x100, .chip, [⟨31, 16, .rw, false⟩, ⟨8, 8, .rw, false⟩, ⟨0, 0, .wo, false⟩]⟩
def SYS_BLK_CTRL.SYNC_TMO : FRef := ⟨SYS_BLK_CTRL, 31, 16⟩
def SYS_BLK_CTRL.WAIT_SYNC : FRef := ⟨SYS_BLK_CTRL, 8, 8⟩
def SYS_BLK_CTRL.REALIGN : FRef := ⟨SYS_BLK_CTRL, 0, 0⟩
/-- SYS_BLK_STATUS, 02_block_cycle.md. -/
def SYS_BLK_STATUS : Reg := ⟨0x20C, 1, 0, 1, 0, 0x0, .chip, [⟨8, 8, .ro, false⟩, ⟨3, 3, .ro, false⟩, ⟨2, 0, .ro, false⟩]⟩
def SYS_BLK_STATUS.FREE : FRef := ⟨SYS_BLK_STATUS, 8, 8⟩
def SYS_BLK_STATUS.PHASE_EXC : FRef := ⟨SYS_BLK_STATUS, 3, 3⟩
def SYS_BLK_STATUS.STATE : FRef := ⟨SYS_BLK_STATUS, 2, 0⟩
/-- SYS_BLK_COUNT, 02_block_cycle.md. -/
def SYS_BLK_COUNT : Reg := ⟨0x210, 1, 0, 1, 0, 0x0, .chip, [⟨31, 0, .ro, false⟩]⟩
def SYS_BLK_COUNT.COUNT : FRef := ⟨SYS_BLK_COUNT, 31, 0⟩
/-- SYS_BLK_ERR, 02_block_cycle.md. -/
def SYS_BLK_ERR : Reg := ⟨0x214, 1, 0, 1, 0, 0x0, .chip, [⟨31, 0, .ro, false⟩]⟩
def SYS_BLK_ERR.ERR : FRef := ⟨SYS_BLK_ERR, 31, 0⟩
/-- SYS_BLK_LIMIT, 02_block_cycle.md. -/
def SYS_BLK_LIMIT : Reg := ⟨0x218, 1, 0, 1, 0, 0x3E8, .chip, [⟨15, 0, .rw, false⟩]⟩
def SYS_BLK_LIMIT.LIMIT : FRef := ⟨SYS_BLK_LIMIT, 15, 0⟩
/-- SYS_BLK_FIRST, 02_block_cycle.md. -/
def SYS_BLK_FIRST : Reg := ⟨0x21C, 1, 0, 1, 0, 0x0, .chip, [⟨31, 0, .ro, false⟩]⟩
def SYS_BLK_FIRST.FIRST : FRef := ⟨SYS_BLK_FIRST, 31, 0⟩
/-- THK_EXC_INFO, 03_sprig_engine.md. -/
def THK_EXC_INFO : Reg := ⟨0xC2000, 64, 16, 1, 0, 0x0, .block, [⟨31, 31, .w1c, false⟩, ⟨30, 30, .w1c, false⟩, ⟨23, 20, .ro, false⟩, ⟨19, 19, .ro, false⟩, ⟨15, 0, .ro, false⟩]⟩
def THK_EXC_INFO.VALID : FRef := ⟨THK_EXC_INFO, 31, 31⟩
def THK_EXC_INFO.OVF : FRef := ⟨THK_EXC_INFO, 30, 30⟩
def THK_EXC_INFO.CAUSE : FRef := ⟨THK_EXC_INFO, 23, 20⟩
def THK_EXC_INFO.PRIV : FRef := ⟨THK_EXC_INFO, 19, 19⟩
def THK_EXC_INFO.JOB : FRef := ⟨THK_EXC_INFO, 15, 0⟩
/-- THK_EXC_PC, 03_sprig_engine.md. -/
def THK_EXC_PC : Reg := ⟨0xC2004, 64, 16, 1, 0, 0x0, .block, [⟨31, 0, .ro, false⟩]⟩
def THK_EXC_PC.PC : FRef := ⟨THK_EXC_PC, 31, 0⟩
/-- THK_EXC_ADDR, 03_sprig_engine.md. -/
def THK_EXC_ADDR : Reg := ⟨0xC2008, 64, 16, 1, 0, 0x0, .block, [⟨31, 0, .ro, false⟩]⟩
def THK_EXC_ADDR.ADDR : FRef := ⟨THK_EXC_ADDR, 31, 0⟩
/-- THK_EXC_BLK, 03_sprig_engine.md. -/
def THK_EXC_BLK : Reg := ⟨0xC200C, 64, 16, 1, 0, 0x0, .block, [⟨31, 0, .ro, false⟩]⟩
def THK_EXC_BLK.BLK : FRef := ⟨THK_EXC_BLK, 31, 0⟩
/-- THK_STATUS, 04_thicket_jobs.md. -/
def THK_STATUS : Reg := ⟨0xC0000, 1, 0, 1, 0, 0x0, .chip, [⟨31, 31, .w1c, false⟩, ⟨28, 16, .ro, true⟩, ⟨12, 0, .ro, true⟩]⟩
def THK_STATUS.WDISC : FRef := ⟨THK_STATUS, 31, 31⟩
def THK_STATUS.JOBS : FRef := ⟨THK_STATUS, 28, 16⟩
def THK_STATUS.NCJOBS : FRef := ⟨THK_STATUS, 12, 0⟩
/-- THK_STEAL_INH0, 04_thicket_jobs.md. -/
def THK_STEAL_INH0 : Reg := ⟨0xC0010, 1, 0, 1, 0, 0x0, .chip, [⟨31, 0, .rw, true⟩]⟩
def THK_STEAL_INH0.INH : FRef := ⟨THK_STEAL_INH0, 31, 0⟩
/-- THK_STEAL_INH1, 04_thicket_jobs.md. -/
def THK_STEAL_INH1 : Reg := ⟨0xC0014, 1, 0, 1, 0, 0x0, .chip, [⟨31, 0, .rw, true⟩]⟩
def THK_STEAL_INH1.INH : FRef := ⟨THK_STEAL_INH1, 31, 0⟩
/-- THK_OVR_STAT, 04_thicket_jobs.md. -/
def THK_OVR_STAT : Reg := ⟨0xC0020, 1, 0, 1, 0, 0x0, .chip, [⟨31, 16, .rc, false⟩, ⟨12, 0, .ro, false⟩]⟩
def THK_OVR_STAT.BLOCKS : FRef := ⟨THK_OVR_STAT, 31, 16⟩
def THK_OVR_STAT.LOST : FRef := ⟨THK_OVR_STAT, 12, 0⟩
/-- THK_LOSS_BLK, 04_thicket_jobs.md. -/
def THK_LOSS_BLK : Reg := ⟨0xC0024, 1, 0, 1, 0, 0x0, .chip, [⟨31, 0, .ro, false⟩]⟩
def THK_LOSS_BLK.BLK : FRef := ⟨THK_LOSS_BLK, 31, 0⟩
/-- THK_SLACK, 04_thicket_jobs.md. -/
def THK_SLACK : Reg := ⟨0xC0030, 1, 0, 1, 0, 0x0, .chip, [⟨31, 31, .ro, false⟩, ⟨23, 0, .ro, false⟩]⟩
def THK_SLACK.OVR : FRef := ⟨THK_SLACK, 31, 31⟩
def THK_SLACK.LAST : FRef := ⟨THK_SLACK, 23, 0⟩
/-- THK_SLACK_MIN, 04_thicket_jobs.md. -/
def THK_SLACK_MIN : Reg := ⟨0xC0034, 1, 0, 1, 0, 0xFFFFFF, .chip, [⟨23, 0, .ro, false⟩]⟩
def THK_SLACK_MIN.WMIN : FRef := ⟨THK_SLACK_MIN, 23, 0⟩
/-- THK_AVS_CFG, 04_thicket_jobs.md. -/
def THK_AVS_CFG : Reg := ⟨0xC0038, 1, 0, 1, 0, 0x80000010, .chip, [⟨31, 31, .rw, false⟩, ⟨7, 0, .rw, false⟩]⟩
def THK_AVS_CFG.EN : FRef := ⟨THK_AVS_CFG, 31, 31⟩
def THK_AVS_CFG.WIN : FRef := ⟨THK_AVS_CFG, 7, 0⟩
/-- THK_AVS_MARK, 04_thicket_jobs.md. -/
def THK_AVS_MARK : Reg := ⟨0xC003C, 1, 0, 1, 0, 0x2EE00FA, .chip, [⟨31, 16, .rw, false⟩, ⟨15, 0, .rw, false⟩]⟩
def THK_AVS_MARK.HIGH : FRef := ⟨THK_AVS_MARK, 31, 16⟩
def THK_AVS_MARK.LOW : FRef := ⟨THK_AVS_MARK, 15, 0⟩
/-- THK_PACE_RATE, 04_thicket_jobs.md. -/
def THK_PACE_RATE : Reg := ⟨0xC0040, 1, 0, 1, 0, 0x0, .chip, [⟨31, 16, .ro, false⟩, ⟨15, 0, .ro, false⟩]⟩
def THK_PACE_RATE.FLOOR : FRef := ⟨THK_PACE_RATE, 31, 16⟩
def THK_PACE_RATE.RATE : FRef := ⟨THK_PACE_RATE, 15, 0⟩
/-- THK_PCOMMIT, 04_thicket_jobs.md. -/
def THK_PCOMMIT : Reg := ⟨0xC0050, 1, 0, 1, 0, 0x0, .chip, [⟨31, 0, .rw, false⟩]⟩
def THK_PCOMMIT.BLOCK : FRef := ⟨THK_PCOMMIT, 31, 0⟩
/-- THK_PCTRL, 04_thicket_jobs.md. -/
def THK_PCTRL : Reg := ⟨0xC0054, 1, 0, 1, 0, 0x0, .chip, [⟨31, 31, .ro, false⟩, ⟨30, 30, .w1c, false⟩, ⟨29, 29, .w1c, false⟩, ⟨28, 16, .ro, false⟩, ⟨1, 1, .rw, false⟩, ⟨0, 0, .w1s, false⟩]⟩
def THK_PCTRL.FULL : FRef := ⟨THK_PCTRL, 31, 31⟩
def THK_PCTRL.DISC : FRef := ⟨THK_PCTRL, 30, 30⟩
def THK_PCTRL.LATE : FRef := ⟨THK_PCTRL, 29, 29⟩
def THK_PCTRL.COUNT : FRef := ⟨THK_PCTRL, 28, 16⟩
def THK_PCTRL.TAGGED : FRef := ⟨THK_PCTRL, 1, 1⟩
def THK_PCTRL.ARM : FRef := ⟨THK_PCTRL, 0, 0⟩
/-- THK_LOST, 04_thicket_jobs.md. -/
def THK_LOST : Reg := ⟨0xC1000, 128, 4, 1, 0, 0x0, .chip, [⟨31, 0, .w1c, false⟩]⟩
def THK_LOST.L : FRef := ⟨THK_LOST, 31, 0⟩
/-- THK_OVR_TREAT, 04_thicket_jobs.md. -/
def THK_OVR_TREAT : Reg := ⟨0xC3000, 256, 4, 1, 0, 0x0, .chip, [⟨31, 0, .rw, true⟩]⟩
def THK_OVR_TREAT.T : FRef := ⟨THK_OVR_TREAT, 31, 0⟩
/-- ASRC_CTRL, 05_rates_crosspoint.md. -/
def ASRC_CTRL : Reg := ⟨0xA0000, 1, 0, 1, 0, 0x1, .chip, [⟨1, 0, .rw, false⟩]⟩
def ASRC_CTRL.TRK_BW : FRef := ⟨ASRC_CTRL, 1, 0⟩
/-- ASRC_CFG, 05_rates_crosspoint.md. -/
def ASRC_CFG : Reg := ⟨0xA1000, 256, 16, 1, 0, 0x0, .chip, [⟨31, 30, .ro, true⟩, ⟨11, 0, .ro, true⟩]⟩
def ASRC_CFG.DIR : FRef := ⟨ASRC_CFG, 31, 30⟩
def ASRC_CFG.CHAN : FRef := ⟨ASRC_CFG, 11, 0⟩
/-- ASRC_STAT, 05_rates_crosspoint.md. -/
def ASRC_STAT : Reg := ⟨0xA1004, 256, 16, 1, 0, 0x0, .block, [⟨31, 31, .w1c, false⟩, ⟨3, 3, .w1c, false⟩, ⟨2, 0, .ro, false⟩]⟩
def ASRC_STAT.UNMIR : FRef := ⟨ASRC_STAT, 31, 31⟩
def ASRC_STAT.RETRACKED : FRef := ⟨ASRC_STAT, 3, 3⟩
def ASRC_STAT.STATE : FRef := ⟨ASRC_STAT, 2, 0⟩
/-- ASRC_RATIO, 05_rates_crosspoint.md. -/
def ASRC_RATIO : Reg := ⟨0xA1008, 256, 16, 1, 0, 0x0, .block, [⟨31, 0, .ro, false⟩]⟩
def ASRC_RATIO.RATIO : FRef := ⟨ASRC_RATIO, 31, 0⟩
/-- ASRC_DLY, 05_rates_crosspoint.md. -/
def ASRC_DLY : Reg := ⟨0xA100C, 256, 16, 1, 0, 0x0, .block, [⟨15, 0, .ro, false⟩]⟩
def ASRC_DLY.ERR : FRef := ⟨ASRC_DLY, 15, 0⟩
/-- XPT_CTRL, 05_rates_crosspoint.md. -/
def XPT_CTRL : Reg := ⟨0xB0000, 1, 0, 1, 0, 0x0, .chip, [⟨31, 31, .ro, false⟩, ⟨30, 30, .w1c, false⟩, ⟨29, 29, .w1c, false⟩, ⟨28, 28, .w1c, false⟩, ⟨27, 16, .ro, false⟩, ⟨9, 8, .rw, false⟩, ⟨2, 1, .rw, false⟩, ⟨0, 0, .w1s, false⟩]⟩
def XPT_CTRL.FULL : FRef := ⟨XPT_CTRL, 31, 31⟩
def XPT_CTRL.DISC : FRef := ⟨XPT_CTRL, 30, 30⟩
def XPT_CTRL.LATE : FRef := ⟨XPT_CTRL, 29, 29⟩
def XPT_CTRL.BADCMD : FRef := ⟨XPT_CTRL, 28, 28⟩
def XPT_CTRL.COUNT : FRef := ⟨XPT_CTRL, 27, 16⟩
def XPT_CTRL.EVR : FRef := ⟨XPT_CTRL, 9, 8⟩
def XPT_CTRL.MODE : FRef := ⟨XPT_CTRL, 2, 1⟩
def XPT_CTRL.ARM : FRef := ⟨XPT_CTRL, 0, 0⟩
/-- XPT_COMMIT, 05_rates_crosspoint.md. -/
def XPT_COMMIT : Reg := ⟨0xB0004, 1, 0, 1, 0, 0x0, .chip, [⟨31, 0, .rw, false⟩]⟩
def XPT_COMMIT.BLOCK : FRef := ⟨XPT_COMMIT, 31, 0⟩
/-- XPT_FADE_CFG, 05_rates_crosspoint.md. -/
def XPT_FADE_CFG : Reg := ⟨0xB0008, 1, 0, 1, 0, 0xA87F, .chip, [⟨21, 12, .rw, false⟩, ⟨11, 11, .rw, false⟩, ⟨9, 0, .rw, false⟩]⟩
def XPT_FADE_CFG.ZC_TMO : FRef := ⟨XPT_FADE_CFG, 21, 12⟩
def XPT_FADE_CFG.LAW : FRef := ⟨XPT_FADE_CFG, 11, 11⟩
def XPT_FADE_CFG.LENM1 : FRef := ⟨XPT_FADE_CFG, 9, 0⟩
/-- XPT_STATUS, 05_rates_crosspoint.md. -/
def XPT_STATUS : Reg := ⟨0xB000C, 1, 0, 1, 0, 0x0, .chip, [⟨31, 31, .w1c, false⟩, ⟨30, 30, .w1c, false⟩, ⟨29, 22, .rc, false⟩, ⟨21, 14, .rc, false⟩, ⟨10, 0, .ro, false⟩]⟩
def XPT_STATUS.SWHARD : FRef := ⟨XPT_STATUS, 31, 31⟩
def XPT_STATUS.EVDROP : FRef := ⟨XPT_STATUS, 30, 30⟩
def XPT_STATUS.DEFER : FRef := ⟨XPT_STATUS, 29, 22⟩
def XPT_STATUS.HELD : FRef := ⟨XPT_STATUS, 21, 14⟩
def XPT_STATUS.FADES : FRef := ⟨XPT_STATUS, 10, 0⟩
/-- XPT_CMD_SLOT, 05_rates_crosspoint.md. -/
def XPT_CMD_SLOT : Reg := ⟨0xB0010, 1, 0, 1, 0, 0x187F0000, .chip, [⟨31, 30, .rw, false⟩, ⟨29, 29, .rw, false⟩, ⟨28, 28, .rw, false⟩, ⟨27, 27, .rw, false⟩, ⟨25, 16, .rw, false⟩, ⟨14, 0, .rw, false⟩]⟩
def XPT_CMD_SLOT.OP : FRef := ⟨XPT_CMD_SLOT, 31, 30⟩
def XPT_CMD_SLOT.HARD : FRef := ⟨XPT_CMD_SLOT, 29, 29⟩
def XPT_CMD_SLOT.DEF : FRef := ⟨XPT_CMD_SLOT, 28, 28⟩
def XPT_CMD_SLOT.LAW : FRef := ⟨XPT_CMD_SLOT, 27, 27⟩
def XPT_CMD_SLOT.LENM1 : FRef := ⟨XPT_CMD_SLOT, 25, 16⟩
def XPT_CMD_SLOT.SLOT : FRef := ⟨XPT_CMD_SLOT, 14, 0⟩
/-- XPT_CMD_DATA, 05_rates_crosspoint.md. -/
def XPT_CMD_DATA : Reg := ⟨0xB0014, 1, 0, 1, 0, 0x0, .chip, [⟨31, 0, .wo, false⟩]⟩
def XPT_CMD_DATA.DATA : FRef := ⟨XPT_CMD_DATA, 31, 0⟩
/-- XPT_RD_SEL, 05_rates_crosspoint.md. -/
def XPT_RD_SEL : Reg := ⟨0xB0018, 1, 0, 1, 0, 0x0, .chip, [⟨14, 0, .rw, false⟩]⟩
def XPT_RD_SEL.SLOT : FRef := ⟨XPT_RD_SEL, 14, 0⟩
/-- XPT_RD_SRC, 05_rates_crosspoint.md. -/
def XPT_RD_SRC : Reg := ⟨0xB001C, 1, 0, 1, 0, 0x0, .chip, [⟨31, 31, .ro, false⟩, ⟨30, 30, .ro, false⟩, ⟨27, 16, .ro, true⟩, ⟨15, 0, .ro, true⟩]⟩
def XPT_RD_SRC.FADING : FRef := ⟨XPT_RD_SRC, 31, 31⟩
def XPT_RD_SRC.PEND : FRef := ⟨XPT_RD_SRC, 30, 30⟩
def XPT_RD_SRC.DST : FRef := ⟨XPT_RD_SRC, 27, 16⟩
def XPT_RD_SRC.SRC : FRef := ⟨XPT_RD_SRC, 15, 0⟩
/-- XPT_RD_GAIN, 05_rates_crosspoint.md. -/
def XPT_RD_GAIN : Reg := ⟨0xB0020, 1, 0, 1, 0, 0x0, .chip, [⟨23, 0, .ro, true⟩]⟩
def XPT_RD_GAIN.GAIN : FRef := ⟨XPT_RD_GAIN, 23, 0⟩
/-- XPT_PSM_SIL, 05_rates_crosspoint.md. -/
def XPT_PSM_SIL : Reg := ⟨0xB0100, 32, 4, 1, 0, 0x0, .chip, [⟨31, 31, .rw, false⟩, ⟨11, 0, .rw, false⟩]⟩
def XPT_PSM_SIL.EN : FRef := ⟨XPT_PSM_SIL, 31, 31⟩
def XPT_PSM_SIL.DST : FRef := ⟨XPT_PSM_SIL, 11, 0⟩
/-- XPT_GEN_CFG, 05_rates_crosspoint.md. -/
def XPT_GEN_CFG : Reg := ⟨0xB0200, 16, 16, 1, 0, 0x0, .chip, [⟨1, 0, .rw, false⟩]⟩
def XPT_GEN_CFG.TYPE : FRef := ⟨XPT_GEN_CFG, 1, 0⟩
/-- XPT_GEN_FREQ, 05_rates_crosspoint.md. -/
def XPT_GEN_FREQ : Reg := ⟨0xB0204, 16, 16, 1, 0, 0x0, .chip, [⟨31, 0, .rw, false⟩]⟩
def XPT_GEN_FREQ.FREQ : FRef := ⟨XPT_GEN_FREQ, 31, 0⟩
/-- XPT_GEN_LEVEL, 05_rates_crosspoint.md. -/
def XPT_GEN_LEVEL : Reg := ⟨0xB0208, 16, 16, 1, 0, 0x0, .chip, [⟨31, 0, .rw, false⟩]⟩
def XPT_GEN_LEVEL.LEVEL : FRef := ⟨XPT_GEN_LEVEL, 31, 0⟩
/-- XPT_GEN_SEED, 05_rates_crosspoint.md. -/
def XPT_GEN_SEED : Reg := ⟨0xB020C, 16, 16, 1, 0, 0x1, .chip, [⟨31, 0, .rw, false⟩]⟩
def XPT_GEN_SEED.SEED : FRef := ⟨XPT_GEN_SEED, 31, 0⟩
/-- XPT_SIL_STATE, 05_rates_crosspoint.md. -/
def XPT_SIL_STATE : Reg := ⟨0xB1000, 128, 4, 1, 0, 0x0, .block, [⟨31, 0, .ro, false⟩]⟩
def XPT_SIL_STATE.S : FRef := ⟨XPT_SIL_STATE, 31, 0⟩
/-- XPT_SIL_CHG, 05_rates_crosspoint.md. -/
def XPT_SIL_CHG : Reg := ⟨0xB1200, 128, 4, 1, 0, 0x0, .block, [⟨31, 0, .w1c, false⟩]⟩
def XPT_SIL_CHG.C : FRef := ⟨XPT_SIL_CHG, 31, 0⟩
/-- XPT_CLIP, 05_rates_crosspoint.md. -/
def XPT_CLIP : Reg := ⟨0xB1400, 128, 4, 1, 0, 0x0, .block, [⟨31, 0, .w1c, false⟩]⟩
def XPT_CLIP.C : FRef := ⟨XPT_CLIP, 31, 0⟩
/-- XPT_SIL_CFG, 05_rates_crosspoint.md. -/
def XPT_SIL_CFG : Reg := ⟨0xB2000, 4096, 4, 1, 0, 0x7D0, .chip, [⟨23, 16, .rw, false⟩, ⟨15, 0, .rw, false⟩]⟩
def XPT_SIL_CFG.THR : FRef := ⟨XPT_SIL_CFG, 23, 16⟩
def XPT_SIL_CFG.HOLD : FRef := ⟨XPT_SIL_CFG, 15, 0⟩
/-- PSM_PG_CFG, 06_power_stage.md. -/
def PSM_PG_CFG : Reg := ⟨0xD0000, 4, 32, 1, 0, 0x0, .chip, [⟨31, 31, .ro, true⟩, ⟨30, 30, .ro, true⟩, ⟨29, 28, .ro, true⟩, ⟨27, 26, .ro, true⟩, ⟨24, 24, .ro, true⟩, ⟨23, 16, .ro, true⟩, ⟨15, 0, .ro, true⟩]⟩
def PSM_PG_CFG.EN : FRef := ⟨PSM_PG_CFG, 31, 31⟩
def PSM_PG_CFG.PAIRED : FRef := ⟨PSM_PG_CFG, 30, 30⟩
def PSM_PG_CFG.CAR : FRef := ⟨PSM_PG_CFG, 29, 28⟩
def PSM_PG_CFG.LOOP : FRef := ⟨PSM_PG_CFG, 27, 26⟩
def PSM_PG_CFG.AUTO : FRef := ⟨PSM_PG_CFG, 24, 24⟩
def PSM_PG_CFG.MINPW : FRef := ⟨PSM_PG_CFG, 23, 16⟩
def PSM_PG_CFG.VFS : FRef := ⟨PSM_PG_CFG, 15, 0⟩
/-- PSM_PG_CTRL, 06_power_stage.md. -/
def PSM_PG_CTRL : Reg := ⟨0xD0004, 4, 32, 1, 0, 0x0, .chip, [⟨1, 1, .wo, false⟩, ⟨0, 0, .wo, false⟩]⟩
def PSM_PG_CTRL.STOP : FRef := ⟨PSM_PG_CTRL, 1, 1⟩
def PSM_PG_CTRL.START : FRef := ⟨PSM_PG_CTRL, 0, 0⟩
/-- PSM_PG_STAT, 06_power_stage.md. -/
def PSM_PG_STAT : Reg := ⟨0xD0008, 4, 32, 1, 0, 0x0, .block, [⟨31, 31, .w1c, false⟩, ⟨30, 30, .w1c, false⟩, ⟨29, 29, .ro, false⟩, ⟨28, 28, .w1c, false⟩, ⟨27, 27, .w1c, false⟩, ⟨26, 24, .ro, false⟩, ⟨8, 8, .ro, false⟩, ⟨7, 0, .ro, false⟩]⟩
def PSM_PG_STAT.PSFLT : FRef := ⟨PSM_PG_STAT, 31, 31⟩
def PSM_PG_STAT.CLK : FRef := ⟨PSM_PG_STAT, 30, 30⟩
def PSM_PG_STAT.UV : FRef := ⟨PSM_PG_STAT, 29, 29⟩
def PSM_PG_STAT.WLATE : FRef := ⟨PSM_PG_STAT, 28, 28⟩
def PSM_PG_STAT.CLIP : FRef := ⟨PSM_PG_STAT, 27, 27⟩
def PSM_PG_STAT.STATE : FRef := ⟨PSM_PG_STAT, 26, 24⟩
def PSM_PG_STAT.DEEP : FRef := ⟨PSM_PG_STAT, 8, 8⟩
def PSM_PG_STAT.SLEEP : FRef := ⟨PSM_PG_STAT, 7, 0⟩
/-- PSM_PG_SENSE, 06_power_stage.md. -/
def PSM_PG_SENSE : Reg := ⟨0xD000C, 4, 32, 1, 0, 0x0, .chip, [⟨31, 16, .ro, true⟩, ⟨15, 0, .ro, true⟩]⟩
def PSM_PG_SENSE.GI : FRef := ⟨PSM_PG_SENSE, 31, 16⟩
def PSM_PG_SENSE.KV : FRef := ⟨PSM_PG_SENSE, 15, 0⟩
/-- PSM_PG_VBUS, 06_power_stage.md. -/
def PSM_PG_VBUS : Reg := ⟨0xD0010, 4, 32, 1, 0, 0x0, .block, [⟨31, 31, .ro, false⟩, ⟨15, 0, .ro, false⟩]⟩
def PSM_PG_VBUS.SHARED : FRef := ⟨PSM_PG_VBUS, 31, 31⟩
def PSM_PG_VBUS.V : FRef := ⟨PSM_PG_VBUS, 15, 0⟩
/-- PSM_PG_TIME, 06_power_stage.md. -/
def PSM_PG_TIME : Reg := ⟨0xD0014, 4, 32, 1, 0, 0x640000, .chip, [⟨31, 16, .rw, false⟩, ⟨15, 0, .rw, false⟩]⟩
def PSM_PG_TIME.TEN : FRef := ⟨PSM_PG_TIME, 31, 16⟩
def PSM_PG_TIME.DEEP : FRef := ⟨PSM_PG_TIME, 15, 0⟩
/-- PSM_DIAG_CFG, 06_power_stage.md. -/
def PSM_DIAG_CFG : Reg := ⟨0xD0100, 1, 0, 1, 0, 0x32000A0A, .chip, [⟨31, 24, .rw, false⟩, ⟨15, 8, .rw, false⟩, ⟨7, 0, .rw, false⟩]⟩
def PSM_DIAG_CFG.VTEST : FRef := ⟨PSM_DIAG_CFG, 31, 24⟩
def PSM_DIAG_CFG.RAMP : FRef := ⟨PSM_DIAG_CFG, 15, 8⟩
def PSM_DIAG_CFG.HOLD : FRef := ⟨PSM_DIAG_CFG, 7, 0⟩
/-- PSM_CH_CFG, 06_power_stage.md. -/
def PSM_CH_CFG : Reg := ⟨0xD1000, 32, 32, 1, 0, 0x320320, .chip, [⟨31, 31, .rw, false⟩, ⟨23, 16, .rw, false⟩, ⟨9, 0, .rw, false⟩]⟩
def PSM_CH_CFG.OPEN_PLAY : FRef := ⟨PSM_CH_CFG, 31, 31⟩
def PSM_CH_CFG.BLANK : FRef := ⟨PSM_CH_CFG, 23, 16⟩
def PSM_CH_CFG.ILIM : FRef := ⟨PSM_CH_CFG, 9, 0⟩
/-- PSM_CH_STAT, 06_power_stage.md. -/
def PSM_CH_STAT : Reg := ⟨0xD1004, 32, 32, 1, 0, 0x0, .chip, [⟨31, 31, .w1c, false⟩, ⟨26, 24, .ro, false⟩, ⟨19, 16, .ro, false⟩, ⟨15, 0, .rc, false⟩]⟩
def PSM_CH_STAT.LATCH : FRef := ⟨PSM_CH_STAT, 31, 31⟩
def PSM_CH_STAT.STATE : FRef := ⟨PSM_CH_STAT, 26, 24⟩
def PSM_CH_STAT.DIAG : FRef := ⟨PSM_CH_STAT, 19, 16⟩
def PSM_CH_STAT.TRIPS : FRef := ⟨PSM_CH_STAT, 15, 0⟩
/-- PSM_CH_RES, 06_power_stage.md. -/
def PSM_CH_RES : Reg := ⟨0xD1008, 32, 32, 1, 0, 0xFFFFFFFF, .chip, [⟨31, 0, .ro, false⟩]⟩
def PSM_CH_RES.R : FRef := ⟨PSM_CH_RES, 31, 0⟩
/-- PSM_SHORT_REC0, 06_power_stage.md. -/
def PSM_SHORT_REC0 : Reg := ⟨0xD100C, 32, 32, 1, 0, 0x0, .chip, [⟨31, 16, .ro, false⟩, ⟨15, 0, .ro, false⟩]⟩
def PSM_SHORT_REC0.ISNS : FRef := ⟨PSM_SHORT_REC0, 31, 16⟩
def PSM_SHORT_REC0.VG : FRef := ⟨PSM_SHORT_REC0, 15, 0⟩
/-- PSM_SHORT_REC1, 06_power_stage.md. -/
def PSM_SHORT_REC1 : Reg := ⟨0xD1010, 32, 32, 1, 0, 0x0, .chip, [⟨31, 16, .ro, false⟩, ⟨15, 0, .ro, false⟩]⟩
def PSM_SHORT_REC1.VSA : FRef := ⟨PSM_SHORT_REC1, 31, 16⟩
def PSM_SHORT_REC1.VSB : FRef := ⟨PSM_SHORT_REC1, 15, 0⟩
/-- PSM_SHORT_BLK, 06_power_stage.md. -/
def PSM_SHORT_BLK : Reg := ⟨0xD1014, 32, 32, 1, 0, 0x0, .chip, [⟨31, 0, .ro, false⟩]⟩
def PSM_SHORT_BLK.BLK : FRef := ⟨PSM_SHORT_BLK, 31, 0⟩
/-- SAP_PCFG, 07_serial_ports.md. -/
def SAP_PCFG : Reg := ⟨0x90000, 16, 64, 1, 0, 0x0, .chip, [⟨31, 31, .ro, true⟩, ⟨30, 30, .ro, true⟩, ⟨29, 29, .ro, true⟩, ⟨28, 28, .ro, true⟩, ⟨27, 26, .ro, true⟩, ⟨25, 24, .ro, true⟩, ⟨23, 23, .ro, true⟩, ⟨22, 22, .ro, true⟩, ⟨21, 21, .ro, true⟩, ⟨20, 20, .ro, true⟩, ⟨19, 18, .ro, true⟩, ⟨17, 14, .ro, true⟩, ⟨13, 8, .ro, true⟩, ⟨7, 0, .ro, true⟩]⟩
def SAP_PCFG.EN : FRef := ⟨SAP_PCFG, 31, 31⟩
def SAP_PCFG.MASTER : FRef := ⟨SAP_PCFG, 30, 30⟩
def SAP_PCFG.SYNC : FRef := ⟨SAP_PCFG, 29, 29⟩
def SAP_PCFG.PAIRED : FRef := ⟨SAP_PCFG, 28, 28⟩
def SAP_PCFG.FMT : FRef := ⟨SAP_PCFG, 27, 26⟩
def SAP_PCFG.WORD : FRef := ⟨SAP_PCFG, 25, 24⟩
def SAP_PCFG.DELAY : FRef := ⟨SAP_PCFG, 23, 23⟩
def SAP_PCFG.FSPOL : FRef := ⟨SAP_PCFG, 22, 22⟩
def SAP_PCFG.BCPOL : FRef := ⟨SAP_PCFG, 21, 21⟩
def SAP_PCFG.FSLONG : FRef := ⟨SAP_PCFG, 20, 20⟩
def SAP_PCFG.LOOP : FRef := ⟨SAP_PCFG, 19, 18⟩
def SAP_PCFG.GROUP : FRef := ⟨SAP_PCFG, 17, 14⟩
def SAP_PCFG.SLOTS : FRef := ⟨SAP_PCFG, 13, 8⟩
def SAP_PCFG.BDIV : FRef := ⟨SAP_PCFG, 7, 0⟩
/-- SAP_PCTRL, 07_serial_ports.md. -/
def SAP_PCTRL : Reg := ⟨0x90004, 16, 64, 1, 0, 0x3E80000, .chip, [⟨31, 16, .rw, false⟩, ⟨3, 3, .rw, false⟩, ⟨2, 2, .rw, false⟩, ⟨1, 1, .rw, false⟩, ⟨0, 0, .wo, false⟩]⟩
def SAP_PCTRL.RATE_TOL : FRef := ⟨SAP_PCTRL, 31, 16⟩
def SAP_PCTRL.SLIP_ACT : FRef := ⟨SAP_PCTRL, 3, 3⟩
def SAP_PCTRL.AUTO_RATE : FRef := ⟨SAP_PCTRL, 2, 2⟩
def SAP_PCTRL.AUTO_SLIP : FRef := ⟨SAP_PCTRL, 1, 1⟩
def SAP_PCTRL.RESTART : FRef := ⟨SAP_PCTRL, 0, 0⟩
/-- SAP_PSTAT, 07_serial_ports.md. -/
def SAP_PSTAT : Reg := ⟨0x90008, 16, 64, 1, 0, 0x0, .block, [⟨31, 31, .w1c, false⟩, ⟨30, 30, .w1c, false⟩, ⟨29, 29, .w1c, false⟩, ⟨28, 28, .w1c, false⟩, ⟨18, 16, .ro, false⟩, ⟨15, 8, .rc, false⟩, ⟨7, 0, .rc, false⟩]⟩
def SAP_PSTAT.SLIP : FRef := ⟨SAP_PSTAT, 31, 31⟩
def SAP_PSTAT.RCHG : FRef := ⟨SAP_PSTAT, 30, 30⟩
def SAP_PSTAT.FRERR : FRef := ⟨SAP_PSTAT, 29, 29⟩
def SAP_PSTAT.CLKLOSS : FRef := ⟨SAP_PSTAT, 28, 28⟩
def SAP_PSTAT.STATE : FRef := ⟨SAP_PSTAT, 18, 16⟩
def SAP_PSTAT.OVR : FRef := ⟨SAP_PSTAT, 15, 8⟩
def SAP_PSTAT.UNR : FRef := ⟨SAP_PSTAT, 7, 0⟩
/-- SAP_RATE, 07_serial_ports.md. -/
def SAP_RATE : Reg := ⟨0x9000C, 16, 64, 1, 0, 0x0, .block, [⟨23, 0, .ro, false⟩]⟩
def SAP_RATE.RATE : FRef := ⟨SAP_RATE, 23, 0⟩
/-- SAP_RREF, 07_serial_ports.md. -/
def SAP_RREF : Reg := ⟨0x90010, 16, 64, 1, 0, 0x0, .block, [⟨23, 0, .ro, false⟩]⟩
def SAP_RREF.RREF : FRef := ⟨SAP_RREF, 23, 0⟩
/-- SAP_PHASE, 07_serial_ports.md. -/
def SAP_PHASE : Reg := ⟨0x90014, 16, 64, 1, 0, 0x0, .block, [⟨31, 0, .ro, false⟩]⟩
def SAP_PHASE.PHASE : FRef := ⟨SAP_PHASE, 31, 0⟩
/-- SAP_GRP_CFG, 07_serial_ports.md. -/
def SAP_GRP_CFG : Reg := ⟨0x90800, 16, 16, 1, 0, 0x0, .chip, [⟨31, 31, .ro, true⟩, ⟨30, 30, .ro, true⟩, ⟨29, 25, .ro, true⟩, ⟨19, 16, .ro, true⟩, ⟨15, 0, .ro, true⟩]⟩
def SAP_GRP_CFG.METHOD : FRef := ⟨SAP_GRP_CFG, 31, 31⟩
def SAP_GRP_CFG.AUTO : FRef := ⟨SAP_GRP_CFG, 30, 30⟩
def SAP_GRP_CFG.ALARM : FRef := ⟨SAP_GRP_CFG, 29, 25⟩
def SAP_GRP_CFG.LEADER : FRef := ⟨SAP_GRP_CFG, 19, 16⟩
def SAP_GRP_CFG.MEMBERS : FRef := ⟨SAP_GRP_CFG, 15, 0⟩
/-- SAP_GRP_CTRL, 07_serial_ports.md. -/
def SAP_GRP_CTRL : Reg := ⟨0x90804, 16, 16, 1, 0, 0x0, .chip, [⟨23, 16, .rw, true⟩, ⟨1, 1, .wo, false⟩, ⟨0, 0, .wo, false⟩]⟩
def SAP_GRP_CTRL.RJ : FRef := ⟨SAP_GRP_CTRL, 23, 16⟩
def SAP_GRP_CTRL.STOP : FRef := ⟨SAP_GRP_CTRL, 1, 1⟩
def SAP_GRP_CTRL.START : FRef := ⟨SAP_GRP_CTRL, 0, 0⟩
/-- SAP_GRP_STAT, 07_serial_ports.md. -/
def SAP_GRP_STAT : Reg := ⟨0x90808, 16, 16, 1, 0, 0x0, .block, [⟨31, 16, .ro, false⟩, ⟨1, 0, .ro, false⟩]⟩
def SAP_GRP_STAT.ATT : FRef := ⟨SAP_GRP_STAT, 31, 16⟩
def SAP_GRP_STAT.STATE : FRef := ⟨SAP_GRP_STAT, 1, 0⟩
/-- SAP_MCLK_CFG, 07_serial_ports.md. -/
def SAP_MCLK_CFG : Reg := ⟨0x90900, 4, 4, 1, 0, 0x0, .chip, [⟨31, 31, .ro, true⟩, ⟨1, 0, .ro, true⟩]⟩
def SAP_MCLK_CFG.EN : FRef := ⟨SAP_MCLK_CFG, 31, 31⟩
def SAP_MCLK_CFG.DIV : FRef := ⟨SAP_MCLK_CFG, 1, 0⟩
/-- SAP_SLOT_IN, 07_serial_ports.md. -/
def SAP_SLOT_IN : Reg := ⟨0x92000, 16, 128, 32, 4, 0x0, .chip, [⟨31, 31, .ro, true⟩, ⟨11, 0, .ro, true⟩]⟩
def SAP_SLOT_IN.EN : FRef := ⟨SAP_SLOT_IN, 31, 31⟩
def SAP_SLOT_IN.CHAN : FRef := ⟨SAP_SLOT_IN, 11, 0⟩
/-- SAP_SLOT_OUT, 07_serial_ports.md. -/
def SAP_SLOT_OUT : Reg := ⟨0x93000, 16, 128, 32, 4, 0x0, .chip, [⟨31, 31, .ro, true⟩, ⟨11, 0, .ro, true⟩]⟩
def SAP_SLOT_OUT.EN : FRef := ⟨SAP_SLOT_OUT, 31, 31⟩
def SAP_SLOT_OUT.CHAN : FRef := ⟨SAP_SLOT_OUT, 11, 0⟩
/-- HLK_CFG, 08_hedgerow_links.md. -/
def HLK_CFG : Reg := ⟨0x50000, 8, 256, 1, 0, 0x0, .chip, [⟨31, 31, .ro, true⟩, ⟨30, 30, .ro, true⟩, ⟨29, 29, .ro, true⟩, ⟨28, 27, .ro, true⟩]⟩
def HLK_CFG.EN : FRef := ⟨HLK_CFG, 31, 31⟩
def HLK_CFG.RATE : FRef := ⟨HLK_CFG, 30, 30⟩
def HLK_CFG.TXREF : FRef := ⟨HLK_CFG, 29, 29⟩
def HLK_CFG.TXLOOP : FRef := ⟨HLK_CFG, 28, 27⟩
/-- HLK_CTRL, 08_hedgerow_links.md. -/
def HLK_CTRL : Reg := ⟨0x50004, 8, 256, 1, 0, 0x0, .chip, [⟨1, 1, .rw, false⟩, ⟨0, 0, .wo, false⟩]⟩
def HLK_CTRL.DISABLE : FRef := ⟨HLK_CTRL, 1, 1⟩
def HLK_CTRL.RETRAIN : FRef := ⟨HLK_CTRL, 0, 0⟩
/-- HLK_STAT, 08_hedgerow_links.md. -/
def HLK_STAT : Reg := ⟨0x50008, 8, 256, 1, 0, 0x0, .block, [⟨31, 31, .w1c, false⟩, ⟨30, 30, .ro, false⟩, ⟨29, 29, .ro, false⟩, ⟨28, 26, .ro, false⟩, ⟨2, 0, .ro, false⟩]⟩
def HLK_STAT.DOWNEV : FRef := ⟨HLK_STAT, 31, 31⟩
def HLK_STAT.LONG : FRef := ⟨HLK_STAT, 30, 30⟩
def HLK_STAT.POLINV : FRef := ⟨HLK_STAT, 29, 29⟩
def HLK_STAT.CAUSE : FRef := ⟨HLK_STAT, 28, 26⟩
def HLK_STAT.STATE : FRef := ⟨HLK_STAT, 2, 0⟩
/-- HLK_ERR, 08_hedgerow_links.md. -/
def HLK_ERR : Reg := ⟨0x5000C, 8, 256, 1, 0, 0x0, .block, [⟨31, 16, .rc, false⟩, ⟨15, 0, .rc, false⟩]⟩
def HLK_ERR.CRC : FRef := ⟨HLK_ERR, 31, 16⟩
def HLK_ERR.HDR : FRef := ⟨HLK_ERR, 15, 0⟩
/-- HLK_DROP, 08_hedgerow_links.md. -/
def HLK_DROP : Reg := ⟨0x50010, 8, 256, 1, 0, 0x0, .block, [⟨31, 24, .rc, false⟩, ⟨23, 16, .rc, false⟩, ⟨15, 8, .rc, false⟩, ⟨7, 0, .rc, false⟩]⟩
def HLK_DROP.STOMP : FRef := ⟨HLK_DROP, 31, 24⟩
def HLK_DROP.POLICE : FRef := ⟨HLK_DROP, 23, 16⟩
def HLK_DROP.TTL : FRef := ⟨HLK_DROP, 15, 8⟩
def HLK_DROP.DOWN : FRef := ⟨HLK_DROP, 7, 0⟩
/-- HLK_DELAY, 08_hedgerow_links.md. -/
def HLK_DELAY : Reg := ⟨0x50014, 8, 256, 1, 0, 0x0, .block, [⟨31, 31, .ro, false⟩, ⟨23, 0, .ro, false⟩]⟩
def HLK_DELAY.VALID : FRef := ⟨HLK_DELAY, 31, 31⟩
def HLK_DELAY.DELAY : FRef := ⟨HLK_DELAY, 23, 0⟩
/-- HLK_ASYM, 08_hedgerow_links.md. -/
def HLK_ASYM : Reg := ⟨0x50018, 8, 256, 1, 0, 0x0, .chip, [⟨15, 0, .rw, false⟩]⟩
def HLK_ASYM.ASYM : FRef := ⟨HLK_ASYM, 15, 0⟩
/-- HLK_SYNC_CFG, 08_hedgerow_links.md. -/
def HLK_SYNC_CFG : Reg := ⟨0x5001C, 8, 256, 1, 0, 0x8, .chip, [⟨31, 31, .rw, false⟩, ⟨15, 0, .rw, false⟩]⟩
def HLK_SYNC_CFG.TXEN : FRef := ⟨HLK_SYNC_CFG, 31, 31⟩
def HLK_SYNC_CFG.INT : FRef := ⟨HLK_SYNC_CFG, 15, 0⟩
/-- HLK_RSV_STAT, 08_hedgerow_links.md. -/
def HLK_RSV_STAT : Reg := ⟨0x50020, 8, 256, 1, 0, 0x0, .chip, [⟨31, 31, .w1c, false⟩, ⟨27, 16, .ro, true⟩, ⟨11, 0, .ro, false⟩]⟩
def HLK_RSV_STAT.REFUSED : FRef := ⟨HLK_RSV_STAT, 31, 31⟩
def HLK_RSV_STAT.RCAP : FRef := ⟨HLK_RSV_STAT, 27, 16⟩
def HLK_RSV_STAT.SUM : FRef := ⟨HLK_RSV_STAT, 11, 0⟩
/-- HLK_RING_DROP, 08_hedgerow_links.md. -/
def HLK_RING_DROP : Reg := ⟨0x50024, 8, 256, 1, 0, 0x0, .block, [⟨31, 16, .rc, false⟩, ⟨15, 0, .rc, false⟩]⟩
def HLK_RING_DROP.CTRL : FRef := ⟨HLK_RING_DROP, 31, 16⟩
def HLK_RING_DROP.BULK : FRef := ⟨HLK_RING_DROP, 15, 0⟩
/-- HLK_TSYNC, 08_hedgerow_links.md. -/
def HLK_TSYNC : Reg := ⟨0x51000, 1, 0, 1, 0, 0x0, .chip, [⟨31, 31, .rw, false⟩, ⟨9, 8, .rw, false⟩, ⟨2, 0, .rw, false⟩]⟩
def HLK_TSYNC.EN : FRef := ⟨HLK_TSYNC, 31, 31⟩
def HLK_TSYNC.TB : FRef := ⟨HLK_TSYNC, 9, 8⟩
def HLK_TSYNC.LINK : FRef := ⟨HLK_TSYNC, 2, 0⟩
/-- HLK_DREQ_CFG, 08_hedgerow_links.md. -/
def HLK_DREQ_CFG : Reg := ⟨0x51004, 1, 0, 1, 0, 0x7D, .chip, [⟨15, 0, .rw, false⟩]⟩
def HLK_DREQ_CFG.INT : FRef := ⟨HLK_DREQ_CFG, 15, 0⟩
/-- HLK_RING_CFG, 08_hedgerow_links.md. -/
def HLK_RING_CFG : Reg := ⟨0x51008, 1, 0, 1, 0, 0x74, .chip, [⟨7, 4, .rw, false⟩, ⟨3, 0, .rw, false⟩]⟩
def HLK_RING_CFG.CTRL_HW : FRef := ⟨HLK_RING_CFG, 7, 4⟩
def HLK_RING_CFG.BULK_HW : FRef := ⟨HLK_RING_CFG, 3, 0⟩
/-- HLK_SYNC_STAT, 08_hedgerow_links.md. -/
def HLK_SYNC_STAT : Reg := ⟨0x5100C, 1, 0, 1, 0, 0x0, .block, [⟨31, 16, .rc, false⟩, ⟨15, 0, .rc, false⟩]⟩
def HLK_SYNC_STAT.DELIV : FRef := ⟨HLK_SYNC_STAT, 31, 16⟩
def HLK_SYNC_STAT.NODELAY : FRef := ⟨HLK_SYNC_STAT, 15, 0⟩
/-- HLK_RSV, 08_hedgerow_links.md. -/
def HLK_RSV : Reg := ⟨0x54000, 8, 1024, 256, 4, 0x0, .chip, [⟨28, 20, .rw, false⟩, ⟨19, 0, .rw, false⟩]⟩
def HLK_RSV.CELLS : FRef := ⟨HLK_RSV, 28, 20⟩
def HLK_RSV.FLOW : FRef := ⟨HLK_RSV, 19, 0⟩
/-- HFB_NODE, 09_hedgerow_fabric.md. -/
def HFB_NODE : Reg := ⟨0x60000, 1, 0, 1, 0, 0x0, .chip, [⟨31, 31, .ro, true⟩, ⟨15, 0, .rw, true⟩]⟩
def HFB_NODE.MODE : FRef := ⟨HFB_NODE, 31, 31⟩
def HFB_NODE.ID : FRef := ⟨HFB_NODE, 15, 0⟩
/-- HFB_CFG, 09_hedgerow_fabric.md. -/
def HFB_CFG : Reg := ⟨0x60004, 1, 0, 1, 0, 0x4, .chip, [⟨31, 24, .rw, true⟩, ⟨7, 0, .rw, false⟩]⟩
def HFB_CFG.TPRIO : FRef := ⟨HFB_CFG, 31, 24⟩
def HFB_CFG.DEAD : FRef := ⟨HFB_CFG, 7, 0⟩
/-- HFB_UID_LO, 09_hedgerow_fabric.md. -/
def HFB_UID_LO : Reg := ⟨0x60008, 1, 0, 1, 0, 0x0, .por, [⟨31, 0, .ro, false⟩]⟩
def HFB_UID_LO.UID : FRef := ⟨HFB_UID_LO, 31, 0⟩
/-- HFB_UID_HI, 09_hedgerow_fabric.md. -/
def HFB_UID_HI : Reg := ⟨0x6000C, 1, 0, 1, 0, 0x0, .por, [⟨31, 0, .ro, false⟩]⟩
def HFB_UID_HI.UID : FRef := ⟨HFB_UID_HI, 31, 0⟩
/-- HFB_FABID_LO, 09_hedgerow_fabric.md. -/
def HFB_FABID_LO : Reg := ⟨0x60010, 1, 0, 1, 0, 0x0, .chip, [⟨31, 0, .ro, true⟩]⟩
def HFB_FABID_LO.FABID : FRef := ⟨HFB_FABID_LO, 31, 0⟩
/-- HFB_FABID_HI, 09_hedgerow_fabric.md. -/
def HFB_FABID_HI : Reg := ⟨0x60014, 1, 0, 1, 0, 0x0, .chip, [⟨31, 0, .ro, true⟩]⟩
def HFB_FABID_HI.FABID : FRef := ⟨HFB_FABID_HI, 31, 0⟩
/-- HFB_ADJ, 09_hedgerow_fabric.md. -/
def HFB_ADJ : Reg := ⟨0x60100, 8, 4, 1, 0, 0x0, .block, [⟨31, 31, .w1c, false⟩, ⟨30, 30, .w1c, false⟩, ⟨29, 29, .ro, false⟩, ⟨26, 24, .ro, false⟩, ⟨17, 16, .ro, false⟩, ⟨15, 0, .ro, false⟩]⟩
def HFB_ADJ.DEADEV : FRef := ⟨HFB_ADJ, 31, 31⟩
def HFB_ADJ.FIDMIS : FRef := ⟨HFB_ADJ, 30, 30⟩
def HFB_ADJ.FNMIS : FRef := ⟨HFB_ADJ, 29, 29⟩
def HFB_ADJ.RLINK : FRef := ⟨HFB_ADJ, 26, 24⟩
def HFB_ADJ.STATE : FRef := ⟨HFB_ADJ, 17, 16⟩
def HFB_ADJ.NBR : FRef := ⟨HFB_ADJ, 15, 0⟩
/-- HFB_FWD_CMD, 09_hedgerow_fabric.md. -/
def HFB_FWD_CMD : Reg := ⟨0x60200, 1, 0, 1, 0, 0x0, .chip, [⟨31, 31, .ro, false⟩, ⟨30, 30, .w1c, false⟩, ⟨14, 2, .rw, false⟩, ⟨1, 0, .wo, false⟩]⟩
def HFB_FWD_CMD.BUSY : FRef := ⟨HFB_FWD_CMD, 31, 31⟩
def HFB_FWD_CMD.REFUSED : FRef := ⟨HFB_FWD_CMD, 30, 30⟩
def HFB_FWD_CMD.IDX : FRef := ⟨HFB_FWD_CMD, 14, 2⟩
def HFB_FWD_CMD.OP : FRef := ⟨HFB_FWD_CMD, 1, 0⟩
/-- HFB_FWD_W0, 09_hedgerow_fabric.md. -/
def HFB_FWD_W0 : Reg := ⟨0x60204, 1, 0, 1, 0, 0x0, .chip, [⟨31, 31, .rw, false⟩, ⟨30, 30, .rw, false⟩, ⟨29, 29, .rw, false⟩, ⟨28, 20, .rw, false⟩, ⟨19, 0, .rw, false⟩]⟩
def HFB_FWD_W0.VALID : FRef := ⟨HFB_FWD_W0, 31, 31⟩
def HFB_FWD_W0.MC : FRef := ⟨HFB_FWD_W0, 30, 30⟩
def HFB_FWD_W0.LOCAL : FRef := ⟨HFB_FWD_W0, 29, 29⟩
def HFB_FWD_W0.CTX : FRef := ⟨HFB_FWD_W0, 28, 20⟩
def HFB_FWD_W0.FLOW : FRef := ⟨HFB_FWD_W0, 19, 0⟩
/-- HFB_FWD_W1, 09_hedgerow_fabric.md. -/
def HFB_FWD_W1 : Reg := ⟨0x60208, 1, 0, 1, 0, 0x0, .chip, [⟨31, 31, .rw, false⟩, ⟨30, 30, .rw, false⟩, ⟨29, 29, .ro, false⟩, ⟨15, 8, .rw, false⟩, ⟨7, 0, .rw, false⟩]⟩
def HFB_FWD_W1.DEDUP : FRef := ⟨HFB_FWD_W1, 31, 31⟩
def HFB_FWD_W1.REVERT : FRef := ⟨HFB_FWD_W1, 30, 30⟩
def HFB_FWD_W1.USEBKP : FRef := ⟨HFB_FWD_W1, 29, 29⟩
def HFB_FWD_W1.PRI : FRef := ⟨HFB_FWD_W1, 15, 8⟩
def HFB_FWD_W1.BKP : FRef := ⟨HFB_FWD_W1, 7, 0⟩
/-- HFB_DROP, 09_hedgerow_fabric.md. -/
def HFB_DROP : Reg := ⟨0x60210, 1, 0, 1, 0, 0x0, .block, [⟨31, 24, .rc, false⟩, ⟨23, 16, .rc, false⟩, ⟨15, 8, .rc, false⟩, ⟨7, 0, .rc, false⟩]⟩
def HFB_DROP.MISS : FRef := ⟨HFB_DROP, 31, 24⟩
def HFB_DROP.NOROUTE : FRef := ⟨HFB_DROP, 23, 16⟩
def HFB_DROP.DUP : FRef := ⟨HFB_DROP, 15, 8⟩
def HFB_DROP.FLOOD : FRef := ⟨HFB_DROP, 7, 0⟩
/-- FLOW_CFG, 09_hedgerow_fabric.md. -/
def FLOW_CFG : Reg := ⟨0x80000, 512, 16, 1, 0, 0x0, .chip, [⟨31, 30, .ro, true⟩, ⟨29, 29, .ro, true⟩, ⟨27, 24, .ro, true⟩, ⟨23, 20, .ro, true⟩, ⟨19, 0, .ro, true⟩]⟩
def FLOW_CFG.KIND : FRef := ⟨FLOW_CFG, 31, 30⟩
def FLOW_CFG.FMT : FRef := ⟨FLOW_CFG, 29, 29⟩
def FLOW_CFG.PRES : FRef := ⟨FLOW_CFG, 27, 24⟩
def FLOW_CFG.HOLD : FRef := ⟨FLOW_CFG, 23, 20⟩
def FLOW_CFG.FLOW : FRef := ⟨FLOW_CFG, 19, 0⟩
/-- FLOW_MAP, 09_hedgerow_fabric.md. -/
def FLOW_MAP : Reg := ⟨0x80004, 512, 16, 1, 0, 0x40000000, .chip, [⟨31, 30, .rw, false⟩, ⟨27, 16, .ro, true⟩, ⟨11, 0, .ro, true⟩]⟩
def FLOW_MAP.LOSS : FRef := ⟨FLOW_MAP, 31, 30⟩
def FLOW_MAP.NCH : FRef := ⟨FLOW_MAP, 27, 16⟩
def FLOW_MAP.FIRST : FRef := ⟨FLOW_MAP, 11, 0⟩
/-- FLOW_STAT, 09_hedgerow_fabric.md. -/
def FLOW_STAT : Reg := ⟨0x80008, 512, 16, 1, 0, 0x0, .block, [⟨31, 24, .rc, false⟩, ⟨23, 16, .rc, false⟩, ⟨15, 8, .rc, false⟩, ⟨7, 4, .rc, false⟩, ⟨3, 0, .rc, false⟩]⟩
def FLOW_STAT.LOSTB : FRef := ⟨FLOW_STAT, 31, 24⟩
def FLOW_STAT.LATE : FRef := ⟨FLOW_STAT, 23, 16⟩
def FLOW_STAT.DUP : FRef := ⟨FLOW_STAT, 15, 8⟩
def FLOW_STAT.FORM : FRef := ⟨FLOW_STAT, 7, 4⟩
def FLOW_STAT.NOROUTE : FRef := ⟨FLOW_STAT, 3, 0⟩
/-- FLOW_SEQ, 09_hedgerow_fabric.md. -/
def FLOW_SEQ : Reg := ⟨0x8000C, 512, 16, 1, 0, 0x0, .block, [⟨31, 16, .ro, false⟩, ⟨15, 0, .ro, false⟩]⟩
def FLOW_SEQ.NEXT : FRef := ⟨FLOW_SEQ, 31, 16⟩
def FLOW_SEQ.BLK : FRef := ⟨FLOW_SEQ, 15, 0⟩
/-- ETH_PORT_CFG, 10_ethernet.md. -/
def ETH_PORT_CFG : Reg := ⟨0x70000, 2, 256, 1, 0, 0x0, .chip, [⟨31, 30, .ro, true⟩, ⟨9, 8, .rw, false⟩]⟩
def ETH_PORT_CFG.MODE : FRef := ⟨ETH_PORT_CFG, 31, 30⟩
def ETH_PORT_CFG.TB : FRef := ⟨ETH_PORT_CFG, 9, 8⟩
/-- ETH_PORT_STAT, 10_ethernet.md. -/
def ETH_PORT_STAT : Reg := ⟨0x70004, 2, 256, 1, 0, 0x0, .block, [⟨31, 31, .ro, false⟩, ⟨30, 30, .w1c, false⟩, ⟨15, 8, .rc, false⟩, ⟨7, 0, .rc, false⟩]⟩
def ETH_PORT_STAT.LINK : FRef := ⟨ETH_PORT_STAT, 31, 31⟩
def ETH_PORT_STAT.LINKEV : FRef := ⟨ETH_PORT_STAT, 30, 30⟩
def ETH_PORT_STAT.RXDROP : FRef := ⟨ETH_PORT_STAT, 15, 8⟩
def ETH_PORT_STAT.ERR : FRef := ⟨ETH_PORT_STAT, 7, 0⟩
/-- ETH_PORT_IP, 10_ethernet.md. -/
def ETH_PORT_IP : Reg := ⟨0x70008, 2, 256, 1, 0, 0x0, .chip, [⟨31, 0, .rw, false⟩]⟩
def ETH_PORT_IP.ADDR : FRef := ⟨ETH_PORT_IP, 31, 0⟩
/-- ETH_TS_ADJ, 10_ethernet.md. -/
def ETH_TS_ADJ : Reg := ⟨0x7000C, 2, 256, 1, 0, 0x0, .chip, [⟨15, 0, .rw, false⟩]⟩
def ETH_TS_ADJ.ADJ : FRef := ⟨ETH_TS_ADJ, 15, 0⟩
/-- ETH_TXTS_INFO, 10_ethernet.md. -/
def ETH_TXTS_INFO : Reg := ⟨0x70010, 2, 256, 1, 0, 0x0, .block, [⟨31, 31, .rc, false⟩, ⟨30, 30, .w1c, false⟩, ⟨27, 24, .ro, false⟩, ⟨23, 16, .ro, false⟩, ⟨15, 0, .ro, false⟩]⟩
def ETH_TXTS_INFO.VALID : FRef := ⟨ETH_TXTS_INFO, 31, 31⟩
def ETH_TXTS_INFO.OVF : FRef := ⟨ETH_TXTS_INFO, 30, 30⟩
def ETH_TXTS_INFO.MTYPE : FRef := ⟨ETH_TXTS_INFO, 27, 24⟩
def ETH_TXTS_INFO.DOMAIN : FRef := ⟨ETH_TXTS_INFO, 23, 16⟩
def ETH_TXTS_INFO.SEQID : FRef := ⟨ETH_TXTS_INFO, 15, 0⟩
/-- ETH_TXTS_SEC, 10_ethernet.md. -/
def ETH_TXTS_SEC : Reg := ⟨0x70014, 2, 256, 1, 0, 0x0, .block, [⟨31, 0, .ro, false⟩]⟩
def ETH_TXTS_SEC.SEC : FRef := ⟨ETH_TXTS_SEC, 31, 0⟩
/-- ETH_TXTS_NS, 10_ethernet.md. -/
def ETH_TXTS_NS : Reg := ⟨0x70018, 2, 256, 1, 0, 0x0, .block, [⟨31, 0, .ro, false⟩]⟩
def ETH_TXTS_NS.NS : FRef := ⟨ETH_TXTS_NS, 31, 0⟩
/-- ETH_VLAN, 10_ethernet.md. -/
def ETH_VLAN : Reg := ⟨0x70040, 2, 256, 16, 4, 0x0, .chip, [⟨31, 31, .rw, false⟩, ⟨11, 0, .rw, false⟩]⟩
def ETH_VLAN.VALID : FRef := ⟨ETH_VLAN, 31, 31⟩
def ETH_VLAN.VID : FRef := ⟨ETH_VLAN, 11, 0⟩
/-- ETH_RING_CFG, 10_ethernet.md. -/
def ETH_RING_CFG : Reg := ⟨0x71000, 1, 0, 1, 0, 0x74, .chip, [⟨7, 4, .rw, false⟩, ⟨3, 0, .rw, false⟩]⟩
def ETH_RING_CFG.PTP_HW : FRef := ⟨ETH_RING_CFG, 7, 4⟩
def ETH_RING_CFG.LOW_HW : FRef := ⟨ETH_RING_CFG, 3, 0⟩
/-- ETH_ADDR_LO, 10_ethernet.md. -/
def ETH_ADDR_LO : Reg := ⟨0x72000, 258, 8, 1, 0, 0x0, .chip, [⟨31, 0, .rw, false⟩]⟩
def ETH_ADDR_LO.MAC : FRef := ⟨ETH_ADDR_LO, 31, 0⟩
/-- ETH_ADDR_HI, 10_ethernet.md. -/
def ETH_ADDR_HI : Reg := ⟨0x72004, 258, 8, 1, 0, 0x0, .chip, [⟨31, 31, .rw, false⟩, ⟨17, 16, .rw, false⟩, ⟨15, 0, .rw, false⟩]⟩
def ETH_ADDR_HI.VALID : FRef := ⟨ETH_ADDR_HI, 31, 31⟩
def ETH_ADDR_HI.PORTS : FRef := ⟨ETH_ADDR_HI, 17, 16⟩
def ETH_ADDR_HI.MAC : FRef := ⟨ETH_ADDR_HI, 15, 0⟩
/-- ETH_STR_CFG, 10_ethernet.md. -/
def ETH_STR_CFG : Reg := ⟨0x74000, 128, 64, 1, 0, 0x0, .chip, [⟨31, 31, .ro, true⟩, ⟨30, 29, .ro, true⟩, ⟨28, 28, .ro, true⟩, ⟨27, 27, .ro, true⟩, ⟨26, 24, .ro, true⟩, ⟨23, 23, .ro, true⟩, ⟨22, 22, .ro, true⟩, ⟨21, 20, .ro, true⟩, ⟨8, 0, .ro, true⟩]⟩
def ETH_STR_CFG.DIR : FRef := ⟨ETH_STR_CFG, 31, 31⟩
def ETH_STR_CFG.LEGS : FRef := ⟨ETH_STR_CFG, 30, 29⟩
def ETH_STR_CFG.ENC : FRef := ⟨ETH_STR_CFG, 28, 28⟩
def ETH_STR_CFG.FS : FRef := ⟨ETH_STR_CFG, 27, 27⟩
def ETH_STR_CFG.PTIME : FRef := ⟨ETH_STR_CFG, 26, 24⟩
def ETH_STR_CFG.SYNC : FRef := ⟨ETH_STR_CFG, 23, 23⟩
def ETH_STR_CFG.PAIRED : FRef := ⟨ETH_STR_CFG, 22, 22⟩
def ETH_STR_CFG.TB : FRef := ⟨ETH_STR_CFG, 21, 20⟩
def ETH_STR_CFG.CTX : FRef := ⟨ETH_STR_CFG, 8, 0⟩
/-- ETH_STR_CTRL, 10_ethernet.md. -/
def ETH_STR_CTRL : Reg := ⟨0x74004, 128, 64, 1, 0, 0x0, .chip, [⟨1, 1, .w1c, false⟩, ⟨0, 0, .rw, false⟩]⟩
def ETH_STR_CTRL.BUSYWR : FRef := ⟨ETH_STR_CTRL, 1, 1⟩
def ETH_STR_CTRL.EN : FRef := ⟨ETH_STR_CTRL, 0, 0⟩
/-- ETH_STR_HDR, 10_ethernet.md. -/
def ETH_STR_HDR : Reg := ⟨0x74008, 128, 64, 1, 0, 0x608A0000, .chip, [⟨31, 31, .rw, false⟩, ⟨30, 24, .rw, false⟩, ⟨23, 18, .rw, false⟩, ⟨17, 15, .rw, false⟩, ⟨11, 0, .rw, false⟩]⟩
def ETH_STR_HDR.SSM : FRef := ⟨ETH_STR_HDR, 31, 31⟩
def ETH_STR_HDR.PT : FRef := ⟨ETH_STR_HDR, 30, 24⟩
def ETH_STR_HDR.DSCP : FRef := ⟨ETH_STR_HDR, 23, 18⟩
def ETH_STR_HDR.PCP : FRef := ⟨ETH_STR_HDR, 17, 15⟩
def ETH_STR_HDR.VID : FRef := ⟨ETH_STR_HDR, 11, 0⟩
/-- ETH_STR_TIME, 10_ethernet.md. -/
def ETH_STR_TIME : Reg := ⟨0x7400C, 128, 64, 1, 0, 0x30, .chip, [⟨11, 0, .rw, false⟩]⟩
def ETH_STR_TIME.LINKOFF : FRef := ⟨ETH_STR_TIME, 11, 0⟩
/-- ETH_STR_RTPOFF, 10_ethernet.md. -/
def ETH_STR_RTPOFF : Reg := ⟨0x74010, 128, 64, 1, 0, 0x0, .chip, [⟨31, 0, .rw, false⟩]⟩
def ETH_STR_RTPOFF.RTPOFF : FRef := ⟨ETH_STR_RTPOFF, 31, 0⟩
/-- ETH_STR_STAT, 10_ethernet.md. -/
def ETH_STR_STAT : Reg := ⟨0x74014, 128, 64, 1, 0, 0x0, .block, [⟨31, 31, .w1c, false⟩, ⟨27, 24, .rc, false⟩, ⟨23, 20, .rc, false⟩, ⟨19, 16, .rc, false⟩, ⟨15, 8, .rc, false⟩, ⟨7, 4, .rc, false⟩, ⟨3, 0, .rc, false⟩]⟩
def ETH_STR_STAT.SSRCCHG : FRef := ⟨ETH_STR_STAT, 31, 31⟩
def ETH_STR_STAT.LOSS0 : FRef := ⟨ETH_STR_STAT, 27, 24⟩
def ETH_STR_STAT.LOSS1 : FRef := ⟨ETH_STR_STAT, 23, 20⟩
def ETH_STR_STAT.DUP : FRef := ⟨ETH_STR_STAT, 19, 16⟩
def ETH_STR_STAT.LATE : FRef := ⟨ETH_STR_STAT, 15, 8⟩
def ETH_STR_STAT.EARLY : FRef := ⟨ETH_STR_STAT, 7, 4⟩
def ETH_STR_STAT.FORM : FRef := ⟨ETH_STR_STAT, 3, 0⟩
/-- ETH_STR_ADDR, 10_ethernet.md. -/
def ETH_STR_ADDR : Reg := ⟨0x74020, 128, 64, 2, 8, 0x0, .chip, [⟨31, 0, .rw, false⟩]⟩
def ETH_STR_ADDR.ADDR : FRef := ⟨ETH_STR_ADDR, 31, 0⟩
/-- ETH_STR_UDP, 10_ethernet.md. -/
def ETH_STR_UDP : Reg := ⟨0x74024, 128, 64, 2, 8, 0x138C, .chip, [⟨31, 16, .rw, false⟩, ⟨15, 0, .rw, false⟩]⟩
def ETH_STR_UDP.SPORT : FRef := ⟨ETH_STR_UDP, 31, 16⟩
def ETH_STR_UDP.DPORT : FRef := ⟨ETH_STR_UDP, 15, 0⟩
/-- ETH_STR_SRC, 10_ethernet.md. -/
def ETH_STR_SRC : Reg := ⟨0x74030, 128, 64, 2, 4, 0x0, .chip, [⟨31, 0, .rw, false⟩]⟩
def ETH_STR_SRC.ADDR : FRef := ⟨ETH_STR_SRC, 31, 0⟩
/-- TIME_TB_CFG, 11_time_bases.md. -/
def TIME_TB_CFG : Reg := ⟨0x40000, 4, 256, 1, 0, 0x0, .chip, [⟨31, 30, .ro, true⟩, ⟨29, 29, .rw, false⟩, ⟨23, 16, .rw, true⟩]⟩
def TIME_TB_CFG.SRC : FRef := ⟨TIME_TB_CFG, 31, 30⟩
def TIME_TB_CFG.TRACEABLE : FRef := ⟨TIME_TB_CFG, 29, 29⟩
def TIME_TB_CFG.DOM : FRef := ⟨TIME_TB_CFG, 23, 16⟩
/-- TIME_TB_CTRL, 11_time_bases.md. -/
def TIME_TB_CTRL : Reg := ⟨0x40004, 4, 256, 1, 0, 0x0, .chip, [⟨1, 1, .rw, false⟩, ⟨0, 0, .wo, false⟩]⟩
def TIME_TB_CTRL.FREE : FRef := ⟨TIME_TB_CTRL, 1, 1⟩
def TIME_TB_CTRL.SET : FRef := ⟨TIME_TB_CTRL, 0, 0⟩
/-- TIME_TB_STAT, 11_time_bases.md. -/
def TIME_TB_STAT : Reg := ⟨0x40008, 4, 256, 1, 0, 0x0, .block, [⟨31, 31, .w1c, false⟩, ⟨30, 30, .w1c, false⟩, ⟨29, 29, .w1c, false⟩, ⟨25, 24, .ro, false⟩, ⟨23, 16, .rc, false⟩, ⟨15, 8, .rc, false⟩, ⟨7, 0, .rc, false⟩]⟩
def TIME_TB_STAT.LOCKEV : FRef := ⟨TIME_TB_STAT, 31, 31⟩
def TIME_TB_STAT.HOLDEV : FRef := ⟨TIME_TB_STAT, 30, 30⟩
def TIME_TB_STAT.STEPEV : FRef := ⟨TIME_TB_STAT, 29, 29⟩
def TIME_TB_STAT.STATE : FRef := ⟨TIME_TB_STAT, 25, 24⟩
def TIME_TB_STAT.IGN : FRef := ⟨TIME_TB_STAT, 23, 16⟩
def TIME_TB_STAT.LATE : FRef := ⟨TIME_TB_STAT, 15, 8⟩
def TIME_TB_STAT.ACC : FRef := ⟨TIME_TB_STAT, 7, 0⟩
/-- TIME_TB_T0, 11_time_bases.md. -/
def TIME_TB_T0 : Reg := ⟨0x40010, 4, 256, 1, 0, 0x0, .por, [⟨31, 16, .ro, false⟩, ⟨15, 0, .ro, false⟩]⟩
def TIME_TB_T0.SEC_HI : FRef := ⟨TIME_TB_T0, 31, 16⟩
def TIME_TB_T0.FRAC : FRef := ⟨TIME_TB_T0, 15, 0⟩
/-- TIME_TB_T1, 11_time_bases.md. -/
def TIME_TB_T1 : Reg := ⟨0x40014, 4, 256, 1, 0, 0x0, .por, [⟨31, 0, .ro, false⟩]⟩
def TIME_TB_T1.SEC_LO : FRef := ⟨TIME_TB_T1, 31, 0⟩
/-- TIME_TB_T2, 11_time_bases.md. -/
def TIME_TB_T2 : Reg := ⟨0x40018, 4, 256, 1, 0, 0x0, .por, [⟨29, 0, .ro, false⟩]⟩
def TIME_TB_T2.NS : FRef := ⟨TIME_TB_T2, 29, 0⟩
/-- TIME_TB_RATE_LO, 11_time_bases.md. -/
def TIME_TB_RATE_LO : Reg := ⟨0x40030, 4, 256, 1, 0, 0x0, .por, [⟨31, 0, .rw, false⟩]⟩
def TIME_TB_RATE_LO.ADJ_LO : FRef := ⟨TIME_TB_RATE_LO, 31, 0⟩
/-- TIME_TB_RATE_HI, 11_time_bases.md. -/
def TIME_TB_RATE_HI : Reg := ⟨0x40034, 4, 256, 1, 0, 0x0, .por, [⟨7, 0, .rw, false⟩]⟩
def TIME_TB_RATE_HI.ADJ_HI : FRef := ⟨TIME_TB_RATE_HI, 7, 0⟩
/-- TIME_SRV_KP, 11_time_bases.md. -/
def TIME_SRV_KP : Reg := ⟨0x40040, 4, 256, 1, 0, 0x20000000, .chip, [⟨31, 0, .rw, false⟩]⟩
def TIME_SRV_KP.K : FRef := ⟨TIME_SRV_KP, 31, 0⟩
/-- TIME_SRV_KI, 11_time_bases.md. -/
def TIME_SRV_KI : Reg := ⟨0x40044, 4, 256, 1, 0, 0x1E8000, .chip, [⟨31, 0, .rw, false⟩]⟩
def TIME_SRV_KI.K : FRef := ⟨TIME_SRV_KI, 31, 0⟩
/-- TIME_SRV_CFG, 11_time_bases.md. -/
def TIME_SRV_CFG : Reg := ⟨0x40048, 4, 256, 1, 0, 0x50320BB8, .chip, [⟨31, 30, .rw, false⟩, ⟨29, 24, .rw, false⟩, ⟨23, 16, .rw, false⟩, ⟨15, 0, .rw, false⟩]⟩
def TIME_SRV_CFG.STEP : FRef := ⟨TIME_SRV_CFG, 31, 30⟩
def TIME_SRV_CFG.LOCK_CNT : FRef := ⟨TIME_SRV_CFG, 29, 24⟩
def TIME_SRV_CFG.MAXAGE : FRef := ⟨TIME_SRV_CFG, 23, 16⟩
def TIME_SRV_CFG.HOLD_TMO : FRef := ⟨TIME_SRV_CFG, 15, 0⟩
/-- TIME_SRV_THR, 11_time_bases.md. -/
def TIME_SRV_THR : Reg := ⟨0x4004C, 4, 256, 1, 0, 0xA0064, .chip, [⟨31, 16, .rw, false⟩, ⟨15, 0, .rw, false⟩]⟩
def TIME_SRV_THR.STEP_THR : FRef := ⟨TIME_SRV_THR, 31, 16⟩
def TIME_SRV_THR.LOCK_THR : FRef := ⟨TIME_SRV_THR, 15, 0⟩
/-- TIME_OFS_MSEC, 11_time_bases.md. -/
def TIME_OFS_MSEC : Reg := ⟨0x40050, 4, 256, 1, 0, 0x0, .chip, [⟨31, 0, .rw, false⟩]⟩
def TIME_OFS_MSEC.SEC : FRef := ⟨TIME_OFS_MSEC, 31, 0⟩
/-- TIME_OFS_MNS, 11_time_bases.md. -/
def TIME_OFS_MNS : Reg := ⟨0x40054, 4, 256, 1, 0, 0x0, .chip, [⟨31, 31, .rw, false⟩, ⟨29, 0, .rw, false⟩]⟩
def TIME_OFS_MNS.FSTEP : FRef := ⟨TIME_OFS_MNS, 31, 31⟩
def TIME_OFS_MNS.NS : FRef := ⟨TIME_OFS_MNS, 29, 0⟩
/-- TIME_OFS_VAL, 11_time_bases.md. -/
def TIME_OFS_VAL : Reg := ⟨0x40058, 4, 256, 1, 0, 0x0, .chip, [⟨31, 0, .wo, false⟩]⟩
def TIME_OFS_VAL.THETA : FRef := ⟨TIME_OFS_VAL, 31, 0⟩
/-- TIME_SRV_LAST, 11_time_bases.md. -/
def TIME_SRV_LAST : Reg := ⟨0x4005C, 4, 256, 1, 0, 0x0, .block, [⟨31, 0, .ro, false⟩]⟩
def TIME_SRV_LAST.THETA : FRef := ⟨TIME_SRV_LAST, 31, 0⟩
/-- TIME_SEL_CFG, 11_time_bases.md. -/
def TIME_SEL_CFG : Reg := ⟨0x40800, 1, 0, 1, 0, 0x0, .chip, [⟨31, 31, .ro, true⟩, ⟨29, 28, .ro, true⟩, ⟨27, 26, .ro, true⟩, ⟨25, 24, .ro, true⟩]⟩
def TIME_SEL_CFG.EN : FRef := ⟨TIME_SEL_CFG, 31, 31⟩
def TIME_SEL_CFG.M : FRef := ⟨TIME_SEL_CFG, 29, 28⟩
def TIME_SEL_CFG.A : FRef := ⟨TIME_SEL_CFG, 27, 26⟩
def TIME_SEL_CFG.B : FRef := ⟨TIME_SEL_CFG, 25, 24⟩
/-- TIME_SEL_CTRL, 11_time_bases.md. -/
def TIME_SEL_CTRL : Reg := ⟨0x40804, 1, 0, 1, 0, 0x3E80A02, .chip, [⟨31, 16, .rw, false⟩, ⟨15, 8, .rw, false⟩, ⟨2, 2, .rw, false⟩, ⟨1, 1, .rw, false⟩, ⟨0, 0, .wo, false⟩]⟩
def TIME_SEL_CTRL.SLEW : FRef := ⟨TIME_SEL_CTRL, 31, 16⟩
def TIME_SEL_CTRL.RVT : FRef := ⟨TIME_SEL_CTRL, 15, 8⟩
def TIME_SEL_CTRL.REVERT : FRef := ⟨TIME_SEL_CTRL, 2, 2⟩
def TIME_SEL_CTRL.AUTO : FRef := ⟨TIME_SEL_CTRL, 1, 1⟩
def TIME_SEL_CTRL.SWITCH : FRef := ⟨TIME_SEL_CTRL, 0, 0⟩
/-- TIME_SEL_STAT, 11_time_bases.md. -/
def TIME_SEL_STAT : Reg := ⟨0x40808, 1, 0, 1, 0, 0x0, .block, [⟨31, 31, .w1c, false⟩, ⟨30, 30, .w1c, false⟩, ⟨1, 1, .ro, false⟩, ⟨0, 0, .ro, false⟩]⟩
def TIME_SEL_STAT.SWEV : FRef := ⟨TIME_SEL_STAT, 31, 31⟩
def TIME_SEL_STAT.REFUSED : FRef := ⟨TIME_SEL_STAT, 30, 30⟩
def TIME_SEL_STAT.BLEED : FRef := ⟨TIME_SEL_STAT, 1, 1⟩
def TIME_SEL_STAT.CUR : FRef := ⟨TIME_SEL_STAT, 0, 0⟩
/-- TIME_SEL_BO, 11_time_bases.md. -/
def TIME_SEL_BO : Reg := ⟨0x4080C, 1, 0, 1, 0, 0x0, .chip, [⟨31, 0, .ro, false⟩]⟩
def TIME_SEL_BO.BO : FRef := ⟨TIME_SEL_BO, 31, 0⟩
/-- TIME_TIO_CFG, 11_time_bases.md. -/
def TIME_TIO_CFG : Reg := ⟨0x40810, 1, 0, 1, 0, 0x0, .chip, [⟨15, 8, .ro, false⟩, ⟨7, 0, .ro, true⟩]⟩
def TIME_TIO_CFG.LEVEL : FRef := ⟨TIME_TIO_CFG, 15, 8⟩
def TIME_TIO_CFG.DIR : FRef := ⟨TIME_TIO_CFG, 7, 0⟩
/-- TIME_ALM_CFG, 11_time_bases.md. -/
def TIME_ALM_CFG : Reg := ⟨0x41000, 32, 16, 1, 0, 0x0, .chip, [⟨31, 31, .rw, false⟩, ⟨30, 29, .ro, true⟩, ⟨28, 28, .rw, false⟩, ⟨27, 26, .rw, true⟩, ⟨25, 24, .rw, false⟩, ⟨23, 21, .rw, false⟩, ⟨0, 0, .ro, false⟩]⟩
def TIME_ALM_CFG.EN : FRef := ⟨TIME_ALM_CFG, 31, 31⟩
def TIME_ALM_CFG.OWNER : FRef := ⟨TIME_ALM_CFG, 30, 29⟩
def TIME_ALM_CFG.IRQ : FRef := ⟨TIME_ALM_CFG, 28, 28⟩
def TIME_ALM_CFG.TB : FRef := ⟨TIME_ALM_CFG, 27, 26⟩
def TIME_ALM_CFG.TIOACT : FRef := ⟨TIME_ALM_CFG, 25, 24⟩
def TIME_ALM_CFG.TIO : FRef := ⟨TIME_ALM_CFG, 23, 21⟩
def TIME_ALM_CFG.ARMED : FRef := ⟨TIME_ALM_CFG, 0, 0⟩
/-- TIME_ALM_SEC, 11_time_bases.md. -/
def TIME_ALM_SEC : Reg := ⟨0x41004, 32, 16, 1, 0, 0x0, .chip, [⟨31, 0, .rw, false⟩]⟩
def TIME_ALM_SEC.SEC : FRef := ⟨TIME_ALM_SEC, 31, 0⟩
/-- TIME_ALM_NS, 11_time_bases.md. -/
def TIME_ALM_NS : Reg := ⟨0x41008, 32, 16, 1, 0, 0x0, .chip, [⟨29, 0, .rw, false⟩]⟩
def TIME_ALM_NS.NS : FRef := ⟨TIME_ALM_NS, 29, 0⟩
/-- TIME_ALM_PER, 11_time_bases.md. -/
def TIME_ALM_PER : Reg := ⟨0x4100C, 32, 16, 1, 0, 0x0, .chip, [⟨31, 0, .rw, false⟩]⟩
def TIME_ALM_PER.PER : FRef := ⟨TIME_ALM_PER, 31, 0⟩
/-- TIME_ALM_STAT, 11_time_bases.md. -/
def TIME_ALM_STAT : Reg := ⟨0x41200, 1, 0, 1, 0, 0x0, .block, [⟨31, 0, .w1c, false⟩]⟩
def TIME_ALM_STAT.F : FRef := ⟨TIME_ALM_STAT, 31, 0⟩
/-- TIME_ALM_LATE, 11_time_bases.md. -/
def TIME_ALM_LATE : Reg := ⟨0x41204, 1, 0, 1, 0, 0x0, .block, [⟨31, 0, .w1c, false⟩]⟩
def TIME_ALM_LATE.L : FRef := ⟨TIME_ALM_LATE, 31, 0⟩
/-- TIME_CAP_CFG, 11_time_bases.md. -/
def TIME_CAP_CFG : Reg := ⟨0x42000, 16, 16, 1, 0, 0x0, .chip, [⟨31, 31, .rw, true⟩, ⟨30, 29, .rw, true⟩, ⟨28, 28, .rw, false⟩, ⟨27, 26, .rw, true⟩, ⟨5, 0, .rw, true⟩]⟩
def TIME_CAP_CFG.EN : FRef := ⟨TIME_CAP_CFG, 31, 31⟩
def TIME_CAP_CFG.EDGE : FRef := ⟨TIME_CAP_CFG, 30, 29⟩
def TIME_CAP_CFG.MODE : FRef := ⟨TIME_CAP_CFG, 28, 28⟩
def TIME_CAP_CFG.TB : FRef := ⟨TIME_CAP_CFG, 27, 26⟩
def TIME_CAP_CFG.SRC : FRef := ⟨TIME_CAP_CFG, 5, 0⟩
/-- TIME_CAP_T0, 11_time_bases.md. -/
def TIME_CAP_T0 : Reg := ⟨0x42004, 16, 16, 1, 0, 0x0, .block, [⟨31, 16, .ro, false⟩, ⟨15, 0, .ro, false⟩]⟩
def TIME_CAP_T0.SEC_HI : FRef := ⟨TIME_CAP_T0, 31, 16⟩
def TIME_CAP_T0.FRAC : FRef := ⟨TIME_CAP_T0, 15, 0⟩
/-- TIME_CAP_T1, 11_time_bases.md. -/
def TIME_CAP_T1 : Reg := ⟨0x42008, 16, 16, 1, 0, 0x0, .block, [⟨31, 0, .ro, false⟩]⟩
def TIME_CAP_T1.SEC_LO : FRef := ⟨TIME_CAP_T1, 31, 0⟩
/-- TIME_CAP_T2, 11_time_bases.md. -/
def TIME_CAP_T2 : Reg := ⟨0x4200C, 16, 16, 1, 0, 0x0, .block, [⟨29, 0, .ro, false⟩]⟩
def TIME_CAP_T2.NS : FRef := ⟨TIME_CAP_T2, 29, 0⟩
/-- TIME_CAP_STAT, 11_time_bases.md. -/
def TIME_CAP_STAT : Reg := ⟨0x42200, 1, 0, 1, 0, 0x0, .block, [⟨31, 16, .w1c, false⟩, ⟨15, 0, .w1c, false⟩]⟩
def TIME_CAP_STAT.OVF : FRef := ⟨TIME_CAP_STAT, 31, 16⟩
def TIME_CAP_STAT.VALID : FRef := ⟨TIME_CAP_STAT, 15, 0⟩
/-- RCU_QUAL_CFG, 12_references_cleanup.md. -/
def RCU_QUAL_CFG : Reg := ⟨0x20000, 1, 0, 1, 0, 0xC80000, .chip, [⟨31, 16, .rw, false⟩]⟩
def RCU_QUAL_CFG.HOLDOFF : FRef := ⟨RCU_QUAL_CFG, 31, 16⟩
/-- RCU_QUAL_LIM, 12_references_cleanup.md. -/
def RCU_QUAL_LIM : Reg := ⟨0x20004, 1, 0, 1, 0, 0x3E801F4, .chip, [⟨31, 16, .rw, false⟩, ⟨15, 0, .rw, false⟩]⟩
def RCU_QUAL_LIM.REJ : FRef := ⟨RCU_QUAL_LIM, 31, 16⟩
def RCU_QUAL_LIM.ACC : FRef := ⟨RCU_QUAL_LIM, 15, 0⟩
/-- RCU_QUAL_STAT, 12_references_cleanup.md. -/
def RCU_QUAL_STAT : Reg := ⟨0x20008, 1, 0, 1, 0, 0x0, .block, [⟨16, 0, .ro, false⟩]⟩
def RCU_QUAL_STAT.QUAL : FRef := ⟨RCU_QUAL_STAT, 16, 0⟩
/-- RCU_DISQ_EV, 12_references_cleanup.md. -/
def RCU_DISQ_EV : Reg := ⟨0x2000C, 1, 0, 1, 0, 0x0, .block, [⟨16, 0, .w1c, false⟩]⟩
def RCU_DISQ_EV.D : FRef := ⟨RCU_DISQ_EV, 16, 0⟩
/-- RCU_CONFLICT, 12_references_cleanup.md. -/
def RCU_CONFLICT : Reg := ⟨0x20010, 1, 0, 1, 0, 0x0, .block, [⟨31, 31, .w1c, false⟩, ⟨16, 0, .ro, false⟩]⟩
def RCU_CONFLICT.CONFEV : FRef := ⟨RCU_CONFLICT, 31, 31⟩
def RCU_CONFLICT.C : FRef := ⟨RCU_CONFLICT, 16, 0⟩
/-- RCU_CAND_CFG, 12_references_cleanup.md. -/
def RCU_CAND_CFG : Reg := ⟨0x20100, 17, 32, 1, 0, 0x10000000, .chip, [⟨31, 31, .ro, true⟩, ⟨30, 30, .ro, true⟩, ⟨29, 28, .rw, false⟩]⟩
def RCU_CAND_CFG.EN : FRef := ⟨RCU_CAND_CFG, 31, 31⟩
def RCU_CAND_CFG.EDGE : FRef := ⟨RCU_CAND_CFG, 30, 30⟩
def RCU_CAND_CFG.TBQ : FRef := ⟨RCU_CAND_CFG, 29, 28⟩
/-- RCU_CAND_FNOM, 12_references_cleanup.md. -/
def RCU_CAND_FNOM : Reg := ⟨0x20104, 17, 32, 1, 0, 0x0, .chip, [⟨31, 0, .ro, true⟩]⟩
def RCU_CAND_FNOM.FNOM : FRef := ⟨RCU_CAND_FNOM, 31, 0⟩
/-- RCU_CAND_PHOFS, 12_references_cleanup.md. -/
def RCU_CAND_PHOFS : Reg := ⟨0x20108, 17, 32, 1, 0, 0x0, .chip, [⟨15, 0, .rw, true⟩]⟩
def RCU_CAND_PHOFS.PHOFS : FRef := ⟨RCU_CAND_PHOFS, 15, 0⟩
/-- RCU_CAND_STAT, 12_references_cleanup.md. -/
def RCU_CAND_STAT : Reg := ⟨0x2010C, 17, 32, 1, 0, 0x0, .block, [⟨31, 31, .w1c, false⟩, ⟨30, 30, .w1c, false⟩, ⟨1, 0, .ro, false⟩]⟩
def RCU_CAND_STAT.ACTF : FRef := ⟨RCU_CAND_STAT, 31, 31⟩
def RCU_CAND_STAT.FRQF : FRef := ⟨RCU_CAND_STAT, 30, 30⟩
def RCU_CAND_STAT.STATE : FRef := ⟨RCU_CAND_STAT, 1, 0⟩
/-- RCU_CAND_OFS, 12_references_cleanup.md. -/
def RCU_CAND_OFS : Reg := ⟨0x20110, 17, 32, 1, 0, 0x0, .block, [⟨31, 0, .ro, false⟩]⟩
def RCU_CAND_OFS.OFS : FRef := ⟨RCU_CAND_OFS, 31, 0⟩
/-- RCU_LOOP_CFG, 12_references_cleanup.md. -/
def RCU_LOOP_CFG : Reg := ⟨0x21000, 4, 256, 1, 0, 0x3E8, .chip, [⟨31, 31, .ro, true⟩, ⟨30, 30, .ro, true⟩, ⟨29, 29, .rw, true⟩, ⟨15, 0, .rw, false⟩]⟩
def RCU_LOOP_CFG.EN : FRef := ⟨RCU_LOOP_CFG, 31, 31⟩
def RCU_LOOP_CFG.HOPOK : FRef := ⟨RCU_LOOP_CFG, 30, 30⟩
def RCU_LOOP_CFG.PBO : FRef := ⟨RCU_LOOP_CFG, 29, 29⟩
def RCU_LOOP_CFG.SLOPE : FRef := ⟨RCU_LOOP_CFG, 15, 0⟩
/-- RCU_LOOP_FOUT, 12_references_cleanup.md. -/
def RCU_LOOP_FOUT : Reg := ⟨0x21004, 4, 256, 1, 0, 0x0, .chip, [⟨31, 0, .rw, true⟩]⟩
def RCU_LOOP_FOUT.FOUT : FRef := ⟨RCU_LOOP_FOUT, 31, 0⟩
/-- RCU_LOOP_CTRL, 12_references_cleanup.md. -/
def RCU_LOOP_CTRL : Reg := ⟨0x21008, 4, 256, 1, 0, 0x0, .chip, [⟨31, 24, .rw, true⟩, ⟨23, 23, .rw, false⟩, ⟨22, 18, .rw, false⟩, ⟨0, 0, .wo, false⟩]⟩
def RCU_LOOP_CTRL.MDIV : FRef := ⟨RCU_LOOP_CTRL, 31, 24⟩
def RCU_LOOP_CTRL.FORCE : FRef := ⟨RCU_LOOP_CTRL, 23, 23⟩
def RCU_LOOP_CTRL.FSEL : FRef := ⟨RCU_LOOP_CTRL, 22, 18⟩
def RCU_LOOP_CTRL.RETUNE : FRef := ⟨RCU_LOOP_CTRL, 0, 0⟩
/-- RCU_LOOP_RANK, 12_references_cleanup.md. -/
def RCU_LOOP_RANK : Reg := ⟨0x2100C, 4, 256, 3, 4, 0x0, .chip, [⟨31, 0, .rw, true⟩]⟩
def RCU_LOOP_RANK.R : FRef := ⟨RCU_LOOP_RANK, 31, 0⟩
/-- RCU_LOOP_BW, 12_references_cleanup.md. -/
def RCU_LOOP_BW : Reg := ⟨0x21018, 4, 256, 1, 0, 0x3E80801, .chip, [⟨31, 16, .rw, false⟩, ⟨13, 8, .rw, false⟩, ⟨5, 4, .rw, false⟩, ⟨1, 0, .rw, false⟩]⟩
def RCU_LOOP_BW.TRK : FRef := ⟨RCU_LOOP_BW, 31, 16⟩
def RCU_LOOP_BW.DWELL : FRef := ⟨RCU_LOOP_BW, 13, 8⟩
def RCU_LOOP_BW.STEPF : FRef := ⟨RCU_LOOP_BW, 5, 4⟩
def RCU_LOOP_BW.HAVG : FRef := ⟨RCU_LOOP_BW, 1, 0⟩
/-- RCU_LOOP_STAT, 12_references_cleanup.md. -/
def RCU_LOOP_STAT : Reg := ⟨0x21020, 4, 256, 1, 0, 0x1F00, .block, [⟨31, 31, .ro, false⟩, ⟨30, 30, .ro, false⟩, ⟨29, 29, .ro, false⟩, ⟨28, 28, .ro, false⟩, ⟨27, 27, .ro, false⟩, ⟨26, 26, .w1c, false⟩, ⟨25, 25, .w1c, false⟩, ⟨24, 24, .w1c, false⟩, ⟨23, 23, .w1c, false⟩, ⟨22, 22, .w1c, false⟩, ⟨21, 16, .ro, false⟩, ⟨12, 8, .ro, false⟩, ⟨3, 0, .ro, false⟩]⟩
def RCU_LOOP_STAT.LOCK : FRef := ⟨RCU_LOOP_STAT, 31, 31⟩
def RCU_LOOP_STAT.PDET : FRef := ⟨RCU_LOOP_STAT, 30, 30⟩
def RCU_LOOP_STAT.VALID : FRef := ⟨RCU_LOOP_STAT, 29, 29⟩
def RCU_LOOP_STAT.HVALID : FRef := ⟨RCU_LOOP_STAT, 28, 28⟩
def RCU_LOOP_STAT.XOLOSS : FRef := ⟨RCU_LOOP_STAT, 27, 27⟩
def RCU_LOOP_STAT.HOLDEV : FRef := ⟨RCU_LOOP_STAT, 26, 26⟩
def RCU_LOOP_STAT.SWEV : FRef := ⟨RCU_LOOP_STAT, 25, 25⟩
def RCU_LOOP_STAT.RETGT : FRef := ⟨RCU_LOOP_STAT, 24, 24⟩
def RCU_LOOP_STAT.HOPFAIL : FRef := ⟨RCU_LOOP_STAT, 23, 23⟩
def RCU_LOOP_STAT.BADTGT : FRef := ⟨RCU_LOOP_STAT, 22, 22⟩
def RCU_LOOP_STAT.BAND : FRef := ⟨RCU_LOOP_STAT, 21, 16⟩
def RCU_LOOP_STAT.SEL : FRef := ⟨RCU_LOOP_STAT, 12, 8⟩
def RCU_LOOP_STAT.STATE : FRef := ⟨RCU_LOOP_STAT, 3, 0⟩
/-- RCU_LOOP_PHASE, 12_references_cleanup.md. -/
def RCU_LOOP_PHASE : Reg := ⟨0x21024, 4, 256, 1, 0, 0x0, .block, [⟨31, 0, .ro, false⟩]⟩
def RCU_LOOP_PHASE.O : FRef := ⟨RCU_LOOP_PHASE, 31, 0⟩
/-- RCU_DITHER, 12_references_cleanup.md. -/
def RCU_DITHER : Reg := ⟨0x21028, 4, 256, 1, 0, 0x80000000, .chip, [⟨31, 31, .rw, false⟩, ⟨22, 0, .rw, true⟩]⟩
def RCU_DITHER.EN : FRef := ⟨RCU_DITHER, 31, 31⟩
def RCU_DITHER.SEED : FRef := ⟨RCU_DITHER, 22, 0⟩
/-- RCU_BAND_LO, 12_references_cleanup.md. -/
def RCU_BAND_LO : Reg := ⟨0x22000, 4, 512, 64, 8, 0x0, .chip, [⟨31, 31, .rw, true⟩, ⟨29, 20, .rw, true⟩, ⟨19, 0, .rw, true⟩]⟩
def RCU_BAND_LO.VALID : FRef := ⟨RCU_BAND_LO, 31, 31⟩
def RCU_BAND_LO.CODE : FRef := ⟨RCU_BAND_LO, 29, 20⟩
def RCU_BAND_LO.FMIN : FRef := ⟨RCU_BAND_LO, 19, 0⟩
/-- RCU_BAND_HI, 12_references_cleanup.md. -/
def RCU_BAND_HI : Reg := ⟨0x22004, 4, 512, 64, 8, 0x0, .chip, [⟨19, 0, .rw, true⟩]⟩
def RCU_BAND_HI.FMAX : FRef := ⟨RCU_BAND_HI, 19, 0⟩
/-- RCU_QS_FOUT, 12_references_cleanup.md. -/
def RCU_QS_FOUT : Reg := ⟨0x23000, 2, 256, 8, 16, 0x0, .chip, [⟨31, 0, .rw, false⟩]⟩
def RCU_QS_FOUT.FOUT : FRef := ⟨RCU_QS_FOUT, 31, 0⟩
/-- RCU_QS_CFG, 12_references_cleanup.md. -/
def RCU_QS_CFG : Reg := ⟨0x23004, 2, 256, 8, 16, 0x0, .chip, [⟨31, 31, .rw, false⟩, ⟨23, 16, .rw, false⟩, ⟨5, 0, .rw, false⟩]⟩
def RCU_QS_CFG.VALID : FRef := ⟨RCU_QS_CFG, 31, 31⟩
def RCU_QS_CFG.MDIV : FRef := ⟨RCU_QS_CFG, 23, 16⟩
def RCU_QS_CFG.BAND : FRef := ⟨RCU_QS_CFG, 5, 0⟩
/-- RCU_QS_FINE, 12_references_cleanup.md. -/
def RCU_QS_FINE : Reg := ⟨0x23008, 2, 256, 8, 16, 0x0, .chip, [⟨23, 0, .rw, false⟩]⟩
def RCU_QS_FINE.FINE : FRef := ⟨RCU_QS_FINE, 23, 0⟩
/-- RCU_QS_HOP, 12_references_cleanup.md. -/
def RCU_QS_HOP : Reg := ⟨0x23200, 2, 4, 1, 0, 0x0, .chip, [⟨10, 8, .ro, false⟩, ⟨3, 3, .wo, false⟩, ⟨2, 0, .rw, false⟩]⟩
def RCU_QS_HOP.NEXT : FRef := ⟨RCU_QS_HOP, 10, 8⟩
def RCU_QS_HOP.GO : FRef := ⟨RCU_QS_HOP, 3, 3⟩
def RCU_QS_HOP.ENTRY : FRef := ⟨RCU_QS_HOP, 2, 0⟩
/-- ALN_CFG, 13_alignment_outputs.md. -/
def ALN_CFG : Reg := ⟨0x30000, 1, 0, 1, 0, 0x3E8, .chip, [⟨15, 0, .rw, false⟩]⟩
def ALN_CFG.LIMIT : FRef := ⟨ALN_CFG, 15, 0⟩
/-- ALN_DLL_CTRL, 13_alignment_outputs.md. -/
def ALN_DLL_CTRL : Reg := ⟨0x30100, 28, 16, 1, 0, 0x2, .chip, [⟨1, 1, .rw, false⟩, ⟨0, 0, .wo, false⟩]⟩
def ALN_DLL_CTRL.TRACK : FRef := ⟨ALN_DLL_CTRL, 1, 1⟩
def ALN_DLL_CTRL.REALIGN : FRef := ⟨ALN_DLL_CTRL, 0, 0⟩
/-- ALN_DLL_STAT, 13_alignment_outputs.md. -/
def ALN_DLL_STAT : Reg := ⟨0x30104, 28, 16, 1, 0, 0x0, .block, [⟨31, 31, .w1c, false⟩, ⟨30, 30, .w1c, false⟩, ⟨29, 29, .ro, false⟩, ⟨26, 24, .ro, false⟩, ⟨9, 0, .ro, false⟩]⟩
def ALN_DLL_STAT.UNLKEV : FRef := ⟨ALN_DLL_STAT, 31, 31⟩
def ALN_DLL_STAT.ERREV : FRef := ⟨ALN_DLL_STAT, 30, 30⟩
def ALN_DLL_STAT.ALIGNED : FRef := ⟨ALN_DLL_STAT, 29, 29⟩
def ALN_DLL_STAT.STATE : FRef := ⟨ALN_DLL_STAT, 26, 24⟩
def ALN_DLL_STAT.TAP : FRef := ⟨ALN_DLL_STAT, 9, 0⟩
/-- ALN_DLL_ERR, 13_alignment_outputs.md. -/
def ALN_DLL_ERR : Reg := ⟨0x30108, 28, 16, 1, 0, 0x0, .block, [⟨15, 0, .ro, false⟩]⟩
def ALN_DLL_ERR.ERR : FRef := ⟨ALN_DLL_ERR, 15, 0⟩
/-- ALN_DLL_TSZ, 13_alignment_outputs.md. -/
def ALN_DLL_TSZ : Reg := ⟨0x3010C, 28, 16, 1, 0, 0x0, .block, [⟨15, 0, .ro, false⟩]⟩
def ALN_DLL_TSZ.TSZ : FRef := ⟨ALN_DLL_TSZ, 15, 0⟩
/-- ALN_OUT_CFG, 13_alignment_outputs.md. -/
def ALN_OUT_CFG : Reg := ⟨0x30400, 8, 16, 1, 0, 0x200000, .chip, [⟨31, 31, .ro, true⟩, ⟨30, 29, .ro, true⟩, ⟨28, 27, .ro, true⟩, ⟨26, 25, .ro, true⟩, ⟨24, 24, .ro, true⟩, ⟨23, 23, .rw, false⟩, ⟨22, 21, .rw, false⟩, ⟨11, 0, .ro, true⟩]⟩
def ALN_OUT_CFG.EN : FRef := ⟨ALN_OUT_CFG, 31, 31⟩
def ALN_OUT_CFG.FMT : FRef := ⟨ALN_OUT_CFG, 30, 29⟩
def ALN_OUT_CFG.LOOP : FRef := ⟨ALN_OUT_CFG, 28, 27⟩
def ALN_OUT_CFG.TB : FRef := ⟨ALN_OUT_CFG, 26, 25⟩
def ALN_OUT_CFG.ALIGN : FRef := ⟨ALN_OUT_CFG, 24, 24⟩
def ALN_OUT_CFG.HGATE : FRef := ⟨ALN_OUT_CFG, 23, 23⟩
def ALN_OUT_CFG.DRV : FRef := ⟨ALN_OUT_CFG, 22, 21⟩
def ALN_OUT_CFG.DIVM1 : FRef := ⟨ALN_OUT_CFG, 11, 0⟩
/-- ALN_OUT_OFS, 13_alignment_outputs.md. -/
def ALN_OUT_OFS : Reg := ⟨0x30404, 8, 16, 1, 0, 0x0, .chip, [⟨31, 0, .rw, true⟩]⟩
def ALN_OUT_OFS.OFS : FRef := ⟨ALN_OUT_OFS, 31, 0⟩
/-- ALN_MCLK_FMT, 13_alignment_outputs.md. -/
def ALN_MCLK_FMT : Reg := ⟨0x30500, 4, 4, 1, 0, 0x4, .chip, [⟨3, 2, .rw, false⟩, ⟨0, 0, .ro, true⟩]⟩
def ALN_MCLK_FMT.DRV : FRef := ⟨ALN_MCLK_FMT, 3, 2⟩
def ALN_MCLK_FMT.FMT : FRef := ⟨ALN_MCLK_FMT, 0, 0⟩
/-- PAIR_CFG, 14_pair_redundancy.md. -/
def PAIR_CFG : Reg := ⟨0xE0000, 1, 0, 1, 0, 0x220A01F4, .chip, [⟨31, 31, .ro, true⟩, ⟨30, 30, .ro, true⟩, ⟨29, 29, .rw, false⟩, ⟨25, 24, .rw, false⟩, ⟨23, 16, .rw, false⟩, ⟨15, 0, .rw, false⟩]⟩
def PAIR_CFG.EN : FRef := ⟨PAIR_CFG, 31, 31⟩
def PAIR_CFG.PREF : FRef := ⟨PAIR_CFG, 30, 30⟩
def PAIR_CFG.TAKE_UNHEALTHY : FRef := ⟨PAIR_CFG, 29, 29⟩
def PAIR_CFG.MISS : FRef := ⟨PAIR_CFG, 25, 24⟩
def PAIR_CFG.HBWIN : FRef := ⟨PAIR_CFG, 23, 16⟩
def PAIR_CFG.STARTUP : FRef := ⟨PAIR_CFG, 15, 0⟩
/-- PAIR_CTRL, 14_pair_redundancy.md. -/
def PAIR_CTRL : Reg := ⟨0xE0004, 1, 0, 1, 0, 0x0, .chip, [⟨4, 4, .wo, false⟩, ⟨3, 3, .wo, false⟩, ⟨2, 2, .wo, false⟩, ⟨1, 1, .wo, false⟩, ⟨0, 0, .wo, false⟩]⟩
def PAIR_CTRL.YIELD : FRef := ⟨PAIR_CTRL, 4, 4⟩
def PAIR_CTRL.RESYNC : FRef := ⟨PAIR_CTRL, 3, 3⟩
def PAIR_CTRL.CLEAR : FRef := ⟨PAIR_CTRL, 2, 2⟩
def PAIR_CTRL.FAIL : FRef := ⟨PAIR_CTRL, 1, 1⟩
def PAIR_CTRL.HANDOVER : FRef := ⟨PAIR_CTRL, 0, 0⟩
/-- PAIR_HO_BLK, 14_pair_redundancy.md. -/
def PAIR_HO_BLK : Reg := ⟨0xE0008, 1, 0, 1, 0, 0x0, .chip, [⟨31, 0, .rw, false⟩]⟩
def PAIR_HO_BLK.BLOCK : FRef := ⟨PAIR_HO_BLK, 31, 0⟩
/-- PAIR_RESYNC, 14_pair_redundancy.md. -/
def PAIR_RESYNC : Reg := ⟨0xE000C, 1, 0, 1, 0, 0x0, .chip, [⟨31, 0, .rw, false⟩]⟩
def PAIR_RESYNC.BLOCK : FRef := ⟨PAIR_RESYNC, 31, 0⟩
/-- PAIR_STAT, 14_pair_redundancy.md. -/
def PAIR_STAT : Reg := ⟨0xE0010, 1, 0, 1, 0, 0x0, .chip, [⟨12, 12, .ro, false⟩, ⟨11, 11, .ro, false⟩, ⟨10, 10, .ro, false⟩, ⟨9, 9, .ro, false⟩, ⟨8, 8, .ro, false⟩, ⟨7, 7, .ro, false⟩, ⟨6, 6, .ro, false⟩, ⟨5, 5, .ro, false⟩, ⟨4, 4, .ro, false⟩, ⟨3, 0, .ro, false⟩]⟩
def PAIR_STAT.OWNERR : FRef := ⟨PAIR_STAT, 12, 12⟩
def PAIR_STAT.DIVERGED : FRef := ⟨PAIR_STAT, 11, 11⟩
def PAIR_STAT.UNMIRRORED : FRef := ⟨PAIR_STAT, 10, 10⟩
def PAIR_STAT.IMGMIS : FRef := ⟨PAIR_STAT, 9, 9⟩
def PAIR_STAT.BLKMIS : FRef := ⟨PAIR_STAT, 8, 8⟩
def PAIR_STAT.READY : FRef := ⟨PAIR_STAT, 7, 7⟩
def PAIR_STAT.HBLOST : FRef := ⟨PAIR_STAT, 6, 6⟩
def PAIR_STAT.LIVELOST : FRef := ⟨PAIR_STAT, 5, 5⟩
def PAIR_STAT.OWNIN : FRef := ⟨PAIR_STAT, 4, 4⟩
def PAIR_STAT.ROLE : FRef := ⟨PAIR_STAT, 3, 0⟩
/-- PAIR_EV, 14_pair_redundancy.md. -/
def PAIR_EV : Reg := ⟨0xE0014, 1, 0, 1, 0, 0xE0, .block, [⟨7, 5, .ro, false⟩, ⟨4, 4, .w1c, false⟩, ⟨3, 3, .w1c, false⟩, ⟨2, 2, .w1c, false⟩, ⟨1, 1, .w1c, false⟩, ⟨0, 0, .w1c, false⟩]⟩
def PAIR_EV.PROLE : FRef := ⟨PAIR_EV, 7, 5⟩
def PAIR_EV.TAKEEV : FRef := ⟨PAIR_EV, 4, 4⟩
def PAIR_EV.SPLITEV : FRef := ⟨PAIR_EV, 3, 3⟩
def PAIR_EV.HOREF : FRef := ⟨PAIR_EV, 2, 2⟩
def PAIR_EV.WREJ : FRef := ⟨PAIR_EV, 1, 1⟩
def PAIR_EV.NOTAKE : FRef := ⟨PAIR_EV, 0, 0⟩
/-- PAIR_PARTNER, 14_pair_redundancy.md. -/
def PAIR_PARTNER : Reg := ⟨0xE0018, 1, 0, 1, 0, 0x0, .block, [⟨15, 0, .ro, false⟩]⟩
def PAIR_PARTNER.NODE : FRef := ⟨PAIR_PARTNER, 15, 0⟩
/-- PAIR_MISSCNT, 14_pair_redundancy.md. -/
def PAIR_MISSCNT : Reg := ⟨0xE001C, 1, 0, 1, 0, 0x0, .block, [⟨31, 16, .rc, false⟩, ⟨15, 0, .rc, false⟩]⟩
def PAIR_MISSCNT.HB : FRef := ⟨PAIR_MISSCNT, 31, 16⟩
def PAIR_MISSCNT.LIVE : FRef := ⟨PAIR_MISSCNT, 15, 0⟩
/-- PAIR_SKEW, 14_pair_redundancy.md. -/
def PAIR_SKEW : Reg := ⟨0xE0020, 1, 0, 1, 0, 0x0, .block, [⟨31, 0, .ro, false⟩]⟩
def PAIR_SKEW.SKEW : FRef := ⟨PAIR_SKEW, 31, 0⟩
/-- PAIR_TAKE_BLK, 14_pair_redundancy.md. -/
def PAIR_TAKE_BLK : Reg := ⟨0xE0024, 1, 0, 1, 0, 0x0, .block, [⟨31, 0, .ro, false⟩]⟩
def PAIR_TAKE_BLK.BLK : FRef := ⟨PAIR_TAKE_BLK, 31, 0⟩
/-- PAIR_CMP_CNT, 14_pair_redundancy.md. -/
def PAIR_CMP_CNT : Reg := ⟨0xE0030, 1, 0, 1, 0, 0x0, .block, [⟨31, 16, .rc, false⟩, ⟨15, 8, .rc, false⟩, ⟨7, 0, .rc, false⟩]⟩
def PAIR_CMP_CNT.CMPD : FRef := ⟨PAIR_CMP_CNT, 31, 16⟩
def PAIR_CMP_CNT.SKIP : FRef := ⟨PAIR_CMP_CNT, 15, 8⟩
def PAIR_CMP_CNT.MIS : FRef := ⟨PAIR_CMP_CNT, 7, 0⟩
/-- PAIR_CMP_MIS0, 14_pair_redundancy.md. -/
def PAIR_CMP_MIS0 : Reg := ⟨0xE0034, 1, 0, 1, 0, 0x0, .block, [⟨31, 0, .w1c, false⟩]⟩
def PAIR_CMP_MIS0.M : FRef := ⟨PAIR_CMP_MIS0, 31, 0⟩
/-- PAIR_CMP_MIS1, 14_pair_redundancy.md. -/
def PAIR_CMP_MIS1 : Reg := ⟨0xE0038, 1, 0, 1, 0, 0x0, .block, [⟨31, 0, .w1c, false⟩]⟩
def PAIR_CMP_MIS1.M : FRef := ⟨PAIR_CMP_MIS1, 31, 0⟩
/-- PAIR_CMP_BLK, 14_pair_redundancy.md. -/
def PAIR_CMP_BLK : Reg := ⟨0xE003C, 1, 0, 1, 0, 0x0, .block, [⟨31, 0, .ro, false⟩]⟩
def PAIR_CMP_BLK.BLK : FRef := ⟨PAIR_CMP_BLK, 31, 0⟩
/-- PAIR_PL_REQ, 14_pair_redundancy.md. -/
def PAIR_PL_REQ : Reg := ⟨0xE0040, 1, 0, 1, 0, 0x1FF, .chip, [⟨8, 0, .rw, false⟩]⟩
def PAIR_PL_REQ.REQ : FRef := ⟨PAIR_PL_REQ, 8, 0⟩
/-- PAIR_PL_STAT, 14_pair_redundancy.md. -/
def PAIR_PL_STAT : Reg := ⟨0xE0044, 1, 0, 1, 0, 0x0, .block, [⟨24, 16, .ro, false⟩, ⟨8, 0, .ro, false⟩]⟩
def PAIR_PL_STAT.FAIL : FRef := ⟨PAIR_PL_STAT, 24, 16⟩
def PAIR_PL_STAT.PASS : FRef := ⟨PAIR_PL_STAT, 8, 0⟩
/-- PAIR_HEALTH_CFG, 14_pair_redundancy.md. -/
def PAIR_HEALTH_CFG : Reg := ⟨0xE0048, 1, 0, 1, 0, 0x4000000, .chip, [⟨31, 16, .rw, false⟩, ⟨1, 0, .rw, false⟩]⟩
def PAIR_HEALTH_CFG.INT : FRef := ⟨PAIR_HEALTH_CFG, 31, 16⟩
def PAIR_HEALTH_CFG.RING : FRef := ⟨PAIR_HEALTH_CFG, 1, 0⟩
/-- PAIR_PSM_TRIM, 14_pair_redundancy.md. -/
def PAIR_PSM_TRIM : Reg := ⟨0xE0080, 4, 4, 1, 0, 0x0, .chip, [⟨4, 0, .rw, true⟩]⟩
def PAIR_PSM_TRIM.TRIM : FRef := ⟨PAIR_PSM_TRIM, 4, 0⟩
/-- FLT_CFG, 15_faults.md. -/
def FLT_CFG : Reg := ⟨0xF0000, 1, 0, 1, 0, 0xA0000, .chip, [⟨31, 16, .rw, false⟩, ⟨5, 4, .rw, false⟩, ⟨1, 0, .rw, false⟩]⟩
def FLT_CFG.SHADOW : FRef := ⟨FLT_CFG, 31, 16⟩
def FLT_CFG.TB : FRef := ⟨FLT_CFG, 5, 4⟩
def FLT_CFG.EVR : FRef := ⟨FLT_CFG, 1, 0⟩
/-- FLT_STAT, 15_faults.md. -/
def FLT_STAT : Reg := ⟨0xF0004, 1, 0, 1, 0, 0x0, .chip, [⟨31, 31, .w1c, false⟩, ⟨30, 30, .w1c, false⟩, ⟨29, 29, .ro, false⟩, ⟨26, 19, .ro, false⟩, ⟨18, 0, .ro, false⟩]⟩
def FLT_STAT.EVDROP : FRef := ⟨FLT_STAT, 31, 31⟩
def FLT_STAT.INJREF : FRef := ⟨FLT_STAT, 30, 30⟩
def FLT_STAT.FTM : FRef := ⟨FLT_STAT, 29, 29⟩
def FLT_STAT.NSEV : FRef := ⟨FLT_STAT, 26, 19⟩
def FLT_STAT.SHADOW : FRef := ⟨FLT_STAT, 18, 0⟩
/-- FLT_SEV, 15_faults.md. -/
def FLT_SEV : Reg := ⟨0xF0100, 6, 4, 1, 0, 0x0, .chip, [⟨31, 0, .w1c, false⟩]⟩
def FLT_SEV.S : FRef := ⟨FLT_SEV, 31, 0⟩
/-- FLT_ERRH, 15_faults.md. -/
def FLT_ERRH : Reg := ⟨0xF0120, 6, 4, 1, 0, 0x0, .chip, [⟨31, 0, .w1c, false⟩]⟩
def FLT_ERRH.H : FRef := ⟨FLT_ERRH, 31, 0⟩
/-- FLT_FEC_INFO, 15_faults.md. -/
def FLT_FEC_INFO : Reg := ⟨0xF0200, 1, 0, 1, 0, 0x0, .chip, [⟨31, 31, .w1c, false⟩, ⟨30, 30, .w1c, false⟩, ⟨25, 24, .ro, false⟩, ⟨23, 16, .ro, false⟩, ⟨7, 0, .ro, false⟩]⟩
def FLT_FEC_INFO.VALID : FRef := ⟨FLT_FEC_INFO, 31, 31⟩
def FLT_FEC_INFO.OVF : FRef := ⟨FLT_FEC_INFO, 30, 30⟩
def FLT_FEC_INFO.TYPE : FRef := ⟨FLT_FEC_INFO, 25, 24⟩
def FLT_FEC_INFO.MASTER : FRef := ⟨FLT_FEC_INFO, 23, 16⟩
def FLT_FEC_INFO.SRC : FRef := ⟨FLT_FEC_INFO, 7, 0⟩
/-- FLT_FEC_ADDR, 15_faults.md. -/
def FLT_FEC_ADDR : Reg := ⟨0xF0204, 1, 0, 1, 0, 0x0, .chip, [⟨31, 0, .ro, false⟩]⟩
def FLT_FEC_ADDR.ADDR : FRef := ⟨FLT_FEC_ADDR, 31, 0⟩
/-- FLT_FEC_SEC, 15_faults.md. -/
def FLT_FEC_SEC : Reg := ⟨0xF0208, 1, 0, 1, 0, 0x0, .chip, [⟨31, 0, .ro, false⟩]⟩
def FLT_FEC_SEC.SEC : FRef := ⟨FLT_FEC_SEC, 31, 0⟩
/-- FLT_FEC_NS, 15_faults.md. -/
def FLT_FEC_NS : Reg := ⟨0xF020C, 1, 0, 1, 0, 0x0, .chip, [⟨29, 0, .ro, false⟩]⟩
def FLT_FEC_NS.NS : FRef := ⟨FLT_FEC_NS, 29, 0⟩
/-- FLT_FEC_BLK, 15_faults.md. -/
def FLT_FEC_BLK : Reg := ⟨0xF0210, 1, 0, 1, 0, 0x0, .chip, [⟨31, 0, .ro, false⟩]⟩
def FLT_FEC_BLK.BLK : FRef := ⟨FLT_FEC_BLK, 31, 0⟩
/-- FLT_GRAVE, 15_faults.md. -/
def FLT_GRAVE : Reg := ⟨0xF0300, 1, 0, 1, 0, 0x0, .por, [⟨31, 31, .ro, false⟩, ⟨15, 8, .ro, false⟩, ⟨7, 0, .ro, false⟩]⟩
def FLT_GRAVE.ACTIVE : FRef := ⟨FLT_GRAVE, 31, 31⟩
def FLT_GRAVE.COUNT : FRef := ⟨FLT_GRAVE, 15, 8⟩
def FLT_GRAVE.SRC : FRef := ⟨FLT_GRAVE, 7, 0⟩
/-- FLT_RST_CAUSE, 15_faults.md. -/
def FLT_RST_CAUSE : Reg := ⟨0xF0304, 1, 0, 1, 0, 0x0, .por, [⟨31, 31, .w1c, false⟩, ⟨9, 8, .ro, false⟩, ⟨7, 0, .ro, false⟩]⟩
def FLT_RST_CAUSE.VALID : FRef := ⟨FLT_RST_CAUSE, 31, 31⟩
def FLT_RST_CAUSE.KIND : FRef := ⟨FLT_RST_CAUSE, 9, 8⟩
def FLT_RST_CAUSE.SRC : FRef := ⟨FLT_RST_CAUSE, 7, 0⟩
/-- FLT_GLOG_CTRL, 15_faults.md. -/
def FLT_GLOG_CTRL : Reg := ⟨0xF0310, 1, 0, 1, 0, 0x0, .chip, [⟨31, 31, .wo, false⟩, ⟨7, 0, .rw, false⟩]⟩
def FLT_GLOG_CTRL.ERASE : FRef := ⟨FLT_GLOG_CTRL, 31, 31⟩
def FLT_GLOG_CTRL.SEL : FRef := ⟨FLT_GLOG_CTRL, 7, 0⟩
/-- FLT_GLOG_HEAD, 15_faults.md. -/
def FLT_GLOG_HEAD : Reg := ⟨0xF0314, 1, 0, 1, 0, 0x0, .por, [⟨31, 31, .ro, false⟩, ⟨23, 16, .ro, false⟩, ⟨15, 0, .ro, false⟩]⟩
def FLT_GLOG_HEAD.WRAP : FRef := ⟨FLT_GLOG_HEAD, 31, 31⟩
def FLT_GLOG_HEAD.NEXT : FRef := ⟨FLT_GLOG_HEAD, 23, 16⟩
def FLT_GLOG_HEAD.PORCNT : FRef := ⟨FLT_GLOG_HEAD, 15, 0⟩
/-- FLT_GLOG_DATA, 15_faults.md. -/
def FLT_GLOG_DATA : Reg := ⟨0xF0320, 8, 4, 1, 0, 0x0, .chip, [⟨31, 0, .ro, false⟩]⟩
def FLT_GLOG_DATA.D : FRef := ⟨FLT_GLOG_DATA, 31, 0⟩
/-- FLT_INJ, 15_faults.md. -/
def FLT_INJ : Reg := ⟨0xF0400, 1, 0, 1, 0, 0x100, .chip, [⟨31, 31, .wo, false⟩, ⟨15, 8, .rw, false⟩, ⟨7, 0, .rw, false⟩]⟩
def FLT_INJ.GO : FRef := ⟨FLT_INJ, 31, 31⟩
def FLT_INJ.COUNT : FRef := ⟨FLT_INJ, 15, 8⟩
def FLT_INJ.SRC : FRef := ⟨FLT_INJ, 7, 0⟩
/-- FLT_SRC_CFG, 15_faults.md. -/
def FLT_SRC_CFG : Reg := ⟨0xF1000, 192, 16, 1, 0, 0x0, .chip, [⟨31, 30, .ro, true⟩, ⟨29, 25, .ro, true⟩, ⟨24, 20, .ro, true⟩, ⟨19, 18, .ro, true⟩, ⟨17, 17, .rw, true⟩, ⟨14, 10, .ro, true⟩, ⟨9, 0, .rw, true⟩]⟩
def FLT_SRC_CFG.CLASS : FRef := ⟨FLT_SRC_CFG, 31, 30⟩
def FLT_SRC_CFG.EVR : FRef := ⟨FLT_SRC_CFG, 29, 25⟩
def FLT_SRC_CFG.SVR : FRef := ⟨FLT_SRC_CFG, 24, 20⟩
def FLT_SRC_CFG.ESCR : FRef := ⟨FLT_SRC_CFG, 19, 18⟩
def FLT_SRC_CFG.FEC : FRef := ⟨FLT_SRC_CFG, 17, 17⟩
def FLT_SRC_CFG.RBLK : FRef := ⟨FLT_SRC_CFG, 14, 10⟩
def FLT_SRC_CFG.ESC : FRef := ⟨FLT_SRC_CFG, 9, 0⟩
/-- FLT_SRC_THR, 15_faults.md. -/
def FLT_SRC_THR : Reg := ⟨0xF1004, 192, 16, 1, 0, 0x0, .chip, [⟨31, 24, .rw, true⟩, ⟨15, 0, .rw, true⟩]⟩
def FLT_SRC_THR.N : FRef := ⟨FLT_SRC_THR, 31, 24⟩
def FLT_SRC_THR.WIN : FRef := ⟨FLT_SRC_THR, 15, 0⟩
/-- FLT_SRC_STAT, 15_faults.md. -/
def FLT_SRC_STAT : Reg := ⟨0xF1008, 192, 16, 1, 0, 0x0, .chip, [⟨31, 31, .w1c, false⟩, ⟨17, 16, .ro, false⟩, ⟨15, 8, .ro, false⟩, ⟨7, 0, .ro, false⟩]⟩
def FLT_SRC_STAT.ESCEV : FRef := ⟨FLT_SRC_STAT, 31, 31⟩
def FLT_SRC_STAT.STATE : FRef := ⟨FLT_SRC_STAT, 17, 16⟩
def FLT_SRC_STAT.INWIN : FRef := ⟨FLT_SRC_STAT, 15, 8⟩
def FLT_SRC_STAT.INJWIN : FRef := ⟨FLT_SRC_STAT, 7, 0⟩
/-- FLT_SRC_CNT, 15_faults.md. -/
def FLT_SRC_CNT : Reg := ⟨0xF100C, 192, 16, 1, 0, 0x0, .chip, [⟨31, 16, .rc, false⟩, ⟨15, 8, .rc, false⟩, ⟨7, 0, .rc, false⟩]⟩
def FLT_SRC_CNT.EVENTS : FRef := ⟨FLT_SRC_CNT, 31, 16⟩
def FLT_SRC_CNT.CONSEQ : FRef := ⟨FLT_SRC_CNT, 15, 8⟩
def FLT_SRC_CNT.INJ : FRef := ⟨FLT_SRC_CNT, 7, 0⟩
/-- FLT_SHADOW_SET, 15_faults.md. -/
def FLT_SHADOW_SET : Reg := ⟨0xF2000, 19, 32, 6, 4, 0x0, .chip, [⟨31, 0, .ro, true⟩]⟩
def FLT_SHADOW_SET.M : FRef := ⟨FLT_SHADOW_SET, 31, 0⟩
/-- PERF_CTRL, 16_performance_counters.md. -/
def PERF_CTRL : Reg := ⟨0x100000, 1, 0, 1, 0, 0x0, .chip, [⟨1, 1, .rw, false⟩, ⟨0, 0, .rw, false⟩]⟩
def PERF_CTRL.ALIGN : FRef := ⟨PERF_CTRL, 1, 1⟩
def PERF_CTRL.FREEZE : FRef := ⟨PERF_CTRL, 0, 0⟩
/-- PERF_SLOT_CTRL, 16_performance_counters.md. -/
def PERF_SLOT_CTRL : Reg := ⟨0x100008, 1, 0, 1, 0, 0x0, .chip, [⟨0, 0, .wo, false⟩]⟩
def PERF_SLOT_CTRL.CLR : FRef := ⟨PERF_SLOT_CTRL, 0, 0⟩
/-- PERF_AR_LO, 16_performance_counters.md. -/
def PERF_AR_LO : Reg := ⟨0x100010, 4, 8, 1, 0, 0x0, .chip, [⟨31, 0, .rw, false⟩]⟩
def PERF_AR_LO.ADDR : FRef := ⟨PERF_AR_LO, 31, 0⟩
/-- PERF_AR_HI, 16_performance_counters.md. -/
def PERF_AR_HI : Reg := ⟨0x100014, 4, 8, 1, 0, 0xFFFFFFFF, .chip, [⟨31, 0, .rw, false⟩]⟩
def PERF_AR_HI.ADDR : FRef := ⟨PERF_AR_HI, 31, 0⟩
/-- PERF_SMP_CFG, 16_performance_counters.md. -/
def PERF_SMP_CFG : Reg := ⟨0x100040, 1, 0, 1, 0, 0x3F0000, .chip, [⟨31, 31, .rw, false⟩, ⟨30, 30, .rw, false⟩, ⟨29, 28, .rw, false⟩, ⟨27, 27, .rw, false⟩, ⟨26, 26, .rw, false⟩, ⟨25, 24, .rw, false⟩, ⟨23, 22, .rw, false⟩, ⟨21, 16, .rw, false⟩]⟩
def PERF_SMP_CFG.EN : FRef := ⟨PERF_SMP_CFG, 31, 31⟩
def PERF_SMP_CFG.RAND : FRef := ⟨PERF_SMP_CFG, 30, 30⟩
def PERF_SMP_CFG.PRIV : FRef := ⟨PERF_SMP_CFG, 29, 28⟩
def PERF_SMP_CFG.AREN : FRef := ⟨PERF_SMP_CFG, 27, 27⟩
def PERF_SMP_CFG.AINV : FRef := ⟨PERF_SMP_CFG, 26, 26⟩
def PERF_SMP_CFG.ARSEL : FRef := ⟨PERF_SMP_CFG, 25, 24⟩
def PERF_SMP_CFG.RING : FRef := ⟨PERF_SMP_CFG, 23, 22⟩
def PERF_SMP_CFG.KMASK : FRef := ⟨PERF_SMP_CFG, 21, 16⟩
/-- PERF_SMP_PERIOD, 16_performance_counters.md. -/
def PERF_SMP_PERIOD : Reg := ⟨0x100044, 1, 0, 1, 0, 0xF4240, .chip, [⟨31, 0, .rw, false⟩]⟩
def PERF_SMP_PERIOD.PERIOD : FRef := ⟨PERF_SMP_PERIOD, 31, 0⟩
/-- PERF_SMP_SPRIG0, 16_performance_counters.md. -/
def PERF_SMP_SPRIG0 : Reg := ⟨0x100048, 1, 0, 1, 0, 0x0, .chip, [⟨31, 0, .rw, false⟩]⟩
def PERF_SMP_SPRIG0.S : FRef := ⟨PERF_SMP_SPRIG0, 31, 0⟩
/-- PERF_SMP_SPRIG1, 16_performance_counters.md. -/
def PERF_SMP_SPRIG1 : Reg := ⟨0x10004C, 1, 0, 1, 0, 0x0, .chip, [⟨31, 0, .rw, false⟩]⟩
def PERF_SMP_SPRIG1.S : FRef := ⟨PERF_SMP_SPRIG1, 31, 0⟩
/-- PERF_SMP_STAT, 16_performance_counters.md. -/
def PERF_SMP_STAT : Reg := ⟨0x100050, 1, 0, 1, 0, 0x0, .block, [⟨31, 16, .rc, false⟩, ⟨15, 0, .rc, false⟩]⟩
def PERF_SMP_STAT.REC : FRef := ⟨PERF_SMP_STAT, 31, 16⟩
def PERF_SMP_STAT.DROP : FRef := ⟨PERF_SMP_STAT, 15, 0⟩
/-- PERF_CNT_CFG, 16_performance_counters.md. -/
def PERF_CNT_CFG : Reg := ⟨0x100100, 32, 16, 1, 0, 0x3F0000, .chip, [⟨31, 31, .rw, false⟩, ⟨30, 30, .rw, false⟩, ⟨29, 28, .rw, false⟩, ⟨27, 27, .rw, false⟩, ⟨26, 26, .rw, false⟩, ⟨25, 24, .rw, false⟩, ⟨21, 16, .rw, false⟩, ⟨7, 0, .rw, false⟩]⟩
def PERF_CNT_CFG.EN : FRef := ⟨PERF_CNT_CFG, 31, 31⟩
def PERF_CNT_CFG.IRQ : FRef := ⟨PERF_CNT_CFG, 30, 30⟩
def PERF_CNT_CFG.PRIV : FRef := ⟨PERF_CNT_CFG, 29, 28⟩
def PERF_CNT_CFG.AREN : FRef := ⟨PERF_CNT_CFG, 27, 27⟩
def PERF_CNT_CFG.AINV : FRef := ⟨PERF_CNT_CFG, 26, 26⟩
def PERF_CNT_CFG.ARSEL : FRef := ⟨PERF_CNT_CFG, 25, 24⟩
def PERF_CNT_CFG.KMASK : FRef := ⟨PERF_CNT_CFG, 21, 16⟩
def PERF_CNT_CFG.EVENT : FRef := ⟨PERF_CNT_CFG, 7, 0⟩
/-- PERF_CNT_AUX, 16_performance_counters.md. -/
def PERF_CNT_AUX : Reg := ⟨0x100104, 32, 16, 1, 0, 0xFF00, .block, [⟨31, 31, .w1c, false⟩, ⟨30, 30, .w1c, false⟩, ⟨15, 8, .rw, false⟩, ⟨7, 0, .rw, false⟩]⟩
def PERF_CNT_AUX.WRAP : FRef := ⟨PERF_CNT_AUX, 31, 31⟩
def PERF_CNT_AUX.WRLOST : FRef := ⟨PERF_CNT_AUX, 30, 30⟩
def PERF_CNT_AUX.MHI : FRef := ⟨PERF_CNT_AUX, 15, 8⟩
def PERF_CNT_AUX.MLO : FRef := ⟨PERF_CNT_AUX, 7, 0⟩
/-- PERF_CNT_LO, 16_performance_counters.md. -/
def PERF_CNT_LO : Reg := ⟨0x100108, 32, 16, 1, 0, 0x0, .block, [⟨31, 0, .rw, false⟩]⟩
def PERF_CNT_LO.LO : FRef := ⟨PERF_CNT_LO, 31, 0⟩
/-- PERF_CNT_HI, 16_performance_counters.md. -/
def PERF_CNT_HI : Reg := ⟨0x10010C, 32, 16, 1, 0, 0x0, .block, [⟨15, 0, .rw, false⟩]⟩
def PERF_CNT_HI.HI : FRef := ⟨PERF_CNT_HI, 15, 0⟩
/-- PERF_SLOT_LO, 16_performance_counters.md. -/
def PERF_SLOT_LO : Reg := ⟨0x101000, 64, 64, 4, 8, 0x0, .block, [⟨31, 0, .ro, false⟩]⟩
def PERF_SLOT_LO.LO : FRef := ⟨PERF_SLOT_LO, 31, 0⟩
/-- PERF_SLOT_HI, 16_performance_counters.md. -/
def PERF_SLOT_HI : Reg := ⟨0x101004, 64, 64, 4, 8, 0x0, .block, [⟨7, 0, .ro, false⟩]⟩
def PERF_SLOT_HI.HI : FRef := ⟨PERF_SLOT_HI, 7, 0⟩
/-- PERF_SLOT_FLAGS, 16_performance_counters.md. -/
def PERF_SLOT_FLAGS : Reg := ⟨0x101020, 64, 64, 1, 0, 0x0, .block, [⟨7, 4, .w1c, false⟩, ⟨3, 0, .w1c, false⟩]⟩
def PERF_SLOT_FLAGS.WRLOST : FRef := ⟨PERF_SLOT_FLAGS, 7, 4⟩
def PERF_SLOT_FLAGS.WRAP : FRef := ⟨PERF_SLOT_FLAGS, 3, 0⟩
/-- PWR_STAT, 17_power_supply.md. -/
def PWR_STAT : Reg := ⟨0x10000, 1, 0, 1, 0, 0x3F, .chip, [⟨31, 31, .ro, false⟩, ⟨30, 30, .ro, false⟩, ⟨29, 29, .ro, false⟩, ⟨28, 28, .ro, false⟩, ⟨5, 0, .ro, false⟩]⟩
def PWR_STAT.WARN : FRef := ⟨PWR_STAT, 31, 31⟩
def PWR_STAT.OV : FRef := ⟨PWR_STAT, 30, 30⟩
def PWR_STAT.TJW : FRef := ⟨PWR_STAT, 29, 29⟩
def PWR_STAT.OCL : FRef := ⟨PWR_STAT, 28, 28⟩
def PWR_STAT.PGOOD : FRef := ⟨PWR_STAT, 5, 0⟩
/-- PWR_VBUS, 17_power_supply.md. -/
def PWR_VBUS : Reg := ⟨0x10004, 1, 0, 1, 0, 0x0, .chip, [⟨15, 0, .ro, false⟩]⟩
def PWR_VBUS.V : FRef := ⟨PWR_VBUS, 15, 0⟩
/-- PWR_WARN, 17_power_supply.md. -/
def PWR_WARN : Reg := ⟨0x10008, 1, 0, 1, 0, 0x17C, .chip, [⟨8, 0, .rw, false⟩]⟩
def PWR_WARN.LEVEL : FRef := ⟨PWR_WARN, 8, 0⟩
/-- PWR_DIP_CFG, 17_power_supply.md. -/
def PWR_DIP_CFG : Reg := ⟨0x1000C, 1, 0, 1, 0, 0xFC00A64, .chip, [⟨31, 30, .rw, false⟩, ⟨27, 24, .rw, false⟩, ⟨23, 16, .rw, false⟩, ⟨15, 8, .rw, false⟩, ⟨7, 0, .rw, false⟩]⟩
def PWR_DIP_CFG.POLICY : FRef := ⟨PWR_DIP_CFG, 31, 30⟩
def PWR_DIP_CFG.GROUPS : FRef := ⟨PWR_DIP_CFG, 27, 24⟩
def PWR_DIP_CFG.CEIL : FRef := ⟨PWR_DIP_CFG, 23, 16⟩
def PWR_DIP_CFG.RAMP_DN : FRef := ⟨PWR_DIP_CFG, 15, 8⟩
def PWR_DIP_CFG.RAMP_UP : FRef := ⟨PWR_DIP_CFG, 7, 0⟩
/-- PWR_DIP_STAT, 17_power_supply.md. -/
def PWR_DIP_STAT : Reg := ⟨0x10010, 1, 0, 1, 0, 0xFFFF, .chip, [⟨31, 30, .ro, false⟩, ⟨29, 29, .ro, false⟩, ⟨23, 16, .rc, false⟩, ⟨15, 0, .ro, false⟩]⟩
def PWR_DIP_STAT.STATE : FRef := ⟨PWR_DIP_STAT, 31, 30⟩
def PWR_DIP_STAT.SHARED : FRef := ⟨PWR_DIP_STAT, 29, 29⟩
def PWR_DIP_STAT.DIPS : FRef := ⟨PWR_DIP_STAT, 23, 16⟩
def PWR_DIP_STAT.GAIN : FRef := ⟨PWR_DIP_STAT, 15, 0⟩
/-- PWR_VCORE, 17_power_supply.md. -/
def PWR_VCORE : Reg := ⟨0x10014, 1, 0, 1, 0, 0x3200320, .chip, [⟨25, 16, .ro, false⟩, ⟨9, 0, .rw, false⟩]⟩
def PWR_VCORE.MEAS : FRef := ⟨PWR_VCORE, 25, 16⟩
def PWR_VCORE.SET : FRef := ⟨PWR_VCORE, 9, 0⟩
/-- PWR_VCORE_LIM, 17_power_supply.md. -/
def PWR_VCORE_LIM : Reg := ⟨0x10018, 1, 0, 1, 0, 0x384026C, .chip, [⟨25, 16, .rw, false⟩, ⟨9, 0, .rw, false⟩]⟩
def PWR_VCORE_LIM.MAX : FRef := ⟨PWR_VCORE_LIM, 25, 16⟩
def PWR_VCORE_LIM.MIN : FRef := ⟨PWR_VCORE_LIM, 9, 0⟩
/-- PWR_TJ, 17_power_supply.md. -/
def PWR_TJ : Reg := ⟨0x1001C, 1, 0, 1, 0, 0x73000000, .chip, [⟨31, 24, .rw, false⟩, ⟨15, 0, .ro, false⟩]⟩
def PWR_TJ.WARN : FRef := ⟨PWR_TJ, 31, 24⟩
def PWR_TJ.TJ : FRef := ⟨PWR_TJ, 15, 0⟩
/-- PWR_POR_CNT, 17_power_supply.md. -/
def PWR_POR_CNT : Reg := ⟨0x10020, 1, 0, 1, 0, 0x0, .por, [⟨15, 0, .ro, false⟩]⟩
def PWR_POR_CNT.RETRY : FRef := ⟨PWR_POR_CNT, 15, 0⟩
/-- PWR_VBS_CFG, 17_power_supply.md. -/
def PWR_VBS_CFG : Reg := ⟨0x10100, 4, 4, 1, 0, 0x0, .chip, [⟨31, 31, .ro, true⟩, ⟨15, 0, .ro, true⟩]⟩
def PWR_VBS_CFG.EN : FRef := ⟨PWR_VBS_CFG, 31, 31⟩
def PWR_VBS_CFG.KB : FRef := ⟨PWR_VBS_CFG, 15, 0⟩
/-- MGMT_CTRL, 18_management_host.md. -/
def MGMT_CTRL : Reg := ⟨0x110000, 1, 0, 1, 0, 0x0, .chip, [⟨1, 1, .wo, false⟩, ⟨0, 0, .wo, false⟩]⟩
def MGMT_CTRL.MRST : FRef := ⟨MGMT_CTRL, 1, 1⟩
def MGMT_CTRL.DOORBELL : FRef := ⟨MGMT_CTRL, 0, 0⟩
/-- MGMT_STAT, 18_management_host.md. -/
def MGMT_STAT : Reg := ⟨0x110004, 1, 0, 1, 0, 0x0, .chip, [⟨31, 31, .w1c, false⟩, ⟨30, 30, .w1c, false⟩, ⟨29, 29, .ro, false⟩, ⟨28, 28, .w1c, false⟩, ⟨1, 0, .ro, false⟩]⟩
def MGMT_STAT.WDEV : FRef := ⟨MGMT_STAT, 31, 31⟩
def MGMT_STAT.MRSTEV : FRef := ⟨MGMT_STAT, 30, 30⟩
def MGMT_STAT.FWFAIL : FRef := ⟨MGMT_STAT, 29, 29⟩
def MGMT_STAT.BADKICK : FRef := ⟨MGMT_STAT, 28, 28⟩
def MGMT_STAT.HOSTIF : FRef := ⟨MGMT_STAT, 1, 0⟩
/-- MGMT_WDOG, 18_management_host.md. -/
def MGMT_WDOG : Reg := ⟨0x110008, 1, 0, 1, 0, 0x800003E8, .chip, [⟨31, 31, .rw, false⟩, ⟨15, 0, .rw, false⟩]⟩
def MGMT_WDOG.EN : FRef := ⟨MGMT_WDOG, 31, 31⟩
def MGMT_WDOG.TMO : FRef := ⟨MGMT_WDOG, 15, 0⟩
/-- MGMT_WDOG_KICK, 18_management_host.md. -/
def MGMT_WDOG_KICK : Reg := ⟨0x11000C, 1, 0, 1, 0, 0x0, .chip, [⟨15, 0, .wo, false⟩]⟩
def MGMT_WDOG_KICK.KEY : FRef := ⟨MGMT_WDOG_KICK, 15, 0⟩
/-- MGMT_LOAD_BUSY, 18_management_host.md. -/
def MGMT_LOAD_BUSY : Reg := ⟨0x110010, 1, 0, 1, 0, 0x0, .mgmt, [⟨31, 0, .ro, false⟩]⟩
def MGMT_LOAD_BUSY.BUSY : FRef := ⟨MGMT_LOAD_BUSY, 31, 0⟩
/-- MGMT_LOAD_TOT, 18_management_host.md. -/
def MGMT_LOAD_TOT : Reg := ⟨0x110014, 1, 0, 1, 0, 0x0, .mgmt, [⟨31, 0, .ro, false⟩]⟩
def MGMT_LOAD_TOT.TOT : FRef := ⟨MGMT_LOAD_TOT, 31, 0⟩
/-- MGMT_LOAD_MAX, 18_management_host.md. -/
def MGMT_LOAD_MAX : Reg := ⟨0x110018, 1, 0, 1, 0, 0x0, .mgmt, [⟨9, 0, .rc, false⟩]⟩
def MGMT_LOAD_MAX.PERMIL : FRef := ⟨MGMT_LOAD_MAX, 9, 0⟩
/-- MGMT_VEC_CFG, 18_management_host.md. -/
def MGMT_VEC_CFG : Reg := ⟨0x110100, 64, 4, 1, 0, 0xC0000000, .chip, [⟨31, 31, .rw, false⟩, ⟨30, 30, .rw, false⟩]⟩
def MGMT_VEC_CFG.HOST : FRef := ⟨MGMT_VEC_CFG, 31, 31⟩
def MGMT_VEC_CFG.CORE : FRef := ⟨MGMT_VEC_CFG, 30, 30⟩
/-- MGMT_VEC_PEND0, 18_management_host.md. -/
def MGMT_VEC_PEND0 : Reg := ⟨0x110200, 1, 0, 1, 0, 0x0, .chip, [⟨31, 0, .w1c, false⟩]⟩
def MGMT_VEC_PEND0.P : FRef := ⟨MGMT_VEC_PEND0, 31, 0⟩
/-- MGMT_VEC_PEND1, 18_management_host.md. -/
def MGMT_VEC_PEND1 : Reg := ⟨0x110204, 1, 0, 1, 0, 0x0, .chip, [⟨31, 0, .w1c, false⟩]⟩
def MGMT_VEC_PEND1.P : FRef := ⟨MGMT_VEC_PEND1, 31, 0⟩
/-- MGMT_VEC_RAISE, 18_management_host.md. -/
def MGMT_VEC_RAISE : Reg := ⟨0x110208, 1, 0, 1, 0, 0x0, .chip, [⟨5, 0, .wo, false⟩]⟩
def MGMT_VEC_RAISE.V : FRef := ⟨MGMT_VEC_RAISE, 5, 0⟩
/-- MGMT_HPORT_SEL, 18_management_host.md. -/
def MGMT_HPORT_SEL : Reg := ⟨0x110400, 1, 0, 1, 0, 0x50, .chip, [⟨6, 0, .rw, false⟩]⟩
def MGMT_HPORT_SEL.Q : FRef := ⟨MGMT_HPORT_SEL, 6, 0⟩
/-- MGMT_HPORT_DATA, 18_management_host.md. -/
def MGMT_HPORT_DATA : Reg := ⟨0x110404, 1, 0, 1, 0, 0x0, .chip, [⟨31, 0, .rw, false⟩]⟩
def MGMT_HPORT_DATA.D : FRef := ⟨MGMT_HPORT_DATA, 31, 0⟩
/-- MGMT_HPORT_CTRL, 18_management_host.md. -/
def MGMT_HPORT_CTRL : Reg := ⟨0x110408, 1, 0, 1, 0, 0x0, .chip, [⟨31, 31, .w1c, false⟩, ⟨30, 30, .w1c, false⟩, ⟨16, 16, .wo, false⟩, ⟨15, 0, .ro, false⟩]⟩
def MGMT_HPORT_CTRL.OVR : FRef := ⟨MGMT_HPORT_CTRL, 31, 31⟩
def MGMT_HPORT_CTRL.MISALIGN : FRef := ⟨MGMT_HPORT_CTRL, 30, 30⟩
def MGMT_HPORT_CTRL.COMMIT : FRef := ⟨MGMT_HPORT_CTRL, 16, 16⟩
def MGMT_HPORT_CTRL.CURSOR : FRef := ⟨MGMT_HPORT_CTRL, 15, 0⟩
/-- MGMT_SCN_WP0, 18_management_host.md. -/
def MGMT_SCN_WP0 : Reg := ⟨0x110500, 1, 0, 1, 0, 0x0, .chip, [⟨31, 0, .rw, false⟩]⟩
def MGMT_SCN_WP0.WP : FRef := ⟨MGMT_SCN_WP0, 31, 0⟩
/-- MGMT_SCN_WP1, 18_management_host.md. -/
def MGMT_SCN_WP1 : Reg := ⟨0x110504, 1, 0, 1, 0, 0x0, .chip, [⟨31, 0, .rw, false⟩]⟩
def MGMT_SCN_WP1.WP : FRef := ⟨MGMT_SCN_WP1, 31, 0⟩
/-- MGMT_SCN_STAT, 18_management_host.md. -/
def MGMT_SCN_STAT : Reg := ⟨0x110508, 1, 0, 1, 0, 0x0, .chip, [⟨31, 31, .w1c, false⟩, ⟨6, 0, .ro, false⟩]⟩
def MGMT_SCN_STAT.MISEV : FRef := ⟨MGMT_SCN_STAT, 31, 31⟩
def MGMT_SCN_STAT.PEND : FRef := ⟨MGMT_SCN_STAT, 6, 0⟩
/-- MGMT_RING_CFG, 18_management_host.md. -/
def MGMT_RING_CFG : Reg := ⟨0x111000, 32, 16, 1, 0, 0x0, .chip, [⟨31, 31, .rw, false⟩, ⟨30, 30, .rw, false⟩, ⟨29, 29, .w1c, false⟩, ⟨26, 24, .rw, false⟩, ⟨18, 6, .rw, false⟩]⟩
def MGMT_RING_CFG.EN : FRef := ⟨MGMT_RING_CFG, 31, 31⟩
def MGMT_RING_CFG.HOST : FRef := ⟨MGMT_RING_CFG, 30, 30⟩
def MGMT_RING_CFG.BADCFG : FRef := ⟨MGMT_RING_CFG, 29, 29⟩
def MGMT_RING_CFG.SIZE : FRef := ⟨MGMT_RING_CFG, 26, 24⟩
def MGMT_RING_CFG.BASE : FRef := ⟨MGMT_RING_CFG, 18, 6⟩
/-- MGMT_RING_WR, 18_management_host.md. -/
def MGMT_RING_WR : Reg := ⟨0x111004, 32, 16, 1, 0, 0x0, .chip, [⟨15, 0, .rw, false⟩]⟩
def MGMT_RING_WR.WR : FRef := ⟨MGMT_RING_WR, 15, 0⟩
/-- MGMT_RING_RD, 18_management_host.md. -/
def MGMT_RING_RD : Reg := ⟨0x111008, 32, 16, 1, 0, 0x0, .chip, [⟨15, 0, .rw, false⟩]⟩
def MGMT_RING_RD.RD : FRef := ⟨MGMT_RING_RD, 15, 0⟩
/-- MGMT_RING_STAT, 18_management_host.md. -/
def MGMT_RING_STAT : Reg := ⟨0x11100C, 32, 16, 1, 0, 0x0, .chip, [⟨31, 31, .w1c, false⟩, ⟨30, 30, .w1c, false⟩, ⟨29, 29, .w1c, false⟩, ⟨16, 0, .ro, false⟩]⟩
def MGMT_RING_STAT.DROP : FRef := ⟨MGMT_RING_STAT, 31, 31⟩
def MGMT_RING_STAT.OVR : FRef := ⟨MGMT_RING_STAT, 30, 30⟩
def MGMT_RING_STAT.BADENT : FRef := ⟨MGMT_RING_STAT, 29, 29⟩
def MGMT_RING_STAT.FILL : FRef := ⟨MGMT_RING_STAT, 16, 0⟩
/-- SYS_ID, 19_register_map.md. -/
def SYS_ID : Reg := ⟨0x0, 1, 0, 1, 0, 0xD1571024, .por, [⟨31, 16, .ro, false⟩, ⟨15, 0, .ro, false⟩]⟩
def SYS_ID.VENDOR : FRef := ⟨SYS_ID, 31, 16⟩
def SYS_ID.PART : FRef := ⟨SYS_ID, 15, 0⟩
/-- SYS_REV, 19_register_map.md. -/
def SYS_REV : Reg := ⟨0x4, 1, 0, 1, 0, 0x10, .por, [⟨7, 4, .ro, false⟩, ⟨3, 0, .ro, false⟩]⟩
def SYS_REV.MAJOR : FRef := ⟨SYS_REV, 7, 4⟩
def SYS_REV.MINOR : FRef := ⟨SYS_REV, 3, 0⟩
/-- SYS_BLKRST, 19_register_map.md. -/
def SYS_BLKRST : Reg := ⟨0x10, 1, 0, 1, 0, 0x0, .chip, [⟨31, 31, .ro, false⟩, ⟨30, 30, .w1c, false⟩, ⟨4, 0, .wo, false⟩]⟩
def SYS_BLKRST.BUSY : FRef := ⟨SYS_BLKRST, 31, 31⟩
def SYS_BLKRST.REFUSED : FRef := ⟨SYS_BLKRST, 30, 30⟩
def SYS_BLKRST.BLK : FRef := ⟨SYS_BLKRST, 4, 0⟩
/-- SYS_SS_PAGE, 19_register_map.md. -/
def SYS_SS_PAGE : Reg := ⟨0x20, 1, 0, 1, 0, 0x0, .chip, [⟨1, 0, .rw, false⟩]⟩
def SYS_SS_PAGE.PAGE : FRef := ⟨SYS_SS_PAGE, 1, 0⟩
/-- TEST_STAT, 21_test.md. -/
def TEST_STAT : Reg := ⟨0x120000, 1, 0, 1, 0, 0x0, .por, [⟨31, 31, .ro, false⟩, ⟨30, 30, .ro, false⟩, ⟨29, 29, .w1c, false⟩, ⟨28, 28, .w1c, false⟩, ⟨27, 27, .w1c, false⟩]⟩
def TEST_STAT.FTM : FRef := ⟨TEST_STAT, 31, 31⟩
def TEST_STAT.TESTEN : FRef := ⟨TEST_STAT, 30, 30⟩
def TEST_STAT.JREF : FRef := ⟨TEST_STAT, 29, 29⟩
def TEST_STAT.FREF : FRef := ⟨TEST_STAT, 28, 28⟩
def TEST_STAT.KEYERR : FRef := ⟨TEST_STAT, 27, 27⟩
/-- TEST_ATB_CFG, 21_test.md. -/
def TEST_ATB_CFG : Reg := ⟨0x120010, 2, 4, 1, 0, 0x0, .chip, [⟨31, 31, .rw, false⟩, ⟨30, 30, .rw, false⟩, ⟨5, 0, .rw, false⟩]⟩
def TEST_ATB_CFG.EN : FRef := ⟨TEST_ATB_CFG, 31, 31⟩
def TEST_ATB_CFG.FORCE : FRef := ⟨TEST_ATB_CFG, 30, 30⟩
def TEST_ATB_CFG.NODE : FRef := ⟨TEST_ATB_CFG, 5, 0⟩
/-- TEST_FTM, 21_test.md. -/
def TEST_FTM : Reg := ⟨0x120020, 1, 0, 1, 0, 0x0, .por, [⟨15, 0, .wo, false⟩]⟩
def TEST_FTM.KEY : FRef := ⟨TEST_FTM, 15, 0⟩

/-- Registers of block SYS, part 0. -/
def regsSYS0 : List Reg := [SYS_BOOT_STATUS, SYS_SLOT_STATUS, SYS_STAGE_CTRL, SYS_SWAP_TARGET, SYS_SWAP_CTRL, SYS_SWAP_STATUS, SYS_LOAD_CTRL, SYS_LOAD_STATUS, SYS_CHUNK, SYS_FUSE_STATUS, SYS_BLK_CFG, SYS_BLK_PHASE, SYS_BLK_CTRL, SYS_BLK_STATUS, SYS_BLK_COUNT, SYS_BLK_ERR, SYS_BLK_LIMIT, SYS_BLK_FIRST, SYS_ID, SYS_REV]
/-- Registers of block SYS, part 1. -/
def regsSYS1 : List Reg := [SYS_BLKRST, SYS_SS_PAGE]
/-- Registers of block SYS (R383). -/
def regsSYS : List Reg := regsSYS0 ++ regsSYS1
/-- Registers of block THK, part 0. -/
def regsTHK0 : List Reg := [THK_EXC_INFO, THK_EXC_PC, THK_EXC_ADDR, THK_EXC_BLK, THK_STATUS, THK_STEAL_INH0, THK_STEAL_INH1, THK_OVR_STAT, THK_LOSS_BLK, THK_SLACK, THK_SLACK_MIN, THK_AVS_CFG, THK_AVS_MARK, THK_PACE_RATE, THK_PCOMMIT, THK_PCTRL, THK_LOST, THK_OVR_TREAT]
/-- Registers of block THK (R383). -/
def regsTHK : List Reg := regsTHK0
/-- Registers of block ASRC, part 0. -/
def regsASRC0 : List Reg := [ASRC_CTRL, ASRC_CFG, ASRC_STAT, ASRC_RATIO, ASRC_DLY]
/-- Registers of block ASRC (R383). -/
def regsASRC : List Reg := regsASRC0
/-- Registers of block XPT, part 0. -/
def regsXPT0 : List Reg := [XPT_CTRL, XPT_COMMIT, XPT_FADE_CFG, XPT_STATUS, XPT_CMD_SLOT, XPT_CMD_DATA, XPT_RD_SEL, XPT_RD_SRC, XPT_RD_GAIN, XPT_PSM_SIL, XPT_GEN_CFG, XPT_GEN_FREQ, XPT_GEN_LEVEL, XPT_GEN_SEED, XPT_SIL_STATE, XPT_SIL_CHG, XPT_CLIP, XPT_SIL_CFG]
/-- Registers of block XPT (R383). -/
def regsXPT : List Reg := regsXPT0
/-- Registers of block PSM, part 0. -/
def regsPSM0 : List Reg := [PSM_PG_CFG, PSM_PG_CTRL, PSM_PG_STAT, PSM_PG_SENSE, PSM_PG_VBUS, PSM_PG_TIME, PSM_DIAG_CFG, PSM_CH_CFG, PSM_CH_STAT, PSM_CH_RES, PSM_SHORT_REC0, PSM_SHORT_REC1, PSM_SHORT_BLK]
/-- Registers of block PSM (R383). -/
def regsPSM : List Reg := regsPSM0
/-- Registers of block SAP, part 0. -/
def regsSAP0 : List Reg := [SAP_PCFG, SAP_PCTRL, SAP_PSTAT, SAP_RATE, SAP_RREF, SAP_PHASE, SAP_GRP_CFG, SAP_GRP_CTRL, SAP_GRP_STAT, SAP_MCLK_CFG, SAP_SLOT_IN, SAP_SLOT_OUT]
/-- Registers of block SAP (R383). -/
def regsSAP : List Reg := regsSAP0
/-- Registers of block HLK, part 0. -/
def regsHLK0 : List Reg := [HLK_CFG, HLK_CTRL, HLK_STAT, HLK_ERR, HLK_DROP, HLK_DELAY, HLK_ASYM, HLK_SYNC_CFG, HLK_RSV_STAT, HLK_RING_DROP, HLK_TSYNC, HLK_DREQ_CFG, HLK_RING_CFG, HLK_SYNC_STAT, HLK_RSV]
/-- Registers of block HLK (R383). -/
def regsHLK : List Reg := regsHLK0
/-- Registers of block HFB, part 0. -/
def regsHFB0 : List Reg := [HFB_NODE, HFB_CFG, HFB_UID_LO, HFB_UID_HI, HFB_FABID_LO, HFB_FABID_HI, HFB_ADJ, HFB_FWD_CMD, HFB_FWD_W0, HFB_FWD_W1, HFB_DROP]
/-- Registers of block HFB (R383). -/
def regsHFB : List Reg := regsHFB0
/-- Registers of block FLOW, part 0. -/
def regsFLOW0 : List Reg := [FLOW_CFG, FLOW_MAP, FLOW_STAT, FLOW_SEQ]
/-- Registers of block FLOW (R383). -/
def regsFLOW : List Reg := regsFLOW0
/-- Registers of block ETH, part 0. -/
def regsETH0 : List Reg := [ETH_PORT_CFG, ETH_PORT_STAT, ETH_PORT_IP, ETH_TS_ADJ, ETH_TXTS_INFO, ETH_TXTS_SEC, ETH_TXTS_NS, ETH_VLAN, ETH_RING_CFG, ETH_ADDR_LO, ETH_ADDR_HI, ETH_STR_CFG, ETH_STR_CTRL, ETH_STR_HDR, ETH_STR_TIME, ETH_STR_RTPOFF, ETH_STR_STAT, ETH_STR_ADDR, ETH_STR_UDP, ETH_STR_SRC]
/-- Registers of block ETH (R383). -/
def regsETH : List Reg := regsETH0
/-- Registers of block TIME, part 0. -/
def regsTIME0 : List Reg := [TIME_TB_CFG, TIME_TB_CTRL, TIME_TB_STAT, TIME_TB_T0, TIME_TB_T1, TIME_TB_T2, TIME_TB_RATE_LO, TIME_TB_RATE_HI, TIME_SRV_KP, TIME_SRV_KI, TIME_SRV_CFG, TIME_SRV_THR, TIME_OFS_MSEC, TIME_OFS_MNS, TIME_OFS_VAL, TIME_SRV_LAST, TIME_SEL_CFG, TIME_SEL_CTRL, TIME_SEL_STAT, TIME_SEL_BO]
/-- Registers of block TIME, part 1. -/
def regsTIME1 : List Reg := [TIME_TIO_CFG, TIME_ALM_CFG, TIME_ALM_SEC, TIME_ALM_NS, TIME_ALM_PER, TIME_ALM_STAT, TIME_ALM_LATE, TIME_CAP_CFG, TIME_CAP_T0, TIME_CAP_T1, TIME_CAP_T2, TIME_CAP_STAT]
/-- Registers of block TIME (R383). -/
def regsTIME : List Reg := regsTIME0 ++ regsTIME1
/-- Registers of block RCU, part 0. -/
def regsRCU0 : List Reg := [RCU_QUAL_CFG, RCU_QUAL_LIM, RCU_QUAL_STAT, RCU_DISQ_EV, RCU_CONFLICT, RCU_CAND_CFG, RCU_CAND_FNOM, RCU_CAND_PHOFS, RCU_CAND_STAT, RCU_CAND_OFS, RCU_LOOP_CFG, RCU_LOOP_FOUT, RCU_LOOP_CTRL, RCU_LOOP_RANK, RCU_LOOP_BW, RCU_LOOP_STAT, RCU_LOOP_PHASE, RCU_DITHER, RCU_BAND_LO, RCU_BAND_HI]
/-- Registers of block RCU, part 1. -/
def regsRCU1 : List Reg := [RCU_QS_FOUT, RCU_QS_CFG, RCU_QS_FINE, RCU_QS_HOP]
/-- Registers of block RCU (R383). -/
def regsRCU : List Reg := regsRCU0 ++ regsRCU1
/-- Registers of block ALN, part 0. -/
def regsALN0 : List Reg := [ALN_CFG, ALN_DLL_CTRL, ALN_DLL_STAT, ALN_DLL_ERR, ALN_DLL_TSZ, ALN_OUT_CFG, ALN_OUT_OFS, ALN_MCLK_FMT]
/-- Registers of block ALN (R383). -/
def regsALN : List Reg := regsALN0
/-- Registers of block PAIR, part 0. -/
def regsPAIR0 : List Reg := [PAIR_CFG, PAIR_CTRL, PAIR_HO_BLK, PAIR_RESYNC, PAIR_STAT, PAIR_EV, PAIR_PARTNER, PAIR_MISSCNT, PAIR_SKEW, PAIR_TAKE_BLK, PAIR_CMP_CNT, PAIR_CMP_MIS0, PAIR_CMP_MIS1, PAIR_CMP_BLK, PAIR_PL_REQ, PAIR_PL_STAT, PAIR_HEALTH_CFG, PAIR_PSM_TRIM]
/-- Registers of block PAIR (R383). -/
def regsPAIR : List Reg := regsPAIR0
/-- Registers of block FLT, part 0. -/
def regsFLT0 : List Reg := [FLT_CFG, FLT_STAT, FLT_SEV, FLT_ERRH, FLT_FEC_INFO, FLT_FEC_ADDR, FLT_FEC_SEC, FLT_FEC_NS, FLT_FEC_BLK, FLT_GRAVE, FLT_RST_CAUSE, FLT_GLOG_CTRL, FLT_GLOG_HEAD, FLT_GLOG_DATA, FLT_INJ, FLT_SRC_CFG, FLT_SRC_THR, FLT_SRC_STAT, FLT_SRC_CNT, FLT_SHADOW_SET]
/-- Registers of block FLT (R383). -/
def regsFLT : List Reg := regsFLT0
/-- Registers of block PERF, part 0. -/
def regsPERF0 : List Reg := [PERF_CTRL, PERF_SLOT_CTRL, PERF_AR_LO, PERF_AR_HI, PERF_SMP_CFG, PERF_SMP_PERIOD, PERF_SMP_SPRIG0, PERF_SMP_SPRIG1, PERF_SMP_STAT, PERF_CNT_CFG, PERF_CNT_AUX, PERF_CNT_LO, PERF_CNT_HI, PERF_SLOT_LO, PERF_SLOT_HI, PERF_SLOT_FLAGS]
/-- Registers of block PERF (R383). -/
def regsPERF : List Reg := regsPERF0
/-- Registers of block PWR, part 0. -/
def regsPWR0 : List Reg := [PWR_STAT, PWR_VBUS, PWR_WARN, PWR_DIP_CFG, PWR_DIP_STAT, PWR_VCORE, PWR_VCORE_LIM, PWR_TJ, PWR_POR_CNT, PWR_VBS_CFG]
/-- Registers of block PWR (R383). -/
def regsPWR : List Reg := regsPWR0
/-- Registers of block MGMT, part 0. -/
def regsMGMT0 : List Reg := [MGMT_CTRL, MGMT_STAT, MGMT_WDOG, MGMT_WDOG_KICK, MGMT_LOAD_BUSY, MGMT_LOAD_TOT, MGMT_LOAD_MAX, MGMT_VEC_CFG, MGMT_VEC_PEND0, MGMT_VEC_PEND1, MGMT_VEC_RAISE, MGMT_HPORT_SEL, MGMT_HPORT_DATA, MGMT_HPORT_CTRL, MGMT_SCN_WP0, MGMT_SCN_WP1, MGMT_SCN_STAT, MGMT_RING_CFG, MGMT_RING_WR, MGMT_RING_RD]
/-- Registers of block MGMT, part 1. -/
def regsMGMT1 : List Reg := [MGMT_RING_STAT]
/-- Registers of block MGMT (R383). -/
def regsMGMT : List Reg := regsMGMT0 ++ regsMGMT1
/-- Registers of block TEST, part 0. -/
def regsTEST0 : List Reg := [TEST_STAT, TEST_ATB_CFG, TEST_FTM]
/-- Registers of block TEST (R383). -/
def regsTEST : List Reg := regsTEST0

/-- The registers of the block with a given block code (R374). -/
def regsOfBlock (b : Nat) : List Reg :=
  match b with
  | 0 => regsSYS
  | 1 => regsPWR
  | 2 => regsRCU
  | 3 => regsALN
  | 4 => regsTIME
  | 5 => regsHLK
  | 6 => regsHFB
  | 7 => regsETH
  | 8 => regsFLOW
  | 9 => regsSAP
  | 10 => regsASRC
  | 11 => regsXPT
  | 12 => regsTHK
  | 13 => regsPSM
  | 14 => regsPAIR
  | 15 => regsFLT
  | 16 => regsPERF
  | 17 => regsMGMT
  | 18 => regsTEST
  | _ => []

/-- Every register of the device. -/
def allRegs : List Reg := regsSYS ++ regsPWR ++ regsRCU ++ regsALN ++ regsTIME ++ regsHLK ++ regsHFB ++ regsETH ++ regsFLOW ++ regsSAP ++ regsASRC ++ regsXPT ++ regsTHK ++ regsPSM ++ regsPAIR ++ regsFLT ++ regsPERF ++ regsMGMT ++ regsTEST

/-- Does address `a` fall on an element of `r`, and on which (R380)? An index outside its range decodes to nothing. -/
def Reg.index (r : Reg) (a : Nat) : Option (Nat × Nat) :=
  if a < r.base then none else
  let d := a - r.base
  let i := if r.s1 = 0 then 0 else min (d / r.s1) (r.n1 - 1)
  let e := d - r.s1 * i
  if r.s1 = 0 then (if d = 0 then some (0, 0) else none)
  else if r.s2 = 0 then (if e = 0 then some (i, 0) else none)
  else if e % r.s2 = 0 ∧ e / r.s2 < r.n2 then some (i, e / r.s2) else none

/-- First register of a list that the address names. -/
def findReg : List Reg → Nat → Option (Reg × Nat × Nat)
  | [], _ => none
  | r :: rs, a =>
    match r.index a with
    | some (i, j) => some (r, i, j)
    | none => findReg rs a

/-- Decode a window address of a register block to a register and its indices (R374, R376, R380). -/
def decodeReg (a : Nat) : Option (Reg × Nat × Nat) := findReg (regsOfBlock (a / 0x10000)) a

/-- Does the register have an image field (R376)? -/
def Reg.hasImage (r : Reg) : Bool := r.flds.any (·.img)

/-- The optional section that sets the image fields of a block's registers (R15): FLOW, XPT, FABRIC, RCU, PAIR. Those of the other blocks are
set by required sections, which every image has. -/
def Reg.optSection (r : Reg) : Option Nat :=
  match r.blk with
  | 8 => some 3
  | 11 => some 4
  | 6 => some 8
  | 2 => some 0xB
  | 14 => some 0xC
  | _ => none

end Sys2Proof.Machine
end

