-- ==== Sys2Proof/Machine/Dev.lean ====
section
/-! DEFINITION. The state of the device as plain data: its registers, its memories, and block by block the state
that the chapters give it beyond its registers. -/

namespace Sys2Proof.Machine

/-- The one-time fuses (R18, R101, R205), and whether the array fails its check when it is read (R315). -/
structure Fuses where
  bad : Bool := false
  authEn : Bool := false
  keyProg : Bool := false
  keyHash : List Byte := []
  uid : Nat := 0
  floor : Nat := 0
deriving DecidableEq, Repr

/-- The initiator, address and type of an access that a fault source reports (R322). -/
structure Access where
  addr : Nat := 0
  master : Nat := 255
  ty : Nat := 0
deriving DecidableEq, Repr

/-- A block reset shadow (R324). `open_` from the assertion of the reset to SHADOW_CLOSE, `inReset` until
BLOCK_RESET_END; `seq` orders the assertions. -/
structure Shadow where
  open_ : Bool := false
  inReset : Bool := false
  cause : Nat := 0
  seq : Nat := 0
  set : List Nat := []
deriving DecidableEq, Repr

/-- A reset that a fault reaction calls for and that takes effect when the event has been handled (R319, R329); the
GRAVE condition; a MGMT reset (R32, R368). -/
inductive Due where
  | block (b cause : Nat)
  | chip (src kind : Nat)
  | grave (src : Nat)
  | mgmt
deriving DecidableEq, Repr

/-- The fault collector (chapter 15): times of counted and injected events in TCLK ticks, newest first; the start of
each running escalation timer, and of one that an acknowledgment stopped with its tick; the reactions that the latest events of a source
called for, with their tick plus 1, real and injected; the periods in which a source last wrote a plain record; shadows; resets due; the
GRAVE record being written; the injection in progress; NMIs raised to the core. -/
structure FltSt where
  events : Tab (List Nat) := []
  injEv : Tab (List Nat) := []
  esc : Tab Nat := []
  acked : Tab (Nat × Nat) := []
  reacts : Tab (Nat × Nat × Nat) := []
  recAt : Tab Nat := []
  recInjAt : Tab Nat := []
  shadows : Tab Shadow := []
  seq : Nat := 0
  due : List Due := []
  log : List (List Byte) := []
  logWait : Option (Nat × Nat) := none
  logSlot : Nat := 0
  injLeft : Nat := 0
  injSrc : Nat := 0
  nmi : Nat := 0
  cReset : Bool := false
deriving DecidableEq, Repr

/-- One entry of the MSI-X table in BAR2 (R359, R367). -/
structure MsixEntry where
  addr : Nat := 0
  data : Nat := 0
  masked : Bool := true
deriving DecidableEq, Repr

/-- Management core, host interface, rings (chapter 18): the MSI-X table and its pending array; `ringSeq` counts the
entries a hardware producer wrote; the tick of the latest watchdog kick or start and, where that is the present one, of the one before; a MGMT reset in progress; the scene
words buffered, the oldest first, with those held for room behind the first 64; each port's SYS_SS_PAGE; busy pace ticks
of the present period and the pace count at its start; whether the firmware runs, and the length and CRC-32 of its copy in
the SRAM; PERST_N low; the PCIe link up. -/
structure MgmtSt where
  msix : Tab MsixEntry := []
  pba : List Nat := []
  ringSeq : Tab Nat := []
  wdogAt : Nat := 0
  wdogWas : Nat := 0
  resetting : Bool := false
  sceneBuf : List (Nat × Word) := []
  corePage : Nat := 0
  hostPage : Nat := 0
  busyPace : Nat := 0
  paceAt : Nat := 0
  fwRunning : Bool := false
  fwLen : Nat := 0
  fwCrc : Nat := 0
  perstLow : Bool := false
deriving DecidableEq, Repr

/-- One time base and its servo (R244, R249, R250): value with the hidden fraction, integrator, lock count, and
whether HOLD was entered from LOCKED. ADJ is in TIME_TB_RATE_HI and _LO, the servo state in TIME_TB_STAT. -/
structure TbSt where
  sec : Nat := 0
  ns : Nat := 0
  frac : Nat := 0
  hid : Nat := 0
  integ : Int := 0
  lockCnt : Nat := 0
  holdLocked : Bool := false
deriving DecidableEq, Repr

/-- The target of an alarm (R257): seconds modulo 2^32 and nanoseconds, and for an owned alarm the part of a nanosecond beyond
them in 1/16 ns (R40). Whether it is armed is TIME_ALM_CFG.ARMED. -/
structure AlmSt where
  sec : Nat := 0
  ns : Nat := 0
  sub : Nat := 0
deriving DecidableEq, Repr

/-- A capture record (R261). -/
structure CapSt where
  sec : Nat := 0
  ns : Nat := 0
  frac : Nat := 0
deriving DecidableEq, Repr

/-- Time bases, servos, selector, alarms, captures (chapter 11). `bleedRem` is the part of 1/16 ns of build-out still
to bleed, in thousandths; `rateLo` the low halves of ADJ written and not committed, plus 1; `stepped` the time bases
stepped or set by the command in hand; `setAt` the tick of the latest SET of each time base, plus 1. -/
structure TimeSt where
  tbs : Tab TbSt := []
  alarms : Tab AlmSt := []
  caps : Tab CapSt := []
  bleedRem : Nat := 0
  rateLo : Tab Nat := []
  stepped : List Nat := []
  setAt : Tab Nat := []
deriving DecidableEq, Repr

/-- One programmable counter's port registers (R336, R337): snapshot and staging for the core and for the host. -/
structure CntPort where
  snapCore : Nat := 0
  snapHost : Nat := 0
  stageCore : Nat := 0
  stageHost : Nat := 0
deriving DecidableEq, Repr

/-- Counters and sampling (chapter 16): counts, per-port registers, slot counts and snapshots, what ALIGN holds for
the next boundary, the sampling progress of each Sprig and the length of its present interval, and the 64-record
buffer. -/
structure PerfSt where
  cnt : Tab Nat := []
  cntPort : Tab CntPort := []
  slot : Tab Nat := []
  slotSnapCore : Tab Nat := []
  slotSnapHost : Tab Nat := []
  pendEn : Tab Nat := []
  pendFreeze : Option Nat := none
  pendClr : Bool := false
  effEn : Tab Nat := []
  effFreeze : Nat := 0
  smpCount : Tab Nat := []
  smpGoal : Tab Nat := []
  buf : List (List Byte) := []
  incAt : Tab Nat := []
  free : Nat := 0
deriving DecidableEq, Repr

/-- Supply and supervision (chapter 17): POR asserted, the step of the power-up sequence (0 off, 1 rails ramping, 2
waiting to retry, 7 up), the groups that the policy in force selected, the chip's own dip state (numbered as
PWR_DIP_STAT.STATE), the supervisors that have tripped (numbered as `Sup`), VCORE in mV, whether it returns to 800 mV after
a reset, the tick of its latest lowering, and whether an undervoltage makes the next request a raise. -/
structure PwrSt where
  por : Bool := true
  step : Nat := 0
  selected : Nat := 0
  dip : Nat := 0
  tripped : List Nat := []
  vcore : Nat := 800
  vret : Bool := false
  lowAt : Option Nat := none
  mustRaise : Bool := false
deriving DecidableEq, Repr

/-- What a loop of the reference unit awaits: the offset of a pull or a build-out at its next comparison edge; in a hop, the settling of its
DCO, the edge at which the divider phase is set, the end of the check (R275, R276, R281). -/
inductive Await where
  | none | pull | build | hopSettle | hopEdge | hopCheck
deriving DecidableEq, Repr

/-- What holds the DCO of a loop in HOLDOVER or FREERUN: XOIN at a ratio, or, while XOIN is disqualified, the last fine word (R277). -/
inductive HeldBy where
  | free | ratio | fineWord
deriving DecidableEq, Repr

/-- One clean-up loop beyond its registers (R270 to R282): the target frequency (1/64 Hz) and divider, the trials of
the search still to make, whether it waits to search again, the run of good comparison edges, the bandwidth in units
of 10 nHz, what it awaits, the pull offset in ps with the tick of its start, a held build-out, the entry into
NARROW, TRACK or PULL, what holds the DCO and the ratio f_DCO ÷ f_XOIN that it is held at, in 2^−40, the ratios measured with the tick
of each, newest first, the fine word and the one that a hop stores, the fine word with its dither, the hop check so far, the dither
register. -/
structure LoopSt where
  fout : Nat := 0
  mdiv : Nat := 0
  trials : List Nat := []
  waiting : Bool := false
  edges : Nat := 0
  bw : Nat := 0
  await : Await := .none
  pullO : Int := 0
  pullAt : Nat := 0
  built : Bool := false
  since : Nat := 0
  held : HeldBy := .free
  ratio : Nat := 0
  rlog : List (Nat × Nat) := []
  fine : Nat := 0
  hopFine : Nat := 0
  word : Nat := 0
  code : Nat := 0
  hopOk : Bool := false
  lfsr : Nat := 1
deriving DecidableEq, Repr

/-- Reference selection and clean-up (chapter 12): activity faults in the running gates, the tick at which a gate disqualified a candidate (twice
the tick plus 1, plus FRQF as it was), the loops, the pairs in rank
conflict, and the factory band table of the die (code, FMIN, FMAX by 64k + entry), which no reset touches. -/
structure RcuSt where
  gateFault : Tab Bool := []
  gateAt : Tab Nat := []
  loops : Tab LoopSt := []
  pairs : List (Nat × Nat) := []
  factory : Tab (Nat × Nat × Nat) := []
deriving DecidableEq, Repr

/-- One alignment DLL beyond its registers (R288 to R291): whether the latest anchor in RUN lay beyond LIMIT; the TCLK time, in ps, of the
rising edge that its dividers were loaded with; the tap steps made since, later ones positive. -/
structure DllSt where
  beyond : Bool := false
  edge : Nat := 0
  moves : Int := 0
deriving DecidableEq, Repr

/-- Audio sample buffers, keyed by channel × 32 + sample position: the input block in capture, the sealed input block,
the destinations of the latest pass and the last sample of each (plus 2^32; 0 where there is none), the output channels
that jobs build, the staged output block and the one being emitted. -/
structure AudSt where
  capt : Tab Word := []
  sealed : Tab Word := []
  dest : Tab Word := []
  prev : Tab Nat := []
  build : Tab Word := []
  staged : Tab Word := []
  emit : Tab Word := []
deriving DecidableEq, Repr

/-- One converter channel (R111 to R115): the 40-bit ratio word; the estimator's bandwidth in 10 mHz; the latest source samples, newest
first, the number taken since it left IDLE, and the instant of the latest on the block time base (1/16 ns); the source position of the next
sample in 2^−38 sample; the ratio, state and position sent for the block in progress, and the position that the arrivals give at the latest
boundary; the ratio and state in force for the samples of a block; samples of ramp-out or
fade-in left, and the position at which an output's fade-in began; a SLIP to be raised at the block's end; whether the latest block ran
unmirrored; the words of the ACTIVE by block (block, ratio, state, position). -/
structure AsrcSt where
  ratio : Nat := 0
  bw : Nat := 0
  src : List Int := []
  cnt : Nat := 0
  came : Int := 0
  pos : Nat := 0
  nextR : Nat := 0
  nextS : Nat := 0
  nextP : Nat := 0
  seen : Nat := 0
  use : Nat := 0
  live : Nat := 0
  rampOut : Nat := 0
  fadeIn : Nat := 0
  fadeFrom : Nat := 0
  slip : Bool := false
  unmir : Bool := false
  words : List (Nat × Nat × Nat × Nat) := []
deriving DecidableEq, Repr

/-- A crosspoint slot: a source number or EMPTY (0xFFFF), and a gain in Q4.20 (R117). -/
structure XSlot where
  src : Nat := 0xFFFF
  gain : Nat := 0
deriving DecidableEq, Repr

/-- A fade: the slot that fades, its destination, the departing source and gain, length, law (true equal-power), the
next fade sample, and whether the departing leg belongs to a slot that the new image lacks (R123, R130). -/
structure XFade where
  slot : Nat
  dst : Nat
  src : Nat
  gain : Nat
  len : Nat
  ep : Bool
  j : Nat
  lone : Bool
deriving DecidableEq, Repr

/-- A slot command as staged (R120, R123, R127). -/
structure XCmd where
  route : Bool
  hard : Bool
  len : Nat
  ep : Bool
  slot : Nat
  data : Nat
deriving DecidableEq, Repr

/-- A staged crosspoint write: a slot command, or a register of the generators, detectors or PSM links (R120). -/
inductive XStaged where
  | cmd (c : XCmd)
  | reg (a : Nat) (w : Word)
deriving DecidableEq, Repr

/-- A pending gain step: slot, destination, target, samples left to search (R127). -/
structure XPend where
  slot : Nat
  dst : Nat
  gain : Nat
  n : Nat
deriving DecidableEq, Repr

/-- A generator: phase, LFSR, filter sections (R134). -/
structure GenSt where
  phi : Nat := 0
  r : Nat := 1
  s : List Int := []
deriving DecidableEq, Repr

/-- The crosspoint (chapter 05): the partition (first slot and count by destination), slots, sink map (destination
plus 1 by output channel), fades, gain steps, staged writes, an armed commit whose block was not later as ARM was written or passed while
the cycle was not RUNNING, commands deferred for want of a free fade and held for a
fade in progress, destination and departing source of the fades of the latest pass, blocks of silence counted, generators, and the sleep (true) and
wake (false) requests of the modulator channels with their output blocks, oldest first, and the fade of all destinations around a stop or a restart
(R417): 0 none, 1 down, 2 up, 3 silent, with its next sample and length. -/
structure XptSt where
  part : Tab (Nat × Nat) := []
  nx : Nat := 0
  slots : Tab XSlot := []
  sink : Tab Nat := []
  fades : List XFade := []
  pend : List XPend := []
  staged : List XStaged := []
  late : Bool := false
  missed : Bool := false
  left : List (Nat × Nat) := []
  deferred : List XCmd := []
  held : List XCmd := []
  sil : Tab Nat := []
  gens : Tab GenSt := []
  slp : Tab (List (Bool × Nat)) := []
  fade : Nat := 0
  fadeJ : Nat := 0
  fadeL : Nat := 0
deriving DecidableEq, Repr

/-- One modulator channel (R139 to R153): the samples of the interpolator with their output blocks, newest first; the
errors e1 to e5 in 2^−31 tap; the start fade's period count and whether it runs; entry into play waiting for a carrier
period; a trip in the present period; times of trips; whether the load test of the channel still runs; sleep entered
in the present period; the leg high times in taps of the present period and of the one before; the output block of the sample
that the present period carries. -/
structure PsmCh where
  hist : List (Nat × Int) := []
  e : List Int := []
  fadeP : Nat := 0
  fadeOn : Bool := false
  entering : Bool := false
  tripped : Bool := false
  trips : List Nat := []
  under : Bool := false
  sleepNow : Bool := false
  tA : Nat := 0
  tB : Nat := 0
  pA : Nat := 0
  pB : Nat := 0
  blk : Nat := 0
deriving DecidableEq, Repr

/-- One modulator group: PSEN_Gx, the number within its sample of the next carrier period, the next sample within the block, the reading of
the previous carrier period, a START waiting for its conditions, the stop ramp (periods left, length), whether its DLL is
lost, whether it waits for 12 V, the tick from which a deep-sleep wake may switch, the load test (voltage in 10 mV, ramp and hold in carrier
periods, periods done), the period starts left until PSEN_Gx falls after a stop, the ACTIVE's reading on a STANDBY, the tick at which the
present carrier period began, and whether PSFLT_N_Gx is low. -/
structure PsmGrp where
  psen : Bool := false
  j : Nat := 0
  pos : Nat := 0
  vg : Nat := 0
  startReq : Bool := false
  stopP : Nat := 0
  stopN : Nat := 0
  clkLost : Bool := false
  uvHold : Bool := false
  wakeAt : Nat := 0
  vtest : Nat := 0
  rampN : Nat := 0
  holdN : Nat := 0
  testP : Nat := 0
  psenOff : Nat := 0
  shared : Option Nat := none
  startAt : Nat := 0
  flt : Bool := false
deriving DecidableEq, Repr

/-- The modulators (chapter 06). -/
structure PsmSt where
  ch : Tab PsmCh := []
  grp : Tab PsmGrp := []
deriving DecidableEq, Repr

/-- The dip policy on one group (R347, R348): the present ceiling or gain in 2^−16, whether it is the ceiling, the
direction of its ramp (0 steady, 1 falling to 0, 2 rising to 1, 3 toward the ceiling of a policy that applies anew), the value it falls from,
the value it rises from or goes toward, its position and length in carrier periods. -/
structure DipSt where
  val : Nat := 65536
  ceil : Bool := true
  dir : Nat := 0
  top : Nat := 65536
  foot : Nat := 0
  p : Nat := 0
  np : Nat := 0
deriving DecidableEq, Repr

/-- A heartbeat frame (R300): header fields, the SKIP mask and the slice CRCs. -/
structure Hb where
  uid : Nat := 0
  role : Nat := 0
  flags : Nat := 0
  node : Nat := 0
  blk : Nat := 0
  txdone : Nat := 0
  hoblk : Nat := 0
  build : Nat := 0
  skip : Nat := 0
  crcs : List Nat := []
deriving DecidableEq, Repr

/-- Counts of a health record since the last one (R307): slices compared, skipped and mismatched with their mask, memory
errors corrected, heartbeat and LIVE misses, an overrun. -/
structure HealthAcc where
  cmpd : Nat := 0
  skipped : Nat := 0
  mism : Nat := 0
  mask : Nat := 0
  corr : Nat := 0
  hbMiss : Nat := 0
  liveMiss : Nat := 0
  beyond : Bool := false
deriving DecidableEq, Repr

/-- The diagnosis, group and channel states of a group as a PSM frame gives them: group state; by channel the state, DIAG,
RES and LATCH (R302). -/
structure PsmFrame where
  grp : Nat := 0
  state : Nat := 0
  chans : List (Nat × Nat × Nat × Nat) := []
deriving DecidableEq, Repr

/-- The pair (chapter 14): the outputs owned (groups, ports, Ethernet streams from or before a block, Hedgerow contexts) and the levels of
the OWN and LIVE lines; groups still driven after a release, by carrier periods left, contexts released at the next boundary, the tick from
which ports are taken; the link, the latest heartbeat, what arrived in the window of the present and of the next boundary, the runs of
absent and present blocks, and of heartbeats since the link returned; the entry into NONE, a grant for the next boundary, the block of the
start-up take, yields and back-off with the block of its start, the inhibition; the detections of the latest evaluation; OWN disagreements;
the planned handover and resynchronisation, the block of the latest one, whether its losses are still to come and whether the partner's
record that covers it is; the latest boundary's tick; slice CRCs and SKIP of the block in progress and of the next; comparison and Pleach
results; the partner's latest health record and the block of the chip's own, plus 1; PSM frames to adopt, the partner's group states known
(plus 1) and the chip's own at the latest boundary; commits of the ACTIVE; the
block of the latest evaluation, plus 1; the latest output block whose cells were queued for sending; groups to be taken at their next carrier
period. -/
structure PairSt where
  ownG : Nat := 0
  ownS : Nat := 0
  wantS : Bool := false
  yieldS : Bool := false
  ownE : Bool := false
  ownH : Bool := false
  ethFrom : Nat := 0
  ownOut : Bool := false
  ownIn : Bool := false
  liveOut : Bool := false
  liveIn : Bool := false
  relG : List Nat := []
  relH : Bool := false
  takeS : Option Nat := none
  link : Bool := false
  hb : Option Hb := none
  hbSeen : Bool := false
  hbEarly : Bool := false
  liveSeen : Bool := false
  liveEarly : Bool := false
  hbMiss : Nat := 0
  liveMiss : Nat := 0
  hbRun : Nat := 0
  liveRun : Nat := 0
  linkRun : Nat := 0
  heard : Bool := false
  noneAt : Nat := 0
  grant : Bool := false
  startTake : Option Nat := none
  yields : Nat := 0
  backoff : Bool := false
  backoffAt : Nat := 0
  inhibit : Bool := false
  det1 : Bool := false
  det2 : Bool := false
  ownDis : Nat := 0
  ownForce : Bool := false
  ho : Option Nat := none
  resync : Option Nat := none
  resyncAt : Option Nat := none
  resyncing : Bool := false
  resyncRec : Bool := false
  lastB : Nat := 0
  crc : List Nat := []
  crcNext : List Nat := []
  skip : Nat := 0
  skipNext : Nat := 0
  compared : Option Nat := none
  hist : List Bool := []
  acc : HealthAcc := {}
  health : List Byte := []
  bldEq : Bool := false
  kern : Tab Nat := []
  kernAt : Tab Nat := []
  scrubBad : List Nat := []
  scrubbed : Bool := false
  overAt : Option Nat := none
  psm : List PsmFrame := []
  healthAt : Nat := 0
  psmPartner : Tab Nat := []
  psmOwn : Tab Nat := []
  markT : List Nat := []
  markX : List Nat := []
  evalAt : Nat := 0
  sentTo : Nat := 0
  takeG : Nat := 0
deriving DecidableEq, Repr

/-- What leaves the chip: cells on Hedgerow links, frames on Ethernet ports, messages to the host and to the core, frames on the pair link,
a frame of a serial port (the shape of its frame, and the 32 bits of each slot, first bit highest), stream packets with their header fields,
the words that reads of the window and of BAR2 return, reads of the flash (command, SCK in units of 100 kHz, bytes of address, dummy clocks,
address), the bits that a scan shifts out at TDO (their number, the first one lowest). Newest first in `Dev.out`. -/
inductive Emit where
  | qspi (cmd sck adr dummy addr : Nat)
  | cell (link cls : Nat) (credits : List Nat) (bytes : List Byte)
  | rfault (link : Nat)
  | frame (port : Nat) (bytes : List Byte)
  | rtp (port stream : Nat) (hdr : List Nat) (payload : List Byte)
  | rdata (port addr : Nat) (value : Word)
  | bar2 (off : Nat) (value : Word)
  | msix (v addr data : Nat)
  | coreVec (v : Nat)
  | coreRing (q : Nat)
  | doorbell
  | pair (kind : Nat) (fields : List Nat) (bytes : List Byte)
  | slots (port : Nat) (shape : List Nat) (ws : List Word)
  | pwm (grp : Nat) (trim : Int) (legs : List (Nat × Nat))
  | note (kind a b : Nat)
  | tdo (bits value : Nat)
deriving DecidableEq, Repr

/-- The block cycle beyond its registers: the full number of the block in progress and of the first boundary armed,
the block-base time of the latest boundary (1/16 ns), the periods of the block loop's MCLK that the boundaries since the first
one have counted, the tick of the latest boundary, whether a REALIGN fade waits for its boundary, whether the
next start fades up, and whether the block in progress is FIRST (R36 to R42, R302, R417). -/
structure CycSt where
  k : Nat := 0
  armK : Nat := 0
  at16 : Int := 0
  mclk : Nat := 0
  tick : Nat := 0
  realign : Bool := false
  fadeUp : Bool := false
  fresh : Bool := false
deriving DecidableEq, Repr

/-- One serial port (R162 to R175): the block of entry to PENDING and the block it attached at, frames taken in the
present block, samples of fade-in done and of ramp-out left, gates out of tolerance in a row, a reference rate to be
taken from a gate that begins at or after a tick, a framing error at the latest frame start, the tick plus 1 of the latest rate change
and that from which a master's clocks stop, what a member of a shared-frame group received for the leader's next frame (BCLK
periods, slots), a frame clock present, the offset of the latest frame from the boundary (1/16 ns), frames that belong to the
next block, whether the port's channels are not comparable in the present and in the sealed block, whether it has been in RATE_MISMATCH
since it last attached, and, of a port that was muted before it attached, the ramp-out that was left. -/
structure SapSt where
  pendAt : Nat := 0
  attachK : Nat := 0
  rx : Nat := 0
  fadeIn : Nat := 0
  rampOut : Nat := 0
  bad : Nat := 0
  needRef : Bool := false
  refAt : Nat := 0
  errFrame : Bool := false
  rateAt : Nat := 0
  closing : Nat := 0
  held : Option (Nat × List Word) := none
  present : Bool := false
  lastOfs : Int := 0
  early : List (Nat × List Word) := []
  marked : Bool := false
  skip : Bool := false
  mismatch : Bool := false
  before : Option Nat := none
deriving DecidableEq, Repr

/-- One alignment group: the block armed for its rejoin, the earliest start block, a rejoin that waits for the
leader's frame, and a START held until the cycle runs (R166, R167, R175). -/
structure SapGrp where
  armK : Nat := 0
  startMin : Nat := 0
  due : Option Nat := none
  held : Bool := false
deriving DecidableEq, Repr

/-- A cell waiting at a link's transmitter: class, kind of stamp that its departure inserts (0 none, 1 DREQ, 2 DRSP,
3 SYNC), header and payload, whether its CRC is to be sent inverted, the ingress link (255 local), the number that the
copies of one received cell share, and the block of an ISO cell (R180, R188, R193). -/
structure QCell where
  cls : Nat
  stamp : Nat := 0
  bytes : List Byte
  stomp : Bool := false
  ing : Nat := 255
  id : Nat := 0
  blk : Nat := 0
deriving DecidableEq, Repr

/-- One Hedgerow link (R178 to R201): the cells waiting, oldest first; words sent, returned by the partner and freed, by
class; LINK blocks in a row that meet the INIT condition; the DREQs awaiting an answer (SEQ, T1 in 1/16 ns, tick) and those sent since
the entry to ACTIVE; the latest delay samples in 1/32 ns; the tick at which each class's credit counter last advanced; the cell that is
arriving, by class and bytes so far; the instant at which the latest cell has been sent, in 1/16 ns of TCLK. -/
structure HlkSt where
  q : List QCell := []
  sent : Tab Nat := []
  ret : Tab Nat := []
  freed : Tab Nat := []
  good : Nat := 0
  dreqs : List (Nat × Int × Nat) := []
  nreq : Nat := 0
  samples : List Int := []
  adv : Tab Nat := []
  part : Nat × List Byte := (0, [])
  until16 : Nat := 0
deriving DecidableEq, Repr

/-- A forwarding entry (R214): USEBKP, the de-duplication window as (block, CIDX) seen with the newest block, and
VALID. -/
structure FwdEnt where
  flow : Nat
  pri : Nat
  bkp : Nat
  mc : Bool
  loc : Bool
  ctx : Nat
  dedup : Bool
  revert : Bool
  useBkp : Bool := false
  newest : Option Nat := none
  seen : List (Nat × Nat) := []
  valid : Bool := true
deriving DecidableEq, Repr

/-- A topology record (R208): of each neighbour entry the node, the local and the remote link, the rate and the delay in ns; and the tick
at which the record was last refreshed. -/
structure TopoRec where
  uid : Nat
  node : Nat
  seq : Nat
  flags : Nat
  tprio : Nat
  adj : List (Nat × Nat × Nat × Nat × Nat)
  at_ : Nat := 0
deriving DecidableEq, Repr

/-- An adjacency beyond its register: the recorded UID, the number of consecutive HELLOs, the recorded NODE and LINK
(R206). -/
structure AdjSt where
  uid : Nat := 0
  n : Nat := 0
  node : Nat := 0
  link : Nat := 0
deriving DecidableEq, Repr

/-- The fabric (R204 to R218): forwarding table, adjacencies, flood cache with the tick of each entry, topology database, TOPO sequence
counter and whether a change calls for a record, the static ID of the image, the election (phase 0 none, 1 waiting, 2 claiming;
candidate, CLAIMs sent, beaten), hops to the time source, the number of received cells, and applied reservations with the cells of each flow
and block that left under them. -/
structure HfbSt where
  fwd : Tab FwdEnt := []
  adj : Tab AdjSt := []
  flood : List (Nat × Nat) := []
  topo : Tab TopoRec := []
  topoSeq : Nat := 0
  topoDue : Bool := false
  staticId : Nat := 0
  phase : Nat := 0
  cand : Nat := 0
  claims : Nat := 0
  beaten : Bool := false
  hops : Nat := 0
  cells : Nat := 0
  rsv : Tab Word := []
  used : List (Nat × Nat × Nat) := []
deriving DecidableEq, Repr

/-- One flow context (R219 to R222): cells received for blocks not yet sealed (block, CIDX, payload), the samples last
presented (channel × 32 + position), whether the latest block was treated and whether it was muted, and for a stream
the packets received or being formed. -/
structure FlowSt where
  got : List (Nat × Nat × List Byte) := []
  last : Tab Word := []
  treated : Bool := false
  muted : Bool := false
  skip : Bool := false
deriving DecidableEq, Repr

/-- One stream beyond its registers (R235 to R240): the sequence numbers received with their first block and the legs
that delivered them, the latest number of a sealed block, the SSRC seen, the packet being formed (first sample index, block
of the first sample, samples taken, payload), the first media-clock index beyond the latest block of a converted stream, and whether
a reset stopped it. -/
structure StrSt where
  seqs : List (Nat × Nat × Nat) := []
  lastSeq : Option Nat := none
  ssrc : Option Nat := none
  n0 : Nat := 0
  m0 : Nat := 0
  cnt : Nat := 0
  pay : List Byte := []
  nextN : Option Nat := none
  halt : Bool := false
deriving DecidableEq, Repr

/-- A job descriptor of the graph (R82), with its successor list and grants resolved and the loader's non-comparable
mark (R85). `ndet` is FLAGS.NONCMP. -/
structure JobDesc where
  entry : Nat := 0
  arg : Nat := 0
  home : Nat := 0
  pin : Bool := false
  xin : Bool := false
  sys : Bool := false
  ndet : Bool := false
  preds : Nat := 0
  succs : List Nat := []
  grants : List (Nat × Bool) := []
  outFirst : Nat := 0
  outCount : Nat := 0
  est : Nat := 0
  nc : Bool := false
deriving DecidableEq, Repr

/-- A region of the shared store: tag, kind (0 DELAY, 1 TABLE, 2 STATE, 3 PARAM), offset, size and initial content
(R29, R83, R95). Where no free space holds a region in one piece, it stands as several pieces, each of them such a record
with the size of the whole region in `whole`. -/
structure Region where
  tag : Nat := 0
  kind : Nat := 0
  base : Nat := 0
  size : Nat := 0
  whole : Nat := 0
  init : List Byte := []
deriving DecidableEq, Repr

/-- An accumulator: its format tag and its lanes (R52, R54). -/
structure AccSt where
  tag : Nat := 0
  lanes : List Nat := [0, 0, 0, 0]
deriving DecidableEq, Repr

/-- An active hardware loop: address of the first and of the last body instruction, and passes left (R73). -/
structure LoopCtr where
  first : Nat
  last : Nat
  left : Nat
deriving DecidableEq, Repr

/-- A circular-address register (R52). -/
structure CaSt where
  base : Nat := 0
  len : Nat := 0
  off : Nat := 0
deriving DecidableEq, Repr

/-- One Sprig: whether it holds a job, which, whether by a steal, whether `end` has issued, whether control stands
after the last instruction of a loop body, whether it waits after a fruitless probe round; the architectural state of R52,
with the active loop counters in order of activation; the valid scratch lines (R58); the store buffer, oldest first
(R65). -/
structure SprigSt where
  busy : Bool := false
  job : Nat := 0
  stolen : Bool := false
  ended : Bool := false
  iter : Bool := false
  wait : Bool := false
  pc : Nat := 0
  s : Tab Word := []
  v : Tab (BitVec 128) := []
  acc : Tab AccSt := []
  lc : Tab LoopCtr := []
  order : List Nat := []
  ca : Tab CaSt := []
  sst : Nat := 0
  scr : List Nat := []
  buf : List (Nat × List Byte) := []
  fresh : Bool := false
  loads : List (Nat × Nat × Nat) := []
deriving DecidableEq, Repr

/-- The Thicket (chapter 04): the graph, the length of the CODE section in bytes and its offset in the code store, the regions, the initial
home areas; the Sprigs, their deques (head first); the instance in progress: its input block, the stage reached (0 none, 1 sealed, 2 seal
complete, 3 crosspoint pass complete), whether a BLOCK reset made it lose every output, the ready counters, the fate of each job (1 popped,
2 completed, 3 failed, 4 lost), the tick of each completion or failure plus 1, the tainted jobs, the pace count at its finish, which jobs stored to which
channel; the staged writes by offset, oldest first; an armed commit whose block was not later as ARM was written, and one whose block passed
while the cycle was not RUNNING; the treatment of each channel's latest block (1 held or zeroed, 2 muted); the channels not comparable in
the staged output block; the slack and pace rate of the blocks of the AVS window, newest first; the pace count at the latest boundary. -/
structure ThkSt where
  jobs : List JobDesc := []
  codeLen : Nat := 0
  codeBase : Nat := 0
  regions : List Region := []
  homeInit : Tab (List Byte) := []
  sprig : Tab SprigSt := []
  deque : Tab (List Nat) := []
  inst : Option Nat := none
  stage : Nat := 0
  killed : Bool := false
  cnt : Tab Nat := []
  fate : Tab Nat := []
  doneAt : Tab Nat := []
  taint : List Nat := []
  fin : Option Nat := none
  owner : List (Nat × Nat) := []
  staged : List (Nat × Word) := []
  late : Bool := false
  missed : Bool := false
  treat : Tab Nat := []
  skip : List Nat := []
  avs : List (Nat × Nat) := []
  paceAt : Nat := 0
deriving DecidableEq, Repr

/-- What the content of an image section fixes: the words of the registers that it sets, by address; the crosspoint's partition, slots and
sink map; the regions and the initial home areas; the forwarding entries; the number of flow contexts; and what the
checks of its own layout give (0 where they pass). The layouts of the sections but GRAPH and CODE are not in the manual. -/
structure Content where
  reason : Nat := 0
  regs : List (Nat × Nat) := []
  part : Tab (Nat × Nat) := []
  slots : Tab XSlot := []
  sink : Tab Nat := []
  regions : List Region := []
  homes : Tab (List Byte) := []
  fwd : Tab FwdEnt := []
  contexts : Nat := 0
deriving DecidableEq, Repr, Inhabited

/-- The directory in force (R22): preferred slot, reads at 100 MHz, 4-byte addresses, offset and length of each flash slot. -/
structure FlashDir where
  boot : Nat := 0
  fast : Bool := false
  addr4 : Bool := false
  off0 : Nat := 0
  len0 : Nat := 0
  off1 : Nat := 0
  len1 : Nat := 0
deriving DecidableEq, Repr

/-- The loader (chapter 01): BOOTSEL as sampled; the step of the attempt in progress (0 none, 1 directory, 2 data, 3
signature, 4 apply, 5 a host image awaited); whether it stages, whether it reads from the host, the device slot that it loads;
the directory; the flash slots still to try and the one being read; an attempt of this boot that failed; the bytes that
have arrived; whether a word of the chunk buffer was discarded; the chunk handed over (length, last, lacking bytes) and
whether its bytes have arrived; the images in the device slots; the regions of the image that does not run; whether
an image waits for a planned restart; the block whose start finds a swap cancelled by a BLOCK reset in
the block before. -/
structure BootSt where
  sel : Nat := 0
  step : Nat := 0
  staging : Bool := false
  host : Bool := false
  slot : Nat := 0
  dir : FlashDir := {}
  order : List Nat := []
  fslot : Nat := 0
  fell : Bool := false
  img : List Byte := []
  gap : Bool := false
  chunk : Option (Nat × Bool × Bool) := none
  arrived : Bool := false
  slots : Tab (List Byte) := []
  regions : List Region := []
  restart : Bool := false
  cancel : Option Nat := none
deriving DecidableEq, Repr

/-- The test block (chapter 21): the tick of a first key in progress; the instruction in effect, the register that it
selects (0 bypass, 1 identification, 2 boundary) with what its latest capture took, the boundary update latches, whether the TAP drives the
balls. -/
structure TestSt where
  key : Option Nat := none
  ir : Nat := 1
  dr : Nat := 1
  dreg : Nat := 0x110242AF
  latch : Nat := 0
  drive : Bool := false
deriving DecidableEq, Repr

/-- The device: every register whose value differs from its reset word, by address; one memory keyed by the addresses
of R322; the words with a correctable or an uncorrectable error; fuses; TCLK and pace counts; the draw counter of the
free values; the number of the block or pseudo-block in progress and what has already used its once-per-block
allowance; the ticks, plus 1, at which the delays and intervals of the manual began that are running, by kind and element (`Timer`);
whether an image has been applied since the latest CHIP reset, the types of the sections that such images had, the running image's BUILD_ID;
what left the chip; the state of each block; and the levels of ERR_N, IRQ_N and RESET_N. -/
structure Dev where
  regs : Tab Word := []
  mem : List Host.Cell := []
  eccCor : List Nat := []
  eccBad : List Nat := []
  fuse : Fuses := {}
  tclk : Nat := 0
  pace : Nat := 0
  free : Nat := 0
  period : Nat := 0
  once : List (Nat × Nat) := []
  timers : Tab Nat := []
  imageApplied : Bool := false
  sections : List Nat := []
  build : Nat := 0
  out : List Emit := []
  flt : FltSt := {}
  mgmt : MgmtSt := {}
  time : TimeSt := {}
  perf : PerfSt := {}
  pwr : PwrSt := {}
  rcu : RcuSt := {}
  dll : Tab DllSt := []
  dllLost : List Nat := []
  aud : AudSt := {}
  asrc : Tab AsrcSt := []
  xpt : XptSt := {}
  psm : PsmSt := {}
  dips : Tab DipSt := []
  pair : PairSt := {}
  cyc : CycSt := {}
  sap : Tab SapSt := []
  sapG : Tab SapGrp := []
  hlk : Tab HlkSt := []
  hfb : HfbSt := {}
  flow : Tab FlowSt := []
  retained : List (Nat × List (Nat × List QCell)) := []
  str : Tab StrSt := []
  txts : Tab (List (List Nat)) := []
  ethRetained : List (Nat × List Emit) := []
  thk : ThkSt := {}
  boot : BootSt := {}
  test : TestSt := {}
  errN : Bool := true
  irqN : Bool := true
  resetN : Bool := true
deriving DecidableEq, Repr

end Sys2Proof.Machine
end

