-- ==== Sys2Proof/Config.lean ====
section
/-! DEFINITION. The free values: what the manual leaves open, as constants without a body, so that nothing can be
proved of the value they take. Each is named in the assumption log and applied to the draw counter of the state, so
that two uses are unrelated, or to the operands on which it depends. -/

namespace Sys2Proof.Config

/-- Pace ticks that pass in one TCLK tick (R7, R63: no fixed relation to time): log entry 4. -/
opaque paceTicks : Nat → Nat

/-- Does a RESET_N low pulse longer than 1 µs and shorter than 10 µs cause a CHIP reset (R397)? Log entry 7. -/
opaque resetPulse : Nat → Bool

/-- A sample that an asynchronous rate converter interpolates (R110 gives figures, no arithmetic), from the ratio word in force, the
fraction of the position in 2^−38 sample, and the source samples around the position: log entry 9. -/
opaque asrcFilter : Nat → Nat → List Int → BitVec 32

/-- Does a ramp product that is no whole number round up? The manual gives linear ramps at the ports and converters and no rounding
for them: by sample, numerator and denominator of the weight (log entry 9). -/
opaque rampUp : Int → Nat → Nat → Bool

/-- An undetermined bit. -/
opaque freeBit : Nat → Bool

/-- An undetermined natural number. -/
opaque freeNat : Nat → Nat

/-- An undetermined 32-bit word. -/
opaque freeWord : Nat → BitVec 32

/-- An undetermined number of the performance counters or the sampler, apart from every other free value, so that measuring changes nothing
that is measured (R330). -/
opaque perfNat : Nat → Nat

/-- The cell of the boundary register that holds the level of a ball, by `Ball.num`. The cell map is in the BSDL description and not in the
manual (R410): log entry 149. -/
opaque bsrCell : Nat → Nat

/-- The cell that turns a ball's driver off and the value that does so, for a ball that has one; in the BSDL description (R410): log entry
149. -/
opaque bsrControl : Nat → Option (Nat × Bool)

/-- What the body of an image section of a type fixes. The manual gives the layout of the sections GRAPH and CODE and no
other (R15, R81): log entry 10. -/
opaque sectionContent : Nat → List (BitVec 8) → Machine.Content

/-- The largest fine word of a loop whose DCO frequency, measured against XOIN, does not exceed a limit: by loop, band CODE, limit in kHz and
tick. The manual gives the oscillator no tuning law (R270): log entry 129. -/
opaque fineLimit : Nat → Nat → Nat → Nat → Nat

/-- The SSRC of a transmitted stream, for which the manual gives no register (R235): by stream, log entry 11. -/
opaque ssrc : Nat → BitVec 32

end Sys2Proof.Config
end

