-- ==== Sys2Proof/Machine/FaultTable.lean ====
section
/-! DEFINITION. The reset-default fault table and dependency sets (R315, R323), the fault source numbers, and the
reset words that depend on the element of a register array. -/

namespace Sys2Proof.Machine

/-- The reset-default fault table (R315): first and last source, block, class, N, window in ms, severe-level reactions
(I 1, N 2, B 4, C 8, E 16), escalation time in ms, escalation reaction, first-error capture (R322). -/
def fltTab0 : List (Nat × Nat × Nat × Nat × Nat × Nat × Nat × Nat × Nat × Nat) := [
  (0, 0, 0, 0, 10, 1000, 1, 0, 0, 0),
  (1, 1, 0, 0, 1, 1, 1, 0, 0, 1),
  (2, 2, 0, 3, 1, 1, 17, 0, 0, 1),
  (3, 3, 0, 0, 16, 60000, 1, 0, 0, 0),
  (4, 4, 0, 2, 1, 1, 17, 0, 0, 1),
  (5, 5, 1, 1, 3, 10000, 17, 0, 0, 0),
  (6, 6, 1, 3, 1, 1, 17, 0, 0, 1),
  (7, 7, 1, 2, 1, 1, 18, 10, 2, 1),
  (8, 8, 1, 2, 1, 1, 18, 10, 2, 1),
  (9, 9, 1, 3, 1, 1, 18, 100, 2, 1),
  (10, 10, 1, 2, 1, 1, 18, 10, 2, 1),
  (11, 11, 1, 2, 1, 1, 18, 10, 2, 1),
  (12, 12, 1, 1, 1, 1, 17, 0, 0, 0),
  (13, 13, 1, 1, 1, 1000, 1, 0, 0, 0),
  (14, 14, 1, 3, 1, 1, 18, 100, 2, 1),
  (15, 18, 2, 1, 1, 1000, 1, 0, 0, 0),
  (19, 19, 2, 2, 3, 10000, 17, 0, 0, 1),
  (20, 20, 2, 2, 1, 1, 19, 0, 0, 1),
  (21, 21, 2, 0, 20, 10000, 1, 0, 0, 0),
  (22, 22, 2, 0, 1, 1000, 1, 0, 0, 0),
  (23, 23, 3, 1, 1, 1000, 1, 0, 0, 0),
  (24, 24, 3, 0, 10, 10000, 1, 0, 0, 0),
  (25, 28, 4, 1, 1, 1000, 1, 0, 0, 0),
  (29, 32, 4, 0, 1, 1000, 1, 0, 0, 0),
  (33, 36, 4, 0, 1, 1000, 1, 0, 0, 0),
  (37, 37, 4, 0, 1, 1000, 1, 0, 0, 0),
  (38, 38, 4, 0, 10, 1000, 1, 0, 0, 0),
  (39, 39, 4, 2, 1, 1, 19, 0, 0, 1)]
/-- The reset-default fault table, part 1. -/
def fltTab1 : List (Nat × Nat × Nat × Nat × Nat × Nat × Nat × Nat × Nat × Nat) := [
  (40, 47, 5, 1, 1, 1000, 1, 0, 0, 0),
  (48, 55, 5, 0, 100, 1000, 1, 0, 0, 0),
  (56, 56, 5, 0, 100, 1000, 1, 0, 0, 0),
  (57, 57, 5, 0, 100, 1000, 1, 0, 0, 0),
  (58, 58, 6, 1, 1, 1000, 1, 0, 0, 0),
  (59, 59, 6, 1, 1, 1000, 1, 0, 0, 0),
  (60, 60, 6, 0, 1, 1000, 1, 0, 0, 0),
  (61, 61, 6, 0, 1, 1000, 1, 0, 0, 0),
  (62, 63, 7, 1, 1, 1000, 1, 0, 0, 0),
  (64, 64, 7, 0, 100, 1000, 1, 0, 0, 0),
  (65, 65, 7, 0, 10, 1000, 1, 0, 0, 0),
  (66, 66, 8, 0, 100, 1000, 1, 0, 0, 0),
  (67, 82, 9, 1, 4, 1000, 1, 0, 0, 0),
  (83, 98, 9, 0, 1, 1000, 1, 0, 0, 0),
  (99, 99, 10, 0, 1, 1000, 1, 0, 0, 0),
  (100, 100, 10, 0, 10, 1000, 1, 0, 0, 0),
  (101, 101, 11, 0, 100, 1000, 1, 0, 0, 0),
  (102, 102, 11, 0, 10, 1000, 1, 0, 0, 0),
  (103, 103, 12, 1, 8, 100, 1, 0, 0, 0),
  (104, 104, 12, 1, 8, 1000, 1, 0, 0, 1),
  (105, 105, 12, 1, 1, 1000, 1, 0, 0, 0),
  (106, 106, 12, 0, 64, 60000, 1, 0, 0, 0),
  (107, 107, 12, 2, 1, 1, 18, 100, 1, 1),
  (108, 139, 13, 2, 1, 1, 17, 0, 0, 1),
  (140, 143, 13, 2, 1, 1, 17, 0, 0, 1),
  (144, 147, 13, 1, 1, 1000, 1, 0, 0, 0),
  (148, 148, 13, 1, 1, 1000, 1, 0, 0, 0),
  (149, 149, 13, 0, 100, 1000, 1, 0, 0, 0)]
/-- The reset-default fault table, part 2. -/
def fltTab2 : List (Nat × Nat × Nat × Nat × Nat × Nat × Nat × Nat × Nat × Nat) := [
  (150, 150, 13, 0, 100, 1000, 1, 0, 0, 0),
  (151, 151, 14, 1, 1, 1000, 1, 0, 0, 0),
  (152, 152, 14, 2, 1, 1, 19, 0, 0, 1),
  (153, 153, 14, 1, 1, 1000, 1, 0, 0, 0),
  (154, 154, 14, 0, 1, 1000, 1, 0, 0, 0),
  (155, 155, 14, 1, 1, 1000, 1, 0, 0, 0),
  (156, 156, 14, 1, 1, 1000, 1, 0, 0, 0),
  (157, 157, 14, 1, 1, 1000, 1, 0, 0, 0),
  (158, 158, 15, 0, 1, 1000, 1, 0, 0, 0),
  (159, 159, 16, 0, 1, 1000, 1, 0, 0, 0),
  (160, 160, 17, 1, 3, 60000, 17, 0, 0, 0),
  (161, 161, 17, 0, 1, 1000, 1, 0, 0, 0),
  (162, 162, 17, 1, 1, 1000, 1, 0, 0, 0),
  (163, 163, 17, 0, 10, 1000, 1, 0, 0, 0),
  (164, 164, 17, 0, 1, 1000, 1, 0, 0, 0),
  (165, 165, 17, 1, 1, 1000, 1, 0, 0, 0),
  (166, 166, 17, 0, 64, 60000, 1, 0, 0, 0),
  (167, 167, 17, 2, 1, 1, 18, 100, 1, 1),
  (168, 168, 18, 0, 1, 1000, 1, 0, 0, 0)]
/-- The reset-default fault table (R315), whole. -/
def fltTab : List (Nat × Nat × Nat × Nat × Nat × Nat × Nat × Nat × Nat × Nat) := fltTab0 ++ fltTab1 ++ fltTab2
/-- Source number of SYS.BLK_PHASE (R315). -/
abbrev FS.SYS_BLK_PHASE : Nat := 0
/-- Source number of SYS.BUS_ERR (R315). -/
abbrev FS.SYS_BUS_ERR : Nat := 1
/-- Source number of SYS.FUSE (R315). -/
abbrev FS.SYS_FUSE : Nat := 2
/-- Source number of SYS.MRAM_CORR (R315). -/
abbrev FS.SYS_MRAM_CORR : Nat := 3
/-- Source number of SYS.MRAM_UNC (R315). -/
abbrev FS.SYS_MRAM_UNC : Nat := 4
/-- Source number of PWR.VBUS_WARN (R315). -/
abbrev FS.PWR_VBUS_WARN : Nat := 5
/-- Source number of PWR.VBUS_OV (R315). -/
abbrev FS.PWR_VBUS_OV : Nat := 6
/-- Source number of PWR.VINT_UV (R315). -/
abbrev FS.PWR_VINT_UV : Nat := 7
/-- Source number of PWR.VCORE_UV (R315). -/
abbrev FS.PWR_VCORE_UV : Nat := 8
/-- Source number of PWR.VCORE_OV (R315). -/
abbrev FS.PWR_VCORE_OV : Nat := 9
/-- Source number of PWR.VIO_UV (R315). -/
abbrev FS.PWR_VIO_UV : Nat := 10
/-- Source number of PWR.VLDO_UV (R315). -/
abbrev FS.PWR_VLDO_UV : Nat := 11
/-- Source number of PWR.VIO33_OC (R315). -/
abbrev FS.PWR_VIO33_OC : Nat := 12
/-- Source number of PWR.TJ_WARN (R315). -/
abbrev FS.PWR_TJ_WARN : Nat := 13
/-- Source number of PWR.TJ_CRIT (R315). -/
abbrev FS.PWR_TJ_CRIT : Nat := 14
/-- Source number of RCU.HOLDOVER, first of 4 (R315). -/
abbrev FS.RCU_HOLDOVER : Nat := 15
/-- Source number of RCU.NOBAND (R315). -/
abbrev FS.RCU_NOBAND : Nat := 19
/-- Source number of RCU.XOLOSS (R315). -/
abbrev FS.RCU_XOLOSS : Nat := 20
/-- Source number of RCU.DISQ (R315). -/
abbrev FS.RCU_DISQ : Nat := 21
/-- Source number of RCU.RANK_CONFLICT (R315). -/
abbrev FS.RCU_RANK_CONFLICT : Nat := 22
/-- Source number of ALN.UNLOCK (R315). -/
abbrev FS.ALN_UNLOCK : Nat := 23
/-- Source number of ALN.ALIGN (R315). -/
abbrev FS.ALN_ALIGN : Nat := 24
/-- Source number of TIME.UNLOCK, first of 4 (R315). -/
abbrev FS.TIME_UNLOCK : Nat := 25
/-- Source number of TIME.HOLD, first of 4 (R315). -/
abbrev FS.TIME_HOLD : Nat := 29
/-- Source number of TIME.STEP, first of 4 (R315). -/
abbrev FS.TIME_STEP : Nat := 33
/-- Source number of TIME.SELSW (R315). -/
abbrev FS.TIME_SELSW : Nat := 37
/-- Source number of TIME.ALM_LATE (R315). -/
abbrev FS.TIME_ALM_LATE : Nat := 38
/-- Source number of TIME.TCLK (R315). -/
abbrev FS.TIME_TCLK : Nat := 39
/-- Source number of HLK.DOWN, first of 8 (R315). -/
abbrev FS.HLK_DOWN : Nat := 40
/-- Source number of HLK.CRC, first of 8 (R315). -/
abbrev FS.HLK_CRC : Nat := 48
/-- Source number of HLK.POLICE (R315). -/
abbrev FS.HLK_POLICE : Nat := 56
/-- Source number of HLK.RXDROP (R315). -/
abbrev FS.HLK_RXDROP : Nat := 57
/-- Source number of HFB.ID_CONFLICT (R315). -/
abbrev FS.HFB_ID_CONFLICT : Nat := 58
/-- Source number of HFB.NOROUTE (R315). -/
abbrev FS.HFB_NOROUTE : Nat := 59
/-- Source number of HFB.REROUTE (R315). -/
abbrev FS.HFB_REROUTE : Nat := 60
/-- Source number of HFB.ADJ_DEAD (R315). -/
abbrev FS.HFB_ADJ_DEAD : Nat := 61
/-- Source number of ETH.LINK, first of 2 (R315). -/
abbrev FS.ETH_LINK : Nat := 62
/-- Source number of ETH.RXDROP (R315). -/
abbrev FS.ETH_RXDROP : Nat := 64
/-- Source number of ETH.TXTS (R315). -/
abbrev FS.ETH_TXTS : Nat := 65
/-- Source number of FLOW.LOSS (R315). -/
abbrev FS.FLOW_LOSS : Nat := 66
/-- Source number of SAP.SLIP, first of 16 (R315). -/
abbrev FS.SAP_SLIP : Nat := 67
/-- Source number of SAP.RATE, first of 16 (R315). -/
abbrev FS.SAP_RATE : Nat := 83
/-- Source number of ASRC.RANGE (R315). -/
abbrev FS.ASRC_RANGE : Nat := 99
/-- Source number of ASRC.SLIP (R315). -/
abbrev FS.ASRC_SLIP : Nat := 100
/-- Source number of XPT.CLIP (R315). -/
abbrev FS.XPT_CLIP : Nat := 101
/-- Source number of XPT.FADE_DEFER (R315). -/
abbrev FS.XPT_FADE_DEFER : Nat := 102
/-- Source number of THK.OVERRUN (R315). -/
abbrev FS.THK_OVERRUN : Nat := 103
/-- Source number of THK.SPRIG_EXC (R315). -/
abbrev FS.THK_SPRIG_EXC : Nat := 104
/-- Source number of THK.AVS_CEIL (R315). -/
abbrev FS.THK_AVS_CEIL : Nat := 105
/-- Source number of THK.ECC_CORR (R315). -/
abbrev FS.THK_ECC_CORR : Nat := 106
/-- Source number of THK.ECC_UNC (R315). -/
abbrev FS.THK_ECC_UNC : Nat := 107
/-- Source number of PSM.SHORT, first of 32 (R315). -/
abbrev FS.PSM_SHORT : Nat := 108
/-- Source number of PSM.PSFLT, first of 4 (R315). -/
abbrev FS.PSM_PSFLT : Nat := 140
/-- Source number of PSM.DIAG, first of 4 (R315). -/
abbrev FS.PSM_DIAG : Nat := 144
/-- Source number of PSM.CLK (R315). -/
abbrev FS.PSM_CLK : Nat := 148
/-- Source number of PSM.ILIM (R315). -/
abbrev FS.PSM_ILIM : Nat := 149
/-- Source number of PSM.CLIP (R315). -/
abbrev FS.PSM_CLIP : Nat := 150
/-- Source number of PAIR.TAKEOVER (R315). -/
abbrev FS.PAIR_TAKEOVER : Nat := 151
/-- Source number of PAIR.SPLIT (R315). -/
abbrev FS.PAIR_SPLIT : Nat := 152
/-- Source number of PAIR.LINK (R315). -/
abbrev FS.PAIR_LINK : Nat := 153
/-- Source number of PAIR.LIVE (R315). -/
abbrev FS.PAIR_LIVE : Nat := 154
/-- Source number of PAIR.OWN (R315). -/
abbrev FS.PAIR_OWN : Nat := 155
/-- Source number of PAIR.MISMATCH (R315). -/
abbrev FS.PAIR_MISMATCH : Nat := 156
/-- Source number of PAIR.PLEACH (R315). -/
abbrev FS.PAIR_PLEACH : Nat := 157
/-- Source number of FLT.LOGFULL (R315). -/
abbrev FS.FLT_LOGFULL : Nat := 158
/-- Source number of PERF.TRACE_OVF (R315). -/
abbrev FS.PERF_TRACE_OVF : Nat := 159
/-- Source number of MGMT.WDOG (R315). -/
abbrev FS.MGMT_WDOG : Nat := 160
/-- Source number of MGMT.IMG_REJECT (R315). -/
abbrev FS.MGMT_IMG_REJECT : Nat := 161
/-- Source number of MGMT.PCIE_DOWN (R315). -/
abbrev FS.MGMT_PCIE_DOWN : Nat := 162
/-- Source number of MGMT.PCIE_ERR (R315). -/
abbrev FS.MGMT_PCIE_ERR : Nat := 163
/-- Source number of MGMT.EVRING (R315). -/
abbrev FS.MGMT_EVRING : Nat := 164
/-- Source number of MGMT.SCENE (R315). -/
abbrev FS.MGMT_SCENE : Nat := 165
/-- Source number of MGMT.ECC_CORR (R315). -/
abbrev FS.MGMT_ECC_CORR : Nat := 166
/-- Source number of MGMT.ECC_UNC (R315). -/
abbrev FS.MGMT_ECC_UNC : Nat := 167
/-- Source number of TEST.FTM (R315). -/
abbrev FS.TEST_FTM : Nat := 168
/-- The reset-default dependency set of a block, as ranges of sources (R323). -/
def shadowDefault (b : Nat) : List (Nat × Nat) :=
  match b with
  | 2 => [(15, 18), (19, 19), (20, 20), (21, 21), (22, 22), (23, 23), (24, 24), (148, 148), (67, 82), (83, 98), (40, 47), (100, 100), (0, 0)]
  | 3 => [(23, 23), (24, 24), (148, 148), (67, 82)]
  | 4 => [(25, 28), (29, 32), (33, 36), (37, 37), (38, 38), (21, 21), (15, 18), (24, 24), (0, 0)]
  | 5 => [(40, 47), (48, 55), (56, 56), (57, 57), (61, 61), (60, 60), (59, 59), (66, 66), (25, 28), (29, 32), (21, 21), (15, 18)]
  | 6 => [(58, 58), (59, 59), (60, 60), (61, 61), (56, 56), (66, 66)]
  | 7 => [(62, 63), (64, 64), (65, 65), (66, 66), (25, 28), (29, 32)]
  | 8 => [(66, 66), (156, 156)]
  | 9 => [(67, 82), (83, 98), (99, 99), (100, 100), (23, 23)]
  | 10 => [(99, 99), (100, 100), (156, 156)]
  | 11 => [(101, 101), (102, 102), (150, 150), (156, 156), (157, 157)]
  | 12 => [(103, 103), (104, 104), (105, 105), (156, 156), (157, 157)]
  | 13 => [(144, 147), (148, 148), (149, 149), (150, 150), (157, 157)]
  | 14 => [(153, 153), (154, 154), (155, 155), (156, 156), (157, 157)]
  | 16 => [(159, 159)]
  | 17 => [(162, 162), (163, 163), (164, 164), (57, 57), (64, 64)]
  | _ => []

/-- The row of a source in the reset-default table; all zero for the reserved sources 169 to 191. -/
def fltRow (n : Nat) : Nat × Nat × Nat × Nat × Nat × Nat × Nat × Nat × Nat × Nat :=
  (fltTab.find? (fun r => decide (r.1 ≤ n) && decide (n ≤ r.2.1))).getD (n, n, 0, 0, 0, 0, 0, 0, 0, 0)

/-- FLT_SRC_CFG[n] under the reset-default table: CLASS, no event-level reaction, SVR, ESCR, FEC, RBLK (the source's
own block), ESC (R315, R319). -/
def fltCfgDefault (n : Nat) : Nat :=
  match fltRow n with
  | (_, _, b, c, _, _, sv, esc, er, fec) => c * 2 ^ 30 + sv * 2 ^ 20 + er * 2 ^ 18 + fec * 2 ^ 17 + b * 2 ^ 10 + esc

/-- FLT_SRC_THR[n] under the reset-default table. -/
def fltThrDefault (n : Nat) : Nat :=
  match fltRow n with
  | (_, _, _, _, nn, w, _, _, _, _) => nn * 2 ^ 24 + w

/-- Word w of the reset-default dependency set of block b (R323). -/
def shadowWordDefault (b w : Nat) : Nat :=
  (List.range 32).foldl (fun acc j =>
    if (shadowDefault b).any (fun r => decide (r.1 ≤ 32 * w + j) && decide (32 * w + j ≤ r.2)) then acc + 2 ^ j else acc) 0

/-- The reset word of element (i, j) of a register: the descriptor's word, but for the arrays whose elements reset
differently (RCU_CAND_FNOM, RCU_LOOP_RANK) and the tables of R315 and R323. -/
def Reg.rstAt (r : Reg) (i j : Nat) : Word :=
  if r.base = 0x20104 then BitVec.ofNat 32 (if 9 ≤ i then 0x2625A000 else if 5 ≤ i then 0x03D09000 else 0)
  else if r.base = 0x2100C then BitVec.ofNat 32 (if j = 0 then 0xFFFFFFFE else if j = 1 then 0xFFFFFFFF else 0xF)
  else if r.base = 0xF1000 then BitVec.ofNat 32 (fltCfgDefault i)
  else if r.base = 0xF1004 then BitVec.ofNat 32 (fltThrDefault i)
  else if r.base = 0xF2000 then BitVec.ofNat 32 (shadowWordDefault i j)
  else BitVec.ofNat 32 r.rst

end Sys2Proof.Machine
end

