-- ==== Sys2Proof/Machine/Ops.lean ====
section
/-! DEFINITION. The named operations over registers, memory and the outside: reading and writing registers and their
fields, bytes and words of memory, free values, once-per-block allowances, performance counts, vectors and rings. -/

namespace Sys2Proof.Machine

/-! ### Registers -/

/-- The present word of a register element (its reset word where nothing else was written). -/
def Dev.rd (d : Dev) (r : Reg) (i : Nat := 0) (j : Nat := 0) : Word := tabGet (r.rstAt i j) d.regs (r.addr i j)

/-- Set the word of a register element. -/
def Dev.wr (d : Dev) (r : Reg) (w : Word) (i : Nat := 0) (j : Nat := 0) : Dev :=
  { d with regs := tabPut (r.rstAt i j) d.regs (r.addr i j) w }

/-- The value of a field. -/
def Dev.get (d : Dev) (f : FRef) (i : Nat := 0) (j : Nat := 0) : Nat := fget (d.rd f.reg i j) f.hi f.lo

/-- Set a field, to `v` modulo its width. -/
def Dev.put (d : Dev) (f : FRef) (v : Nat) (i : Nat := 0) (j : Nat := 0) : Dev :=
  d.wr f.reg (fset (d.rd f.reg i j) f.hi f.lo v) i j

/-- Is a one-bit field 1? -/
def Dev.is (d : Dev) (f : FRef) (i : Nat := 0) (j : Nat := 0) : Bool := d.get f i j == 1

/-- Bit `b` of a field. -/
def Dev.bit (d : Dev) (f : FRef) (b : Nat) (i : Nat := 0) (j : Nat := 0) : Bool := bitOf (d.get f i j) b == 1

/-- Set bit `b` of a field. -/
def Dev.setBit (d : Dev) (f : FRef) (b : Nat) (i : Nat := 0) (j : Nat := 0) : Dev :=
  d.put f (d.get f i j ||| 2 ^ b) i j

/-- Clear bit `b` of a field. -/
def Dev.clrBit (d : Dev) (f : FRef) (b : Nat) (i : Nat := 0) (j : Nat := 0) : Dev :=
  if d.bit f b i j then d.put f (d.get f i j - 2 ^ b) i j else d

/-- Increment a counter field, saturating at its width. -/
def Dev.inc (d : Dev) (f : FRef) (i : Nat := 0) (j : Nat := 0) : Dev :=
  d.put f (satInc (2 ^ (f.hi + 1 - f.lo) - 1) (d.get f i j)) i j

/-- What a write of word `w` makes of one field over the present word: RW takes the value, W1C clears and W1S sets
the bits written 1, RO, WO and RC keep the present value (R8); an image field is left alone before an image has been
applied, and a BLOCK-domain register of a block in reset is left alone altogether (R376, R384). -/
def fldStore (applied : Bool) (w cur : Word) (f : Fld) : Nat :=
  let c := fget cur f.hi f.lo
  let v := fget w f.hi f.lo
  if f.img && !applied then c else
  match f.ty with
  | .rw => v
  | .w1c => c - (c &&& v)
  | .w1s => c ||| v
  | _ => c

/-- The word that a write leaves in a register: every field by its type, reserved bits 0 (R8, R377). -/
def regStore (applied : Bool) (flds : List Fld) (w cur : Word) : Word :=
  flds.foldl (fun acc f => fset acc f.hi f.lo (fldStore applied w cur f)) 0

/-- Is a block held in a BLOCK reset (R324, R382)? -/
def Dev.inReset (d : Dev) (b : Nat) : Bool := (tabGet {} d.flt.shadows b).inReset

/-- Has an image that sets the image fields of element i of a register been applied (R376)? The Reset column of RCU_CAND_FNOM reads image
for candidates 0 to 4 alone. -/
def Dev.imgSet (d : Dev) (r : Reg) (i : Nat) : Bool :=
  if r == RCU_CAND_FNOM && decide (5 ≤ i) then true
  else d.imageApplied && match r.optSection with
    | some t => d.sections.contains t
    | none => true

/-- A typed write of a register element (R8, R377), discarded while the register's block is held in reset (R384). -/
def Dev.store (d : Dev) (r : Reg) (w : Word) (i : Nat := 0) (j : Nat := 0) : Dev :=
  if r.dom == .block && d.inReset r.blk then d
  else d.wr r (regStore (d.imgSet r i) r.flds w (d.rd r i j)) i j

/-- The mask of the fields of a register that satisfy a test. -/
def fldMask (p : Fld → Bool) (flds : List Fld) : Nat :=
  flds.foldl (fun acc f => if p f then acc + (2 ^ (f.hi + 1 - f.lo) - 1) * 2 ^ f.lo else acc) 0

/-- What a read returns: WO fields 0, image fields 0 before an image has been applied (R8, R376). -/
def regLoad (applied : Bool) (flds : List Fld) (cur : Word) : Word :=
  BitVec.ofNat 32 (cur.toNat &&& fldMask (fun f => f.ty != .wo && (applied || !f.img)) flds)

/-- The word after a read: RC fields cleared (R8). -/
def regAfterRead (flds : List Fld) (cur : Word) : Word :=
  BitVec.ofNat 32 (cur.toNat &&& fldMask (fun f => f.ty != .rc) flds)

/-! ### Free values, emission, allowances -/

/-- Take one draw of the free values: the draw's number, and the device with the counter advanced. -/
def Dev.draw (d : Dev) : Nat × Dev := (d.free, { d with free := d.free + 1 })

/-- Does it leave by no ball of the boundary register: it stays on the die, or goes to TDO (R410)? -/
def Emit.offScan : Emit → Bool
  | .coreVec _ | .coreRing _ | .doorbell | .note _ _ _ | .tdo _ _ => true
  | .rdata p _ _ => p == 64
  | _ => false

/-- Something leaves the chip. What would leave by balls that a driving scan instruction holds does not (R411). -/
def Dev.emit (d : Dev) (e : Emit) : Dev := { d with out := if d.test.drive && !e.offScan then d.out else e :: d.out }

/-- Has an item used its once-per-block allowance in the present block (R321)? -/
def Dev.usedOnce (d : Dev) (kind i : Nat) : Bool := d.once.contains (kind, i)

/-- Use it. -/
def Dev.useOnce (d : Dev) (kind i : Nat) : Dev :=
  if d.once.contains (kind, i) then d else { d with once := (kind, i) :: d.once }

/-- The delays and intervals of the manual that the device measures on TCLK from an instant that the model knows. -/
inductive Timer where
  | waitSync | fadeDown | offset | locked | selTick | sync | dreq | hello | holdoff | qualGate | narrow | deep | enable
  | backoff | vcore | hostLoad | steal | pseudo | range | dip | ceil | power | credit | claim | topo | scrub | shadow | blockReset | link
  | adj | xoLost | retry | hop | align | gating | inject | vbusRead | tjRead
deriving DecidableEq, Repr

/-- The key of a timer in the state. -/
def Timer.key (t : Timer) (i : Nat) : Nat := t.ctorIdx * 65536 + i

/-- A delay or interval begins. -/
def Dev.startTimer (d : Dev) (t : Timer) (i : Nat := 0) : Dev := { d with timers := tabPut 0 d.timers (t.key i) (d.tclk + 1) }

/-- It no longer runs. -/
def Dev.stopTimer (d : Dev) (t : Timer) (i : Nat := 0) : Dev := { d with timers := tabDel d.timers (t.key i) }

/-- Nanoseconds since it began, at 4 ns for a tick; none where it does not run. -/
def Dev.elapsed (d : Dev) (t : Timer) (i : Nat := 0) : Option Nat :=
  match tabGet 0 d.timers (t.key i) with
  | 0 => none
  | k + 1 => some (4 * (d.tclk - k))

/-- Has a delay that began run for `ns` nanoseconds? -/
def Dev.ranFor (d : Dev) (t : Timer) (ns : Nat) (i : Nat := 0) : Bool :=
  match d.elapsed t i with
  | some n => decide (ns ≤ n)
  | none => false

/-- Is an interval of `ns` nanoseconds over since it began, or has none begun yet? -/
def Dev.isDue (d : Dev) (t : Timer) (ns : Nat) (i : Nat := 0) : Bool :=
  match d.elapsed t i with
  | some n => decide (ns ≤ n)
  | none => true

/-- A new period of the once-per-block limits begins (R321). -/
def Dev.newPeriod (d : Dev) : Dev := { d with once := [], period := d.period + 1 }

/-- The periods of 100 µs that stand for blocks while the cycle is not RUNNING are counted anew from here (R321). -/
def Dev.pseudoFrom (d : Dev) : Dev := d.newPeriod.startTimer .pseudo

/-- Is the block cycle RUNNING (R39)? -/
def Dev.running (d : Dev) : Bool := d.get SYS_BLK_STATUS.STATE == 4

/-- Does the cycle generate boundaries: RUNNING, or fading out in REALIGN (R39)? -/
def Dev.cycling (d : Dev) : Bool := d.get SYS_BLK_STATUS.STATE == 4 || d.get SYS_BLK_STATUS.STATE == 5

/-- The block counter at an event, 0 while the cycle is not RUNNING (R321). -/
def Dev.blkNow (d : Dev) : Nat := if d.running then d.get SYS_BLK_COUNT.COUNT else 0

/-! ### Image constants of the block cycle (R6, R12) -/

/-- Fi in Hz (FI code 0, 1, 2). -/
def Dev.fi (d : Dev) : Nat := 48000 * 2 ^ d.get SYS_BLK_CFG.FI

/-- Nb (NB code 0 to 3: 4, 8, 16, 32). -/
def Dev.nb (d : Dev) : Nat := 4 * 2 ^ d.get SYS_BLK_CFG.NB

/-- Scale a capacity given at 96 kHz to the present Fi (R6). -/
def Dev.scale (d : Dev) (n96 : Nat) : Nat := n96 * 2 / 2 ^ d.get SYS_BLK_CFG.FI

/-! ### Memory (R322 address naming) -/

/-- Base of the shared store. -/
abbrev memShared : Nat := 0x10000000
/-- Base of SPRIGm's local memory: home area, then scratch area from 0x18000. -/
def memLocal (m : Nat) : Nat := 0x01000000 + m * 0x20000
/-- Base of the code store. -/
abbrev memCode : Nat := 0x30000000
/-- Base of the management SRAM. -/
abbrev memSram : Nat := 0x40000000
/-- Base of the MRAM outside the scene store. -/
abbrev memMram : Nat := 0x50000000
/-- Base of the scene store. -/
abbrev memScene : Nat := 0x00C00000

/-- The byte at an address; unlisted bytes read 0. -/
def memByte (m : List Host.Cell) (a : Nat) : Byte := tabGet 0 m a

/-- Write one byte. -/
def memPut (m : List Host.Cell) (a : Nat) (b : Byte) : List Host.Cell := tabPut 0 m a b

/-- The canonical form of the memory: addresses strictly rising, no byte equal to what an unlisted one reads as. -/
def Memory.wf (m : List Host.Cell) : Bool := tabWf 0 m

/-- `n` bytes from an address. -/
def memBytes (m : List Host.Cell) (a : Nat) : Nat → List Byte
  | 0 => []
  | n + 1 => memByte m a :: memBytes m (a + 1) n

/-- Write a list of bytes. -/
def memPutBytes (m : List Host.Cell) : Nat → List Byte → List Host.Cell
  | _, [] => m
  | a, b :: bs => memPutBytes (memPut m a b) (a + 1) bs

/-- Bytes of the device's memory. -/
def Dev.bytes (d : Dev) (a n : Nat) : List Byte := memBytes d.mem a n

/-- The little-endian number of `n` bytes. -/
def Dev.memLe (d : Dev) (a n : Nat) : Nat := leNat (d.bytes a n)

/-- The 32-bit word at an address. -/
def Dev.memW (d : Dev) (a : Nat) : Word := BitVec.ofNat 32 (d.memLe a 4)

/-- Drop the error marks of the words that a write replaces (R418). -/
def clearMarks (a n : Nat) (l : List Nat) : List Nat := l.filter (fun w => !(decide (a ≤ w + 3) && decide (w < a + n)))

/-- Write bytes; the words written whole lose their error marks (R418). -/
def Dev.setBytes (d : Dev) (a : Nat) (bs : List Byte) : Dev :=
  { d with mem := memPutBytes d.mem a bs, eccCor := clearMarks a bs.length d.eccCor,
           eccBad := clearMarks a bs.length d.eccBad }

/-- Write the little-endian bytes of a number. -/
def Dev.setMemLe (d : Dev) (a n v : Nat) : Dev := d.setBytes a (leBytes n v)

/-- Write a 32-bit word. -/
def Dev.setMemW (d : Dev) (a : Nat) (w : Word) : Dev := d.setMemLe a 4 w.toNat

/-- Clear a range of memory: its bytes read 0 again, and its words lose their error marks (R418). -/
def Dev.clearRange (d : Dev) (lo hi : Nat) : Dev :=
  { d with mem := d.mem.filter (fun c => !(decide (lo ≤ c.1) && decide (c.1 < hi))),
           eccCor := clearMarks lo (hi - lo) d.eccCor, eccBad := clearMarks lo (hi - lo) d.eccBad }

/-! ### Performance counts (R333, R334, R335, R338) -/

/-- Which filters an event code names: privilege, master, address, class (R333). -/
def perfFilters (code : Nat) : Bool × Bool × Bool × Bool :=
  (code ∈ [3, 4, 5, 6, 7, 8, 0xC, 0xE, 0x22],
   code ∈ [1, 2, 3, 4, 5, 6, 7, 8, 9, 0xA, 0xB, 0xC, 0xE, 0x21, 0x22],
   code ∈ [3, 5, 6, 8, 0xE, 0x21, 0x22],
   code ∈ [5, 6, 7, 0x18, 0x19, 0x1A])

/-- What an event tells the counters: privilege (false U, true S), initiator (255 none), address, class bit. -/
structure PerfEv where
  s : Bool := false
  master : Nat := 255
  addr : Nat := 0
  k : Nat := 0
deriving DecidableEq, Repr

/-- Is counter `i` counting (R335)? -/
def Dev.cntOn (d : Dev) (i : Nat) : Bool := tabGet 0 d.perf.effEn i == 1 && d.perf.effFreeze == 0

/-- Does an event pass the filters of counter `i` (R334)? -/
def Dev.cntPasses (d : Dev) (i code : Nat) (e : PerfEv) : Bool :=
  let (p, m, a, k) := perfFilters code
  let pr := d.get PERF_CNT_CFG.PRIV i
  let okP := !p || pr == 0 || pr == 3 || (pr == 1 && !e.s) || (pr == 2 && e.s)
  let okM := !m || e.master == 255 || (decide (d.get PERF_CNT_AUX.MLO i ≤ e.master) && decide (e.master ≤ d.get PERF_CNT_AUX.MHI i))
  let ar := d.get PERF_CNT_CFG.ARSEL i
  let inR := decide (d.get PERF_AR_LO.ADDR ar ≤ e.addr) && decide (e.addr ≤ d.get PERF_AR_HI.ADDR ar)
  let okA := !a || !d.is PERF_CNT_CFG.AREN i || (inR != d.is PERF_CNT_CFG.AINV i)
  let km := d.get PERF_CNT_CFG.KMASK i
  let okK := !k || km == 0 || bitOf km e.k == 1
  okP && okM && okA && okK

/-! ### Vectors (R366, R367) -/

/-- PCIe is the host interface (R358). -/
def Dev.pcie (d : Dev) : Bool := d.get MGMT_STAT.HOSTIF == 0

/-- The register and bit of the pending array that hold vector `v`. -/
def vecReg (v : Nat) : Reg := if v < 32 then MGMT_VEC_PEND0 else MGMT_VEC_PEND1

/-- Is vector `v` pending for the host? -/
def Dev.vecPending (d : Dev) (v : Nat) : Bool := bitOf (d.rd (vecReg v)).toNat (v % 32) == 1

/-- Set or clear the pending bit of vector `v`. -/
def Dev.setPending (d : Dev) (v : Nat) (on : Bool) : Dev :=
  d.wr (vecReg v) (fset (d.rd (vecReg v)) (v % 32) (v % 32) (b2n on))

/-- Over PCIe a pending, unmasked vector sends one message and clears; a masked one sets its pending-array entry
(R367). -/
def Dev.msixTry (d : Dev) (v : Nat) : Dev :=
  if !d.pcie || !d.vecPending v then d
  else
    let e := tabGet {} d.mgmt.msix v
    if e.masked then
      if d.mgmt.pba.contains v then d else { d with mgmt := { d.mgmt with pba := v :: d.mgmt.pba } }
    else
      let d := d.setPending v false
      let d := { d with mgmt := { d.mgmt with pba := d.mgmt.pba.filter (· != v) } }
      d.emit (.msix v e.addr e.data)

/-- Deliver vector `v` to the sides that both MGMT_VEC_CFG and the caller name (R366). -/
def Dev.raiseVecTo (d : Dev) (v : Nat) (host core : Bool) : Dev :=
  let d := if core && d.is MGMT_VEC_CFG.CORE v then d.emit (.coreVec v) else d
  if host && d.is MGMT_VEC_CFG.HOST v then (d.setPending v true).msixTry v else d

/-- Raise a vector (R366). -/
def Dev.raiseVec (d : Dev) (v : Nat) : Dev := d.raiseVecTo v true true

/-! ### Counting -/

/-- Add `n` to counter `i`: modulo 2^48, with WRAP and the wrap interrupt (R338). -/
def Dev.cntAdd (d : Dev) (i n : Nat) : Dev :=
  let c := tabGet 0 d.perf.cnt i + n
  let d := { d with perf := { d.perf with cnt := tabPut 0 d.perf.cnt i (c % 2 ^ 48), incAt := tabPut 0 d.perf.incAt i (d.pace + 1) } }
  if 2 ^ 48 ≤ c then
    let d := d.put PERF_CNT_AUX.WRAP 1 i
    if d.is PERF_CNT_CFG.IRQ i then d.raiseVec 3 else d
  else d

/-- An event of the performance counters occurs `n` times (R333). -/
def Dev.perfEvent (d : Dev) (code n : Nat) (e : PerfEv := {}) : Dev :=
  if n = 0 then d else
  forN 32 (fun i d =>
    if d.get PERF_CNT_CFG.EVENT i == code && d.cntOn i && d.cntPasses i code e then d.cntAdd i n else d) d

/-! ### Rings (R361 to R364) -/

/-- Is ring q enabled? -/
def Dev.ringOn (d : Dev) (q : Nat) : Bool := d.is MGMT_RING_CFG.EN (q - 64)

/-- Size of ring q in bytes: 2^SIZE KiB, 7 treated as 6. -/
def Dev.ringSize (d : Dev) (q : Nat) : Nat := 1024 * 2 ^ min 6 (d.get MGMT_RING_CFG.SIZE (q - 64))

/-- SRAM address of ring q. -/
def Dev.ringBase (d : Dev) (q : Nat) : Nat := memSram + 64 * d.get MGMT_RING_CFG.BASE (q - 64)

/-- Producer offset. -/
def Dev.ringWr (d : Dev) (q : Nat) : Nat := d.get MGMT_RING_WR.WR (q - 64)

/-- Consumer offset. -/
def Dev.ringRd (d : Dev) (q : Nat) : Nat := d.get MGMT_RING_RD.RD (q - 64)

/-- Is the ring's software side the host? Fixed for Q80 to Q83 (R361). -/
def Dev.ringHost (d : Dev) (q : Nat) : Bool := d.is MGMT_RING_CFG.HOST (q - 64)

/-- The fill, (WR − RD) mod SIZE (R364). -/
def Dev.ringFill (d : Dev) (q : Nat) : Nat := (d.ringWr q + d.ringSize q - d.ringRd q % d.ringSize q) % d.ringSize q

/-- FILL follows the offsets and the size (R364). -/
def Dev.putFill (d : Dev) (q : Nat) : Dev := d.put MGMT_RING_STAT.FILL (d.ringFill q) (q - 64)

/-- Set the offsets of a ring and the FILL that they give. -/
def Dev.ringSet (d : Dev) (q wr rd : Nat) : Dev :=
  ((d.put MGMT_RING_WR.WR wr (q - 64)).put MGMT_RING_RD.RD rd (q - 64)).putFill q

/-- Bytes an entry takes: header, payload, padding to 16 (R362). -/
def entrySize (len : Nat) : Nat := 16 * cdiv (16 + len) 16

/-- The vector by which the host learns that the hardware advanced a ring (R366). -/
def ringVec (q : Nat) : Nat := if q < 72 then 6 else if q < 80 then 7 else q - 72

/-- The 16-byte header of an entry (R362). -/
def entryHead (len kind flags seq aux0 aux1 : Nat) : List Byte :=
  leBytes 2 len ++ leBytes 1 kind ++ leBytes 1 flags ++ leBytes 4 seq ++ leBytes 4 aux0 ++ leBytes 4 aux1

/-- Would an entry of `len` payload bytes find the ring full (R364)? A disabled ring takes nothing. -/
def Dev.ringFull (d : Dev) (q len : Nat) : Bool :=
  let sz := d.ringSize q
  let e := entrySize len
  let space := sz - d.ringWr q
  let need := if space < e then space + e else e
  !d.ringOn q || decide (sz ≤ d.ringFill q + need)

/-- A hardware producer's sequence number of ring q, then advanced. -/
def Dev.ringSeqNext (d : Dev) (q : Nat) : Nat × Dev :=
  let s := tabGet 0 d.mgmt.ringSeq q
  (s % 2 ^ 32, { d with mgmt := { d.mgmt with ringSeq := tabPut 0 d.mgmt.ringSeq q (s + 1) } })

/-- Notify the software side that the hardware advanced a ring: the host by the ring's vector, the core by its own
controller (R364, R366). -/
def Dev.ringNotify (d : Dev) (q : Nat) : Dev :=
  if d.ringHost q then d.raiseVecTo (ringVec q) true false else d.emit (.coreRing q)

/-- Write the PAD entry that fills the ring to its end, and wrap (R362). -/
def Dev.ringPad (d : Dev) (q : Nat) : Dev :=
  let space := d.ringSize q - d.ringWr q
  let (sq, d) := d.ringSeqNext q
  let d := d.setBytes (d.ringBase q + d.ringWr q) (entryHead (space - 16) 0 0 sq 0 0)
  d.ringSet q 0 (d.ringRd q)

/-- A hardware producer writes an entry: discarded with DROP where the ring is full (R362, R364). The flag says
whether it was written. -/
def Dev.ringPush (d : Dev) (q kind flags aux0 aux1 : Nat) (pay : List Byte) : Bool × Dev :=
  if d.ringFull q pay.length then (false, d.put MGMT_RING_STAT.DROP 1 (q - 64))
  else
    let e := entrySize pay.length
    let d := if d.ringSize q - d.ringWr q < e then d.ringPad q else d
    let (sq, d) := d.ringSeqNext q
    let bs := entryHead pay.length kind flags sq aux0 aux1 ++ pay
    let bs := bs ++ List.replicate (e - bs.length) 0
    let d := d.setBytes (d.ringBase q + d.ringWr q) bs
    let d := d.ringSet q ((d.ringWr q + e) % d.ringSize q) (d.ringRd q)
    (true, d.ringNotify q)

/-! ### Time stamps -/

/-- The value of a time base. -/
def Dev.tb (d : Dev) (t : Nat) : TbSt := tabGet {} d.time.tbs t

/-- Replace a time base. -/
def Dev.setTb (d : Dev) (t : Nat) (b : TbSt) : Dev := { d with time := { d.time with tbs := tabPut {} d.time.tbs t b } }

end Sys2Proof.Machine
end

