-- ==== Sys2Proof/Machine/Flags.lean ====
section
/-! DEFINITION. The fault flags: how a source raises an event, what the collector counts, records and captures, which
reactions follow, and the levels of ERR_N and IRQ_N (R315 to R329). Resets that a reaction calls for are put into
`flt.due` and carried out when the event has been handled (R319, R329). -/

namespace Sys2Proof.Machine

/-- No access to report (R322). -/
def noAccess : Access := {}

/-- Class of a source. -/
def Dev.fltClass (d : Dev) (n : Nat) : Nat := d.get FLT_SRC_CFG.CLASS n

/-- Threshold N; 0 is treated as 1. -/
def Dev.fltN (d : Dev) (n : Nat) : Nat := max 1 (d.get FLT_SRC_THR.N n)

/-- Window in units of 10 µs; WIN 0 is treated as 1 ms (R318). -/
def Dev.fltWin (d : Dev) (n : Nat) : Nat := 100 * max 1 (d.get FLT_SRC_THR.WIN n)

/-- Escalation time in ms, at most 1000; 0 is none. -/
def Dev.fltEsc (d : Dev) (n : Nat) : Nat := min 1000 (d.get FLT_SRC_CFG.ESC n)

/-- Is a source in SEVERE or ESCALATED? -/
def Dev.fltSevere (d : Dev) (n : Nat) : Bool := decide (2 ≤ d.get FLT_SRC_STAT.STATE n)

/-- Bit n of FLT_SEV. -/
def Dev.fltSevBit (d : Dev) (n : Nat) : Bool := bitOf (d.rd FLT_SEV (n / 32)).toNat (n % 32) == 1

/-- Set or clear a bit of the FLT_SEV array. -/
def Dev.setSev (d : Dev) (n : Nat) (on : Bool) : Dev :=
  d.wr FLT_SEV (fset (d.rd FLT_SEV (n / 32)) (n % 32) (n % 32) (b2n on)) (n / 32)

/-- Set a bit of the FLT_ERRH array. -/
def Dev.setErrh (d : Dev) (n : Nat) : Dev :=
  d.wr FLT_ERRH (fset (d.rd FLT_ERRH (n / 32)) (n % 32) (n % 32) 1) (n / 32)

/-- Move a source to a state, keeping the count of severe sources. -/
def Dev.fltSetState (d : Dev) (n st : Nat) : Dev :=
  let was := b2n (d.fltSevere n)
  let d := d.put FLT_SRC_STAT.STATE st n
  d.put FLT_STAT.NSEV (d.get FLT_STAT.NSEV + b2n (decide (2 ≤ st)) - was)

/-- Does a shadow of block b hide source n: open, n in its set (R324)? -/
def Shadow.hides (s : Shadow) (n : Nat) : Bool := s.open_ && bitOf (nth 0 s.set (n / 32)) (n % 32) == 1

/-- The cause of the latest-asserted open shadow over a source, where there is one; GRAVE sources have none
(R324). -/
def Dev.shadowOf (d : Dev) (n : Nat) : Option Nat :=
  if d.fltClass n == 3 then none else
  (d.flt.shadows.foldl (fun (acc : Option (Nat × Nat)) kv =>
    if kv.2.hides n then
      match acc with
      | some (sq, _) => if sq ≤ kv.2.seq then some (kv.2.seq, kv.2.cause) else acc
      | none => some (kv.2.seq, kv.2.cause)
    else acc) none).map (·.2)

/-- Number of event times within the window that ends now, at a resolution of 10 µs (R318). -/
def inWindow (now win : Nat) (ts : List Nat) : Nat := (ts.filter (fun t => decide (now / 2500 < t / 2500 + win))).length

/-- Stamp of the collector's time base: SEC[31:0] and NS (R321). -/
def Dev.fltStamp (d : Dev) : Nat × Nat :=
  let b := d.tb (d.get FLT_CFG.TB)
  (b.sec % 2 ^ 32, b.ns)

/-- The 16 bytes of an event record (R321). -/
def Dev.fltRecord (d : Dev) (n flags cause : Nat) : List Byte :=
  let st := d.fltStamp
  leBytes 1 n ++ leBytes 1 flags ++ leBytes 1 (d.fltClass n) ++ leBytes 1 cause ++ leBytes 4 d.blkNow
    ++ leBytes 4 st.1 ++ leBytes 4 st.2

/-- Write an event record to ring Q88 + EVR; `false` where it was dropped (R321). -/
def Dev.fltPush (d : Dev) (n flags cause : Nat) : Bool × Dev :=
  let (ok, d') := d.ringPush (88 + d.get FLT_CFG.EVR) 4 0 0 0 (d.fltRecord n flags cause)
  if ok then (true, d') else (false, d'.put FLT_STAT.EVDROP 1)

/-- The first-error capture takes a source's event, or sets OVF (R322). -/
def Dev.fecCapture (d : Dev) (n : Nat) (a : Access) : Dev :=
  if !d.is FLT_SRC_CFG.FEC n then d
  else if d.is FLT_FEC_INFO.VALID then d.put FLT_FEC_INFO.OVF 1
  else
    let st := d.fltStamp
    let d := (((d.put FLT_FEC_INFO.VALID 1).put FLT_FEC_INFO.TYPE a.ty).put FLT_FEC_INFO.MASTER a.master).put FLT_FEC_INFO.SRC n
    (((d.put FLT_FEC_ADDR.ADDR a.addr).put FLT_FEC_SEC.SEC st.1).put FLT_FEC_NS.NS st.2).put FLT_FEC_BLK.BLK d.blkNow

/-- Put a reset that a reaction calls for on the list of those due. -/
def Dev.addDue (d : Dev) (x : Due) : Dev := { d with flt := { d.flt with due := d.flt.due ++ [x] } }

/-- The I reaction: the fault vector of the class (R317). -/
def Dev.reactI (d : Dev) (n : Nat) : Dev := d.raiseVec (min 2 (d.fltClass n))

/-- Take a set of reactions (bits I N B C E), each once; `errh` are those whose E sets the FLT_ERRH bit; `kind` is the
RST_CAUSE kind of a C reaction (R319, R320). -/
def Dev.react (d : Dev) (n bits : Nat) (errh : Bool) (kind : Nat) : Dev :=
  let d := if bitOf bits 0 == 1 then d.reactI n else d
  let d := if bitOf bits 1 == 1 then { d with flt := { d.flt with nmi := d.flt.nmi + 1 } } else d
  let d := if errh then d.setErrh n else d
  let d := if bitOf bits 2 == 1 then d.addDue (.block (d.get FLT_SRC_CFG.RBLK n) n) else d
  if bitOf bits 3 == 1 then d.addDue (.chip n kind) else d

/-- Offset of the GRAVE log in the MRAM outside the scene store, and of its header (next index, wrap flag, POR count):
the model's own layout. -/
abbrev graveLog : Nat := memMram
/-- Header of the GRAVE log. -/
abbrev graveHead : Nat := memMram + 0x2000

/-- POR count kept in the log's header (R327). -/
def Dev.porCount (d : Dev) : Nat := d.memLe (graveHead + 4) 4

/-- The GRAVE log record of a source (R327); `c` says that a C reaction follows. -/
def Dev.graveRecord (d : Dev) (n : Nat) (c : Bool) : List Byte :=
  let st := d.fltStamp
  let body := leBytes 2 0x4752 ++ leBytes 1 n ++ leBytes 1 (b2n c) ++ leBytes 4 d.porCount ++ leBytes 4 d.blkNow
    ++ leBytes 4 st.1 ++ leBytes 4 st.2 ++ leBytes 2 (d.get PWR_VBUS.V) ++ leBytes 2 (d.get PWR_TJ.TJ) ++ leBytes 4 d.build
  body ++ leBytes 4 (crc32 body)

/-- PWR_VBUS.V is a reading of the latest 10 µs. One that came with a supervisor's event stands; after it the reading is free, since no command
carries it (DESIGN CHOICE, log entry 150) (R345, R351). -/
def Dev.senseVbus (d : Dev) : Dev :=
  if !d.isDue .vbusRead 10000 then d else
  let (k, d) := d.draw
  (d.put PWR_VBUS.V (Config.freeNat k % 65536)).startTimer .vbusRead

/-- PWR_TJ.TJ is the sensor's reading: that of a supervisor's event at this tick, else free (DESIGN CHOICE, log entry 150) (R345, R327). -/
def Dev.senseTj (d : Dev) : Dev :=
  if !d.isDue .tjRead 4 then d else
  let (k, d) := d.draw
  (d.put PWR_TJ.TJ (Config.freeNat k % 65536)).startTimer .tjRead

/-- Latch the GRAVE condition for a source (R325): flags, count, a log record to be written; the pair and the power
stages follow when the event has been handled. -/
def Dev.graveLatch (d : Dev) (n : Nat) (c : Bool) : Dev :=
  let d := if d.is FLT_GRAVE.ACTIVE then d else (d.put FLT_GRAVE.ACTIVE 1).put FLT_GRAVE.SRC n
  let d := (d.inc FLT_GRAVE.COUNT).senseVbus.senseTj
  let r := d.graveRecord n c
  { d with flt := { d.flt with log := d.flt.log ++ [r], due := d.flt.due ++ [.grave n] } }

/-- Of the reactions that a real (`inj` false) or an injected event of source n calls for, those that an event of the other kind at the same
instant has not taken already (R329). -/
def Dev.reactOnce (d : Dev) (n bits : Nat) (inj : Bool) : Nat × Dev :=
  let (t, r, x) := tabGet (0, 0, 0) d.flt.reacts n
  let (r, x) := if t = d.tclk + 1 then (r, x) else (0, 0)
  let e := if inj then (d.tclk + 1, r, x ||| bits) else (d.tclk + 1, r ||| bits, x)
  (bits - (bits &&& (if inj then r else x)), { d with flt := { d.flt with reacts := tabPut (0, 0, 0) d.flt.reacts n e } })

/-- One event of source `n` that is counted: count, state, record, capture, reactions (R318 to R322). `rec` is false
where its record is known to be dropped; the flag answers that a record was dropped. -/
def Dev.fltCounted (d : Dev) (n : Nat) (a : Access) (rec capture : Bool) : Bool × Dev :=
  let ts := ((d.tclk :: tabGet [] d.flt.events n).take 255)
  let st := d.get FLT_SRC_STAT.STATE n
  let c := inWindow d.tclk (d.fltWin n) ts
  let sev := decide (st < 2) && decide (d.fltN n ≤ c)
  let d := { d with flt := { d.flt with events := tabPut [] d.flt.events n ts } }
  let d := (d.inc FLT_SRC_CNT.EVENTS n).put FLT_SRC_STAT.INWIN (min 255 c) n
  let d := if capture then d.fecCapture n a else d
  let svr := if sev then d.get FLT_SRC_CFG.SVR n else 0
  let evr := d.get FLT_SRC_CFG.EVR n
  let bits := evr ||| svr
  let grave := sev && d.fltClass n == 3
  let d := if grave then d.graveLatch n (bitOf bits 3 == 1) else d
  let d := if sev then
      let d := (d.fltSetState n 2).setSev n true
      if d.fltEsc n = 0 then d else { d with flt := { d.flt with esc := tabIns d.flt.esc n d.tclk } }
    else if st < 2 then d.fltSetState n 1 else d
  let want := sev || (tabGet 0 d.flt.recAt n != d.period + 1)
  let d := if want && !sev then { d with flt := { d.flt with recAt := tabPut 0 d.flt.recAt n (d.period + 1) } } else d
  let (ok, d) := if !want then (true, d)
    else if rec then d.fltPush n (4 * b2n sev + 16 * b2n grave) 0xFF else (true, d.put FLT_STAT.EVDROP 1)
  let (bits, d) := d.reactOnce n bits false
  (!ok, d.react n bits (bitOf evr 4 == 1) 1)

/-- One consequential event: recorded with its cause and counted as such, nothing else (R324). -/
def Dev.fltConseq (d : Dev) (n cause : Nat) (rec : Bool) : Bool × Dev :=
  let d := d.inc FLT_SRC_CNT.CONSEQ n
  if tabGet 0 d.flt.recAt n == d.period + 1 then (false, d)
  else
    let d := { d with flt := { d.flt with recAt := tabPut 0 d.flt.recAt n (d.period + 1) } }
    if rec then let (ok, d) := d.fltPush n 2 cause; (!ok, d) else (false, d.put FLT_STAT.EVDROP 1)

/-- Raise one event, real, with or without a record and a capture. -/
def Dev.raise0 (d : Dev) (n : Nat) (a : Access) (rec capture : Bool) : Bool × Dev :=
  match d.shadowOf n with
  | some cause => d.fltConseq n cause rec
  | none => d.fltCounted n a rec capture

/-- Raise one event; where its record is dropped, MGMT.EVRING follows, whose own record is dropped too (R321,
R329). -/
def Dev.raise1 (d : Dev) (n : Nat) (a : Access) (capture : Bool) : Dev :=
  match d.raise0 n a true capture with
  | (true, d) => (d.raise0 FS.MGMT_EVRING {} false true).2
  | (false, d) => d

/-- Raise an event of source `n` with the access that it reports. -/
def Dev.raiseAt (d : Dev) (n : Nat) (a : Access) : Dev := d.raise1 n a true

/-- Raise an event of a source that has no access to report. -/
def Dev.raise (d : Dev) (n : Nat) : Dev := d.raise1 n {} true

/-- A memory error has been corrected: the health record counts it, and its source reports it (R307, R315). -/
def Dev.corrected (d : Dev) (n : Nat) (a : Access) : Dev :=
  ({ d with pair := { d.pair with acc := { d.pair.acc with corr := d.pair.acc.corr + 1 } } }).raiseAt n a

/-- A word of memory read by an initiator, with the event of a corrected or an uncorrectable error (R418, R315). -/
def Dev.eccRead (d : Dev) (a cor unc master : Nat) : Word × Dev :=
  let acc : Access := { addr := a, master := master, ty := 1 }
  let d := if d.eccBad.contains a then d.raiseAt unc acc else if d.eccCor.contains a then d.corrected cor acc else d
  (d.memW a, d)

/-- A stretch of the management SRAM read by the boot ROM or by a hardware consumer of a ring, with the event of each word in error
(R315, R418). Such a consumer has no number among the initiators of R322 and reports MASTER 255 (log entry 119). -/
def Dev.sramScan (d : Dev) (a n master : Nat) : Dev :=
  let hit (l : List Nat) : List Nat := l.filter (fun w => decide (a ≤ w + 3) && decide (w < a + n))
  let d := (hit d.eccBad).foldl (fun d w => d.raiseAt FS.MGMT_ECC_UNC { addr := w, master := master, ty := 1 }) d
  (hit d.eccCor).foldl (fun d w => d.corrected FS.MGMT_ECC_CORR { addr := w, master := master, ty := 1 }) d

/-- Capture of events that arrive together: highest class first, then lowest number (R322). -/
def insertByClass (d : Dev) (x : Nat × Access) : List (Nat × Access) → List (Nat × Access)
  | [] => [x]
  | y :: ys =>
    if d.fltClass y.1 < d.fltClass x.1 ∨ (d.fltClass y.1 = d.fltClass x.1 ∧ x.1 < y.1) then x :: y :: ys
    else y :: insertByClass d x ys

/-- Raise events that arrive at the same instant: the captures by class, then each event in order. -/
def Dev.raiseAll (d : Dev) (evs : List (Nat × Access)) : Dev :=
  let order := evs.foldl (fun acc x => insertByClass d x acc) []
  let d := order.foldl (fun d x => if (d.shadowOf x.1).isNone then d.fecCapture x.1 x.2 else d) d
  evs.foldl (fun d x => d.raise1 x.1 x.2 false) d

/-- Raise an event at most once per block (R321). -/
def Dev.raiseOnce (d : Dev) (n : Nat) : Dev := if d.usedOnce 0 n then d else (d.useOnce 0 n).raise n

/-- Acknowledge a severe source: IDLE, timer stopped, history discarded (R318). A timer that it stops is kept for an expiry at the same
tick (R329). -/
def Dev.fltAck (d : Dev) (n : Nat) : Dev :=
  if d.fltSevere n then
    let acked := if d.flt.esc.any (fun kv => kv.1 == n) then tabIns d.flt.acked n (d.tclk, tabGet 0 d.flt.esc n) else d.flt.acked
    let d := ((d.fltSetState n 0).setSev n false).put FLT_SRC_STAT.INWIN 0 n
    { d with flt := { d.flt with esc := tabDel d.flt.esc n, events := tabDel d.flt.events n, acked := acked } }
  else d.setSev n false

/-- Escalation is carried out: ESCEV, a record with ESC = 1, the escalation reaction (R318, R321). -/
def Dev.fltEscalation (d : Dev) (n : Nat) : Dev :=
  let d := d.put FLT_SRC_STAT.ESCEV 1 n
  let (ok, d) := d.fltPush n 8 0xFF
  let d := if ok then d else (d.raise0 FS.MGMT_EVRING {} false true).2
  match d.get FLT_SRC_CFG.ESCR n with
  | 1 => d.addDue (.block (d.get FLT_SRC_CFG.RBLK n) n)
  | 2 => d.addDue (.chip n 2)
  | _ => d

/-- The escalation timer of a source reaches ESC: ESCALATED (R318). -/
def Dev.fltEscalate (d : Dev) (n : Nat) : Dev :=
  if d.get FLT_SRC_STAT.STATE n == 2 then
    let d := d.fltSetState n 3
    ({ d with flt := { d.flt with esc := tabDel d.flt.esc n } }).fltEscalation n
  else d

/-- No counted event within the latest window: COUNTING returns to IDLE (R318). -/
def Dev.fltWindowExpire (d : Dev) (n : Nat) : Dev :=
  let w := inWindow d.tclk (d.fltWin n) (tabGet [] d.flt.events n)
  if d.get FLT_SRC_STAT.STATE n == 1 && w == 0 then (d.fltSetState n 0).put FLT_SRC_STAT.INWIN 0 n
  else d.put FLT_SRC_STAT.INWIN (min 255 w) n

/-- One injected event (R328): its record with INJ = 1, the window count INJWIN, event-level reactions, and at N the
severe-level reactions, with E into FLT_ERRH. No state, no timer, no FLT_SEV bit, no GRAVE condition (R326). -/
def Dev.inject1 (d : Dev) (n : Nat) : Dev :=
  let ts := ((d.tclk :: tabGet [] d.flt.injEv n).take 255)
  let c := inWindow d.tclk (d.fltWin n) ts
  let d := { d with flt := { d.flt with injEv := tabPut [] d.flt.injEv n ts } }
  let d := (d.inc FLT_SRC_CNT.INJ n).put FLT_SRC_STAT.INJWIN (min 255 c) n
  let sev := c == d.fltN n
  let bits := d.get FLT_SRC_CFG.EVR n ||| (if sev then d.get FLT_SRC_CFG.SVR n else 0)
  let want := sev || (tabGet 0 d.flt.recInjAt n != d.period + 1)
  let d := if want && !sev then { d with flt := { d.flt with recInjAt := tabPut 0 d.flt.recInjAt n (d.period + 1) } } else d
  let d := if want then
      let (ok, d) := d.fltPush n (1 + 4 * b2n sev) 0xFF
      if ok then d else (d.raise0 FS.MGMT_EVRING {} false true).2
    else d
  let e := bitOf bits 4 == 1
  let (bits, d) := d.reactOnce n bits true
  d.react n bits e 3

/-- Is any source with E among its severe-level reactions in SEVERE or ESCALATED? -/
def Dev.errSevere (d : Dev) : Bool :=
  (List.range 192).any (fun n => d.fltSevere n && bitOf (d.get FLT_SRC_CFG.SVR n) 4 == 1)

/-- ERR_N is low (R320). -/
def Dev.errLow (d : Dev) : Bool :=
  (List.range 6).any (fun k => (d.rd FLT_ERRH k) != 0) || (d.get FLT_STAT.NSEV != 0 && d.errSevere)
    || d.is FLT_GRAVE.ACTIVE || d.flt.cReset

/-- IRQ_N is low: SPI is the host interface and a host-routed bit is pending (R367). -/
def Dev.irqLow (d : Dev) : Bool :=
  !d.pcie && (List.range 64).any (fun v => d.vecPending v && d.is MGMT_VEC_CFG.HOST v)

end Sys2Proof.Machine
end

