-- ==== Sys2Proof/Machine/Time.lean ====
section
/-! DEFINITION. Time bases, servos, the media time selector, alarms, TIO pins and captures (R244 to R263). -/

namespace Sys2Proof.Machine

/-! ### Format and advance (R244) -/

/-- Units of 2^−46 ns in one second. -/
abbrev tbSecond : Nat := 1000000000 * 2 ^ 46

/-- The whole value of a time base in units of 2^−46 ns. -/
def TbSt.val (b : TbSt) : Nat := ((b.sec * 1000000000 + b.ns) * 2 ^ 16 + b.frac) * 2 ^ 30 + b.hid

/-- Load a value, seconds modulo 2^48. -/
def TbSt.load (b : TbSt) (v : Int) : TbSt :=
  let u := (v % ((2 ^ 48 * tbSecond : Nat) : Int)).toNat
  { b with sec := u / tbSecond, ns := u % tbSecond / 2 ^ 46, frac := u % 2 ^ 46 / 2 ^ 30, hid := u % 2 ^ 30 }

/-- ADJ, signed 40 bits (R247). -/
def Dev.adj (d : Dev) (t : Nat) : Int :=
  sgnW 40 (d.get TIME_TB_RATE_HI.ADJ_HI t * 2 ^ 32 + d.get TIME_TB_RATE_LO.ADJ_LO t)

/-- The limit of ADJ and of the integrator (R247). -/
def clampAdj (z : Int) : Int := clampI (-281474977) 281474977 z

/-- Apply a rate correction, clamped (R247). -/
def Dev.setAdj (d : Dev) (t : Nat) (z : Int) : Dev :=
  let u := unsW 40 (clampAdj z)
  (d.put TIME_TB_RATE_LO.ADJ_LO (u % 2 ^ 32) t).put TIME_TB_RATE_HI.ADJ_HI (u / 2 ^ 32) t

/-- Each time base advances by `n` TCLK ticks: n × 4 ns × (1 + ADJ × 2^−48) (R244); while POR holds the device its value stays 0
(R263). -/
def Dev.tbAdvance (d : Dev) (n : Nat) : Dev :=
  if d.pwr.por then d else
  forN 4 (fun t d => let b := d.tb t; d.setTb t (b.load (b.val + n * (2 ^ 48 + d.adj t)))) d

/-- The value of a time base as (seconds modulo 2^32, nanoseconds). -/
def Dev.tbNow (d : Dev) (t : Nat) : Nat × Nat := let b := d.tb t; (b.sec % 2 ^ 32, b.ns)

/-- The value of a time base rounded to 1/16 ns. -/
def Dev.tb16 (d : Dev) (t : Nat) : Int := (d.tb t).val / (2 ^ 42 : Nat)

/-- A time base's 96-bit value in 2^−16 ns (R244). -/
def Dev.tbFull (d : Dev) (t : Nat) : Int := (d.tb t).val / (2 ^ 30 : Nat)

/-- The latest whole microsecond of a time base, relative to the present TCLK tick, in units of 2^−16 ns of TCLK time: the phase that it
passes to the RCU as candidate 5 + t (R255). -/
def Dev.microPhase (d : Dev) (t : Nat) : Nat :=
  (d.tb t).val % (1000 * 2 ^ 46) * 2 ^ 18 / (2 ^ 48 + d.adj t).toNat

/-- Servo state: 0 FREE, 1 ACQUIRE, 2 LOCKED, 3 HOLD (R250). -/
def Dev.servo (d : Dev) (t : Nat) : Nat := d.get TIME_TB_STAT.STATE t

/-- The HOLDOVER flag of SYNC cells and TOPO records: HOLD or FREE (R251). -/
def Dev.tbHoldover (d : Dev) (t : Nat) : Bool := d.servo t == 0 || d.servo t == 3

/-! ### Captures (R260, R261) -/

/-- Unit c records the value of its time base `sub` 1/16 ns after the tick, or keeps the record it holds (R261). -/
def Dev.capRecord (d : Dev) (c sub : Nat) : Dev :=
  let valid := d.bit TIME_CAP_STAT.VALID c
  let d := if valid then d.setBit TIME_CAP_STAT.OVF c else d
  if valid && d.get TIME_CAP_CFG.MODE c == 0 then d
  else
    let t := d.tb (d.get TIME_CAP_CFG.TB c)
    let b := t.load (t.val + sub * 2 ^ 42 : Nat)
    let d := { d with time := { d.time with caps := tabPut {} d.time.caps c ⟨b.sec, b.ns, b.frac⟩ } }
    ((d.setBit TIME_CAP_STAT.VALID c).put TIME_CAP_T0.SEC_HI (b.sec / 2 ^ 32) c).put TIME_CAP_T0.FRAC b.frac c

/-- An event of a source, with its edge direction where it has one: every enabled unit on it records (R260). -/
def Dev.captureEvent (d : Dev) (src : Nat) (rising : Bool := true) (sub : Nat := 0) : Dev :=
  forN 16 (fun c d =>
    let e := d.get TIME_CAP_CFG.EDGE c
    let okE := decide (28 ≤ src) || e == 2 || (if e == 1 then !rising else rising)
    if d.is TIME_CAP_CFG.EN c && d.get TIME_CAP_CFG.SRC c == src && okE then d.capRecord c sub else d) d

/-- An edge at TIO0 to TIO7 (pins 0 to 7) or REFIN0 to REFIN3 (8 to 11): a TIO pin configured as an input takes the level and serves
the capture units, and one configured as an output is driven by alarm actions only (R256, R260). -/
def Dev.pinEdge (d : Dev) (pin : Nat) (rising : Bool) (sub : Nat) : Dev :=
  if 8 ≤ pin then d.captureEvent pin rising sub
  else if d.bit TIME_TIO_CFG.DIR pin then d
  else (if rising then d.setBit TIME_TIO_CFG.LEVEL pin else d.clrBit TIME_TIO_CFG.LEVEL pin).captureEvent pin rising sub

/-- A read of TIME_CAP_T0 loads T1 and T2 of the same record (R261). -/
def Dev.capRead (d : Dev) (c : Nat) : Dev :=
  let r := tabGet {} d.time.caps c
  (d.put TIME_CAP_T1.SEC_LO (r.sec % 2 ^ 32) c).put TIME_CAP_T2.NS r.ns c

/-! ### Alarms (R257 to R259) -/

/-- Has a time (seconds modulo 2^32 by serial comparison, units of 1/16 ns) reached a target (R257)? -/
def reached (now tgt : Nat × Nat) : Bool :=
  if now.1 % 2 ^ 32 = tgt.1 % 2 ^ 32 then decide (tgt.2 ≤ now.2) else later32 now.1 tgt.1

/-- Is alarm a armed? -/
def Dev.armed (d : Dev) (a : Nat) : Bool := d.is TIME_ALM_CFG.ARMED a

/-- Has the alarm's time base reached its target, to 1/16 ns (R40, R257)? -/
def Dev.almReached (d : Dev) (a : Nat) : Bool :=
  let t := tabGet {} d.time.alarms a
  let b := d.tb (d.get TIME_ALM_CFG.TB a)
  reached (b.sec, 16 * b.ns + b.frac / 4096) (t.sec, 16 * t.ns + t.sub)

/-- Set the target of an alarm and arm it. -/
def Dev.almArm (d : Dev) (a sec ns : Nat) (sub : Nat := 0) : Dev :=
  { d.put TIME_ALM_CFG.ARMED 1 a with time := { d.time with alarms := tabPut {} d.time.alarms a ⟨sec % 2 ^ 32, ns, sub⟩ } }

/-- Disarm. -/
def Dev.almDisarm (d : Dev) (a : Nat) : Dev := d.put TIME_ALM_CFG.ARMED 0 a

/-- An alarm acts on its TIO pin: only on a pin configured as an output (R256, R257). -/
def Dev.tioAct (d : Dev) (a : Nat) : Dev :=
  let p := d.get TIME_ALM_CFG.TIO a
  if !d.bit TIME_TIO_CFG.DIR p then d else
  match d.get TIME_ALM_CFG.TIOACT a with
  | 1 => if d.bit TIME_TIO_CFG.LEVEL p then d.clrBit TIME_TIO_CFG.LEVEL p else d.setBit TIME_TIO_CFG.LEVEL p
  | 2 => d.setBit TIME_TIO_CFG.LEVEL p
  | 3 => d.clrBit TIME_TIO_CFG.LEVEL p
  | _ => d

/-- The period in ns: 1 to 999 are treated as 1,000. -/
def Dev.almPer (d : Dev) (a : Nat) : Nat :=
  let p := d.get TIME_ALM_PER.PER a
  if p = 0 then 0 else max 1000 p

/-- Nanoseconds by which a time lies past a target, seconds compared serially (R257). -/
def pastNs (now tgt : Nat × Nat) : Int :=
  sgn32 (now.1 + 2 ^ 32 - tgt.1 % 2 ^ 32) * 1000000000 + (now.2 : Int) - (tgt.2 : Int)

/-- An alarm that fires late or skips periods: its bit, and TIME.ALM_LATE (R258). -/
def Dev.almLate (d : Dev) (a : Nat) : Dev := (d.setBit TIME_ALM_LATE.L a).raise FS.TIME_ALM_LATE

/-- The whole periods by which a firing advances the target: to the first target still ahead (R258). -/
def Dev.almSkip (d : Dev) (a : Nat) : Nat :=
  let t := tabGet {} d.time.alarms a
  (pastNs (d.tbNow (d.get TIME_ALM_CFG.TB a)) (t.sec, t.ns)).toNat / d.almPer a + 1

/-- The alarm fires, late or not: status bit, interrupt, TIO action, capture event, and the next target or disarming; a firing
that skips periods is late too (R257, R258). -/
def Dev.almFire (d : Dev) (a : Nat) (late : Bool := false) : Dev :=
  let per := d.almPer a
  let k := d.almSkip a
  let d := if late || (per != 0 && decide (2 ≤ k)) then d.almLate a else d
  let d := d.setBit TIME_ALM_STAT.F a
  let d := if d.is TIME_ALM_CFG.IRQ a then d.raiseVec (32 + a) else d
  let d := (d.tioAct a).captureEvent (32 + a)
  if per = 0 then d.almDisarm a
  else
    let t := tabGet {} d.time.alarms a
    let ns := t.ns + k * per
    d.almArm a (t.sec + ns / 1000000000) (ns % 1000000000)

/-- Is the alarm firmware's (R259)? -/
def Dev.almFw (d : Dev) (a : Nat) : Bool := d.get TIME_ALM_CFG.OWNER a == 0

/-- Arm a firmware alarm with the registers' target; one already passed fires at once, late (R258). -/
def Dev.almArmFw (d : Dev) (a : Nat) : Dev :=
  let d := d.almArm a (d.get TIME_ALM_SEC.SEC a) (d.get TIME_ALM_NS.NS a)
  if d.almReached a then d.almFire a true else d

/-- Alarms of a time base that a forward step or SET carried past their targets: a firmware one-shot fires with LATE,
a periodic one as R258 says (R263). Owned alarms are left to their owners (R259). -/
def Dev.almAfterStep (d : Dev) (t : Nat) : Dev :=
  forN 32 (fun a d =>
    if d.almFw a && d.armed a && d.get TIME_ALM_CFG.TB a == t && d.almReached a then
      d.almFire a (d.almPer a == 0)
    else d) d

/-! ### Selector (R252 to R254) -/

/-- Does the selector run? -/
def Dev.selOn (d : Dev) : Bool := d.is TIME_SEL_CFG.EN

/-- The selected time base. -/
def Dev.selCur (d : Dev) : Nat := if d.is TIME_SEL_STAT.CUR then d.get TIME_SEL_CFG.B else d.get TIME_SEL_CFG.A

/-- The other time base. -/
def Dev.selOther (d : Dev) : Nat := if d.is TIME_SEL_STAT.CUR then d.get TIME_SEL_CFG.A else d.get TIME_SEL_CFG.B

/-- The build-out, signed, in 1/16 ns. -/
def Dev.selBo (d : Dev) : Int := sgn32 (d.get TIME_SEL_BO.BO)

/-- Set the build-out; BLEED reads 1 while it moves toward 0 (R253). -/
def Dev.setBo (d : Dev) (z : Int) : Dev :=
  let d := d.put TIME_SEL_BO.BO (unsW 32 z)
  d.put TIME_SEL_STAT.BLEED (b2n (decide (unsW 32 z ≠ 0) && d.get TIME_SEL_CTRL.SLEW != 0))

/-- Switch to the other time base: refused beyond 100 ms; else the build-out takes the difference (R253, R254). -/
def Dev.selSwitch (d : Dev) : Dev :=
  let diff := d.tb16 d.selCur - d.tb16 d.selOther
  if 1600000000 < diff.natAbs then d.put TIME_SEL_STAT.REFUSED 1
  else
    let d := d.setBo (d.selBo + diff)
    let d := (d.put TIME_SEL_STAT.CUR (1 - d.get TIME_SEL_STAT.CUR)).put TIME_SEL_STAT.SWEV 1
    d.raise FS.TIME_SELSW

/-- AUTO: the selected time base has left LOCKED, or entered FREE, and the other is LOCKED (R254, R263). -/
def Dev.selAuto (d : Dev) (t : Nat) : Dev :=
  if d.selOn && d.is TIME_SEL_CTRL.AUTO && d.selCur == t && d.servo d.selOther == 2 then d.selSwitch else d

/-! ### Servos (R248 to R250) -/

/-- Move a servo to a state with the actions of R250: on leaving LOCKED set LOCKEV and raise TIME.UNLOCK; on entering
HOLD set HOLDEV and raise TIME.HOLD; HOLD and FREE fall back to the integrator. -/
def Dev.servoMove (d : Dev) (t st : Nat) : Dev :=
  let old := d.servo t
  if old = st then d else
  let b := d.tb t
  let d := if st = 0 ∨ st = 3 then d.setAdj t b.integ else d
  let d := d.setTb t { b with lockCnt := 0, holdLocked := if st = 3 then old == 2 else b.holdLocked }
  let d := d.put TIME_TB_STAT.STATE st t
  let d := if st = 2 then d.startTimer .locked t else d.stopTimer .locked t
  let d := if st = 3 then (d.put TIME_TB_STAT.HOLDEV 1 t).raise (FS.TIME_HOLD + t) else d
  if old = 2 then (d.put TIME_TB_STAT.LOCKEV 1 t).raise (FS.TIME_UNLOCK + t) else d

/-- Move a servo to a state; the selector acts on a time base that leaves LOCKED or enters FREE (R254, R263). -/
def Dev.servoTo (d : Dev) (t st : Nat) : Dev :=
  let old := d.servo t
  if old = st then d
  else if old = 2 ∨ st = 0 then (d.servoMove t st).selAuto t else d.servoMove t st

/-- Note a step or SET for those that follow the time base (R259, R284). -/
def Dev.noteStep (d : Dev) (t : Nat) : Dev := { d with time := { d.time with stepped := t :: d.time.stepped } }

/-- The time base is stepped by an exact amount in 1/16 ns (R249); alarms compare against the new value. -/
def Dev.tbStep (d : Dev) (t : Nat) (theta : Int) : Dev :=
  let b := d.tb t
  let d := (d.setTb t { b.load (b.val + theta * (2 ^ 42 : Nat)) with lockCnt := 0 }).noteStep t
  (((d.put TIME_TB_STAT.STEPEV 1 t).raise (FS.TIME_STEP + t))).almAfterStep t

/-- Lock threshold in 1/16 ns; 0 is treated as 1 ns. -/
def Dev.lockThr (d : Dev) (t : Nat) : Nat := 16 * max 1 (d.get TIME_SRV_THR.LOCK_THR t)

/-- May an offset step the time base (R249)? -/
def Dev.stepAllowed (d : Dev) (t : Nat) : Bool :=
  match d.get TIME_SRV_CFG.STEP t with
  | 0 => false
  | 2 => true
  | _ => d.servo t != 2

/-- An accepted offset is processed (R249) and moves the servo (R250). -/
def Dev.servoUpdate (d : Dev) (t : Nat) (theta : Int) (fstep : Bool) : Dev :=
  let d := ((d.inc TIME_TB_STAT.ACC t).put TIME_SRV_LAST.THETA (unsW 32 (sat31 theta)) t).startTimer .offset t
  let st := d.servo t
  let big := decide (16000 * max 1 (d.get TIME_SRV_THR.STEP_THR t) < theta.natAbs)
  let d := if fstep || (big && d.stepAllowed t) then
      let d := if fstep then d.put TIME_OFS_MNS.FSTEP 0 t else d
      d.tbStep t theta
    else
      let b := d.tb t
      let i := clampAdj (b.integ + rhe (d.get TIME_SRV_KI.K t * theta) 4096)
      let cnt := if st = 1 then (if theta.natAbs ≤ d.lockThr t then b.lockCnt + 1 else 0) else b.lockCnt
      let d := d.setTb t { b with integ := i, lockCnt := cnt }
      d.setAdj t (i + rhe (d.get TIME_SRV_KP.K t * theta) 4096)
  if st = 2 ∧ 8 * d.lockThr t < theta.natAbs then d.servoTo t 1
  else if st = 1 ∧ max 1 (d.get TIME_SRV_CFG.LOCK_CNT t) ≤ (d.tb t).lockCnt then d.servoTo t 2
  else d

/-- An offset arrives from source `src`, timely or late; one at the tick of a SET is ignored (R248, R250, R263). -/
def Dev.offset (d : Dev) (t src : Nat) (theta : Int) (timely fstep : Bool) : Dev :=
  if src ≠ d.get TIME_TB_CFG.SRC t ∨ src = 0 ∨ d.is TIME_TB_CTRL.FREE t ∨ tabGet 0 d.time.setAt t = d.tclk + 1 then d.inc TIME_TB_STAT.IGN t
  else if !timely then
    let d := d.inc TIME_TB_STAT.LATE t
    if d.servo t = 1 ∨ d.servo t = 2 then d.servoTo t 3 else d
  else
    let st := d.servo t
    let d := if st = 0 then
        (d.setTb t { d.tb t with integ := d.adj t }).servoTo t 1
      else if st = 3 then
        d.servoTo t (if (d.tb t).holdLocked && decide (theta.natAbs ≤ 8 * d.lockThr t) then 2 else 1)
      else d
    d.servoUpdate t theta fstep

/-- A write of TIME_OFS_VAL submits a firmware offset: timely when its age is 0 to MAXAGE ms (R248). -/
def Dev.offsetFw (d : Dev) (t : Nat) (theta : Int) : Dev :=
  let b := d.tb t
  let age : Int := sgn32 (b.sec + 2 ^ 32 - d.get TIME_OFS_MSEC.SEC t) * (tbSecond : Nat) + ((b.val % tbSecond : Nat) : Int)
    - ((d.get TIME_OFS_MNS.NS t * 2 ^ 46 : Nat) : Int)
  let lim := max 1 (d.get TIME_SRV_CFG.MAXAGE t) * 1000000 * 2 ^ 46
  d.offset t 1 theta (decide (0 ≤ age) && decide (age ≤ (lim : Nat))) (d.is TIME_OFS_MNS.FSTEP t)

/-- SET loads the time base; 10^9 ns or more has no effect (R246, R263). -/
def Dev.tbSet (d : Dev) (t : Nat) : Dev :=
  if 1000000000 ≤ d.get TIME_OFS_MNS.NS t then d
  else
    let b := d.tb t
    let d := (d.setTb t { b with sec := d.get TIME_OFS_MSEC.SEC t, ns := d.get TIME_OFS_MNS.NS t, frac := 0, hid := 0 }).noteStep t
    let d := { d with time := { d.time with setAt := tabPut 0 d.time.setAt t (d.tclk + 1) } }
    let d := ((d.put TIME_TB_STAT.STEPEV 1 t).raise (FS.TIME_STEP + t)).almAfterStep t
    if d.servo t = 2 ∨ d.servo t = 3 then d.servoTo t 1 else d

/-- A read of TIME_TB_T0 captures the whole value (R246). -/
def Dev.tbRead (d : Dev) (t : Nat) : Dev :=
  let b := d.tb t
  (((d.put TIME_TB_T0.SEC_HI (b.sec / 2 ^ 32) t).put TIME_TB_T0.FRAC b.frac t).put TIME_TB_T1.SEC_LO (b.sec % 2 ^ 32) t).put
    TIME_TB_T2.NS b.ns t

/-- A write of TIME_TB_RATE_LO is held until HI commits both halves; only in FREE (R247). -/
def Dev.rateLoWrite (d : Dev) (t v : Nat) : Dev :=
  if d.servo t = 0 then { d with time := { d.time with rateLo := tabPut 0 d.time.rateLo t (v % 2 ^ 32 + 1) } } else d

/-- A write of TIME_TB_RATE_HI commits ADJ; only in FREE (R247). -/
def Dev.rateCommit (d : Dev) (t hi : Nat) : Dev :=
  if d.servo t = 0 then
    let lo := match tabGet 0 d.time.rateLo t with
      | 0 => d.get TIME_TB_RATE_LO.ADJ_LO t
      | n + 1 => n
    let d := { d with time := { d.time with rateLo := tabDel d.time.rateLo t } }
    d.setAdj t (sgnW 40 (hi % 256 * 2 ^ 32 + lo))
  else d

/-- No accepted offset for HOLD_TMO ms (R250). -/
def Dev.holdTimeout (d : Dev) (t : Nat) : Dev :=
  if (d.servo t = 1 ∨ d.servo t = 2) ∧ d.isDue .offset (max 1 (d.get TIME_SRV_CFG.HOLD_TMO t) * 1000000) t then d.servoTo t 3 else d

/-- Every 1 ms the selector delivers its offset to the media time base unless the selected one is FREE (R252). -/
def Dev.selTick (d : Dev) : Dev :=
  if !d.selOn || !d.isDue .selTick 1000000 then d else
  let d := d.startTimer .selTick
  if d.servo d.selCur = 0 then d
  else
    let m := d.get TIME_SEL_CFG.M
    d.offset m 3 (d.tb16 d.selCur + d.selBo - d.tb16 m) true false

/-- SWITCH: to the other time base when it is LOCKED, else refused (R254). -/
def Dev.selCommand (d : Dev) : Dev :=
  if d.selOn && d.servo d.selOther == 2 then d.selSwitch else d.put TIME_SEL_STAT.REFUSED 1

/-- TB_A has been LOCKED for RVT seconds without interruption: revert to it (R254). -/
def Dev.selRevert (d : Dev) : Dev :=
  let a := d.get TIME_SEL_CFG.A
  if d.selOn && d.is TIME_SEL_CTRL.REVERT && d.is TIME_SEL_STAT.CUR && d.servo a == 2
      && d.ranFor .locked (max 1 (d.get TIME_SEL_CTRL.RVT) * 1000000000) a then d.selSwitch else d

/-- BLOCK reset of TIME: all servos FREE with ADJ := i at once, so that the selector finds none LOCKED; firmware alarms disarmed, captures
cleared; values, ADJ, build-out and owned alarms kept (R250, R263). Its registers are reset with the block. -/
def Dev.timeBlockReset (d : Dev) : Dev :=
  let d := forN 4 (fun t d => d.servoMove t 0) d
  let d := forN 32 (fun a d => if d.almFw a then d.almDisarm a else d) d
  { d with time := { d.time with caps := [] } }

/-- A CHIP reset takes every servo to FREE with ADJ := i, which for one that is LOCKED is leaving LOCKED: TIME.UNLOCK is raised as the
reset takes effect (R250). -/
def Dev.servosFree (d : Dev) : Dev := forN 4 (fun t d => d.servoMove t 0) d

/-- CHIP reset, the servos being FREE: values and ADJ continue, alarms disarmed, captures cleared (R245, R250, R263). -/
def Dev.timeChipReset (d : Dev) : Dev :=
  let d := forN 4 (fun t d => d.setTb t { d.tb t with lockCnt := 0, holdLocked := false }) d
  { d with time := { d.time with alarms := [], caps := [], bleedRem := 0, rateLo := [], setAt := [] } }

/-- The TIO pins of a new structure, `o` being the device before it: a pin that becomes an output is driven low (R256). -/
def Dev.tioAdopt (d o : Dev) : Dev :=
  forN 8 (fun p d => if d.bit TIME_TIO_CFG.DIR p && !(o.imageApplied && o.bit TIME_TIO_CFG.DIR p) then d.clrBit TIME_TIO_CFG.LEVEL p else d) d

/-! ### The passing of time -/

/-- In `n` TCLK ticks the build-out moves linearly toward 0 by SLEW ns per second, the part of 1/16 ns left over being kept in units of
2^−4 × 10^−9 ns (R253). -/
def Dev.selBleed (d : Dev) (n : Nat) : Dev :=
  let bo := d.selBo
  if !d.selOn || bo == 0 || d.get TIME_SEL_CTRL.SLEW == 0 then d else
  let amount := d.time.bleedRem + 64 * d.get TIME_SEL_CTRL.SLEW * n
  let move := min (amount / 1000000000) bo.natAbs
  let bo' := if bo < 0 then bo + move else bo - move
  { d.setBo bo' with time := { d.time with bleedRem := if bo' = 0 then 0 else amount % 1000000000 } }

/-- `n` TCLK ticks pass: TCLK, the time bases with the selector's build-out, and a free number of pace ticks, which the performance counters
see (R7, R63, R244, R253, R333). -/
def Dev.pass (d : Dev) (n : Nat) : Dev :=
  if n = 0 then d else
  let (k, d) := d.draw
  let p := Config.paceTicks k
  let d := ({ d with tclk := d.tclk + n, pace := (d.pace + p) % 2 ^ 48 }).tbAdvance n
  d.selBleed n

end Sys2Proof.Machine
end

