-- ==== Sys2Proof/Machine/Rcu.lean ====
section
/-! DEFINITION. Reference candidates, qualification, selection and the four clean-up loops (R264 to R284). -/

namespace Sys2Proof.Machine

/-- A loop's hidden state. -/
def Dev.loop (d : Dev) (k : Nat) : LoopSt := tabGet {} d.rcu.loops k

/-- Replace a loop's hidden state. -/
def Dev.setLoop (d : Dev) (k : Nat) (l : LoopSt) : Dev := { d with rcu := { d.rcu with loops := tabPut {} d.rcu.loops k l } }

/-- Loop state: 0 OFF, 1 SEARCH, 2 FREERUN, 3 ACQUIRE, 4 NARROW, 5 TRACK, 6 PULL, 7 HOLDOVER, 8 HOP (R273). -/
def Dev.loopState (d : Dev) (k : Nat) : Nat := d.get RCU_LOOP_STAT.STATE k

/-- Candidate state: 0 DISQ, 1 HOLDOFF, 2 QUAL (R267). -/
def Dev.cand (d : Dev) (c : Nat) : Nat := d.get RCU_CAND_STAT.STATE c

/-- Is XOIN disqualified? The loops' XOLOSS bit shows it (R267). -/
def Dev.xoQual (d : Dev) : Bool := d.cand 0 == 2

/-- No selection. -/
abbrev noSel : Nat := 0x1F

/-! ### Loop states -/

/-- Status bits that follow the state: LOCK in NARROW and TRACK; VALID in NARROW, TRACK, PULL, and in HOLDOVER and
FREERUN while XOIN is QUAL (R278). -/
def Dev.loopBits (d : Dev) (k : Nat) : Dev :=
  let st := d.loopState k
  let v := st == 4 || st == 5 || st == 6 || ((st == 7 || st == 2) && d.xoQual)
  (d.put RCU_LOOP_STAT.LOCK (b2n (st == 4 || st == 5)) k).put RCU_LOOP_STAT.VALID (b2n v) k

/-- Ticks of the holdover average HAVG (R277). -/
def Dev.havgTicks (d : Dev) (k : Nat) : Nat := 25000000 * 10 ^ d.get RCU_LOOP_BW.HAVG k

/-- HVALID becomes 1 when NARROW, TRACK and PULL have lasted HAVG without interruption (R277). -/
def Dev.loopHvalid (d : Dev) (k : Nat) : Dev :=
  let st := d.loopState k
  if (st == 4 || st == 5 || st == 6) && decide (d.havgTicks k ≤ d.tclk - (d.loop k).since) then d.put RCU_LOOP_STAT.HVALID 1 k else d

/-- Does a state follow a reference? -/
def following (st : Nat) : Bool := st == 4 || st == 5 || st == 6

/-- Enter a state: PDET cleared in SEARCH, ACQUIRE, HOP and HOLDOVER; the stay in NARROW, TRACK and PULL begins anew
when entered from outside (R277, R278). -/
def Dev.loopTo (d : Dev) (k st : Nat) : Dev :=
  let d := d.loopHvalid k
  let old := d.loopState k
  let d := d.put RCU_LOOP_STAT.STATE st k
  let d := if st == 1 || st == 3 || st == 8 || st == 7 then d.put RCU_LOOP_STAT.PDET 0 k else d
  let d := if following st && !following old then
      (d.setLoop k { d.loop k with since := d.tclk, rlog := [] }).put RCU_LOOP_STAT.HVALID 0 k
    else d
  d.loopBits k

/-- Greatest common divisor of the candidate's FNOM and the loop's FOUT, FCMP in 1/64 Hz (R272). -/
def Dev.fcmp (d : Dev) (k : Nat) : Nat := Nat.gcd (d.get RCU_CAND_FNOM.FNOM (d.get RCU_LOOP_STAT.SEL k)) (d.loop k).fout

/-- FCMP ÷ 20 in units of 10 nHz. -/
def Dev.fcmp20 (d : Dev) (k : Nat) : Nat := d.fcmp k * 78125

/-- Acquisition bandwidth min(100 Hz, FCMP ÷ 20) (R272). -/
def Dev.bwa (d : Dev) (k : Nat) : Nat := min 10000000000 (d.fcmp20 k)

/-- Tracking bandwidth TRK, 10 to 10,000 mHz, reduced to FCMP ÷ 20 (R272). -/
def Dev.trk (d : Dev) (k : Nat) : Nat := min (100000 * max 10 (min 10000 (d.get RCU_LOOP_BW.TRK k))) (d.fcmp20 k)

/-- Set the bandwidth of a loop; a dwell at it begins (R274). -/
def Dev.setBw (d : Dev) (k bw : Nat) : Dev := (d.setLoop k { d.loop k with bw := bw }).startTimer .narrow k

/-- A loop in TRACK or PULL, whose bandwidth is TRK, follows a change of TRK (R272, R273). -/
def Dev.bwFollow (d : Dev) (k : Nat) : Dev := if d.loopState k = 5 ∨ d.loopState k = 6 then d.setBw k (d.trk k) else d

/-! ### Fine word and dither (R270, R282) -/

/-- Entry b of the band table in use: the register table, or the factory table where that has no valid entry
(R270): (valid, code, FMIN, FMAX), in kHz. -/
def Dev.bandEntry (d : Dev) (k b : Nat) : Bool × Nat × Nat × Nat :=
  if (List.range 64).any (fun b => d.is RCU_BAND_LO.VALID k b) then
    (d.is RCU_BAND_LO.VALID k b, d.get RCU_BAND_LO.CODE k b, d.get RCU_BAND_LO.FMIN k b, d.get RCU_BAND_HI.FMAX k b)
  else
    let f := tabGet (0, 0, 0) d.rcu.factory (64 * k + b)
    (decide (f.2.2 ≠ 0), f)

/-- One step of the 23-bit register of the dither, polynomial x^23 + x^18 + 1: it shifts up, bit 22 exclusive-or bit 17 coming in below.
The direction, and that a 1 coming in adds the LSB and a 0 takes it away, are DEDUCED, log entry 129. -/
def ditherStep (s : Nat) : Nat := (2 * s + (bitOf s 22 + bitOf s 17) % 2) % 2 ^ 23

/-- The fine word is limited while the loop is in SEARCH, ACQUIRE or HOP: its frequency, measured against XOIN, does not exceed FMAX of the
active entry (R270). -/
def Dev.clampFine (d : Dev) (k w : Nat) : Nat :=
  let st := d.loopState k
  if st == 1 || st == 3 || st == 8 then
    min w (Config.fineLimit k (d.loop k).code (d.bandEntry k (d.get RCU_LOOP_STAT.BAND k)).2.2.2 d.tclk)
  else w

/-- Set the fine word, within its limit, and drive the modulator with it. -/
def Dev.setFine (d : Dev) (k w : Nat) : Dev :=
  let w := d.clampFine k (w % 2 ^ 24)
  d.setLoop k { d.loop k with fine := w, word := w }

/-- A control update: the fine word that the loop filter gives, which the manual does not (a free value, log entry 129), and with EN = 1
one step of the dither register, which adds ±1 LSB to it (R282). -/
def Dev.control (d : Dev) (k : Nat) : Dev :=
  let (n, d) := d.draw
  let d := d.setFine k (Config.freeNat n)
  if !d.is RCU_DITHER.EN k then d
  else
    let l := d.loop k
    let s := ditherStep l.lfsr
    let w := if bitOf s 0 == 1 then min (l.fine + 1) (2 ^ 24 - 1) else l.fine - 1
    d.setLoop k { l with lfsr := s, word := d.clampFine k w }

/-- The actual frequency of a loop's MCLK in 1/64 Hz, as far as the device measures it: FOUT offset as the followed candidate is, in
0.001 ppm; the held ratio of XOIN; else FOUT (R266, R277). -/
def Dev.mclkNow (d : Dev) (k : Nat) : Nat :=
  let l := d.loop k
  let c := d.get RCU_LOOP_STAT.SEL k
  if following (d.loopState k) then (l.fout * (1000000000 + sgn32 (d.get RCU_CAND_OFS.OFS c)).toNat) / 1000000000
  else if l.held == .ratio then l.ratio * d.get RCU_CAND_FNOM.FNOM 0 / (max 1 l.mdiv * 2 ^ 40)
  else l.fout

/-! ### Search (R271) -/

/-- Does an entry cover the target with its 0.1 % margins? Frequencies in 1/64 Hz against kHz. -/
def bandCovers (e : Bool × Nat × Nat × Nat) (f : Nat) : Bool :=
  e.1 && decide (e.2.2.1 * 1001 * 64 ≤ f) && decide (f ≤ e.2.2.2 * 999 * 64)

/-- Twice the distance of the entry's centre from the target, in 1/64 Hz. -/
def bandDist (e : Bool × Nat × Nat × Nat) (f : Nat) : Nat :=
  (((e.2.2.1 + e.2.2.2) * 64000 : Nat) - (2 * f : Nat) : Int).natAbs

/-- Insert by distance, the lower index first among equals. -/
def insDist : (Nat × Nat) → List (Nat × Nat) → List (Nat × Nat)
  | x, [] => [x]
  | x, y :: ys => if x.1 < y.1 then x :: y :: ys else y :: insDist x ys

/-- The entries a search tries: at most three, nearest first. -/
def Dev.searchOrder (d : Dev) (k : Nat) : List Nat :=
  let f := (d.loop k).fout * (d.loop k).mdiv
  let l := (List.range 64).foldl (fun acc b =>
    let e := d.bandEntry k b
    if bandCovers e f then insDist (bandDist e f, b) acc else acc) []
  (l.take 3).map (·.2)

/-- The dither register's seed; 0 is treated as 1 (R282). -/
def Dev.ditherSeed (d : Dev) (k : Nat) : Nat := max 1 (d.get RCU_DITHER.SEED k)

/-- A trial applies its entry's CODE, the fine word first at its minimum (R270, R271). -/
def Dev.applyBand (d : Dev) (k b : Nat) (trials : List Nat) : Dev :=
  (d.setLoop k { d.loop k with trials := trials, fine := 0, word := 0, code := (d.bandEntry k b).2.1 }).put RCU_LOOP_STAT.BAND b k

/-- A search has failed: RCU.NOBAND, and 1 s until the next (R271). -/
def Dev.searchFail (d : Dev) (k : Nat) : Dev :=
  ((d.setLoop k { d.loop k with trials := [], waiting := true }).startTimer .retry k).raise FS.RCU_NOBAND

/-- Begin a search, or wait while XOIN is disqualified; no entry found raises RCU.NOBAND (R271). -/
def Dev.searchBegin (d : Dev) (k : Nat) : Dev :=
  let d := d.setLoop k { d.loop k with trials := [], waiting := false, await := .none, edges := 0 }
  if !d.xoQual then d
  else
    match d.searchOrder k with
    | [] => d.searchFail k
    | b :: bs =>
      d.applyBand k b (b :: bs)

/-- The fine word that a loop brings into a state in which it is limited (R270). -/
def Dev.limitFine (d : Dev) (k : Nat) : Dev :=
  let l := d.loop k
  d.setLoop k { l with fine := d.clampFine k l.fine, word := d.clampFine k l.word }

/-- Enter SEARCH: the fine word is limited, the dither register is loaded from its seed, and a search begins (R270, R271, R282). -/
def Dev.toSearch (d : Dev) (k : Nat) : Dev :=
  let d := (d.loopTo k 1).limitFine k
  (d.setLoop k { d.loop k with lfsr := d.ditherSeed k }).searchBegin k

/-- Write a successful search into the Quickset store (R280). -/
def Dev.qsStore (d : Dev) (k : Nat) : Dev :=
  if 2 ≤ k then d else
  let l := d.loop k
  let same := (List.range 8).find? (fun e => d.is RCU_QS_CFG.VALID k e && d.get RCU_QS_FOUT.FOUT k e == l.fout && d.get RCU_QS_CFG.MDIV k e == l.mdiv)
  let inv := (List.range 8).find? (fun e => !d.is RCU_QS_CFG.VALID k e)
  let nx := d.get RCU_QS_HOP.NEXT k
  let (e, d) := match same, inv with
    | some e, _ => (e, d)
    | none, some e => (e, d)
    | none, none => (nx, d.put RCU_QS_HOP.NEXT ((nx + 1) % 8) k)
  ((((d.put RCU_QS_FOUT.FOUT l.fout k e).put RCU_QS_CFG.VALID 1 k e).put RCU_QS_CFG.MDIV l.mdiv k e).put RCU_QS_CFG.BAND
    (d.get RCU_LOOP_STAT.BAND k) k e).put RCU_QS_FINE.FINE l.fine k e

/-- The nominal ratio FOUT × MDIV ÷ FNOM of XOIN, in 2^−40 (R277). -/
def Dev.nominalRatio (d : Dev) (k : Nat) : Nat := (d.loop k).fout * (d.loop k).mdiv * 2 ^ 40 / d.get RCU_CAND_FNOM.FNOM 0

/-- Hold the DCO at a ratio of XOIN, or on the last fine word while XOIN is disqualified (R277). -/
def Dev.holdAt (d : Dev) (k r : Nat) : Dev := d.setLoop k { d.loop k with ratio := r, held := if d.xoQual then .ratio else .fineWord }

/-- Enter FREERUN: the DCO is held at the nominal ratio (R273, R277). -/
def Dev.toFreerun (d : Dev) (k : Nat) : Dev := (d.holdAt k (d.nominalRatio k)).loopTo k 2

/-- Is a DCO frequency found by a trial a success: within ±1 ppm of FOUT × MDIV, and not beyond FMAX, to which the search is limited
(R270, R271)? In 1/64 Hz. -/
def Dev.trialOk (d : Dev) (k f : Nat) : Bool :=
  let t := (d.loop k).fout * (d.loop k).mdiv
  decide (((f : Int) - t).natAbs * 1000000 ≤ t) && decide (f ≤ (d.bandEntry k (d.get RCU_LOOP_STAT.BAND k)).2.2.2 * 64000)

/-- A band trial ends: its search of the fine word against XOIN came to f_DCO, in 1/64 Hz, at a fine word (R271, R273). -/
def Dev.bandTrial (d : Dev) (k f fine : Nat) : Dev :=
  if d.loopState k ≠ 1 ∨ (d.loop k).trials = [] ∨ !d.xoQual then d
  else if d.trialOk k f then
    let d := d.setLoop k { d.loop k with fine := fine % 2 ^ 24, word := fine % 2 ^ 24, trials := [] }
    let d := d.qsStore k
    if d.get RCU_LOOP_STAT.SEL k = noSel then d.toFreerun k
    else ((d.loopTo k 3).setBw k (d.bwa k))
  else
    match (d.loop k).trials with
    | _ :: b :: bs => d.applyBand k b (b :: bs)
    | _ => d.searchFail k

/-- 1 s after a failed search it starts again (R271). -/
def Dev.searchRetry (d : Dev) (k : Nat) : Dev :=
  if d.loopState k = 1 ∧ (d.loop k).waiting = true ∧ d.isDue .retry 1000000000 k = true then d.searchBegin k else d

/-! ### Pull and build-out (R275, R276) -/

/-- The present pull offset: it shrinks at SLOPE ns/s from the start of the pull, in ps. -/
def Dev.pullNow (d : Dev) (k : Nat) : Int :=
  let l := d.loop k
  let gone := max 1 (d.get RCU_LOOP_CFG.SLOPE k) * (d.tclk - l.pullAt) / 250000
  let m := l.pullO.natAbs - gone
  if l.pullO < 0 then -(m : Int) else m

/-- A write of SLOPE during a pull: the offset shrinks at the new slope from where it stands (R275). -/
def Dev.slopeWrite (d : Dev) (k : Nat) (w : Word) : Dev :=
  let o := d.pullNow k
  let d := d.store RCU_LOOP_CFG w k
  if d.loopState k = 6 ∧ (d.loop k).await = .none then d.setLoop k { d.loop k with pullO := o, pullAt := d.tclk } else d

/-- Report an offset in 1/16 ns. -/
def Dev.putPhase (d : Dev) (k : Nat) (ps : Int) : Dev := d.put RCU_LOOP_PHASE.O (unsW 32 (rhe (ps * 16) 1000)) k

/-- The DCO frequency offset that a pull adds, in ns/s: exactly SLOPE, of the sign that reduces |o|, positive where the MCLK edge is late
and must come sooner (R275). -/
def Dev.pullRate (d : Dev) (k : Nat) : Int :=
  if d.loopState k = 6 ∧ (d.loop k).await = .none then (d.loop k).pullO.sign * (max 1 (d.get RCU_LOOP_CFG.SLOPE k) : Nat) else 0

/-- The phase that a loop tracks its candidate to, in ps: the offset as it stands in a pull, a build-out held, else 0 (R272, R275,
R276). -/
def Dev.phaseTarget (d : Dev) (k : Nat) : Int := if d.loopState k = 6 then d.pullNow k else (d.loop k).pullO

/-- A read of RCU_LOOP_PHASE during a pull reports the offset as it stands (R275). -/
def Dev.phaseRead (d : Dev) (k : Nat) : Dev :=
  if d.loopState k = 6 ∧ (d.loop k).await = .none then d.putPhase k (d.pullNow k) else d

/-- Begin a pull, or a build-out where PBO = 1; the offset is taken at the next comparison edge (R273, R275,
R276). -/
def Dev.beginPull (d : Dev) (k : Nat) : Dev :=
  let d := if d.is RCU_LOOP_CFG.PBO k then
      let d := (d.loopTo k 5).put RCU_LOOP_STAT.PDET 0 k
      d.setLoop k { d.loop k with await := .build, built := true }
    else (d.loopTo k 6).setLoop k { (d.loopTo k 6).loop k with await := .pull }
  d.setBw k (d.trk k)

/-- Of the measured ratios, newest first, those that a window from a tick on needs: the ones since, and the one that stood then. -/
def ratioKeep (from_ : Nat) : List (Nat × Nat) → List (Nat × Nat)
  | [] => []
  | x :: xs => if x.1 ≤ from_ then [x] else x :: ratioKeep from_ xs

/-- Sum over time, and ticks, of the ratio from tick a to tick b: each measured ratio stands until the next (log entry 129). -/
def ratioSum (a : Nat) : Nat → List (Nat × Nat) → Nat × Nat
  | _, [] => (0, 0)
  | b, x :: xs =>
    let n := b - max a x.1
    let (s, m) := ratioSum a (min b x.1) xs
    (s + n * x.2, m + n)

/-- The loop measures r = f_DCO ÷ f_XOIN, in 2^−40, while it follows a reference and XOIN is there; what no window can need goes
(R277). -/
def Dev.ratioMeasure (d : Dev) (k r : Nat) : Dev :=
  if following (d.loopState k) && d.xoQual then
    d.setLoop k { d.loop k with rlog := ratioKeep (d.tclk - (d.havgTicks k + 25000000)) ((d.tclk, r) :: (d.loop k).rlog) }
  else d

/-- The mean of r over the HAVG window that ends 100 ms ago; a free value where nothing was measured (R277). -/
def Dev.ratioMean (d : Dev) (k : Nat) : Nat × Dev :=
  let b := d.tclk - 25000000
  match ratioSum (b - d.havgTicks k) b (d.loop k).rlog with
  | (_, 0) => let (n, d) := d.draw; (Config.freeNat n, d)
  | (s, m + 1) => (s / (m + 1), d)

/-- Enter HOLDOVER: hold the averaged ratio, or the nominal one where HVALID = 0 (R273, R277). -/
def Dev.toHoldover (d : Dev) (k : Nat) : Dev :=
  let d := d.loopTo k 7
  let (r, d) := if d.is RCU_LOOP_STAT.HVALID k then d.ratioMean k else (d.nominalRatio k, d)
  let d := (d.setLoop k { d.loop k with await := .none, pullO := 0 }).holdAt k r
  ((d.putPhase k 0).put RCU_LOOP_STAT.HOLDEV 1 k).raise (FS.RCU_HOLDOVER + k)

/-! ### Selection (R268) -/

/-- Rank of candidate c for loop k. -/
def Dev.rank (d : Dev) (k c : Nat) : Nat := (d.rd RCU_LOOP_RANK k (c / 8)).toNat / 16 ^ (c % 8) % 16

/-- Is a candidate eligible for a loop? -/
def Dev.eligible (d : Dev) (k c : Nat) : Bool := d.cand c == 2 && decide (d.rank k c < 15)

/-- The eligible candidate of lowest rank, lowest index among equals; none is 0x1F. -/
def Dev.bestCand (d : Dev) (k : Nat) : Nat :=
  ((List.range 17).foldl (fun (acc : Nat × Nat) c =>
    if d.eligible k c && decide (d.rank k c < acc.1) then (d.rank k c, c) else acc) (15, noSel)).2

/-- What the selector of a loop chooses. -/
def Dev.selEval (d : Dev) (k : Nat) : Nat :=
  let cur := d.get RCU_LOOP_STAT.SEL k
  if d.is RCU_LOOP_CTRL.FORCE k then
    let f := d.get RCU_LOOP_CTRL.FSEL k
    if decide (f < 17) && d.cand f == 2 then f else noSel
  else if decide (cur < 17) && d.eligible k cur && !((List.range 17).any (fun c => d.eligible k c && decide (d.rank k c < d.rank k cur))) then cur
  else d.bestCand k

/-- Enter ACQUIRE, or begin it again on another candidate: the fine word limited, bandwidth BWA (R270, R273). -/
def Dev.toAcquire (d : Dev) (k : Nat) : Dev :=
  let d := (d.loopTo k 3).limitFine k
  (d.setLoop k { d.loop k with edges := 0, await := .none, held := .free }).setBw k (d.bwa k)

/-- The loop acts on a changed selection; a hop whose DCO has settled goes to FREERUN without one, and on another candidate sets its
divider phase anew (R273, R281; log entry 109). -/
def Dev.selAct (d : Dev) (k new : Nat) : Dev :=
  let d := d.put RCU_LOOP_STAT.SEL new k
  match d.loopState k with
  | 2 => if new = noSel then d else d.toAcquire k
  | 3 => if new = noSel then d.toFreerun k else d.toAcquire k
  | 4 => if new = noSel then d.toHoldover k else (d.beginPull k).put RCU_LOOP_STAT.SWEV 1 k
  | 5 => if new = noSel then d.toHoldover k else (d.beginPull k).put RCU_LOOP_STAT.SWEV 1 k
  | 6 => if new = noSel then d.toHoldover k
         else ((d.setLoop k { d.loop k with await := .pull }).setBw k (d.trk k)).put RCU_LOOP_STAT.RETGT 1 k
  | 7 => if new = noSel then d else d.beginPull k
  | 8 => if (d.loop k).await = .hopSettle then d
         else if new = noSel then (d.setLoop k { d.loop k with await := .none }).toFreerun k
         else d.setLoop k { d.loop k with await := .hopEdge }
  | _ => d

/-- A loop's selector evaluates (R268). -/
def Dev.selLoop (d : Dev) (k : Nat) : Dev :=
  if d.loopState k = 0 then d else
  let new := d.selEval k
  if new = d.get RCU_LOOP_STAT.SEL k then d else d.selAct k new

/-! ### Rank conflicts (R269) -/

/-- Offset of a candidate in 0.001 ppm. -/
def Dev.ofs (d : Dev) (c : Nat) : Int := sgn32 (d.get RCU_CAND_OFS.OFS c)

/-- Are two candidates in conflict on some loop: eligible, of equal rank, offsets apart by more than ACC? -/
def Dev.inConflict (d : Dev) (a b : Nat) : Bool :=
  decide (100 * d.get RCU_QUAL_LIM.ACC < (d.ofs a - d.ofs b).natAbs)
    && (List.range 4).any (fun k => d.eligible k a && d.eligible k b && d.rank k a == d.rank k b)

/-- All pairs in conflict. -/
def Dev.conflictPairs (d : Dev) : List (Nat × Nat) :=
  ((List.range 17).flatMap (fun b => (List.range b).map (fun a => (a, b)))).filter (fun p => d.inConflict p.1 p.2)

/-- Set the conflict bits; each pair that first meets the condition raises RCU.RANK_CONFLICT. -/
def Dev.conflictUpdate (d : Dev) : Dev :=
  let ps := d.conflictPairs
  let new := ps.filter (fun p => !d.rcu.pairs.contains p)
  let mask := (List.range 17).foldl (fun m c => if ps.any (fun p => p.1 == c || p.2 == c) then m + 2 ^ c else m) 0
  let d := { d.put RCU_CONFLICT.C mask with rcu := { d.rcu with pairs := ps } }
  new.foldl (fun d _ => (d.put RCU_CONFLICT.CONFEV 1).raise FS.RCU_RANK_CONFLICT) d

/-- A qualification update: conflicts, then every loop's selector (R268, R269). -/
def Dev.qualUpdate (d : Dev) : Dev := forN 4 (fun k d => d.selLoop k) d.conflictUpdate

/-! ### Qualification (R265 to R267) -/

/-- Set a candidate's state, with its bit in RCU_QUAL_STAT; its hold-off timer runs in HOLDOFF (R267). -/
def Dev.setCand (d : Dev) (c st : Nat) : Dev :=
  let d := d.put RCU_CAND_STAT.STATE st c
  let d := if st = 1 then d.startTimer .holdoff c else d.stopTimer .holdoff c
  if st = 2 then d.setBit RCU_QUAL_STAT.QUAL c else d.clrBit RCU_QUAL_STAT.QUAL c

/-- XOIN is disqualified: XOLOSS in every loop, RCU.XOLOSS, the TCLK PLL holds and TIME.TCLK is raised; loops in SEARCH
or HOP wait in SEARCH, and those in HOLDOVER or FREERUN run on their last fine word (R245, R267, R277, R284). -/
def Dev.xoLoss (d : Dev) : Dev :=
  let d := forN 4 (fun k d =>
    let d := d.put RCU_LOOP_STAT.XOLOSS 1 k
    let st := d.loopState k
    if st = 1 then d.searchBegin k
    else if st = 8 then d.toSearch k
    else if st = 2 ∨ st = 7 then ((d.control k).setLoop k { (d.control k).loop k with held := .fineWord }).loopBits k
    else d.loopBits k) (d.startTimer .xoLost)
  (d.raise FS.RCU_XOLOSS).raise FS.TIME_TCLK

/-- The hold-off timers, paused since XOIN was disqualified, run on (R267). -/
def Dev.holdoffResume (d : Dev) : Dev :=
  match tabGet 0 d.timers (Timer.xoLost.key 0) with
  | 0 => d
  | t + 1 =>
    (forN 17 (fun c d =>
      match tabGet 0 d.timers (Timer.holdoff.key c) with
      | 0 => d
      | h + 1 => { d with timers := tabPut 0 d.timers (Timer.holdoff.key c) (h + 1 + (d.tclk - t)) }) d).stopTimer .xoLost

/-- XOIN is QUAL again: XOLOSS clears, waiting searches begin, held loops follow XOIN at their ratio, hold-off timers run on (R267,
R277). -/
def Dev.xoBack (d : Dev) : Dev :=
  forN 4 (fun k d =>
    let d := d.put RCU_LOOP_STAT.XOLOSS 0 k
    let st := d.loopState k
    if st = 1 then d.searchBegin k
    else if st = 2 ∨ st = 7 then (d.holdAt k (d.loop k).ratio).loopBits k
    else d.loopBits k) d.holdoffResume

/-- A frequency gate disqualifies a candidate: FRQF as it stood is kept for an activity fault of the same instant (R284). -/
def Dev.noteGate (d : Dev) (c : Nat) : Dev :=
  { d with rcu := { d.rcu with gateAt := tabPut 0 d.rcu.gateAt c (2 * (d.tclk + 1) + d.get RCU_CAND_STAT.FRQF c) } }

/-- A candidate is disqualified: from QUAL its event bit and RCU.DISQ, and the flag that says why; a qualification update (R266, R267). -/
def Dev.candDisq (d : Dev) (c : Nat) (freq : Bool) : Dev :=
  let was := d.cand c
  let d := d.setCand c 0
  if was = 2 then
    let d := d.setBit RCU_DISQ_EV.D c
    let d := if freq then d.put RCU_CAND_STAT.FRQF 1 c else d.put RCU_CAND_STAT.ACTF 1 c
    let d := d.raise FS.RCU_DISQ
    let d := if c = 0 then d.xoLoss else d
    d.qualUpdate
  else if was = 1 then d.qualUpdate
  else d

/-- An activity fault of a candidate that has an activity monitor, 0 to 4; it governs over the end of a gate at the same instant, whose FRQF is
not set then (R265, R267, R284). -/
def Dev.candFault (d : Dev) (c : Nat) : Dev :=
  if 5 ≤ c then d else
  let d := { d with rcu := { d.rcu with gateFault := tabPut false d.rcu.gateFault c true } }
  let g := tabGet 0 d.rcu.gateAt c
  if d.cand c ≠ 0 then d.candDisq c false
  else if g / 2 = d.tclk + 1 then (d.put RCU_CAND_STAT.ACTF 1 c).put RCU_CAND_STAT.FRQF (g % 2) c
  else d

/-- Are these the edges that a candidate counts: for REFIN0 to REFIN3 rising ones, or falling ones with EDGE = 1 (R264)? -/
def Dev.candEdges (d : Dev) (c : Nat) (falling : Bool) : Bool := !(decide (1 ≤ c ∧ c ≤ 4)) || falling == d.is RCU_CAND_CFG.EDGE c

/-- CAND_GLITCH: an interval of `ps` between consecutive edges; shorter than 0.75 T it is a glitch, at the edge that ends it (R265). -/
def Dev.candGlitch (d : Dev) (c : Nat) (falling : Bool) (ps : Nat) : Dev :=
  if d.candEdges c falling && decide (ps * d.get RCU_CAND_FNOM.FNOM c < 48000000000000) then d.candFault c else d

/-- CAND_ACTIVITY_TIMEOUT: no edge has arrived for `ps`; from 3.5 T on that is an activity fault (R265). -/
def Dev.candSilence (d : Dev) (c : Nat) (falling : Bool) (ps : Nat) : Dev :=
  if d.candEdges c falling && decide (224000000000000 ≤ ps * d.get RCU_CAND_FNOM.FNOM c) then d.candFault c else d

/-- Length of a frequency gate in ns: 10 ms, or one period of FNOM where that is longer (R266). -/
def Dev.gateNs (d : Dev) (c : Nat) : Nat := max 10000000 (64000000000 / d.get RCU_CAND_FNOM.FNOM c)

/-- The hold-off of a candidate in ns: HOLDOFF in units of 10 ms, limited to 1 to 6,000; 10 ms for XOIN (R267). -/
def Dev.holdoffNs (d : Dev) (c : Nat) : Nat := if c = 0 then 10000000 else 10000000 * max 1 (min 6000 (d.get RCU_QUAL_CFG.HOLDOFF))

/-- Is a candidate's source admitted: an enabled one, the servo state of candidates 5 to 8 by TBQ, the link of 9 to 16 ACTIVE
(R265)? -/
def Dev.admitted (d : Dev) (c : Nat) : Bool :=
  if !d.is RCU_CAND_CFG.EN c then false
  else if c < 5 then true
  else if c < 9 then
    let s := d.servo (c - 5)
    match d.get RCU_CAND_CFG.TBQ c with
    | 0 => true
    | 2 => s == 2
    | _ => s == 2 || s == 3
  else d.get HLK_STAT.STATE (c - 9) == 3

/-- Candidates whose source has left what is admitted are disqualified (R265). -/
def Dev.rcuSync (d : Dev) : Dev :=
  forN 17 (fun c d => if d.cand c != 0 && !d.admitted c then d.candDisq c false else d) d

/-- Accept and reject limits in 0.001 ppm; XOIN has its own; a REJ not above ACC is ACC + 0.1 ppm (R267). -/
def Dev.limits (d : Dev) (c : Nat) : Nat × Nat :=
  if c = 0 then (5000000, 10000000)
  else
    let acc := 100 * d.get RCU_QUAL_LIM.ACC
    let rej := 100 * d.get RCU_QUAL_LIM.REJ
    (acc, if rej ≤ acc then acc + 100 else rej)

/-- A frequency gate ends with an offset in 0.001 ppm (R266, R267). No gate ends for candidates 1 to 16 while XOIN is
disqualified; a disabled candidate stays DISQ. -/
def Dev.gateEnd (d : Dev) (c : Nat) (ofs : Int) : Dev :=
  if !d.is RCU_CAND_CFG.EN c ∨ (c ≠ 0 ∧ !d.xoQual) ∨ !d.isDue .qualGate (d.gateNs c) c then d
  else
    let d := d.startTimer .qualGate c
    let fault := tabGet false d.rcu.gateFault c
    let d := { d with rcu := { d.rcu with gateFault := tabDel d.rcu.gateFault c } }
    let d := if c = 0 then d else d.put RCU_CAND_OFS.OFS (unsW 32 ofs) c
    let (acc, rej) := d.limits c
    match d.cand c with
    | 0 => if !fault && decide (ofs.natAbs ≤ acc) && d.admitted c then (d.setCand c 1).qualUpdate else d.qualUpdate
    | 1 => if acc < ofs.natAbs then (d.setCand c 0).qualUpdate else d.qualUpdate
    | _ => if rej < ofs.natAbs then (d.noteGate c).candDisq c true else d.qualUpdate

/-- The hold-off timer ends: QUAL, a qualification update; paused while XOIN is disqualified (R267). -/
def Dev.holdoffEnd (d : Dev) (c : Nat) : Dev :=
  if d.cand c = 1 ∧ (c = 0 ∨ d.xoQual = true) ∧ d.isDue .holdoff (d.holdoffNs c) c = true then
    let d := d.setCand c 2
    let d := if c = 0 then d.xoBack else d
    d.qualUpdate
  else d

/-! ### Comparison edges (R272, R273) -/

/-- The phase error taken modulo the MCLK period into [−T/2, T/2), in ps (R272). -/
def Dev.wrapPhase (d : Dev) (k : Nat) (e : Int) : Int :=
  let f := (d.loop k).fout
  if f = 0 then e else
  let m : Int := 64000000000000
  let x := (e * f + m / 2) % m - m / 2
  rhe x f

/-- Enter NARROW with LOCK and PDET (R273). -/
def Dev.toNarrow (d : Dev) (k : Nat) : Dev :=
  let d := (d.loopTo k 4).put RCU_LOOP_STAT.PDET 1 k
  ((d.setLoop k { d.loop k with built := false, await := .none, pullO := 0, edges := 0 }).setBw k (d.bwa k)).putPhase k 0

/-- The phase error at an edge of the selected candidate, none where it is no comparison edge (R272). For candidates 5 to 8 the edge is the
whole microsecond that the time base passed in this tick, a comparison edge at a whole multiple of 1 ÷ FCMP, and `e0` is where the nearest
MCLK edge lies from the tick, in ps; for another candidate it is the n-th edge after the first since its entry to QUAL (n counted from 0:
DEDUCED, log entry 129), a comparison edge at every (FNOM ÷ FCMP)-th, and `e0` is how much later the nearest MCLK edge is, in ps. -/
def Dev.edgeError (d : Dev) (k n : Nat) (e0 : Int) : Option Int :=
  let c := d.get RCU_LOOP_STAT.SEL k
  let every := d.get RCU_CAND_FNOM.FNOM c / d.fcmp k
  let ofs := sgnW 16 (d.get RCU_CAND_PHOFS.PHOFS c)
  if 5 ≤ c ∧ c < 9 then
    let p := d.microPhase (c - 5)
    if p < 4 * 65536 ∧ (d.tb (c - 5)).val / (1000 * 2 ^ 46) % every = 0 then some (d.wrapPhase k (e0 + rhe (p * 1000) 65536 - ofs)) else none
  else if n % every = 0 then some (d.wrapPhase k (e0 - ofs))
  else none

/-- A phase error reaches a loop at a comparison edge (R273, R275, R276, R281, R284). -/
def Dev.phaseCompare (d : Dev) (k : Nat) (e : Int) : Dev :=
  match d.loopState k, (d.loop k).await with
  | 3, _ =>
    let n := if e.natAbs ≤ 2000 then (d.loop k).edges + 1 else 0
    let d := d.setLoop k { d.loop k with edges := n }
    if 16 ≤ n then d.toNarrow k else d
  | 6, .pull =>
    if d.is RCU_LOOP_CFG.PBO k then
      let d := ((d.setLoop k { d.loop k with pullO := e, await := .none, built := true }).loopTo k 5).put RCU_LOOP_STAT.PDET 0 k
      d.putPhase k e
    else (d.setLoop k { d.loop k with pullO := e, pullAt := d.tclk, await := .none }).putPhase k e
  | 6, _ =>
    let o := d.pullNow k
    if d.is RCU_LOOP_CFG.PBO k then
      let d := ((d.setLoop k { d.loop k with pullO := o, built := true }).loopTo k 5).put RCU_LOOP_STAT.PDET 0 k
      d.putPhase k o
    else d.putPhase k o
  | 5, .build => (d.setLoop k { d.loop k with pullO := e, await := .none }).putPhase k e
  | 8, .hopEdge => (d.setLoop k { d.loop k with await := .hopCheck, hopOk := true }).startTimer .hop k
  | 8, .hopCheck => if 2000 < e.natAbs then d.setLoop k { d.loop k with hopOk := false } else d
  | _, _ => d

/-- An edge of the candidate that a loop follows, with the ratio r that the loop then measures (R272, R277): at a comparison edge the phase
error is compared and the loop's control updates, but for a hop whose DCO has not settled (R281). -/
def Dev.compEdge (d : Dev) (k n : Nat) (e0 : Int) (r : Nat) : Dev :=
  if d.get RCU_LOOP_STAT.SEL k = noSel then d else
  let d := d.loopHvalid k
  match d.edgeError k n e0 with
  | none => d
  | some e =>
    let o := d
    let d := (d.ratioMeasure k r).phaseCompare k e
    if o.loopState k == 8 && (o.loop k).await == .hopSettle then d else d.control k

/-- The pull offset reaches 0: TRACK, LOCK and PDET, which a build-out keeps clear until the next full lock (R273,
R276). -/
def Dev.pullDone (d : Dev) (k : Nat) : Dev :=
  if d.loopState k = 6 ∧ (d.loop k).await = .none ∧ d.pullNow k = 0 then
    let built := (d.loop k).built
    let d := d.loopTo k 5
    let d := if built then d else d.put RCU_LOOP_STAT.PDET 1 k
    (d.setLoop k { d.loop k with pullO := 0 }).putPhase k 0
  else d

/-- Narrowing factor. -/
def Dev.stepf (d : Dev) (k : Nat) : Nat :=
  match d.get RCU_LOOP_BW.STEPF k with
  | 1 => 4
  | 2 => 10
  | _ => 2

/-- A dwell at the present bandwidth in ns: DWELL ÷ (2π × bandwidth), a DWELL of 0 taken as 1 (R274). -/
def Dev.dwellNs (d : Dev) (k : Nat) : Nat :=
  max 1 (d.get RCU_LOOP_BW.DWELL k) * 100000000000000000 * 1000000000000000 / (2 * 3141592653589793 * (d.loop k).bw)

/-- A dwell ends: the bandwidth narrows, and TRACK follows at TRK (R274). -/
def Dev.narrowStep (d : Dev) (k : Nat) : Dev :=
  if d.loopState k = 4 ∧ d.isDue .narrow (d.dwellNs k) k = true then
    let bw := max ((d.loop k).bw / d.stepf k) (d.trk k)
    let d := d.setBw k bw
    if bw ≤ d.trk k then d.loopTo k 5 else d
  else d

/-! ### Retuning and Quickset (R279 to R281) -/

/-- Is FOUT × MDIV within 540 to 720 MHz (R270)? -/
def dcoOk (fout mdiv : Nat) : Bool := decide (540000000 * 64 ≤ fout * mdiv) && decide (fout * mdiv ≤ 720000000 * 64)

/-- RETUNE: the written FOUT and MDIV become the target and the loop enters SEARCH, or it is refused (R279). -/
def Dev.retune (d : Dev) (k : Nat) : Dev :=
  let f := d.get RCU_LOOP_FOUT.FOUT k
  let m := d.get RCU_LOOP_CTRL.MDIV k
  if !d.is RCU_LOOP_CFG.HOPOK k ∨ !dcoOk f m then d.put RCU_LOOP_STAT.BADTGT 1 k
  else if d.loopState k = 0 then d
  else (d.setLoop k { d.loop k with fout := f, mdiv := m, held := .free }).toSearch k

/-- GO: hop to a Quickset entry, or HOPFAIL. The fine word is first at its minimum, before the CODE changes (R270, R281). -/
def Dev.qsHop (d : Dev) (k : Nat) : Dev :=
  let e := d.get RCU_QS_HOP.ENTRY k
  let st := d.loopState k
  if d.is RCU_LOOP_CFG.HOPOK k && d.is RCU_QS_CFG.VALID k e && (st == 2 || st == 4 || st == 5 || st == 6 || st == 7) then
    let f := d.get RCU_QS_FOUT.FOUT k e
    let m := d.get RCU_QS_CFG.MDIV k e
    let b := d.get RCU_QS_CFG.BAND k e
    let d := ((d.put RCU_LOOP_FOUT.FOUT f k).put RCU_LOOP_CTRL.MDIV m k).put RCU_LOOP_STAT.BAND b k
    let d := d.loopTo k 8
    let d := d.setLoop k { d.loop k with fout := f, mdiv := m, fine := 0, word := 0, hopFine := d.get RCU_QS_FINE.FINE k e,
                                         code := (d.bandEntry k b).2.1, await := .hopSettle, hopOk := true, pullO := 0, held := .free }
    if d.xoQual then d else d.toSearch k
  else d.put RCU_LOOP_STAT.HOPFAIL 1 k

/-- The DCO settles on the stored fine word: FREERUN without a selection, else the divider phase is set so that e = 0 at the first comparison
edge, and the check begins (R281). -/
def Dev.hopSettled (d : Dev) (k : Nat) : Dev :=
  if d.loopState k = 8 ∧ (d.loop k).await = .hopSettle then
    let d := d.setFine k (d.loop k).hopFine
    if d.get RCU_LOOP_STAT.SEL k = noSel then (d.setLoop k { d.loop k with await := .none }).toFreerun k
    else d.setLoop k { d.loop k with await := .hopEdge }
  else d

/-- The check of a hop lasts max(500 µs, 2 ÷ FCMP), in ns (R281). -/
def Dev.hopCheckNs (d : Dev) (k : Nat) : Nat := max 500000 (128000000000 / d.fcmp k)

/-- The hop check ends: NARROW, or ACQUIRE with HOPFAIL (R281). -/
def Dev.hopCheckDone (d : Dev) (k : Nat) : Dev :=
  if d.loopState k = 8 ∧ (d.loop k).await = .hopCheck ∧ d.isDue .hop (d.hopCheckNs k) k = true then
    if (d.loop k).hopOk then d.toNarrow k else (d.toAcquire k).put RCU_LOOP_STAT.HOPFAIL 1 k
  else d

/-- A time base that a loop follows was stepped or set: a reselection of the same candidate (R284). -/
def Dev.rcuStepped (d : Dev) (t : Nat) : Dev :=
  forN 4 (fun k d =>
    if d.get RCU_LOOP_STAT.SEL k == 5 + t && following (d.loopState k) then
      if d.loopState k = 6 then d.setLoop k { d.loop k with await := .pull } else d.beginPull k
    else if d.get RCU_LOOP_STAT.SEL k == 5 + t && d.loopState k == 3 then d.setLoop k { d.loop k with edges := 0 }
    else d) d

/-- Image applied: enabled loops leave OFF for SEARCH (R273). -/
def Dev.rcuStart (d : Dev) : Dev :=
  forN 4 (fun k d =>
    if d.is RCU_LOOP_CFG.EN k && d.loopState k == 0 then
      let d := d.setLoop k { d.loop k with fout := d.get RCU_LOOP_FOUT.FOUT k, mdiv := d.get RCU_LOOP_CTRL.MDIV k }
      (d.toSearch k).selLoop k
    else d) d

/-- A planned restart whose PORT section gives a loop another FOUT or MDIV than the old image's did, or the candidate it follows another
FNOM, sends it to SEARCH; where the section gives the same, a loop keeps what RETUNE or a hop set; a loop that the new image does not enable
goes OFF (R264, R273, R284). `o` is the device before, `v` the registers that the old image set. -/
def Dev.rcuRestart (d o v : Dev) : Dev :=
  forN 4 (fun k d =>
    let f := d.get RCU_LOOP_FOUT.FOUT k
    let m := d.get RCU_LOOP_CTRL.MDIV k
    let c := d.get RCU_LOOP_STAT.SEL k
    if o.loopState k == 0 then d
    else if !d.is RCU_LOOP_CFG.EN k then (d.loopTo k 0).put RCU_LOOP_STAT.SEL noSel k
    else if v.get RCU_LOOP_FOUT.FOUT k != f || v.get RCU_LOOP_CTRL.MDIV k != m
        || (c != noSel && d.get RCU_CAND_FNOM.FNOM c != o.get RCU_CAND_FNOM.FNOM c) then
      (d.setLoop k { d.loop k with fout := f, mdiv := m }).toSearch k
    else ((d.put RCU_LOOP_FOUT.FOUT (o.get RCU_LOOP_FOUT.FOUT k) k).put RCU_LOOP_CTRL.MDIV (o.get RCU_LOOP_CTRL.MDIV k) k).bwFollow k) d

/-- A hitless swap: FNOM, FOUT, MDIV and HOPOK, which the PORT section carries, stay as they are; a pull goes on at the new slope from where it
stands; TRACK and PULL take the new TRK (R264, R275, R284). `o` is the device before. -/
def Dev.rcuSwap (d o : Dev) : Dev :=
  let d := forN 17 (fun c d => d.put RCU_CAND_FNOM.FNOM (o.get RCU_CAND_FNOM.FNOM c) c) d
  forN 4 (fun k d =>
    let d := (d.put RCU_LOOP_FOUT.FOUT (o.get RCU_LOOP_FOUT.FOUT k) k).put RCU_LOOP_CTRL.MDIV (o.get RCU_LOOP_CTRL.MDIV k) k
    let d := d.put RCU_LOOP_CFG.HOPOK (o.get RCU_LOOP_CFG.HOPOK k) k
    let d := if o.loopState k = 6 ∧ (o.loop k).await = .none then d.setLoop k { d.loop k with pullO := o.pullNow k, pullAt := d.tclk } else d
    d.bwFollow k) d

/-- Register writes of RCU that act beyond storing: FOUT and MDIV only with HOPOK (R279), ranks and loop control
re-evaluate the selection (R268), TRK is the bandwidth of TRACK and PULL (R272), GO hops (R281), SEED loads the dither register (R282). -/
def Dev.rcuWrite (d : Dev) (r : Reg) (i j : Nat) (w : Word) : Dev :=
  if r == RCU_LOOP_FOUT then (if d.is RCU_LOOP_CFG.HOPOK i then d.store r w i j else d)
  else if r == RCU_LOOP_CTRL then
    let m := d.get RCU_LOOP_CTRL.MDIV i
    let d := d.store r w i j
    let d := if d.is RCU_LOOP_CFG.HOPOK i then d else d.put RCU_LOOP_CTRL.MDIV m i
    let d := if fget w 0 0 == 1 then d.retune i else d
    d.selLoop i
  else if r == RCU_LOOP_RANK then (d.store r (if j = 2 then w &&& 0xF else w) i j).selLoop i
  else if r == RCU_LOOP_BW then (d.store r w i j).bwFollow i
  else if r == RCU_LOOP_CFG then d.slopeWrite i w
  else if r == RCU_QS_HOP then
    let d := d.store r w i j
    if fget w 3 3 == 1 then d.qsHop i else d
  else if r == RCU_DITHER then
    let d := d.store r w i j
    d.setLoop i { d.loop i with lfsr := d.ditherSeed i }
  else d.store r w i j

/-- BLOCK reset of RCU, after its BLOCK-domain registers have reset; `o` is the device before (R284). -/
def Dev.rcuBlockReset (d o : Dev) : Dev :=
  let d := { d with rcu := { d.rcu with gateFault := [], gateAt := [], pairs := [] } }
  let d := forN 16 (fun c d => d.setCand (c + 1) 0) d
  let d := (d.put RCU_CAND_STAT.STATE (o.cand 0) 0).put RCU_QUAL_STAT.QUAL (b2n o.xoQual)
  forN 4 (fun k d =>
    let st := o.loopState k
    let d := ((d.put RCU_LOOP_STAT.BAND (o.get RCU_LOOP_STAT.BAND k) k).put RCU_LOOP_STAT.XOLOSS (b2n (!o.xoQual)) k).put
      RCU_LOOP_STAT.HVALID (o.get RCU_LOOP_STAT.HVALID k) k
    if following st then ((d.put RCU_LOOP_STAT.STATE st k).toHoldover k)
    else if st = 1 ∨ st = 3 ∨ st = 8 then d.toSearch k
    else (d.put RCU_LOOP_STAT.STATE st k).loopBits k) d

/-- CHIP reset: loops OFF, everything of the unit's own forgotten but the factory table (R284). -/
def Dev.rcuChipReset (d : Dev) : Dev := { d with rcu := { factory := d.rcu.factory } }

end Sys2Proof.Machine
end

