-- ==== Sys2Proof/Machine/Aln.lean ====
section
/-! DEFINITION. The 28 alignment DLLs and the clock outputs (R285 to R293). -/

namespace Sys2Proof.Machine

/-- DLL state: 0 OFF, 1 WAIT, 2 LOCKING, 3 ALIGNING, 4 RUN (R290). -/
def Dev.dllState (d : Dev) (x : Nat) : Nat := d.get ALN_DLL_STAT.STATE x

/-- The enabled dividers of a DLL, each as its number of MCLK periods: CLKOUT; BCLK and FSYNC of a master port, and MCLKOUT; the carrier of
a group (R138, R160, R163, R285). A slave port has none (R160). -/
def Dev.dllDividers (d : Dev) (x : Nat) : List Nat :=
  if x < 8 then (if d.is ALN_OUT_CFG.EN x then [d.get ALN_OUT_CFG.DIVM1 x + 1] else [])
  else if x < 24 then
    let p := x - 8
    let b := d.get SAP_PCFG.BDIV p
    (if d.is SAP_PCFG.EN p && d.is SAP_PCFG.MASTER p then [b, b * 32 * d.get SAP_PCFG.SLOTS p] else [])
      ++ (if p % 4 == 0 && d.is SAP_MCLK_CFG.EN (p / 4) then [2 ^ d.get SAP_MCLK_CFG.DIV (p / 4)] else [])
  else if d.is PSM_PG_CFG.EN (x - 24) then [128 / 2 ^ d.get PSM_PG_CFG.CAR (x - 24)] else []

/-- Is a DLL enabled: a divider that it serves is (R285)? -/
def Dev.dllOn (d : Dev) (x : Nat) : Bool := !(d.dllDividers x).isEmpty

/-- The loop of a DLL (R285). -/
def Dev.dllLoop (d : Dev) (x : Nat) : Nat :=
  if x < 8 then d.get ALN_OUT_CFG.LOOP x
  else if x < 24 then d.get SAP_PCFG.LOOP (x - 8)
  else d.get PSM_PG_CFG.LOOP (x - 24)

/-- ELIG: the loop's VALID, and with HGATE neither HOLDOVER nor FREERUN (R290). -/
def Dev.dllElig (d : Dev) (x : Nat) : Bool :=
  let k := d.dllLoop x
  d.is RCU_LOOP_STAT.VALID k && !(decide (x < 8) && d.is ALN_OUT_CFG.HGATE x && (d.loopState k == 7 || d.loopState k == 2))

/-- Enter a state: ALIGNED only in RUN; the tap size 0 while not locked; ALIGNING begins with a measurement of the MCLK edge; leaving RUN
gates the outputs, ends an excess of the error, and is noted for the ports and groups (R288, R289, R290). -/
def Dev.dllTo (d : Dev) (x st : Nat) : Dev :=
  let old := d.dllState x
  let d := (d.put ALN_DLL_STAT.STATE st x).put ALN_DLL_STAT.ALIGNED (b2n (st == 4)) x
  let d := if st ≤ 2 then d.put ALN_DLL_TSZ.TSZ 0 x else d
  let d := if st = 3 then d.startTimer .align x else d
  if old = 4 ∧ st ≠ 4 then
    let d := (d.put ALN_DLL_STAT.UNLKEV 1 x).startTimer .gating x
    { d with dllLost := x :: d.dllLost, dll := tabPut {} d.dll x { tabGet {} d.dll x with beyond := false } }
  else d

/-- Outputs served by a DLL are gated unless it is in RUN (R290). -/
def Dev.dllGated (d : Dev) (x : Nat) : Bool := d.dllState x != 4

/-- Each DLL follows ELIG (R290). -/
def Dev.alnSync (d : Dev) : Dev :=
  forN 28 (fun x d =>
    let st := d.dllState x
    if st = 0 then d
    else if d.dllElig x then (if st = 1 then d.dllTo x 2 else d)
    else if st = 1 then d
    else d.dllTo x 1) d

/-- Image applied: enabled DLLs leave OFF (R290). -/
def Dev.alnStart (d : Dev) : Dev :=
  forN 28 (fun x d => if d.dllOn x && d.dllState x == 0 then d.dllTo x 1 else d) d

/-- A planned restart: a DLL that the new image does not enable goes OFF, and one on another loop locks anew (R290, R293). `o` is the device
before. -/
def Dev.alnRestart (d o : Dev) : Dev :=
  forN 28 (fun x d =>
    if o.dllState x == 0 then d
    else if !d.dllOn x then d.dllTo x 0
    else if d.dllLoop x != o.dllLoop x then d.dllTo x 1
    else d) d

/-- The tap size 1 ÷ (1,024 × MCLK) in 0.01 ps, which follows the loop's actual frequency; 0 while not locked (R286). -/
def Dev.tapSize (d : Dev) (x : Nat) : Nat :=
  let f := d.mclkNow (d.dllLoop x)
  if d.dllState x < 3 ∨ f = 0 then 0 else (rhe 6400000000000000 (f * 1024)).toNat

/-- ALN_DLL_TSZ reports the tap size as it stands (R286). -/
def Dev.putTsz (d : Dev) (x : Nat) : Dev := d.put ALN_DLL_TSZ.TSZ (d.tapSize x) x

/-- The span equals the MCLK period: ALIGNING (R286). -/
def Dev.dllLock (d : Dev) (x : Nat) : Dev := if d.dllState x = 2 then (d.dllTo x 3).putTsz x else d

/-- Lock is lost (R286, R290). -/
def Dev.dllUnlock (d : Dev) (x : Nat) : Dev :=
  if d.dllState x = 3 ∨ d.dllState x = 4 then ((d.dllTo x 2).put ALN_DLL_STAT.UNLKEV 1 x).raise FS.ALN_UNLOCK else d

/-- REALIGN: gate and realign at the next anchor; ignored for a group's DLL unless the group is in OFF or FAULT
(R290). PSM_PG_STAT.STATE is 0 OFF and 6 FAULT. -/
def Dev.dllRealign (d : Dev) (x : Nat) : Dev :=
  if d.dllState x ≠ 4 then d
  else if 24 ≤ x ∧ !(d.get PSM_PG_STAT.STATE (x - 24) == 0 || d.get PSM_PG_STAT.STATE (x - 24) == 6) then d
  else d.dllTo x 3

/-- Register writes of ALN that act beyond storing. -/
def Dev.alnWrite (d : Dev) (r : Reg) (i j : Nat) (w : Word) : Dev :=
  if r == ALN_DLL_CTRL then
    let d := d.store r w i j
    if fget w 0 0 == 1 then d.dllRealign i else d
  else if r == ALN_OUT_OFS then (d.store r w i j).dllRealign i
  else d.store r w i j

/-- BLOCK reset of ALN: every DLL that was not OFF to WAIT, gated (R293). -/
def Dev.alnBlockReset (d o : Dev) : Dev :=
  let d := { d with dll := [] }
  forN 28 (fun x d =>
    if o.dllState x = 0 then d
    else
      let d := d.put ALN_DLL_STAT.STATE 1 x
      if o.dllState x = 4 then { d.startTimer .gating x with dllLost := x :: d.dllLost } else d) d

end Sys2Proof.Machine
end

