-- ==== Sys2Proof/Machine/Trig.lean ====
section
/-! DEFINITION. The sine tables of the crosspoint, computed from the series of the sine with guard digits: the value
of each table entry is the rounding the manual gives of the exact sine (R123, R134). -/

namespace Sys2Proof.Machine

/-- Fixed-point scale of the series. -/
abbrev trigOne : Nat := 2 ^ 128

/-- The circle constant in units of 2^−128. -/
abbrev piFix : Nat := 1069028584064966747859680373161870783300

/-- The series of the sine, alternating terms, in fixed point: `t` is the term x^(2n+1)/(2n+1)!. -/
def sinSeries : Nat → Int → Int → Int → Int → Int
  | 0, _, _, _, acc => acc
  | f + 1, n, x2, t, acc =>
    sinSeries f (n + 1) x2 (-(t * x2 / trigOne / ((2 * n + 2) * (2 * n + 3)))) (acc + t)

/-- The sine of an angle, angle and value in units of 2^−128. -/
def sinFix (x : Int) : Int := sinSeries 24 0 (x * x / trigOne) x 0

/-- T[k] of R123: 2^30 × sin(πk ÷ 2,048), rounded half to even; T[1,025] is T[1,024]. -/
def tabT (k : Nat) : Int := rhe (sinFix (piFix * min k 1024 / 2048 : Nat) * 2 ^ 30) trigOne

/-- U[k] of R134: 2^31 × sin(πk ÷ 8,192) rounded half to even, at most 2^31 − 1; U[4,097] is U[4,096]. -/
def tabU (k : Nat) : Int := min (rhe (sinFix (piFix * min k 4096 / 8192 : Nat) * 2 ^ 31) trigOne) 2147483647

/-- S(a) of R123: the table interpolated. -/
def fadeS (a : Nat) : Int :=
  let k := a / 65536
  let f := a % 65536
  tabT k + rhe ((tabT (k + 1) - tabT k) * f) 65536

/-- The Q1.30 weights (old leg, new leg) of fade sample j of L (R123); from L on the new leg alone. -/
def fadeWeights (ep : Bool) (len j : Nat) : Int × Int :=
  if len ≤ j then (0, 2 ^ 30)
  else if ep then
    let a := (j + 1) * 2 ^ 26 / len
    (fadeS (2 ^ 26 - a), fadeS a)
  else
    let w : Int := ((j + 1) * 2 ^ 30 / len : Nat)
    (2 ^ 30 - w, w)

end Sys2Proof.Machine
end

