-- ==== Sys2Proof/Machine/Xpt.lean ====
section
/-! DEFINITION. Sources and output channels, asynchronous rate conversion, and the crosspoint: the pass, staging and
commits, fades, gain steps, silence detection and generators (R105 to R135). -/

namespace Sys2Proof.Machine

/-! ### Namespaces (R105, R106) -/

/-- The namespace size S at the present Fi. -/
def Dev.ns (d : Dev) : Nat := d.scale 2048

/-- First serial-port source or output channel. -/
def Dev.sapBase (d : Dev) : Nat := d.scale 1024

/-- First Ethernet source or output channel. -/
def Dev.ethBase (d : Dev) : Nat := d.scale 1280

/-- First current-sense source; the modulator inputs have the same numbers among the output channels. -/
def Dev.psmBase (d : Dev) : Nat := d.scale 1536

/-- First generator source. -/
def Dev.genBase (d : Dev) : Nat := d.ns - 16

/-- Is a source number reserved or outside the namespace (R105)? -/
def Dev.badSource (d : Dev) (s : Nat) : Bool :=
  decide (d.ns ≤ s) || (decide (d.psmBase + 64 ≤ s) && decide (s < d.genBase))

/-- Is an output channel reserved or outside the namespace (R106)? -/
def Dev.badOutput (d : Dev) (c : Nat) : Bool := decide (d.psmBase + 32 ≤ c)

/-- Key of a sample in the buffers. -/
def sampKey (ch i : Nat) : Nat := ch * 32 + i

/-- A sample of a buffer, as a signed number; 0 where there is none. -/
def sampAt (t : Tab Word) (ch i : Nat) : Int := w31q (tabGet 0 t (sampKey ch i))

/-- Write a sample. -/
def sampPut (t : Tab Word) (ch i : Nat) (z : Int) : Tab Word := tabPut 0 t (sampKey ch i) (q31w z)

/-- Write the samples of one block of a channel. -/
def sampPutAll (t : Tab Word) (ch : Nat) : Nat → List Int → Tab Word
  | _, [] => t
  | i, z :: zs => sampPutAll (sampPut t ch i z) ch (i + 1) zs

/-- Remove a channel's samples. -/
def sampClear (t : Tab Word) (ch : Nat) : Tab Word := t.filter (fun kv => kv.1 / 32 != ch)

/-- Input source of an input block under capture. -/
def Dev.capture (d : Dev) (src i : Nat) (z : Int) : Dev :=
  { d with aud := { d.aud with capt := sampPut d.aud.capt src i z } }

/-! ### Rate conversion (R107 to R115) -/

/-- A converter's hidden state. -/
def Dev.conv (d : Dev) (c : Nat) : AsrcSt := tabGet {} d.asrc c

/-- Replace it. -/
def Dev.setConv (d : Dev) (c : Nat) (a : AsrcSt) : Dev := { d with asrc := tabPut {} d.asrc c a }

/-- Converter state: 0 IDLE, 1 ACQUIRE, 2 LOCKED, 3 RETRACK, 4 RANGE (R112). -/
def Dev.convState (d : Dev) (c : Nat) : Nat := d.get ASRC_STAT.STATE c

/-- The assignment of a converter: 1 to an input source, 2 to an output sink, 0 to nothing. Only serial-port and Ethernet channels
can be assigned (R107). -/
def Dev.convDir (d : Dev) (c : Nat) : Nat :=
  let ch := d.get ASRC_CFG.CHAN c
  if decide (d.sapBase ≤ ch) && decide (ch < d.psmBase) then d.get ASRC_CFG.DIR c % 3 else 0

/-- Is a converter assigned (R107)? -/
def Dev.convOn (d : Dev) (c : Nat) : Bool := d.convDir c != 0

/-- Report a ratio word of 40 bits (Q2.38): its top 32 bits (R112). -/
def Dev.setRatio (d : Dev) (c ratio : Nat) : Dev :=
  (d.setConv c { d.conv c with ratio := ratio % 2 ^ 40 }).put ASRC_RATIO.RATIO (ratio % 2 ^ 40 / 256) c

/-- Is a ratio word within 0.5 to 2.0 (R109)? -/
def ratioOk (ratio : Nat) : Bool := decide (2 ^ 37 ≤ ratio) && decide (ratio ≤ 2 ^ 39)

/-- The estimator takes a bandwidth (R112). -/
def Dev.convBw (d : Dev) (c bw : Nat) : Dev := d.setConv c { d.conv c with bw := bw }

/-- The acquisition bandwidth of 20 Hz, and the tracking bandwidth of TRK_BW, 0.5 to 4 Hz, in 10 mHz. -/
abbrev acqBw : Nat := 2000
def Dev.trkBw (d : Dev) : Nat := 50 * 2 ^ d.get ASRC_CTRL.TRK_BW

/-- To RANGE, raising ASRC.RANGE (R112). -/
def Dev.convRange (d : Dev) (c : Nat) : Dev := (d.put ASRC_STAT.STATE 4 c).raise FS.ASRC_RANGE

/-- Port samples arrive at an IDLE channel with a first estimate of the ratio: ACQUIRE, or RANGE (R112). -/
def Dev.convStart (d : Dev) (c ratio : Nat) : Dev :=
  if d.convOn c && d.convState c == 0 then
    let d := d.setRatio c ratio
    let d := (d.setConv c { d.conv c with bw := acqBw, src := [], cnt := 0 }).put ASRC_STAT.STATE 1 c
    if ratioOk ratio then d else d.convRange c
  else d

/-- The ratio error stays below 1 ppm for 50 ms: LOCKED at the tracking bandwidth; the fade in begins with the next block's samples
(`AsrcSt.turn`) (R112). -/
def Dev.convLock (d : Dev) (c ratio : Nat) (dly : Int) : Dev :=
  let st := d.convState c
  if st = 1 ∨ st = 3 then
    let d := d.setRatio c ratio
    if ratioOk ratio then
      ((d.convBw c d.trkBw).put ASRC_STAT.STATE 2 c).put ASRC_DLY.ERR (unsW 16 (clampI (-32768) 32767 dly)) c
    else d.convRange c
  else d

/-- To RETRACK from LOCKED at the acquisition bandwidth; the ramp out begins with the next block's samples (R112). -/
def Dev.convRetrack (d : Dev) (c : Nat) : Dev :=
  if d.convState c = 2 then ((d.convBw c acqBw).put ASRC_STAT.STATE 3 c).put ASRC_STAT.RETRACKED 1 c else d

/-- The port of a channel reports a rate change: RETRACK, without the SLIP of the same block (R112, R135). -/
def Dev.convRate (d : Dev) (c : Nat) : Dev :=
  let d := d.convRetrack c
  if (d.conv c).slip then d.setConv c { d.conv c with slip := false } else d

/-- The ratio error stays above 1,000 ppm for 1 ms: RETRACK, ASRC.SLIP; a port rate change in the same block enters
RETRACK once without it, so that the fault is raised as the block ends, and a channel no longer LOCKED is left as it is (R112, R135). -/
def Dev.convSlip (d : Dev) (c ratio : Nat) : Dev :=
  if d.convState c = 2 then
    let d := (d.convRetrack c).setRatio c ratio
    let d := if d.cycling then d.setConv c { d.conv c with slip := true } else d.raise FS.ASRC_SLIP
    if ratioOk ratio then d else d.convRange c
  else d

/-- The SLIPs of the block that ends (R135). -/
def Dev.convSlips (d : Dev) : Dev :=
  (d.asrc.filter (fun kv => kv.2.slip)).foldl (fun d kv => (d.setConv kv.1 { d.conv kv.1 with slip := false }).raise FS.ASRC_SLIP) d

/-- The ratio stays within range for 100 ms: ACQUIRE (R112). -/
def Dev.convRangeClear (d : Dev) (c ratio : Nat) : Dev :=
  if d.convState c = 4 && ratioOk ratio then ((d.setRatio c ratio).convBw c acqBw).put ASRC_STAT.STATE 1 c else d

/-- No port sample for 4 expected periods: IDLE, and the source samples are counted afresh from the next one (R112). -/
def Dev.convIdle (d : Dev) (c : Nat) : Dev := if d.convState c = 0 then d else d.put ASRC_STAT.STATE 0 c

/-- The converters of a port's channels retrack at a rate change: those that convert one of the given sources or
output channels (R112). -/
def Dev.convRateChange (d : Dev) (srcs outs : List Nat) : Dev :=
  forN 256 (fun c d =>
    let ch := d.get ASRC_CFG.CHAN c
    match d.convDir c with
    | 1 => if srcs.contains ch then d.convRate c else d
    | 2 => if outs.contains ch then d.convRate c else d
    | _ => d) d

/-- The converter of a source (direction 1) or of an output channel (direction 2), where there is one. -/
def Dev.convOf (d : Dev) (dir ch : Nat) : Option Nat :=
  (List.range 256).find? (fun c => d.convDir c == dir && d.get ASRC_CFG.CHAN c == ch)

/-- A sample times num ÷ den of a linear ramp; the manual does not say how the product rounds (free). -/
def rampSample (z : Int) (num den : Nat) : Int :=
  if den ≤ num then z
  else
    let q := z * num / den
    if z * num = q * den then q else q + b2n (Config.rampUp z num den)

/-- A source sample of instant `t` (1/16 ns of the block time base) reaches a converter. -/
def Dev.convTake (d : Dev) (c : Nat) (t z : Int) : Dev :=
  let a := d.conv c
  d.setConv c { a with src := (z :: a.src).take 192, cnt := a.cnt + 1, came := t }

/-- Source sample k of those kept, counted from 0; 0 where there is none. -/
def AsrcSt.at (a : AsrcSt) (k : Nat) : Int := if k < a.cnt then nth 0 a.src (a.cnt - 1 - k) else 0

/-- The source samples within 16 ÷ Fi of position x, `h` on either side (R111). -/
def AsrcSt.around (a : AsrcSt) (h x : Nat) : List Int :=
  (List.range (2 * h)).map (fun i => if x / 2 ^ 38 + 1 + i < h then 0 else a.at (x / 2 ^ 38 + 1 + i - h))

/-- The converted sample that represents source position x: an interpolation of the source samples around it, silence where they are
all silent (R110, R111). -/
def AsrcSt.interpolate (a : AsrcSt) (h x : Nat) : Int :=
  let ws := a.around h x
  if ws.all (· == 0) then 0 else w31q (Config.asrcFilter a.use (x % 2 ^ 38) ws)

/-- A converter takes up the words of a block: the ratio and state in force, the starting position; entering LOCKED it fades in, leaving
it it ramps out, and RANGE emits 0 at once (R112, R114). -/
def AsrcSt.turn (a : AsrcSt) (nb ratio st pos : Nat) : AsrcSt :=
  { a with use := ratio, live := st, pos := pos,
           rampOut := if st = 2 ∨ st = 4 then 0 else if a.live = 2 then nb else a.rampOut,
           fadeIn := if st = 2 then (if a.live = 2 then a.fadeIn else 128) else 0,
           fadeFrom := if st = 2 ∧ a.live ≠ 2 then pos else a.fadeFrom }

/-- The source position, in 2^−38 sample, of the instant 16 ÷ Fi before a boundary at `b16`, by the instant of the latest sample and the
ratio (R111). -/
def AsrcSt.arrived (a : AsrcSt) (fi : Nat) (b16 : Int) : Nat :=
  (((a.cnt : Int) - 1) * 2 ^ 38 + (b16 - a.came) * (fi * a.ratio : Nat) / 16000000000 - (16 * a.ratio : Nat)).toNat

/-- The words that a converter sends for the block that begins, from its own estimator: entering LOCKED, the sample presented at the
boundary represents the source instant 16 ÷ Fi before it (R111, R114). An output's source samples are counted with the
blocks: it runs on these words from the next boundary on. -/
def Dev.convWords (d : Dev) (c : Nat) : Dev :=
  let a := d.conv c
  let st := d.convState c
  let seen := a.arrived d.fi d.cyc.at16
  let pos := if d.convDir c = 2 then (a.cnt - 16) * 2 ^ 38
    else if st = 2 ∧ a.nextS ≠ 2 then seen
    else a.pos
  d.setConv c { a with nextR := a.ratio, nextS := st, nextP := pos, seen := seen }

/-- The ACTIVE's position for an input converter in the chip's own numbering of the samples: that part of a sample which the word gives, at the
number nearest to where the chip's own arrivals place the boundary (R114; DESIGN CHOICE, log entry 143). -/
def AsrcSt.align (a : AsrcSt) (p : Nat) : Nat :=
  let f := p % 2 ^ 38
  (a.seen + 2 ^ 37 - f) / 2 ^ 38 * 2 ^ 38 + f

/-- Sample i of an input converter's block: LOCKED and fading in, or ramping out over Nb samples, else 0 (R112). -/
def AsrcSt.inSample (a : AsrcSt) (nb i : Nat) : Int :=
  let z := a.interpolate (16 * a.use / 2 ^ 38) (a.pos + i * a.use)
  if a.live = 2 then rampSample z (128 - a.fadeIn + i) 128
  else if i < a.rampOut then rampSample z (nb - 1 - i) nb
  else 0

/-- The sample of an output converter at an instant `ofs` (1/16 ns) after the latest boundary: 0 in every state but LOCKED, with the fade
in over 128 samples at Fi (R111, R112, R113). -/
def Dev.convOut (d : Dev) (c : Nat) (ofs : Int) : Int :=
  let a := d.conv c
  if d.convState c = 2 ∧ a.live = 2 then
    let x := (a.pos + ofs * d.fi * 2 ^ 38 / 16000000000).toNat
    rampSample (a.interpolate 16 x) ((x - a.fadeFrom) / 2 ^ 38) 128
  else 0

/-- The samples of one converted input channel for a sealed block. -/
def Dev.convBlock (d : Dev) (c src : Nat) : Dev :=
  let a := d.conv c
  let zs := (List.range d.nb).map (a.inSample d.nb)
  let d := { d with aud := { d.aud with sealed := sampPutAll (sampClear d.aud.sealed src) src 0 zs } }
  d.setConv c { a with pos := a.pos + d.nb * a.use, rampOut := 0, fadeIn := a.fadeIn - d.nb }

/-- A sample of a port or stream reaches the converter of its source, where there is one that is not IDLE (R107, R112). -/
def Dev.convFeed (d : Dev) (src : Nat) (t z : Int) : Dev :=
  match d.convOf 1 src with
  | some c => if d.convState c = 0 then d else d.convTake c t z
  | none => d

/-- An output converter takes the samples of the output block that begins; it counts them with the blocks (R107). -/
def Dev.convPush (d : Dev) (c ch : Nat) : Dev :=
  let d := forN d.nb (fun i d => d.convTake c d.cyc.at16 (sampAt d.aud.emit ch i)) d
  d.setConv c { d.conv c with cnt := (d.cyc.k + 1) * d.nb }

/-- A block begins: the output converters take its samples, every converter forms its words, and SLIPs are raised (R107, R114, R135). -/
def Dev.convTurnover (d : Dev) : Dev :=
  let d := forN 256 (fun c d => match d.convDir c with
    | 0 => d
    | 1 => d.convWords c
    | _ => (d.convPush c (d.get ASRC_CFG.CHAN c)).convWords c) d
  d.convSlips

/-- The cycle begins: what the output converters held is gone, and they carry silence (R42, R159). -/
def Dev.convFirst (d : Dev) : Dev :=
  (forN 256 (fun c d => if d.convDir c = 2 then d.setConv c { d.conv c with src := [] } else d) d).convTurnover

/-- BLOCK reset of ASRC: all channels IDLE with output 0 (R135). -/
def Dev.asrcBlockReset (d : Dev) : Dev := { d with asrc := [] }

/-! ### Slots, gains and sums (R116 to R119) -/

/-- A slot. -/
def Dev.slot (d : Dev) (s : Nat) : XSlot := tabGet {} d.xpt.slots s

/-- Replace a slot. -/
def Dev.setSlot (d : Dev) (s : Nat) (x : XSlot) : Dev := { d with xpt := { d.xpt with slots := tabPut {} d.xpt.slots s x } }

/-- The destination that owns a slot. -/
def Dev.slotDst (d : Dev) (s : Nat) : Nat :=
  match d.xpt.part.find? (fun p => decide (p.2.1 ≤ s) && decide (s < p.2.1 + p.2.2)) with
  | some p => p.1
  | none => 0

/-- A Q4.20 gain as a signed number (R118). -/
def gainI (g : Nat) : Int := sgnW 24 g

/-- Is the slot fading? -/
def Dev.fading (d : Dev) (s : Nat) : Bool := d.xpt.fades.any (fun f => f.slot == s && !f.lone && decide (f.j < f.len))

/-- The zero-cross timeout T in samples (R127). -/
def Dev.zcT (d : Dev) : Nat := max 1 (min 1000 (d.get XPT_FADE_CFG.ZC_TMO)) * d.fi / 1000

/-- Samples of a source in the sealed input block: generators from their own block, everything else as sealed; a
reserved source reads 0. `gen` holds the generator samples of the pass. -/
def srcSample (d : Dev) (gen : Tab Word) (s i : Nat) : Int :=
  if s = 0xFFFF ∨ d.badSource s then 0
  else if d.genBase ≤ s then sampAt gen (s - d.genBase) i
  else sampAt d.aud.sealed s i

/-- One leg: the exact product, weighted and rounded half to even while it fades (R119). -/
def legValue (x g w : Int) (fade : Bool) : Int := if fade then rhe (x * g * w) (2 ^ 30) else x * g

/-- The exact sum of a destination at sample i, with a gain chosen for each slot (R119). `fs` are the fades of the
destination. -/
def Dev.destSum (d : Dev) (gen : Tab Word) (first n i : Nat) (fs : List XFade) (gain : Nat → Nat) : Int :=
  let slots := forN n (fun k acc =>
    let s := first + k
    let x := d.slot s
    let new := srcSample d gen x.src i
    match fs.find? (fun f => f.slot == s && !f.lone) with
    | some f =>
      let w := fadeWeights f.ep f.len (f.j + i)
      acc + legValue new (gainI (gain s)) w.2 (decide (f.j + i < f.len))
    | none => acc + legValue new (gainI (gain s)) 0 false) 0
  fs.foldl (fun acc f =>
    if f.j + i < f.len then
      acc + legValue (srcSample d gen f.src i) (gainI f.gain) (fadeWeights f.ep f.len (f.j + i)).1 true
    else acc) slots

/-- Round the sum half to even to Q1.31 and saturate; the flag says that it saturated (R119). -/
def destRound (sum : Int) : Int × Bool :=
  let z := rhe sum (2 ^ 20)
  (sat31 z, decide (sat31 z ≠ z))

/-- The gain of a slot with the pending steps that have applied or timed out (R127). -/
def gainWith (d : Dev) (ps : List XPend) (s : Nat) : Nat :=
  match ps.find? (fun p => p.slot == s && p.n == 0) with
  | some p => p.gain
  | none => (d.slot s).gain

/-- Do two samples differ in sign? -/
def signsDiffer (a b : Int) : Bool := (decide (a < 0) && decide (0 < b)) || (decide (0 < a) && decide (b < 0))

/-- Progress of one destination through a block: samples so far (newest first), clipped, pending steps, steps that
found a crossing, and the sample before. -/
structure DestAcc where
  out : List Int := []
  clip : Bool := false
  pend : List XPend := []
  crossed : List XPend := []
  prev : Option Int := none
deriving DecidableEq, Repr

/-- One sample of a destination: the crossing is sought in the destination as formed with the old gains; all steps
that wait apply together (R127, R128). A step that has crossed has no samples left to search. -/
def Dev.destStep (d : Dev) (gen : Tab Word) (first n : Nat) (fs : List XFade) (i : Nat) (a : DestAcc) : DestAcc :=
  let old := destRound (d.destSum gen first n i fs (gainWith d a.pend))
  let waiting := a.pend.any (fun p => p.n != 0)
  let cross := waiting && (old.1 == 0 || (match a.prev with | some p => signsDiffer p old.1 | none => false))
  let hit := if cross then a.pend.filter (fun p => p.n != 0) else []
  let pend := if cross then a.pend.map (fun p => { p with n := 0 }) else a.pend
  let now := if cross then destRound (d.destSum gen first n i fs (gainWith d pend)) else old
  { out := now.1 :: a.out, clip := a.clip || now.2,
    pend := pend.map (fun p => { p with n := p.n - 1 }),
    crossed := a.crossed ++ hit, prev := some now.1 }

/-! ### Generators (R134) -/

/-- One SINE sample from the phase (before scaling by LEVEL). -/
def sineAt (phi : Nat) : Int :=
  let q : Nat := phi / 2 ^ 30 % 4
  let x : Nat := phi % 2 ^ 30
  let x : Nat := if q = 1 ∨ q = 3 then 2 ^ 30 - x else x
  let k : Nat := x / 2 ^ 18
  let f : Nat := x % 2 ^ 18
  let s : Int := tabU k + rhe ((tabU (k + 1) - tabU k) * f) (2 ^ 18)
  if 2 ≤ q then -s else s

/-- A value scaled by LEVEL: rounded half to even to Q1.31 and saturated. -/
def levelled (level x : Int) : Int := sat31 (rhe (level * x) (2 ^ 31))

/-- The LFSR of PINK, one step. -/
def pinkStep (r : Nat) : Nat := (r * 2) % 2 ^ 32 + (bitOf r 31 ^^^ bitOf r 21 ^^^ bitOf r 1 ^^^ bitOf r 0)

/-- The LFSR, n steps. -/
def pinkSteps : Nat → Nat → Nat
  | 0, r => r
  | n + 1, r => pinkSteps n (pinkStep r)

/-- c[k] = 2^27 × 2^(−k/2) rounded half to even (R134). -/
def pinkC : List Int :=
  [134217728, 94906266, 67108864, 47453133, 33554432, 23726566, 16777216, 11863283, 8388608, 5931642, 4194304, 2965821,
   2097152, 1482910]

/-- The fourteen sections, one step on a white sample: s[k] − asr(s[k], k) + rnd56(c[k] × w), in Q8.56. -/
def pinkSections : Nat → List Int → Int → List Int → List Int
  | _, [], _, _ => []
  | k, c :: cs, w, s =>
    let x := s.headD 0
    (x - x / (2 ^ k : Nat) + rhe (c * w) (2 ^ 6)) :: pinkSections (k + 1) cs w s.tail

/-- One sample of generator g, and its state after (R134). -/
def genStep (ty freq : Nat) (level : Int) (g : GenSt) : Int × GenSt :=
  match ty with
  | 1 => (levelled level (sineAt g.phi), { g with phi := (g.phi + freq) % 2 ^ 32 })
  | 2 =>
    let r := pinkSteps 32 g.r
    let s := pinkSections 0 pinkC (sgn32 r) g.s
    let x := sat31 (rhe (s.foldl (· + ·) 0) (2 ^ 25))
    (levelled level x, { g with r := r, s := s })
  | _ => (0, g)

/-- The samples of every generator for one block, and the generators after. -/
def Dev.genBlock (d : Dev) : Tab Word × Dev :=
  forN 16 (fun g (acc : Tab Word × Dev) =>
    let ty := d.get XPT_GEN_CFG.TYPE g
    if ty == 1 || ty == 2 then
      let lv := sgn32 (d.get XPT_GEN_LEVEL.LEVEL g)
      let fr := d.get XPT_GEN_FREQ.FREQ g
      let res := forN d.nb (fun i (x : Tab Word × GenSt) =>
        let (z, st) := genStep ty fr lv x.2
        (sampPut x.1 g i z, st)) (acc.1, tabGet {} acc.2.xpt.gens g)
      (res.1, { acc.2 with xpt := { acc.2.xpt with gens := tabPut {} acc.2.xpt.gens g res.2 } })
    else acc) ([], d)

/-! ### Silence detection (R131 to R133) -/

/-- Is destination x SILENT? -/
def Dev.silent (d : Dev) (x : Nat) : Bool := bitOf (d.rd XPT_SIL_STATE (x / 32)).toNat (x % 32) == 1

/-- Is a sample above the threshold of −THR dBFS: |s| > 10^(−THR/20) of full scale (R131)? -/
def aboveThr (thr : Nat) (z : Int) : Bool := decide ((2 ^ 31) ^ 20 < z.natAbs ^ 20 * 10 ^ thr)

/-- THR as treated: 1 to 39 as 40, above 120 as 120; 0 disables. -/
def Dev.silThr (d : Dev) (x : Nat) : Nat :=
  let t := d.get XPT_SIL_CFG.THR x
  if t = 0 then 0 else max 40 (min 120 t)

/-- H: HOLD rounded up to whole blocks (R131). -/
def Dev.silHold (d : Dev) (x : Nat) : Nat := cdiv (max 1 (d.get XPT_SIL_CFG.HOLD x) * d.fi) (1000 * d.nb)

/-- A change of silence state: state and change bits, the event record, and the sleep or wake requests of the linked
modulator channels, for the output block two after the block of the pass, which is the one before the block in progress
(R132, R133). `blk` is the input block of the pass as 32 bits. -/
def Dev.silChange (d : Dev) (x blk : Nat) (on : Bool) : Dev :=
  let d := d.wr XPT_SIL_STATE (fset (d.rd XPT_SIL_STATE (x / 32)) (x % 32) (x % 32) (b2n on)) (x / 32)
  let d := d.wr XPT_SIL_CHG (fset (d.rd XPT_SIL_CHG (x / 32)) (x % 32) (x % 32) 1) (x / 32)
  let (ok, d) := d.ringPush (88 + d.get XPT_CTRL.EVR) 7 0 0 0 (leBytes 2 x ++ leBytes 1 (b2n on) ++ [0] ++ leBytes 4 blk)
  let d := if ok then d else (d.put XPT_STATUS.EVDROP 1).raise FS.MGMT_EVRING
  forN 32 (fun n d =>
    if d.is XPT_PSM_SIL.EN n && d.get XPT_PSM_SIL.DST n == x then
      { d with xpt := { d.xpt with slp := tabIns d.xpt.slp n (tabGet [] d.xpt.slp n ++ [(on, d.cyc.k + 1)]) } }
    else d) d

/-- The detector of a destination sees the block just formed: blocks of silence counted; a sample above threshold, or
THR set to 0, takes it out of SILENT (R131). -/
def Dev.silStep (d : Dev) (x blk : Nat) (zs : List Int) : Dev :=
  let thr := d.silThr x
  if thr = 0 then
    let d := { d with xpt := { d.xpt with sil := tabDel d.xpt.sil x } }
    if d.silent x then d.silChange x blk false else d
  else if zs.any (aboveThr thr) then
    let d := { d with xpt := { d.xpt with sil := tabDel d.xpt.sil x } }
    if d.silent x then d.silChange x blk false else d
  else { d with xpt := { d.xpt with sil := tabPut 0 d.xpt.sil x (tabGet 0 d.xpt.sil x + 1) } }

/-- The number of the input block of the latest pass: the one before the block in progress (R43). -/
def Dev.passBlock (d : Dev) : Nat := (d.get SYS_BLK_COUNT.COUNT + 2 ^ 32 - 1) % 2 ^ 32

/-- H consecutive blocks below threshold: SILENT (R131). -/
def Dev.silEnter (d : Dev) (x : Nat) : Dev :=
  if d.silThr x != 0 && !d.silent x && decide (d.silHold x ≤ tabGet 0 d.xpt.sil x) && decide (0 < (tabGet (0, 0) d.xpt.part x).2) then
    d.silChange x d.passBlock true
  else d

/-- Destinations without slots in the partition are not evaluated; THR set to 0 takes them out of SILENT too (R131). -/
def Dev.silDrop (d : Dev) (blk : Nat) : Dev :=
  forN 128 (fun k d =>
    if d.rd XPT_SIL_STATE k = 0 then d
    else forN 32 (fun j d => if d.silent (32 * k + j) && d.silThr (32 * k + j) == 0 then d.silChange (32 * k + j) blk false else d) d) d

/-! ### The pass (R119) -/

/-- The gain steps that apply: slots take their targets (R127). -/
def Dev.applySteps (d : Dev) (ps : List XPend) : Dev :=
  ps.foldl (fun d p => d.setSlot p.slot { d.slot p.slot with gain := p.gain }) d

/-- The weight of a destination sample in the fade of all destinations: down, up, or silent after the fade down
(R417). -/
def Dev.fadeAllAt (d : Dev) (i : Nat) (z : Int) : Int :=
  let j := d.xpt.fadeJ + i
  match d.xpt.fade with
  | 1 => rhe (z * (fadeWeights true d.xpt.fadeL j).1) (2 ^ 30)
  | 2 => if j < d.xpt.fadeL then rhe (z * (fadeWeights true d.xpt.fadeL j).2) (2 ^ 30) else z
  | 3 => 0
  | _ => z

/-- The fade of all destinations over one block's samples. -/
def Dev.fadeAll (d : Dev) (zs : List Int) : List Int := if d.xpt.fade = 0 then zs else zs.mapIdx (fun i z => d.fadeAllAt i z)

/-- One destination of the pass: its samples, gain steps at crossings, clipping and silence detection. -/
def Dev.passDest (d : Dev) (gen : Tab Word) (x first n blk : Nat) : Dev :=
  let fs := d.xpt.fades.filter (fun f => f.dst == x)
  let prev := match tabGet 0 d.aud.prev x with
    | 0 => none
    | w + 1 => some (sgn32 w)
  let a := forN d.nb (d.destStep gen first n fs) ({ pend := d.xpt.pend.filter (fun (p : XPend) => p.dst == x), prev := prev } : DestAcc)
  let zs := d.fadeAll a.out.reverse
  let left := a.pend.filter (fun p => !a.crossed.any (fun c => c.slot == p.slot))
  let d := { d with xpt := { d.xpt with pend := d.xpt.pend.filter (fun (p : XPend) => p.dst != x) ++ left } }
  let d := d.applySteps a.crossed
  let d := { d with aud := { d.aud with dest := sampPutAll d.aud.dest x 0 zs,
                                        prev := tabPut 0 d.aud.prev x (unsW 32 (a.out.headD 0) + 1) } }
  let d := if a.clip then
      let d := d.wr XPT_CLIP (fset (d.rd XPT_CLIP (x / 32)) (x % 32) (x % 32) 1) (x / 32)
      (d.perfEvent 0x13 1).raiseOnce FS.XPT_CLIP
    else d
  d.silStep x blk zs

/-- The crosspoint pass for the sealed input block (R119). It forms the destinations of the partition in force, so that one which a hitless swap's
image drops reads as 0 from the swap on and the fades of its departing legs are not heard; the manual does not say which of R106 and R130 wins
there (DESIGN CHOICE, log entry 142). -/
def Dev.xptPass (d : Dev) : Dev :=
  let (gen, d) := d.genBlock
  let blk := d.passBlock
  let d := { d with aud := { d.aud with dest := [] }, xpt := { d.xpt with left := d.xpt.fades.map (fun (f : XFade) => (f.dst, f.src)) } }
  let d : Dev := (d.xpt.part.foldl (fun d p => d.passDest gen p.1 p.2.1 p.2.2 blk) d).silDrop blk
  let nb := d.nb
  let j := d.xpt.fadeJ + nb
  let fade := if d.xpt.fade = 1 ∧ d.xpt.fadeL ≤ j then 3 else if d.xpt.fade = 2 ∧ d.xpt.fadeL ≤ j then 0 else d.xpt.fade
  { d with xpt := { d.xpt with fades := d.xpt.fades.map (fun f => { f with j := f.j + nb }), fade := fade,
                               fadeJ := if fade = 1 ∨ fade = 2 then j else 0 } }

/-- Begin the fade of all destinations, down (1) or up (2), over RAMP ms (R417). -/
def Dev.fadeAllBegin (d : Dev) (dir : Nat) : Dev :=
  let ms := max 1 (min 1000 (d.get SYS_SWAP_CTRL.RAMP))
  { d with xpt := { d.xpt with fade := dir, fadeJ := 0, fadeL := ms * d.fi / 1000 } }

/-! ### Commits (R120 to R128) -/

/-- Report the fades in progress. -/
def Dev.putFades (d : Dev) : Dev := d.put XPT_STATUS.FADES d.xpt.fades.length

/-- Report the staged writes: COUNT, and FULL at 4,096. -/
def Dev.putStaged (d : Dev) : Dev :=
  let n := d.xpt.staged.length + d.xpt.deferred.length
  (d.put XPT_CTRL.COUNT (min 4095 n)).put XPT_CTRL.FULL (b2n (decide (4096 ≤ n)))

/-- A gain command takes effect: at once with HARD, else pending until a crossing (R127, R128). -/
def Dev.gainCmd (d : Dev) (c : XCmd) : Dev :=
  if c.hard || !d.cycling then
    let d := d.setSlot c.slot { d.slot c.slot with gain := c.data % 2 ^ 24 }
    { d with xpt := { d.xpt with pend := d.xpt.pend.filter (fun p => p.slot != c.slot) } }
  else if d.xpt.pend.any (fun p => p.slot == c.slot && p.n != 0) then
    { d with xpt := { d.xpt with pend := d.xpt.pend.map (fun p => if p.slot = c.slot then { p with gain := c.data % 2 ^ 24 } else p) } }
  else
    let d := d.applySteps (d.xpt.pend.filter (fun p => p.slot == c.slot))
    let ps := d.xpt.pend.filter (fun p => p.slot != c.slot)
    { d with xpt := { d.xpt with pend := ps ++ [⟨c.slot, d.slotDst c.slot, c.data % 2 ^ 24, d.zcT⟩] } }

/-- The new source number of a route command: 0xFFFF is EMPTY. -/
def XCmd.source (c : XCmd) : Nat := c.data % 65536

/-- The fades in progress; one that has reached its last sample leaves the engine (R125). -/
def Dev.liveFades (d : Dev) : Nat := (d.xpt.fades.filter (fun f => decide (f.j < f.len))).length

/-- The gain of a slot with a step that has timed out (R127). -/
def Dev.slotGain (d : Dev) (s : Nat) : Nat := gainWith d d.xpt.pend s

/-- Does a route command need a fade? -/
def Dev.needsFade (d : Dev) (c : XCmd) : Bool := !c.hard && d.cycling && (d.slot c.slot).src != c.source

/-- Start a route command, with the gain commands of the same commit for its slot: the departing leg keeps the old
gain, the new leg takes the new one (R123, R124). -/
def Dev.routeStart (d : Dev) (c : XCmd) (gains : List XCmd) : Dev :=
  let old := d.slot c.slot
  let g := match gains.getLast? with
    | some gc => gc.data % 2 ^ 24
    | none => old.gain
  let d := if gains.isEmpty then d else { d with xpt := { d.xpt with pend := d.xpt.pend.filter (fun p => p.slot != c.slot) } }
  let d' := d.setSlot c.slot { src := c.source, gain := g }
  if d.needsFade c then
    let f : XFade := ⟨c.slot, d.slotDst c.slot, old.src, d.slotGain c.slot, c.len, c.ep, 0, false⟩
    ({ d' with xpt := { d'.xpt with fades := d'.xpt.fades ++ [f] } }).perfEvent 0x12 1
  else d'

/-- Insert a route command with its gain commands by slot number, later commands of one slot behind. -/
def insSlot : XCmd × List XCmd → List (XCmd × List XCmd) → List (XCmd × List XCmd)
  | c, [] => [c]
  | c, x :: xs => if c.1.slot < x.1.slot then c :: x :: xs else x :: insSlot c xs

/-- Sort by slot, keeping the order of one slot's commands. -/
def sortSlot (cs : List (XCmd × List XCmd)) : List (XCmd × List XCmd) := cs.foldl (fun acc c => insSlot c acc) []

/-- The route commands of a commit, the first of each slot with the gain commands for that slot (R124). -/
def withGains : List XCmd → List XCmd → List (XCmd × List XCmd)
  | _, [] => []
  | gains, c :: cs => (c, gains.filter (fun g => g.slot == c.slot)) :: withGains (gains.filter (fun g => g.slot != c.slot)) cs

/-- Waiting commands: each route command with the gain commands that wait behind it. -/
def waitPairs (cs : List XCmd) : List (XCmd × List XCmd) :=
  cs.foldr (fun c acc =>
    if c.route then
      match acc with
      | (none, gs) :: rest => (some c, gs) :: rest
      | acc => (some c, []) :: acc
    else
      match acc with
      | (none, gs) :: rest => (none, c :: gs) :: rest
      | acc => (none, [c]) :: acc) ([] : List (Option XCmd × List XCmd))
  |>.filterMap (fun p => p.1.map (·, p.2))

/-- Route commands start in ascending slot number: one for a fading slot is held (R126); one that finds the engine
full is deferred, and so is every later one that needs a fade (R125). Either takes the gain commands of its slot with
it (R124). The flag says whether the commit has deferred. -/
def Dev.routesRun : List (XCmd × List XCmd) → Dev → Bool → Dev × Bool
  | [], d, full => (d, full)
  | (c, gs) :: cs, d, full =>
    if d.fading c.slot then
      Dev.routesRun cs ({ d.inc XPT_STATUS.HELD with xpt := { (d.inc XPT_STATUS.HELD).xpt with held := d.xpt.held ++ (c :: gs) } }) full
    else if d.needsFade c && (full || decide (1024 ≤ d.liveFades)) then
      Dev.routesRun cs ({ d.inc XPT_STATUS.DEFER with xpt := { (d.inc XPT_STATUS.DEFER).xpt with deferred := d.xpt.deferred ++ (c :: gs) } }) true
    else
      Dev.routesRun cs (d.routeStart c gs) full

/-- Run a set of route and gain commands as one commit. -/
def Dev.cmdsRun (d : Dev) (cs : List XCmd) : Dev :=
  let routes := cs.filter (·.route)
  let gains := cs.filter (fun c => !c.route)
  let (d, full) := Dev.routesRun (sortSlot (withGains gains routes)) d false
  let own := gains.filter (fun g => !routes.any (fun r => r.slot == g.slot))
  let d := own.foldl (fun d g => d.gainCmd g) d
  if full then d.raise FS.XPT_FADE_DEFER else d

/-- (Re)start a generator: phase 0, or LFSR and sections from SEED (R134). -/
def Dev.genRestart (d : Dev) (g : Nat) (seedOnly : Bool) : Dev :=
  let old := tabGet {} d.xpt.gens g
  let st : GenSt := { phi := if seedOnly then old.phi else 0, r := max 1 (d.get XPT_GEN_SEED.SEED g), s := List.replicate 14 0 }
  { d with xpt := { d.xpt with gens := tabPut {} d.xpt.gens g st } }

/-- Apply one staged register write (R120, R129, R134): a written SEED restarts its LFSR, whatever it carries. -/
def Dev.stagedReg (d : Dev) (a : Nat) (w : Word) : Dev :=
  match decodeReg a with
  | some (r, i, j) =>
    let d := d.store r w i j
    if r == XPT_GEN_SEED then d.genRestart i true
    else if r == XPT_SIL_CFG then { d with xpt := { d.xpt with sil := tabDel d.xpt.sil i } }
    else if r == XPT_PSM_SIL then { d with xpt := { d.xpt with sil := tabDel d.xpt.sil (d.get XPT_PSM_SIL.DST i) } }
    else d
  | none => d

/-- Generators whose TYPE has changed since `o` start afresh (R134). -/
def Dev.genAdopt (d o : Dev) : Dev :=
  forN 16 (fun g d => if d.get XPT_GEN_CFG.TYPE g = o.get XPT_GEN_CFG.TYPE g then d else d.genRestart g false) d

/-- Apply the staged set as one commit (R120): the registers, then the slot commands. -/
def Dev.xptCommit (d : Dev) : Dev :=
  let st := d.xpt.staged
  let o : Dev := { d with xpt := { d.xpt with staged := [], late := false, missed := false } }
  let d := (st.foldl (fun d s => match s with | .reg a w => d.stagedReg a w | .cmd _ => d) o).genAdopt o
  let d := d.cmdsRun (st.filterMap (fun s => match s with | .cmd c => some c | .reg _ _ => none))
  ((d.put XPT_CTRL.ARM 0).putStaged).putFades

/-- At a boundary, commands held for a fade that has ended start, then deferred ones as fades are free (R125,
R126). -/
def Dev.xptWaiting (d : Dev) : Dev :=
  let ready := waitPairs (d.xpt.held.filter (fun c => !d.fading c.slot))
  let d := { d with xpt := { d.xpt with held := d.xpt.held.filter (fun c => d.fading c.slot) } }
  let df := d.xpt.deferred
  let d := { d with xpt := { d.xpt with deferred := [] } }
  let dr := d.get XPT_STATUS.DEFER
  let hd := d.get XPT_STATUS.HELD
  let (d, _) := Dev.routesRun (sortSlot (ready ++ waitPairs df)) d false
  (((d.put XPT_STATUS.DEFER dr).put XPT_STATUS.HELD hd).putStaged).putFades

/-- A write that arms a tagged commit whose block is not later than the current one makes it late (R37, R122). -/
def Dev.xptJudge (d : Dev) (w : Nat) : Dev :=
  if bitOf w 0 == 1 && d.get XPT_CTRL.MODE == 2 && !later32 (d.get XPT_COMMIT.BLOCK) (d.get SYS_BLK_COUNT.COUNT) then
    { d with xpt := { d.xpt with late := true } }
  else d

/-- The block of an armed, tagged commit is reached while the cycle is not RUNNING or a planned restart goes on: the commit is applied
at the first boundary after the cycle restarts (R135). `after` is the latest block before the `n` blocks in question. -/
def Dev.xptMiss (d : Dev) (after n : Nat) : Dev :=
  let x := (d.get XPT_COMMIT.BLOCK + 2 ^ 32 - after % 2 ^ 32) % 2 ^ 32
  if d.is XPT_CTRL.ARM && d.get XPT_CTRL.MODE == 2 && decide (0 < x) && decide (x ≤ n) then { d with xpt := { d.xpt with missed := true } }
  else d

/-- The staged set's turn at the boundary that begins block b (R120, R122, R135): DIRECT always, ARMED once armed, TAGGED at
its block or late; a tagged commit whose target comes in REALIGN or while a planned restart stops the cycle waits for
the restart. -/
def Dev.xptBoundary (d : Dev) (b : Nat) : Dev :=
  let d := d.xptWaiting
  let armed := d.is XPT_CTRL.ARM
  match d.get XPT_CTRL.MODE with
  | 0 => if d.xpt.staged.isEmpty && !armed then d else d.xptCommit
  | 2 =>
    let go := d.running && !d.boot.restart
    if armed && (d.xpt.late || (go && d.xpt.missed)) then (d.put XPT_CTRL.LATE 1).xptCommit
    else if armed && go && d.get XPT_COMMIT.BLOCK == b then d.xptCommit
    else if go then d
    else d.xptMiss (b + 2 ^ 32 - 1) 1
  | _ => if armed then d.xptCommit else d

/-- Stage one write, or apply it at once while the cycle is not RUNNING (R121, R122). -/
def Dev.xptStage (d : Dev) (s : XStaged) : Dev :=
  if 4096 ≤ d.xpt.staged.length + d.xpt.deferred.length then (d.put XPT_CTRL.DISC 1).put XPT_CTRL.FULL 1
  else
    let d := { d with xpt := { d.xpt with staged := d.xpt.staged ++ [s] } }
    if d.running then d.putStaged
    else
      let rest := d.xpt.staged.dropLast
      let d := ({ d with xpt := { d.xpt with staged := [s] } })
      let o := d
      let d := (d.xptCommit).put XPT_CTRL.ARM (o.get XPT_CTRL.ARM)
      ({ d with xpt := { d.xpt with staged := rest, late := o.xpt.late, missed := o.xpt.missed } }).putStaged

/-- A write of XPT_CMD_DATA stages the command built with XPT_CMD_SLOT (R120, R122, R123). -/
def Dev.xptCmdData (d : Dev) (v : Nat) : Dev :=
  let op := d.get XPT_CMD_SLOT.OP
  let s := d.get XPT_CMD_SLOT.SLOT
  let df := d.is XPT_CMD_SLOT.DEF
  let len := 1 + (if df then d.get XPT_FADE_CFG.LENM1 else d.get XPT_CMD_SLOT.LENM1)
  let ep := if df then d.is XPT_FADE_CFG.LAW else d.is XPT_CMD_SLOT.LAW
  if 2 ≤ op then d
  else if d.xpt.nx ≤ s ∨ (op = 0 ∧ v % 65536 ≠ 0xFFFF ∧ d.badSource (v % 65536) = true) then d.put XPT_CTRL.BADCMD 1
  else d.xptStage (.cmd ⟨op == 0, d.is XPT_CMD_SLOT.HARD, len, ep, s, v⟩)

/-- A fade reaches sample L − 1: it leaves the engine; held and deferred commands start at the next input block
(R125, R126). -/
def Dev.fadeComplete (d : Dev) (s : Nat) (lone : Bool) : Dev :=
  ({ d with xpt := { d.xpt with fades := d.xpt.fades.filter (fun f => !(f.slot == s && f.lone == lone && decide (f.len ≤ f.j))) } }).putFades

/-- No crossing within T samples: the pending gain is the slot's from sample T on (R127). -/
def Dev.zcTimeout (d : Dev) (s : Nat) : Dev :=
  let hit (p : XPend) : Bool := p.slot == s && p.n == 0
  let d' := d.applySteps (d.xpt.pend.filter hit)
  { d' with xpt := { d'.xpt with pend := d.xpt.pend.filter (fun p => !hit p) } }

/-- Every fade completes at once to its new source and every pending step applies (R130, R135). -/
def Dev.xptFinish (d : Dev) : Dev :=
  let d := d.applySteps d.xpt.pend
  ({ d with xpt := { d.xpt with fades := [], pend := [] } }).putFades

/-- Discard the commands deferred and held; DISC where there were any (R130, R135). -/
def Dev.xptDiscardWaiting (d : Dev) : Dev :=
  let any := !d.xpt.deferred.isEmpty || !d.xpt.held.isEmpty
  let d := ({ d with xpt := { d.xpt with deferred := [], held := [] } }).putStaged
  if any then d.put XPT_CTRL.DISC 1 else d

/-- The block cycle leaves RUNNING for good: fades abandoned, pending gains as their targets, no previous sample
(R127, R135). -/
def Dev.xptStop (d : Dev) : Dev :=
  let d := d.xptFinish
  { d with aud := { d.aud with prev := [], dest := [] } }

/-- BLOCK reset of XPT (R135): staged, deferred and held commands discarded, ARM cleared, DISC set, fades and steps
completed, detectors restarted. -/
def Dev.xptBlockReset (d : Dev) : Dev :=
  let any := !d.xpt.staged.isEmpty || !d.xpt.deferred.isEmpty || !d.xpt.held.isEmpty || d.is XPT_CTRL.ARM
  let d := d.xptFinish
  let d := { d with xpt := { d.xpt with staged := [], late := false, missed := false, deferred := [], held := [], sil := [], slp := [] } }
  let d := (d.put XPT_CTRL.ARM 0).putStaged
  if any then d.put XPT_CTRL.DISC 1 else d

/-! ### Hitless swap (R130) -/

/-- The position of a slot: its destination and its place in the destination's range. -/
def slotPlace (part : Tab (Nat × Nat)) (s : Nat) : Option (Nat × Nat) :=
  (part.find? (fun p => decide (p.2.1 ≤ s) && decide (s < p.2.1 + p.2.2))).map (fun p => (p.1, s - p.2.1))

/-- Slots of a partition in ascending number. -/
def slotList (part : Tab (Nat × Nat)) : List Nat :=
  (part.foldl (fun acc p => (List.range p.2.2).foldl (fun acc k => insDst (p.2.1 + k) acc) acc) [])
where
  /-- Insert in ascending order. -/
  insDst : Nat → List Nat → List Nat
    | x, [] => [x]
    | x, y :: ys => if x < y then x :: y :: ys else y :: insDst x ys

/-- Slot commands staged for slots or sources that a new image lacks are discarded, with BADCMD and DISC (R122). -/
def Dev.xptRecheck (d : Dev) : Dev :=
  let bad (s : XStaged) : Bool := match s with
    | .cmd c => decide (d.xpt.nx ≤ c.slot) || (c.route && c.source != 0xFFFF && d.badSource c.source)
    | .reg _ _ => false
  if d.xpt.staged.any bad then
    (({ d with xpt := { d.xpt with staged := d.xpt.staged.filter (fun s => !bad s) } }).put XPT_CTRL.BADCMD 1).put XPT_CTRL.DISC 1
  else d

/-- The crosspoint of an image applied with everything it fixes: writes staged and not yet due stay (R135), commands
deferred or held are discarded (R130). -/
def Dev.xptLoad (d : Dev) (part : Tab (Nat × Nat)) (nx : Nat) (slots : Tab XSlot) (sink : Tab Nat) : Dev :=
  let d := if d.xpt.deferred.isEmpty && d.xpt.held.isEmpty then d else d.xptDiscardWaiting
  let x : XptSt := { part := part, nx := nx, slots := slots, sink := sink, staged := d.xpt.staged, late := d.xpt.late,
                     missed := d.xpt.missed, gens := d.xpt.gens }
  let d : Dev := { d with xpt := x }
  (d.xptRecheck.putStaged).putFades

/-- The crosspoint takes the partition, slots and sink map of a new image at a hitless swap: slots compared by
destination and place; sources that differ fade at the default length, gains that differ step; changes beyond 1,024
fades are hard and set SWHARD (R130). -/
def Dev.xptSwap (d : Dev) (part : Tab (Nat × Nat)) (nx : Nat) (slots : Tab XSlot) (sink : Tab Nat) : Dev :=
  let d := d.xptFinish
  let d := if d.xpt.deferred.isEmpty && d.xpt.held.isEmpty then d else d.xptDiscardWaiting
  let oldPart := d.xpt.part
  let oldSlots := d.xpt.slots
  let len := 1 + d.get XPT_FADE_CFG.LENM1
  let ep := d.is XPT_FADE_CFG.LAW
  let oldAt (pl : Option (Nat × Nat)) : XSlot :=
    match pl with
    | some (x, k) =>
      let p := tabGet (0, 0) oldPart x
      if k < p.2 then tabGet {} oldSlots (p.1 + k) else {}
    | none => {}
  let newHas (pl : Option (Nat × Nat)) : Bool :=
    match pl with
    | some (x, k) => decide (k < (tabGet (0, 0) part x).2)
    | none => false
  let d := { d with xpt := { d.xpt with part := part, nx := nx, slots := slots, sink := sink } }
  let oldHas (pl : Option (Nat × Nat)) : Bool :=
    match pl with
    | some (x, k) => decide (k < (tabGet (0, 0) oldPart x).2)
    | none => false
  let d := (slotList part).foldl (fun (d : Dev) s =>
    let pl := slotPlace part s
    let o := oldAt pl
    let n := tabGet {} slots s
    let d : Dev := if oldHas pl && o.gain != n.gain then
        let d := d.setSlot s { n with gain := o.gain }
        { d with xpt := { d.xpt with pend := d.xpt.pend ++ [⟨s, d.slotDst s, n.gain, d.zcT⟩] } }
      else d
    if o.src = n.src then d
    else if d.xpt.fades.length < 1024 then
      ({ d with xpt := { d.xpt with fades := d.xpt.fades ++ [(⟨s, d.slotDst s, o.src, o.gain, len, ep, 0, false⟩ : XFade)] } } : Dev).perfEvent 0x12 1
    else d.put XPT_STATUS.SWHARD 1) d
  let d := (slotList oldPart).foldl (fun d s =>
    let pl := slotPlace oldPart s
    let o := tabGet {} oldSlots s
    if newHas pl || o.src == 0xFFFF then d
    else if d.xpt.fades.length < 1024 then
      ({ d with xpt := { d.xpt with fades := d.xpt.fades ++ [⟨s, (pl.getD (0, 0)).1, o.src, o.gain, len, ep, 0, true⟩] } } : Dev).perfEvent 0x12 1
    else d.put XPT_STATUS.SWHARD 1) d
  (d.xptRecheck.putStaged).putFades

/-! ### Registers -/

/-- Writes of XPT registers (R120). -/
def Dev.xptWrite (d : Dev) (r : Reg) (i j : Nat) (w : Word) : Dev :=
  if r == XPT_CMD_DATA then d.xptCmdData w.toNat
  else if r == XPT_GEN_CFG || r == XPT_GEN_FREQ || r == XPT_GEN_LEVEL || r == XPT_GEN_SEED || r == XPT_SIL_CFG || r == XPT_PSM_SIL then
    d.xptStage (.reg (r.addr i j) w)
  else if r == XPT_CTRL then
    let d := (d.store r w i j).xptJudge w.toNat
    if fget w 0 0 == 1 && !d.running && d.get XPT_CTRL.MODE != 2 then d.xptCommit else d
  else d.store r w i j

/-- Reads of XPT_RD_SRC and XPT_RD_GAIN return the applied values of the slot in XPT_RD_SEL. -/
def Dev.xptRead (d : Dev) (r : Reg) : Dev :=
  let s := d.get XPT_RD_SEL.SLOT
  if r == XPT_RD_SRC then
    (((d.put XPT_RD_SRC.FADING (b2n (d.fading s))).put XPT_RD_SRC.PEND (b2n (d.xpt.pend.any (fun p => p.slot == s && p.n != 0)))).put
      XPT_RD_SRC.DST (d.slotDst s)).put XPT_RD_SRC.SRC (d.slot s).src
  else if r == XPT_RD_GAIN then
    d.put XPT_RD_GAIN.GAIN (d.slotGain s)
  else d

end Sys2Proof.Machine
end

