-- ==== Sys2Proof/Machine/Psm.lean ====
section
/-! DEFINITION. The power-stage modulators: interpolation, feed-forward, noise shaping, edge placement, group and channel
states, diagnosis, sleep, current limit (R136 to R157), and the ramps of the dip policy (R347, R348). -/

namespace Sys2Proof.Machine

/-! ### Access to groups and channels -/

/-- A channel's hidden state. -/
def Dev.pch (d : Dev) (n : Nat) : PsmCh := tabGet {} d.psm.ch n

/-- Replace it. -/
def Dev.setPch (d : Dev) (n : Nat) (c : PsmCh) : Dev := { d with psm := { d.psm with ch := tabPut {} d.psm.ch n c } }

/-- A group's hidden state. -/
def Dev.pgrp (d : Dev) (g : Nat) : PsmGrp := tabGet {} d.psm.grp g

/-- Replace it. -/
def Dev.setPgrp (d : Dev) (g : Nat) (x : PsmGrp) : Dev := { d with psm := { d.psm with grp := tabPut {} d.psm.grp g x } }

/-- Group state: 0 OFF, 1 LEGTEST, 2 ENABLING, 3 LOADTEST, 4 RUN, 5 STOPPING, 6 FAULT (R146). -/
def Dev.gState (d : Dev) (g : Nat) : Nat := d.get PSM_PG_STAT.STATE g

/-- Channel state: 0 OFF, 1 READY, 2 PLAY, 3 SLEEP, 4 DFAIL, 5 LATCHED (R147). -/
def Dev.cState (d : Dev) (n : Nat) : Nat := d.get PSM_CH_STAT.STATE n

/-- The SLEEP bits of a group follow its channels. -/
def Dev.sleepBits (d : Dev) (g : Nat) : Dev :=
  d.put PSM_PG_STAT.SLEEP (forN 8 (fun j acc => acc + 2 ^ j * b2n (d.cState (8 * g + j) == 3)) 0) g

/-- Are all eight channels of a group in SLEEP, OFF, DFAIL or LATCHED (R151)? -/
def Dev.allIdle (d : Dev) (g : Nat) : Bool := (List.range 8).all (fun k => [0, 3, 4, 5].contains (d.cState (8 * g + k)))

/-- A channel enters a state; the delay of deep sleep begins as the last of the eight channels goes idle (R151). -/
def Dev.setCState (d : Dev) (n st : Nat) : Dev :=
  let was := d.allIdle (n / 8)
  let d := (d.put PSM_CH_STAT.STATE st n).sleepBits (n / 8)
  if !was && d.allIdle (n / 8) then d.startTimer .deep (n / 8) else d

/-- A group enters a state, from which the times of its diagnosis count (R146, R147). -/
def Dev.setGState (d : Dev) (g st : Nat) : Dev := (d.put PSM_PG_STAT.STATE st g).startTimer .enable g

/-- Both legs at the zero state. -/
def Dev.zeroState (d : Dev) (n : Nat) : Dev := d.setPch n { d.pch n with tA := 0, tB := 0 }

/-- Apply an operation to the eight channels of a group. -/
def Dev.eachCh (d : Dev) (g : Nat) (f : Nat → Dev → Dev) : Dev := forN 8 (fun j d => f (8 * g + j) d) d

/-- Drive PSEN_Gx. -/
def Dev.setPsen (d : Dev) (g : Nat) (on : Bool) : Dev := d.setPgrp g { d.pgrp g with psen := on, psenOff := 0 }

/-- Is the group a paired one on a STANDBY (R148, R155)? -/
def Dev.grpStandby (d : Dev) (g : Nat) : Bool := d.is PSM_PG_CFG.PAIRED g && d.get PAIR_STAT.ROLE == 3

/-- Does the chip drive the group's balls (R155)? -/
def Dev.grpDriven (d : Dev) (g : Nat) : Bool := !d.is PSM_PG_CFG.PAIRED g || bitOf d.pair.ownG g == 1

/-- The edge trim of a group in taps, while the chip is STANDBY or ACTIVE; a positive trim places the edges later (DESIGN CHOICE, log
entry 124) (R308). -/
def Dev.psmTrim (d : Dev) (g : Nat) : Int :=
  let t := d.get PAIR_PSM_TRIM.TRIM g
  let r := d.get PAIR_STAT.ROLE
  if r = 2 ∨ r = 3 then (if t < 16 then (t : Int) else (t : Int) - 32) else 0

/-! ### The interpolator (R139) -/

/-- R = fc / Fi. -/
def Dev.fcR (d : Dev) (g : Nat) : Nat := 4 * 2 ^ d.get PSM_PG_CFG.CAR g / 2 ^ d.get SYS_BLK_CFG.FI

/-- The series of I0 in powers of q = x² ÷ 4: the sum of q^k ÷ (k!)², in units of 2^−128. -/
def i0Series : Nat → Nat → Int → Int → Int → Int
  | 0, _, _, _, acc => acc
  | f + 1, k, q, t, acc => i0Series f (k + 1) q (t * q / trigOne / ((k + 1) * (k + 1))) (acc + t)

/-- I0 at 3.4 × √(1 − (n ÷ 3R)²), in units of 2^−128; x² ÷ 4 is 2.89 × (1 − n² ÷ 9R²). -/
def i0At (n r : Nat) : Int := i0Series 40 0 ((289 * (9 * r * r - n * n) * trigOne / (100 * 9 * r * r) : Nat)) trigOne 0

/-- The coefficient c_j[i] of R139 in Q2.30, from u = j ÷ R − i as the fraction n ÷ R with n = |j − iR|. -/
def interpCoef (r j : Nat) (i : Int) : Int :=
  let n := ((j : Int) - i * r).natAbs
  if n = 0 then 2 ^ 30
  else if 3 * r ≤ n then 0
  else
    let s := sinFix (piFix * (n % r) / r : Nat)
    let s := if n / r % 2 = 1 then -s else s
    let h := s * r * trigOne / (piFix * n) * i0At n r
    rhe (h * 2 ^ 30) ((i0At 0 1).toNat * trigOne)

/-- y_j: the value of one carrier period from six samples, newest (x[3]) first. In the period j = 0 the coefficient of x[3] is 0. -/
def interpolate (r j : Nat) (xs : List Int) : Int :=
  let sum := forN 6 (fun k acc => acc + nth 0 xs k * interpCoef r j (3 - (k : Int))) 0
  sat31 (rhe sum (2 ^ 30))

/-! ### Feed-forward, limit, shaper, edges (R140 to R142) -/

/-- P in taps. -/
def carP (car : Nat) : Nat := 131072 / 2 ^ car

/-- W: MINPW in whole taps. -/
def minTaps (minpw : Nat) : Nat := (rhe (minpw * 25165824) 1000000).toNat

/-- m before the limit, in Q1.31: y × 10 × VFS ÷ max(Vg, 10,000), half to even. -/
def feedForward (y : Int) (vfs vg : Nat) : Int := rhe (y * (10 * vfs)) (max vg 10000)

/-- The limit min(MMAX, CEIL) in 2^−31; `ceil` in 2^−16. -/
def modLimit (p w ceil : Nat) : Int := min (((p - 2 * w) * (2 ^ 31 / p) : Nat) : Int) ((ceil * 2 ^ 15 : Nat) : Int)

/-- A Q1.16 gain on y. -/
def gain16 (y : Int) (g : Nat) : Int := rhe (y * g) 65536

/-- The value of a linear ramp in its period p of Np (R141). -/
def rampAt (p np : Nat) : Nat := if np = 0 then 65536 else 65536 * min p np / np

/-- One step of the noise shaper: the errors are in 2^−31 tap, newest first; the answer is q and the errors after. -/
def shape (m : Int) (p w : Nat) (e : List Int) : Int × List Int :=
  let v := m * p - 5 * nth 0 e 0 + 10 * nth 0 e 1 - 10 * nth 0 e 2 + 5 * nth 0 e 3 - nth 0 e 4
  let r := rhe v (2 ^ 31)
  let lim := ((p - 2 * w : Nat) : Int)
  (clampI (-lim) lim r, (r * 2 ^ 31 - v) :: e.take 4)

/-- tA and tB from q (R142). -/
def legTimes (p : Nat) (q : Int) : Nat × Nat :=
  let tA := (p + q) / 2
  (tA.toNat, (tA - q).toNat)

/-- The instants of a leg's edges from the carrier centre, in taps: rise and fall (R142). -/
def legEdges (t : Nat) : Int × Int := (-((t / 2 : Nat) : Int), ((t - t / 2 : Nat) : Int))

/-! ### Dip ramps (R347, R348, R141) -/

/-- The dip state of a group. -/
def Dev.dip (d : Dev) (g : Nat) : DipSt := tabGet {} d.dips g

/-- Replace it. -/
def Dev.setDip (d : Dev) (g : Nat) (x : DipSt) : Dev := { d with dips := tabPut {} d.dips g x }

/-- The ceiling and the gain that hold in the present carrier period. -/
def DipSt.values (x : DipSt) : Nat × Nat := if x.ceil then (x.val, 65536) else (65536, x.val)

/-- Value of a ramp from a foot to 1 at its position. -/
def dipVal (foot p np : Nat) : Nat := if np = 0 then 65536 else foot + (65536 - foot) * min p np / np

/-- The ramp takes the value of its present position, and moves on. -/
def DipSt.tick (x : DipSt) : DipSt :=
  match x.dir with
  | 1 => { x with val := x.top * min x.p x.np / max 1 x.np, p := x.p - 1 }
  | 2 => { x with val := dipVal x.foot x.p x.np, p := min x.np (x.p + 1) }
  | _ => x

/-- A ceiling that goes toward its new value moves by a number that `k` draws, at most all of the way. -/
def DipSt.move (x : DipSt) (k : Nat) : DipSt :=
  let v := if x.foot ≤ x.val then x.val - k % (x.val - x.foot + 1) else x.val + k % (x.foot - x.val + 1)
  { x with val := v, dir := if v = x.foot then 0 else 3 }

/-- The dip state of a group as a carrier period begins. By how much a ceiling that applies anew during a restore moves in each period is free:
the manual says only that it starts from the present value, without a step (R348; DESIGN CHOICE, log entry 47). -/
def Dev.dipTick (d : Dev) (g : Nat) : Dev :=
  if (d.dip g).dir = 3 then
    let (k, d) := d.draw
    d.setDip g ((d.dip g).move (Config.freeNat k))
  else d.setDip g (d.dip g).tick

/-! ### The carrier period -/

/-- Carrier periods in `ms` milliseconds. -/
def Dev.periods (d : Dev) (g ms : Nat) : Nat := ms * 192 * 2 ^ d.get PSM_PG_CFG.CAR g

/-- The sample that was presented at the centre of the period just ended reaches the interpolators, with the number of its output
block (R138). -/
def Dev.psmSample (d : Dev) (g : Nat) : Dev :=
  let pos := (d.pgrp g).pos
  let d := d.eachCh g (fun n d =>
    let c := d.pch n
    let z := if pos < d.nb then sampAt d.aud.emit (d.psmBase + n) pos else 0
    d.setPch n { c with hist := ((d.cyc.k, z) :: c.hist).take 6 })
  d.setPgrp g { d.pgrp g with pos := pos + 1 }

/-- The six samples of the kernel of period j, newest first: at the start of the period j = 0 its x[3] has not been presented. -/
def PsmCh.kernel (c : PsmCh) (j : Nat) : List (Nat × Int) := if j = 0 then (0, 0) :: c.hist else c.hist

/-- The output block of the sample that a period j carries (x[0]). -/
def PsmCh.carried (c : PsmCh) (j : Nat) : Nat := (nth (0, 0) (c.kernel j) 3).1

/-- The oldest sleep or wake request of a channel. -/
def Dev.slpReq (d : Dev) (n : Nat) : Option (Bool × Nat) := (tabGet [] d.xpt.slp n).head?

/-- Drop it. -/
def Dev.slpDrop (d : Dev) (n : Nat) : Dev :=
  { d with xpt := { d.xpt with slp := tabPut [] d.xpt.slp n ((tabGet [] d.xpt.slp n).drop 1) } }

/-- Sleep and wake requests that have come due with the sample carried (R150, R151). A sleep request of a channel that is not in PLAY
yet waits for it, until the wake request that follows is due. -/
def Dev.slpStep (d : Dev) (n : Nat) : Dev :=
  match tabGet [] d.xpt.slp n with
  | [] => d
  | (on, b) :: rest =>
    let c := d.pch n
    if c.blk < b then d
    else if on then
      if d.cState n = 2 then
        ((d.slpDrop n).setPch n { c with hist := c.hist.map (fun x => (x.1, 0)), e := [], fadeOn := false, fadeP := 0, tA := 0, tB := 0,
                                         sleepNow := true }).setCState n 3
      else if d.cState n = 3 ∨ rest.any (fun q => decide (q.2 ≤ c.blk)) then d.slpDrop n
      else d
    else if d.cState n ≠ 3 then d.slpDrop n
    else if (d.pgrp (n / 8)).wakeAt ≤ d.tclk then (d.slpDrop n).setCState n 2
    else d.put PSM_PG_STAT.WLATE 1 (n / 8)

/-- The blocks FIRST and FIRST + 1, in which the modulators hold the zero state (R42). -/
def Dev.silentStart (d : Dev) : Bool := decide (d.cyc.k ≤ d.cyc.armK + 1)

/-- Does a channel hold the zero state in the present period: not in PLAY, group not in RUN or STOPPING, bus low,
clock lost, or one of the first two blocks (R42, R143, R146, R157)? -/
def Dev.chanZero (d : Dev) (n : Nat) : Bool :=
  let g := n / 8
  d.cState n != 2 || !(d.gState g == 4 || d.gState g == 5) || (d.pgrp g).uvHold || (d.pgrp g).clkLost || d.silentStart

/-- The load-test voltage in the present period, as a share of VTEST in 2^−16: up over RAMP, held for HOLD, back over RAMP, each ramp a
linear ramp of R141 (DEDUCED, log entry 125) (R147). -/
def PsmGrp.testGain (x : PsmGrp) : Nat :=
  if x.testP ≤ x.rampN then rampAt x.testP x.rampN
  else if x.testP ≤ x.rampN + x.holdN then 65536
  else rampAt (2 * x.rampN + x.holdN - x.testP) x.rampN

/-- Carrier periods from the start of a load test to the test voltage back at 0 (R147). -/
def PsmGrp.testLen (x : PsmGrp) : Nat := 2 * x.rampN + x.holdN

/-- One channel of a load test drives the test voltage; the dip policy does not act on it (R147, R349). -/
def Dev.testPeriod (d : Dev) (n p w vg : Nat) : Dev :=
  let c := d.pch n
  let x := d.pgrp (n / 8)
  let lim := modLimit p w 65536
  let (q, e) := shape (clampI (-lim) lim (feedForward (x.testGain * 2 ^ 15 : Nat) x.vtest vg)) p w c.e
  let t := legTimes p q
  d.setPch n { c with e := e, tA := t.1, tB := t.2 }

/-- One channel of a carrier period: R140 and R141 with the gains in turn; the flag says that m was limited. -/
def Dev.chanPeriod (d : Dev) (n r j p w vfs vg ceil stop dip : Nat) : Bool × Dev :=
  let c := d.pch n
  let c := { c with tripped := false, pA := c.tA, pB := c.tB }
  if d.gState (n / 8) == 3 && c.under then (false, (d.setPch n c).testPeriod n p w vg)
  else if d.chanZero n then (false, d.setPch n { c with tA := 0, tB := 0 })
  else
    let np := d.periods (n / 8) 10
    let y := interpolate r j ((c.kernel j).map (·.2))
    let y := if c.fadeOn then gain16 y (rampAt c.fadeP np) else y
    let y := gain16 (gain16 y stop) dip
    let m0 := feedForward y vfs vg
    let lim := modLimit p w ceil
    let m := clampI (-lim) lim m0
    let (q, e) := shape m p w c.e
    let t := legTimes p q
    (decide (m ≠ m0), d.setPch n { c with e := e, tA := t.1, tB := t.2, fadeOn := c.fadeOn && decide (c.fadeP < np),
                                          fadeP := if c.fadeOn then c.fadeP + 1 else 0 })

/-- Restart the start fade of every playing channel of a group (R143, R157). -/
def Dev.fadeRestart (d : Dev) (g : Nat) : Dev :=
  d.eachCh g (fun n d => if d.cState n = 2 then d.setPch n { d.pch n with fadeOn := true, fadeP := 0 } else d)

/-- The new reading Vg of a group: reported, and the zero state from below 10 V until above 12 V with the restart (R140,
R143, R147, R155). A STANDBY uses the ACTIVE's reading. -/
def Dev.groupReading (d : Dev) (g v : Nat) : Dev :=
  let sh := if d.grpStandby g && !d.is PAIR_STAT.UNMIRRORED then (d.pgrp g).shared else none
  let vg := min 65535 (sh.getD v)
  let d := (d.put PSM_PG_VBUS.V vg g).put PSM_PG_VBUS.SHARED (b2n sh.isSome) g
  let d := d.setPgrp g { d.pgrp g with vg := vg }
  let d := d.put PSM_PG_STAT.UV (b2n (decide (vg < 10000))) g
  if vg < 10000 then
    let d := d.setPgrp g { d.pgrp g with uvHold := true }
    if d.gState g = 3 then
      d.eachCh g (fun n d =>
        let c := d.pch n
        if c.under then ((d.setPch n { c with under := false }).put PSM_CH_STAT.DIAG 0 n).setCState n 0 else d)
    else d
  else if (d.pgrp g).uvHold && decide (12000 < vg) then (d.setPgrp g { d.pgrp g with uvHold := false }).fadeRestart g
  else d

/-- Report the present ceiling or gain of the selected groups (R348). -/
def Dev.dipReport (d : Dev) (g : Nat) : Dev :=
  if bitOf d.pwr.selected g == 1 && !d.is PWR_DIP_STAT.SHARED then d.put PWR_DIP_STAT.GAIN (min 65535 (d.dip g).val) else d

/-- A channel at the start of a carrier period: it enters PLAY with the start fade, or a sleep or wake request comes due (R149 to
R151). -/
def Dev.chanEnter (d : Dev) (j n : Nat) : Dev :=
  let c := d.pch n
  let d := d.setPch n { c with sleepNow := false, blk := c.carried j }
  let d := if c.entering && d.cState n == 1 && d.gState (n / 8) == 4 then
      (d.setPch n { d.pch n with entering := false, e := [], fadeOn := true, fadeP := 0 }).setCState n 2
    else d
  d.slpStep n

/-- A period begins: PSEN_Gx falls when the zero state has been held for a whole period after a stop, and the sample presented since
the last period began arrives (R138, R146). -/
def Dev.periodBegin (d : Dev) (g r : Nat) : Dev :=
  let d := match (d.pgrp g).psenOff with
    | 0 => d
    | 1 => d.setPsen g false
    | n + 1 => d.setPgrp g { d.pgrp g with psenOff := n }
  let d := if (d.pgrp g).j = 1 % r then d.psmSample g else d
  d.setPgrp g { d.pgrp g with startAt := d.tclk }

/-- The counts of a group move on to the next period. -/
def Dev.periodNext (d : Dev) (g r : Nat) : Dev :=
  let x := d.pgrp g
  d.setPgrp g { x with j := (x.j + 1) % r, stopP := if d.gState g = 5 then x.stopP - 1 else x.stopP,
                       testP := if d.gState g = 3 then x.testP + 1 else x.testP }

/-- The leg high times of a group's channels in the present period. -/
def Dev.grpLegs (d : Dev) (g : Nat) : List (Nat × Nat) := (List.range 8).map (fun k => ((d.pch (8 * g + k)).tA, (d.pch (8 * g + k)).tB))

/-- The reading of a group's bus in mV, from the voltage of VBS_Gg in µV: the ball's full scale is 1.0 V, the divider's ratio KB, unsigned
Q8.8. A ball that is not sampled (EN = 0) delivers no reading, and the latest stays (R351). -/
def Dev.vbsReading (d : Dev) (g uv : Nat) : Nat :=
  if d.is PWR_VBS_CFG.EN g then (rhe (min uv 1000000 * d.get PWR_VBS_CFG.KB g : Nat) 256000).toNat else (d.pgrp g).vg

/-- A carrier period of a group begins; `uv` is the voltage of VBS_Gg as PWR sampled it at the centre of the period before (DESIGN CHOICE, log
entry 111) (R138 to R143, R150, R151, R351). -/
def Dev.carrierPeriod (d : Dev) (g uv : Nat) : Dev :=
  if !d.is PSM_PG_CFG.EN g then d
  else
    let v := d.vbsReading g uv
    let r := max 1 (d.fcR g)
    let d := (d.groupReading g v).periodBegin g r
    let x := d.pgrp g
    let d := d.eachCh g (fun n d => d.chanEnter x.j n)
    let d := d.dipTick g
    let d := d.dipReport g
    let (ceil, dip) := (d.dip g).values
    let stop := if d.gState g = 5 then rampAt (x.stopP - 1) x.stopN else 65536
    let car := d.get PSM_PG_CFG.CAR g
    let p := carP car
    let w := minTaps (d.get PSM_PG_CFG.MINPW g)
    let vfs := d.get PSM_PG_CFG.VFS g
    let (lim, d) := forN 8 (fun k (acc : Bool × Dev) =>
      let (l, d) := acc.2.chanPeriod (8 * g + k) r x.j p w vfs x.vg ceil stop dip
      (acc.1 || l, d)) (false, d)
    let d := if lim && !d.usedOnce 1 g then ((d.useOnce 1 g).put PSM_PG_STAT.CLIP 1 g).raise FS.PSM_CLIP else d
    let d := d.periodNext g r
    if d.grpDriven g then d.emit (.pwm g (d.psmTrim g) (d.grpLegs g)) else d

/-- Wake requests at the end of a pass reach groups in deep sleep: PSEN_Gx high at once, switching no earlier than TEN
later (R151). -/
def Dev.psmWake (d : Dev) : Dev :=
  forN 4 (fun g d =>
    if d.is PSM_PG_STAT.DEEP g
        && (List.range 8).any (fun k => d.cState (8 * g + k) == 3 && (tabGet [] d.xpt.slp (8 * g + k)).any (fun q => !q.1)) then
      let d := (d.put PSM_PG_STAT.DEEP 0 g).setPsen g true
      d.setPgrp g { d.pgrp g with wakeAt := d.tclk + 250 * max 1 (min 5000 (d.get PSM_PG_TIME.TEN g)) }
    else d) d

/-- All eight channels idle for DEEP ms: PSEN_Gx low while staying in RUN; a wake request that waits raises it again at once (R151). -/
def Dev.deepSleep (d : Dev) (g : Nat) : Dev :=
  if d.gState g == 4 && d.get PSM_PG_TIME.DEEP g != 0 && !d.is PSM_PG_STAT.DEEP g && d.allIdle g
      && d.isDue .deep (d.get PSM_PG_TIME.DEEP g * 1000000) g then
    ((d.setPsen g false).put PSM_PG_STAT.DEEP 1 g).psmWake
  else d

/-! ### Start, diagnosis, stop (R146 to R149) -/

/-- START written (R146, R157): held for the next boundary; ignored in RUN and STOPPING, while a diagnosis runs, and under the GRAVE condition
(R325). -/
def Dev.psmStart (d : Dev) (g : Nat) : Dev :=
  if d.is FLT_GRAVE.ACTIVE then d
  else if d.gState g = 0 ∨ d.gState g = 6 then d.setPgrp g { d.pgrp g with startReq := true } else d

/-- Channels of a group that diagnosis or play leaves go to OFF; DFAIL and LATCHED stay (R148). -/
def Dev.chansOff (d : Dev) (g : Nat) : Dev :=
  d.eachCh g (fun n d =>
    let c := d.pch n
    let d := d.setPch n { c with tA := 0, tB := 0, entering := false, fadeOn := false, under := false, tripped := false }
    if d.cState n ≤ 3 then d.setCState n 0 else d)

/-- Discard the results of a diagnosis: NONE, and DFAIL channels OFF (R146, R147, R157). -/
def Dev.diagNone (d : Dev) (g : Nat) : Dev :=
  d.eachCh g (fun n d =>
    let d := (d.put PSM_CH_STAT.DIAG 0 n).put PSM_CH_RES.R 0xFFFFFFFF n
    if d.cState n = 4 then d.setCState n 0 else d)

/-- LEGTEST begins (R146). A PSFLT_N_Gx that is low already sends the group to FAULT at its next assertion only: the row of R146 is taken for
an event (DESIGN CHOICE, log entry 144). -/
def Dev.legtestBegin (d : Dev) (g : Nat) : Dev :=
  let d := if d.gState g = 6 then d.diagNone g else d
  let d := (d.setPsen g false).setGState g 1
  (d.setPgrp g { d.pgrp g with startReq := false }).chansOff g

/-- The groups at a block boundary, which is the centre of a period: sample positions restart, requested starts begin, READY channels enter play,
groups whose clock is back resume (R146, R149, R157). `first` is the first boundary of R42. -/
def Dev.psmBoundary (d : Dev) (first : Bool) : Dev :=
  forN 4 (fun g d =>
    if !d.is PSM_PG_CFG.EN g then d
    else
      let d := d.setPgrp g { d.pgrp g with pos := 0, j := 1 % max 1 (d.fcR g) }
      let d := if first && d.is PSM_PG_CFG.AUTO g then d.psmStart g else d
      let locked := d.dllState (24 + g) == 4
      let d := if (d.pgrp g).startReq && locked && d.running && !d.grpStandby g then
          (if d.gState g = 0 ∨ d.gState g = 6 then d.legtestBegin g else d)
        else d
      let d := if d.gState g = 4 then
          d.eachCh g (fun n d => if d.cState n = 1 then d.setPch n { d.pch n with entering := true } else d)
        else d
      if (d.pgrp g).clkLost && locked then (d.setPgrp g { d.pgrp g with clkLost := false }).fadeRestart g else d) d

/-- The result of the leg test of a channel, 7, 6 or 0, from the pin averages of its legs in µV, the divider's ratio KV in Q8.8 and Vg in
mV (R147). -/
def legClass (l : Nat × Nat) (kv vg : Nat) : Nat :=
  if 768000 * vg < 4 * (l.1 * kv) ∨ 768000 * vg < 4 * (l.2 * kv) then 7
  else if 4 * (l.1 * kv) < 256000 * vg ∨ 4 * (l.2 * kv) < 256000 * vg then 6 else 0

/-- A channel takes the result of its leg test (R147). -/
def Dev.legResult (d : Dev) (n res : Nat) : Dev :=
  let d := (d.put PSM_CH_STAT.DIAG res n).put PSM_CH_RES.R 0xFFFFFFFF n
  if res ≠ 0 then d.setCState n 4 else if d.cState n = 4 then d.setCState n 0 else d

/-- The leg test is complete, 3 ms after it began: the pin averages of each leg in µV against Vg (R146, R147). A STANDBY does not diagnose
(R148). -/
def Dev.legtestDone (d : Dev) (g : Nat) (legs : List (Nat × Nat)) : Dev :=
  if d.gState g ≠ 1 ∨ d.grpStandby g = true ∨ d.isDue .enable 3000000 g = false then d
  else
    let res (k : Nat) : Nat := legClass (nth (0, 0) legs k) (d.get PSM_PG_SENSE.KV g) (d.pgrp g).vg
    let d := forN 8 (fun k d => d.legResult (8 * g + k) (res k)) d
    if (List.range 8).any (fun k => res k == 7) then ((d.setGState g 6).setPsen g false).raise (FS.PSM_DIAG + g)
    else (d.setGState g 2).setPsen g true

/-- TEN has elapsed: the load test begins on the channels without a leg short, with the test voltage, ramp and hold as written
(R146, R147). -/
def Dev.enableDone (d : Dev) (g : Nat) : Dev :=
  if d.gState g ≠ 2 ∨ d.grpStandby g = true ∨ d.isDue .enable (max 1 (min 5000 (d.get PSM_PG_TIME.TEN g)) * 1000) g = false then d
  else
    let d := d.setGState g 3
    let d := d.setPgrp g { d.pgrp g with vtest := max 10 (min 200 (d.get PSM_DIAG_CFG.VTEST)), testP := 0,
                                         rampN := d.periods g (max 1 (min 100 (d.get PSM_DIAG_CFG.RAMP))),
                                         holdN := d.periods g (max 1 (min 100 (d.get PSM_DIAG_CFG.HOLD))) }
    d.eachCh g (fun n d => d.setPch n { d.pch n with under := decide (d.get PSM_CH_STAT.DIAG n < 6), e := [] })

/-- The test current of a channel, `uv` µV at its ISENSE pins, exceeds VTEST ÷ 1 Ω: its test ends, SHORTED (R147). -/
def Dev.loadtestAbort (d : Dev) (n : Nat) (uv : Int) : Dev :=
  let c := d.pch n
  let x := d.pgrp (n / 8)
  if d.gState (n / 8) = 3 ∧ c.under = true ∧ d.grpStandby (n / 8) = false ∧ 10 * x.vtest * d.get PSM_PG_SENSE.GI (n / 8) < uv.natAbs then
    (((d.setPch n { c with under := false, tA := 0, tB := 0 }).put PSM_CH_STAT.DIAG 5 n).put PSM_CH_RES.R 0xFFFFFFFF n).setCState n 4
  else d

/-- The class of a load from its average voltage and current in a common unit, R = V ÷ I; `op` is VTEST ÷ 100 Ω in that unit (R147). -/
def loadClass (v i : Int) (op : Nat) : Nat :=
  let a := i.natAbs
  let r : Int := if i < 0 then -v else v
  if a < op ∨ 100 * (a : Int) < r then 4
  else if r < a then 5
  else if r < 2 * (a : Int) then 2
  else if r ≤ 32 * (a : Int) then 1 else 3

/-- The load in mΩ as reported. -/
def loadMilliohm (v i : Int) (op : Nat) : Nat :=
  if loadClass v i op = 4 then 0xFFFFFFFF
  else (rhe (1000 * (if i < 0 then -v else v)) (max 1 i.natAbs)).toNat

/-- The pin averages of a load test in µV (legs, ISENSE) as volts and amperes, with the scaling of the group: leg voltage × KV, current ÷ GI,
and VTEST ÷ 100 Ω, all in units of 1 ÷ (256 × GI) µV and µA (R147). -/
def Dev.loadScale (d : Dev) (g : Nat) (m : Int × Int) : Int × Int × Nat :=
  let gi := d.get PSM_PG_SENSE.GI g
  (m.1 * (d.get PSM_PG_SENSE.KV g * gi : Nat), m.2 * 256000, 25600 * (d.pgrp g).vtest * gi)

/-- A channel passes diagnosis: READY; a latch that it passes is cleared (R148). -/
def Dev.chanReady (d : Dev) (n : Nat) : Dev := (d.setCState n 1).put PSM_CH_STAT.LATCH 0 n

/-- A channel takes the result of its load test: the class, the load, and its state (R147). -/
def Dev.loadResult (d : Dev) (n : Nat) (m : Int × Int × Nat) : Dev :=
  let c := d.pch n
  if !c.under then d else
  let r := loadClass m.1 m.2.1 m.2.2
  let d := ((d.setPch n { c with under := false, tA := 0, tB := 0 }).put PSM_CH_STAT.DIAG r n).put PSM_CH_RES.R (loadMilliohm m.1 m.2.1 m.2.2) n
  if r = 5 ∨ (r = 4 ∧ !d.is PSM_CH_CFG.OPEN_PLAY n) then d.setCState n 4 else d.chanReady n

/-- The load test is complete, with the test voltage back at 0: channels classified from their pin averages in µV over the hold, the group
in RUN (R146, R147). -/
def Dev.loadtestDone (d : Dev) (g : Nat) (meas : List (Int × Int)) : Dev :=
  if d.gState g ≠ 3 ∨ d.grpStandby g = true ∨ (d.pgrp g).testP < (d.pgrp g).testLen then d
  else
    let o := d
    let d := (forN 8 (fun k d => d.loadResult (8 * g + k) (o.loadScale g (nth (0, 0) meas k))) d).setGState g 4
    if (List.range 8).any (fun k => d.get PSM_CH_STAT.DIAG (8 * g + k) != 1) then d.raise (FS.PSM_DIAG + g) else d

/-- The stop ramp begins, over `ms` milliseconds (R146). -/
def Dev.stopRamp (d : Dev) (g ms : Nat) : Dev :=
  if d.gState g ≠ 4 then d
  else
    let np := d.periods g ms
    let d := d.setGState g 5
    let d := d.setPgrp g { d.pgrp g with stopP := np + 1, stopN := np }
    d.eachCh g (fun n d => d.setPch n { d.pch n with entering := false })

/-- STOP written: 10 ms (R146). -/
def Dev.psmStop (d : Dev) (g : Nat) : Dev := d.stopRamp g 10

/-- Every group in RUN stops over RAMP ms: planned restart step 1, or REALIGN (R33, R39, R146). -/
def Dev.psmStopAll (d : Dev) : Dev :=
  forN 4 (fun g d => d.stopRamp g (max 1 (min 1000 (d.get SYS_SWAP_CTRL.RAMP)))) d

/-- The stop ramp is complete: OFF, the zero state for one carrier period, then PSEN_Gx low (R146). -/
def Dev.stopDone (d : Dev) (g : Nat) : Dev :=
  if d.gState g = 5 ∧ (d.pgrp g).stopP = 0 then
    let d := (d.setGState g 0).put PSM_PG_STAT.DEEP 0 g
    let d := d.setPgrp g { d.pgrp g with psenOff := 2, clkLost := false }
    d.chansOff g
  else d

/-- Is a diagnosis of the group in progress? -/
def Dev.diagnosing (d : Dev) (g : Nat) : Bool := d.gState g == 1 || d.gState g == 2 || d.gState g == 3

/-- A group goes OFF or to FAULT at once: zero state, PSEN_Gx low (R146, R157, R325). -/
def Dev.groupDown (d : Dev) (g st : Nat) : Dev :=
  let d := if d.diagnosing g then d.diagNone g else d
  let d := ((d.setGState g st).put PSM_PG_STAT.DEEP 0 g).setPsen g false
  (d.setPgrp g { d.pgrp g with clkLost := false, startReq := false }).chansOff g

/-- PSFLT_N_Gx has been low for 200 ns, or (`low` false) it is high again, which no row of its own tells (DESIGN CHOICE, log entry 128). In
OFF only the sticky bit is set (R146, R157, R306). -/
def Dev.psfltAssert (d : Dev) (g : Nat) (low : Bool) : Dev :=
  let d := d.setPgrp g { d.pgrp g with flt := low }
  if !low then d else
  let d := d.put PSM_PG_STAT.PSFLT 1 g
  if d.gState g = 0 then d else (d.groupDown g 6).raise (FS.PSM_PSFLT + g)

/-- The DLL of a group has left RUN: the sticky bit is set in every state (R146, R157). A group in STOPPING, of which the rules do not speak,
takes the effect of RUN (DESIGN CHOICE, log entry 145). -/
def Dev.psmDllLost (d : Dev) (g : Nat) : Dev :=
  let d := d.put PSM_PG_STAT.CLK 1 g
  if d.diagnosing g then (d.groupDown g 0).raise FS.PSM_CLK
  else if d.gState g = 4 ∨ d.gState g = 5 then (d.setPgrp g { d.pgrp g with clkLost := true }).raise FS.PSM_CLK
  else d

/-! ### Current limit (R152, R153) -/

/-- The edges of a leg that is high for `t` taps, in taps from the start of a period of `p` taps that begins at `base`; none where it
stays low (R142). -/
def legEdgesFrom (p : Nat) (base : Int) (t : Nat) : List Int :=
  if t = 0 then [] else [base + (p / 2 : Nat) + (legEdges t).1, base + (p / 2 : Nat) + (legEdges t).2]

/-- Is the comparator of a channel blanked: BLANK ns after every edge of its legs, in this period or the one before, the fall at a trip
among them? Instants are held at the nominal tap, 39.736 ps, here in 10^−6 tap (R145). -/
def Dev.blanked (d : Dev) (n : Nat) : Bool :=
  let c := d.pch n
  let x := d.pgrp (n / 8)
  let p := carP (d.get PSM_PG_CFG.CAR (n / 8))
  let ns := min 200 (d.get PSM_CH_CFG.BLANK n)
  let now : Int := (100663296 * (d.tclk - x.startAt) : Nat)
  let trim := d.psmTrim (n / 8)
  let es := legEdgesFrom p trim c.tA ++ legEdgesFrom p trim c.tB ++ legEdgesFrom p (trim - p) c.pA ++ legEdgesFrom p (trim - p) c.pB
  es.any (fun e => decide (e * 1000000 ≤ now ∧ now < e * 1000000 + (25165824 * ns : Nat)))
    || (c.trips.take 1).any (fun t => decide (4 * (d.tclk - t) < ns))

/-- Does the comparator of a channel trip at `isns` mV: above ILIM, 0 taken as 1, and not blanked (R145)? -/
def Dev.tripsAt (d : Dev) (n : Nat) (isns : Int) : Bool := decide (max 1 (d.get PSM_CH_CFG.ILIM n) < isns.natAbs) && !d.blanked n

/-- A leg voltage in units of 10 mV from the pin in µV, half to even (R153). -/
def Dev.legVolts (d : Dev) (g uv : Nat) : Nat := min 65535 (rhe (uv * d.get PSM_PG_SENSE.KV g : Nat) 2560000).toNat

/-- The comparator of a channel sees `isns` mV; the leg voltages at the pins are in µV, all as sampled then. A trip in PLAY, or in the
period in which the channel goes to sleep, puts both legs to the zero state, and the fourth within 1 ms latches the channel (R145, R152,
R153, R157). -/
def Dev.ilimTrip (d : Dev) (n : Nat) (isns : Int) (va vb : Nat) : Dev :=
  if !d.tripsAt n isns then d else
  let c := d.pch n
  let d := d.inc PSM_CH_STAT.TRIPS n
  if d.cState n = 2 ∨ (d.cState n = 3 ∧ c.sleepNow = true) then
    let recent := c.trips.filter (fun t => decide (d.tclk ≤ t + 250000))
    let d := d.setPch n { c with tripped := true, tA := 0, tB := 0, trips := (d.tclk :: recent).take 4 }
    let d := d.raiseOnce FS.PSM_ILIM
    if 3 ≤ recent.length then
      let d := ((d.setCState n 5).put PSM_CH_STAT.LATCH 1 n).setPch n { d.pch n with trips := [] }
      let d := (d.put PSM_SHORT_REC0.ISNS (unsW 16 isns) n).put PSM_SHORT_REC0.VG (d.get PSM_PG_VBUS.V (n / 8)) n
      let d := (d.put PSM_SHORT_REC1.VSA (d.legVolts (n / 8) va) n).put PSM_SHORT_REC1.VSB (d.legVolts (n / 8) vb) n
      let d := d.put PSM_SHORT_BLK.BLK (c.blk % 2 ^ 32) n
      d.raise (FS.PSM_SHORT + n)
    else d
  else d

/-- LATCH written 1: the channel moves from LATCHED to OFF (R153). -/
def Dev.latchClear (d : Dev) (n : Nat) : Dev :=
  let d := d.put PSM_CH_STAT.LATCH 0 n
  if d.cState n = 5 then (d.setCState n 0).zeroState n else d

/-! ### Registers and resets -/

/-- Writes of PSM registers. -/
def Dev.psmWrite (d : Dev) (r : Reg) (i j : Nat) (w : Word) : Dev :=
  if r == PSM_PG_CTRL then
    let d := if fget w 0 0 == 1 then d.psmStart i else d
    if fget w 1 1 == 1 then d.psmStop i else d
  else if r == PSM_CH_STAT then (if fget w 31 31 == 1 then d.latchClear i else d)
  else d.store r w i j

/-- BLOCK reset of PSM (R157): every group OFF; `o` is the device before the registers were reset. -/
def Dev.psmBlockReset (d : Dev) : Dev :=
  let d := forN 4 (fun g d => (d.setPgrp g { flt := (d.pgrp g).flt }).chansOff g) d
  { d with psm := { d.psm with ch := d.psm.ch.map (fun kv => (kv.1, { kv.2 with hist := [], e := [], fadeP := 0 })) } }

/-- GRAVE condition: every group OFF, and a START that waits is ignored with every later one (R325). -/
def Dev.psmGrave (d : Dev) : Dev :=
  forN 4 (fun g d => if d.gState g = 0 then d.setPgrp g { d.pgrp g with startReq := false } else d.groupDown g 0) d

end Sys2Proof.Machine
end

