-- ==== Sys2Proof/Machine/Cycle.lean ====
section
/-! DEFINITION. Block numbers and the instants of the boundaries on the block time base (R36, R37, R41), and the arming
of the alarms that the block-cycle sequencer and the serial-port groups own (R259). -/

namespace Sys2Proof.Machine

/-- The block time base. -/
def Dev.blkTb (d : Dev) : Nat := d.get SYS_BLK_CFG.TB

/-- Blocks in one second, Fi ÷ Nb. -/
def Dev.bps (d : Dev) : Nat := d.fi / d.nb

/-- B(k) in units of 1/16 ns, times the number of blocks in a second (R36). -/
def Dev.instNum (d : Dev) (k : Nat) : Nat := k * 16000000000 + d.get SYS_BLK_PHASE.PHASE * d.bps % 16000000000

/-- B(k) in whole ns, rounded up. -/
def Dev.instNs (d : Dev) (k : Nat) : Nat := cdiv (d.instNum k) (16 * d.bps)

/-- The block time base in 1/16 ns. -/
def Dev.now16 (d : Dev) : Nat := (d.tb16 d.blkTb).toNat

/-- The first block that begins at or after an instant in 1/16 ns. -/
def Dev.blockFrom (d : Dev) (t16 : Nat) : Nat :=
  let ph := d.get SYS_BLK_PHASE.PHASE * d.bps % 16000000000
  cdiv (t16 * d.bps - ph) 16000000000

/-- B(k) in 1/16 ns, rounded up: the instant that an owned alarm passes to its owner (R40). -/
def Dev.inst16 (d : Dev) (k : Nat) : Nat := cdiv (d.instNum k) d.bps

/-- The signed boundary error in 1/16 ns of a boundary k at the instant `t16`; the part of B(k) below 1/16 ns is rounded half to even
(DESIGN CHOICE, log entry 118) (R41). -/
def Dev.boundaryErr (d : Dev) (k t16 : Nat) : Int := rhe ((t16 * d.bps : Nat) - (d.instNum k : Int)) d.bps

/-- Periods of the block loop's MCLK in one block: Nb × (FOUT ÷ Fi), FOUT being its nominal frequency in 1/64 Hz (R40). -/
def Dev.blockMclk (d : Dev) : Nat := d.nb * (d.get RCU_LOOP_FOUT.FOUT (d.get SYS_BLK_CFG.LOOP) / (64 * d.fi))

/-- The block loop's nominal MCLK in 1/64 Hz. -/
def Dev.blockFout (d : Dev) : Nat := max 1 (d.get RCU_LOOP_FOUT.FOUT (d.get SYS_BLK_CFG.LOOP))

/-- B(FIRST) and one MCLK period, in 1/16 ns, rounded down: the latest instant of the first rising edge at or after B(FIRST) (R40). -/
def Dev.firstEnd (d : Dev) (k : Nat) : Nat := (d.instNum k * d.blockFout + 64 * 16000000000 * d.bps) / (d.bps * d.blockFout)

/-- The instant of the first boundary: the first rising edge of the MCLK at or after B(FIRST), `t16` where it stands as the alarm
matches, and no more than one MCLK period after B(FIRST) (R40). -/
def Dev.firstInst (d : Dev) (k t16 : Nat) : Nat := max (d.inst16 k) (min t16 (d.firstEnd k))

/-- The least time in ns in which the MCLK periods of a block can pass: a locked loop's MCLK is taken to lie within 0.1 % of its nominal
frequency on TCLK; any other has a DCO of no more than 720 MHz divided by MDIV (R40, R270; DESIGN CHOICE, log entry 139). -/
def Dev.leastBlockNs (d : Dev) : Nat :=
  let k := d.get SYS_BLK_CFG.LOOP
  if d.is RCU_LOOP_STAT.LOCK k then 1000000000 / d.bps - 1000000 / d.bps
  else d.blockMclk * max 1 (d.get RCU_LOOP_CTRL.MDIV k) * 1000 / 720

/-- ns of TCLK from the latest boundary; those of the tick in progress count. -/
def Dev.sinceBoundary (d : Dev) : Nat := 4 * (d.tclk - d.cyc.tick)

/-- A boundary cannot come yet: its MCLK periods cannot have passed (R40). -/
def Dev.tooSoon (d : Dev) : Bool := decide (d.sinceBoundary + 8 < d.leastBlockNs)

/-- An owner arms its alarm for B(k). -/
def Dev.armOwned (d : Dev) (a k : Nat) : Dev :=
  let t := d.inst16 k
  d.almArm a (t / 16000000000) (t % 16000000000 / 16) (t % 16)

/-- Arm the block-cycle alarm for the first boundary at least 1 ms ahead (R39). -/
def Dev.armCycle (d : Dev) : Dev :=
  let k := d.blockFrom (d.now16 + 16000000)
  let d := { d with cyc := { d.cyc with armK := k } }
  (d.put SYS_BLK_STATUS.STATE 3).armOwned (d.get SYS_BLK_CFG.ALARM) k

end Sys2Proof.Machine
end

