-- ==== Sys2Proof/Machine/Anchor.lean ====
section
/-! DEFINITION. The anchor instants of the alignment DLLs: which instants they are, the alignment in ALIGNING and the error in RUN (R285,
R287 to R289). -/

namespace Sys2Proof.Machine

/-- Has a DLL anchors: DLLs 0 to 7 only with ALIGN = 1 (R287). -/
def Dev.hasAnchors (d : Dev) (x : Nat) : Bool := !(decide (x < 8)) || d.is ALN_OUT_CFG.ALIGN x

/-- The time base on which a DLL's anchors lie (R285). -/
def Dev.anchorTb (d : Dev) (x : Nat) : Nat := if x < 8 then d.get ALN_OUT_CFG.TB x else d.blkTb

/-- Does every divider of a DLL make a whole number of periods in a block (R287)? -/
def Dev.wholeInBlock (d : Dev) (x : Nat) : Bool :=
  (d.dllDividers x).all (fun n => (d.loop (d.dllLoop x)).fout * d.nb % (64 * d.fi * max 1 n) == 0)

/-- Is the boundary of block k an anchor of a DLL 8 to 27: every one, or those whose number is a multiple of 10 ms ÷ Tb (R287)? -/
def Dev.anchorBlock (d : Dev) (x k : Nat) : Bool := d.wholeInBlock x || k % max 1 (d.fi / (100 * d.nb)) == 0

/-- The boundary within the present tick: its block and its instant in 1/16 ns. While the cycle runs it is one that the sequencer
produces, else an instant B(k) of R36 (R287). -/
def Dev.boundaryHere (d : Dev) : Option (Nat × Nat) :=
  let now := d.now16
  let (k, t) : Nat × Nat := if d.cycling then (d.cyc.k, d.cyc.at16.toNat) else (d.blockFrom now, d.inst16 (d.blockFrom now))
  if now < t + 64 ∧ t < now + 64 then some (k, t) else none

/-- The anchor of a DLL within the present tick, as its instant in ps times the loop's FOUT in 1/64 Hz: a whole multiple of 10 ms of the
output's time base plus OFS modulo the output period, or a block boundary (R285, R287). -/
def Dev.anchorHere (d : Dev) (x : Nat) : Option Nat :=
  let f := (d.loop (d.dllLoop x)).fout
  if x < 8 then
    let now := (d.tb (d.anchorTb x)).val * 1000 * f / 2 ^ 46
    let ofs := d.get ALN_OUT_OFS.OFS x * f % ((d.get ALN_OUT_CFG.DIVM1 x + 1) * 64000000000000)
    let t := cdiv (now - ofs) (10000000000 * f) * (10000000000 * f) + ofs
    if t < now + 4000 * f then some t else none
  else
    match d.boundaryHere with
    | some (k, t) => if d.anchorBlock x k then some (t * 125 * f / 2) else none
    | none => none

/-- ALIGNING meets an anchor at `a` (ps × FOUT) with the measured MCLK rising edge at `edge` (1/16 ns of the anchor's time base): the
measurement lies at least 2 µs before it and after the entry to ALIGNING, else the anchor is skipped. The tap is that of d = (anchor − edge)
mod T, halves to even, and the dividers are loaded so that their rising edge falls at the anchor (R288, R293). -/
def Dev.alignAt (d : Dev) (x a edge : Nat) : Dev :=
  let f := (d.loop (d.dllLoop x)).fout
  if 2 * a < 125 * edge * f + 4000000 * f ∨ !d.ranFor .align 2000 x then d
  else
    let tap := rhe ((2 * a - 125 * edge * f) % 128000000000000 * 1024 : Nat) 128000000000000 % 1024
    let d := (d.put ALN_DLL_STAT.TAP tap.toNat x).dllTo x 4
    let now := (d.tb (d.anchorTb x)).val * 1000 * f / 2 ^ 46
    { d with dll := tabPut {} d.dll x { edge := 4000 * d.tclk + (a - now) / max 1 f } }

/-- Without anchors the output starts at the first MCLK edge; its phase, and so its tap, is a free value (R287, R290). -/
def Dev.startFree (d : Dev) (x : Nat) : Dev :=
  let (k, d) := d.draw
  let d := (d.put ALN_DLL_STAT.TAP (Config.freeNat k) x).dllTo x 4
  { d with dll := tabPut {} d.dll x { edge := 4000 * d.tclk } }

/-- TRACK: an error of more than half a tap and at most 8 taps moves the tap one step towards zero error; `a` is the error in ps
times 1,024 FOUT (R289). -/
def Dev.trackStep (d : Dev) (x : Nat) (err : Int) : Dev :=
  let a := err.natAbs * 1024 * (d.loop (d.dllLoop x)).fout
  if d.is ALN_DLL_CTRL.TRACK x && decide (64000000000000 < 2 * a) && decide (a ≤ 8 * 64000000000000) then
    let t := d.get ALN_DLL_STAT.TAP x
    let s := tabGet {} d.dll x
    let d := d.put ALN_DLL_STAT.TAP ((if 0 < err then t + 1023 else t + 1) % 1024) x
    { d with dll := tabPut {} d.dll x { s with moves := if 0 < err then s.moves - 1 else s.moves + 1 } }
  else d

/-- The error of the rising edge at an anchor in RUN is reported, followed with TRACK, and held against LIMIT (R289). -/
def Dev.anchorError (d : Dev) (x : Nat) (err : Int) : Dev :=
  let d := (d.put ALN_DLL_ERR.ERR (unsW 16 (clampI (-32768) 32767 err)) x).trackStep x err
  let beyond := decide (max 100 (d.get ALN_CFG.LIMIT) < err.natAbs)
  let s := tabGet {} d.dll x
  let d := { d with dll := tabPut {} d.dll x { s with beyond := beyond } }
  let d := if beyond then d.put ALN_DLL_STAT.ERREV 1 x else d
  if beyond && !s.beyond then d.raise FS.ALN_ALIGN else d

/-- DLL_ANCHOR: an anchor instant, with the measured MCLK edge (1/16 ns) and the measured error of the rising edge (ps). Nothing happens
where no anchor of the DLL lies in this tick. Without anchors it is the first MCLK edge (R287 to R290). -/
def Dev.dllAnchor (d : Dev) (x edge : Nat) (err : Int) : Dev :=
  let st := d.dllState x
  if !d.hasAnchors x then (if st = 3 then d.startFree x else d)
  else
    match d.anchorHere x with
    | none => d
    | some a => if st = 3 then d.alignAt x a edge else if st = 4 then d.anchorError x err else d

end Sys2Proof.Machine
end

