-- ==== Sys2Proof/Machine/Sap.lean ====
section
/-! DEFINITION. The serial audio ports: frames, positions, slips, rates, groups and rejoin instants (R158 to R175). -/

namespace Sys2Proof.Machine

/-- A port's hidden state. -/
def Dev.port (d : Dev) (p : Nat) : SapSt := tabGet {} d.sap p

/-- Replace it. -/
def Dev.setPort (d : Dev) (p : Nat) (x : SapSt) : Dev := { d with sap := tabPut {} d.sap p x }

/-- A group's hidden state. -/
def Dev.sapGrp (d : Dev) (k : Nat) : SapGrp := tabGet {} d.sapG k

/-- Replace it. -/
def Dev.setSapGrp (d : Dev) (k : Nat) (x : SapGrp) : Dev := { d with sapG := tabPut {} d.sapG k x }

/-- Port state: 0 OFF, 1 ATTACHED, 2 DETACHED, 3 PENDING, 4 RATE_MISMATCH (R168). -/
def Dev.pState (d : Dev) (p : Nat) : Nat := d.get SAP_PSTAT.STATE p

/-- The port's group. -/
def Dev.pGroup (d : Dev) (p : Nat) : Nat := d.get SAP_PCFG.GROUP p

/-- Is a port synchronous? -/
def Dev.pSync (d : Dev) (p : Nat) : Bool := d.is SAP_PCFG.SYNC p

/-- Is a port enabled? -/
def Dev.pOn (d : Dev) (p : Nat) : Bool := d.is SAP_PCFG.EN p

/-- A port enters a state; ATT of its group follows. -/
def Dev.setPState (d : Dev) (p st : Nat) : Dev :=
  let d := d.put SAP_PSTAT.STATE st p
  let g := d.pGroup p
  if st = 1 then d.setBit SAP_GRP_STAT.ATT p g
  else (d.clrBit SAP_GRP_STAT.ATT p g).setPort p { d.port p with marked := true }

/-- Sources of the port's enabled input slots. -/
def Dev.pSources (d : Dev) (p : Nat) : List Nat :=
  (List.range 32).filterMap (fun s => if d.is SAP_SLOT_IN.EN p s then some (d.get SAP_SLOT_IN.CHAN p s) else none)

/-- Output channels of the port's enabled output slots. -/
def Dev.pOutputs (d : Dev) (p : Nat) : List Nat :=
  (List.range 32).filterMap (fun s => if d.is SAP_SLOT_OUT.EN p s then some (d.get SAP_SLOT_OUT.CHAN p s) else none)

/-! ### Rejoin instants (R166, R167) -/

/-- RJ; 0 is treated as 1. -/
def Dev.rj (d : Dev) (k : Nat) : Nat := max 1 (d.get SAP_GRP_CTRL.RJ k)

/-- The first rejoin instant at or after block b whose boundary still lies ahead. -/
def Dev.rejoinFrom (d : Dev) (k b : Nat) : Nat :=
  let b := max b (d.blockFrom (d.now16 + 1))
  ((List.range 512).find? (fun i => (b + i) % 2 ^ 32 % d.rj k == 0)).getD 0 + b

/-- Arm the group's alarm for the rejoin instant that it needs next: its start, or its PENDING members. An instant that is armed stays,
whatever RJ has become since (R175). -/
def Dev.grpArm (d : Dev) (k : Nat) : Dev :=
  if !d.running then d
  else
    let x := d.sapGrp k
    let members := (List.range 16).filter (fun p => d.pOn p && d.bit SAP_GRP_CFG.MEMBERS p k && d.pState p == 3)
    let wants := (if d.get SAP_GRP_STAT.STATE k = 1 then [x.startMin] else []) ++ members.map (fun p => (d.port p).pendAt + 2)
    match wants with
    | [] => d
    | w :: ws =>
      let w := ws.foldl min w
      let al := d.get SAP_GRP_CFG.ALARM k
      let m := if d.armed al && decide (w ≤ x.armK) && decide (d.cyc.k < x.armK) then x.armK else d.rejoinFrom k w
      (d.setSapGrp k { x with armK := m }).armOwned (d.get SAP_GRP_CFG.ALARM k) m

/-- A port enters PENDING at a block. -/
def Dev.toPending (d : Dev) (p : Nat) : Dev :=
  let d := d.setPState p 3
  (d.setPort p { d.port p with pendAt := d.cyc.k }).grpArm (d.pGroup p)

/-- The tolerance in ppm (R165). -/
def Dev.rateTol (d : Dev) (p : Nat) : Nat := max 10 (min 50000 (d.get SAP_PCTRL.RATE_TOL p))

/-- Is a rate within tolerance of the reference? -/
def Dev.rateWithin (d : Dev) (p rate : Nat) : Bool :=
  let ref := d.get SAP_RREF.RREF p
  decide (((rate : Int) - ref).natAbs * 1000000 ≤ d.rateTol p * ref)

/-- Does the port see frames at its rate: a master that is not gated, a slave with a frame clock and its latest gate
within tolerance (R168)? -/
def Dev.rateGood (d : Dev) (p : Nat) : Bool :=
  if d.is SAP_PCFG.MASTER p then d.dllState (8 + p) == 4
  else (d.port p).present && d.rateWithin p (d.get SAP_RATE.RATE p)

/-- Is a port a member of a group that shares its leader's frame clock (R167)? -/
def Dev.sharesFrame (d : Dev) (p : Nat) : Bool := d.is SAP_GRP_CFG.METHOD (d.pGroup p) && d.bit SAP_GRP_CFG.MEMBERS p (d.pGroup p)

/-- φ in 1/16 ns: 0 for a master, else the offset of the latest frame modulo the frame period, centred (R162). In a group with a shared frame
clock the leader's frame at which the port attaches is sample position 0, also more than half a period after the boundary (R167; DESIGN
CHOICE, log entry 146). -/
def Dev.phaseOf (d : Dev) (p : Nat) : Int :=
  let x := (d.port p).lastOfs * d.fi % 16000000000
  if d.sharesFrame p then rhe x d.fi
  else if d.is SAP_PCFG.MASTER p then 0
  else rhe (if 8000000000 ≤ x then x - 16000000000 else x) d.fi

/-- Does the port mute its channels and slots in its present state (R168)? A restart out of RATE_MISMATCH keeps them muted until it finds the
rate within tolerance, whatever SLIP_ACT says: R165 and the text under R168's table differ (DESIGN CHOICE, log entry 147). -/
def Dev.pMuted (d : Dev) (p : Nat) : Bool :=
  match d.pState p with
  | 1 => false
  | 2 => d.is SAP_PCTRL.SLIP_ACT p
  | 3 => d.is SAP_PCTRL.SLIP_ACT p || (d.port p).mismatch
  | _ => true

/-- A port attaches at block m (R168, R171). Where φ is negative, the frame of sample position 0 has started before the
boundary: it counts for block m, and its samples are the 0 from which the fade rises (R162). -/
def Dev.attach (d : Dev) (p m : Nat) : Dev :=
  let was := if d.pMuted p then some (d.port p).rampOut else none
  let d := d.setPState p 1
  let d := d.setPort p { d.port p with attachK := m, fadeIn := 0, rampOut := 0, marked := true, needRef := !d.pSync p, refAt := d.tclk,
                                       rx := 0, early := [], closing := 0, mismatch := false, before := was }
  if !d.pSync p then d
  else
    let ph := d.phaseOf p
    let d := d.put SAP_PHASE.PHASE (unsW 32 ph) p
    if 0 ≤ ph then d
    else if d.cyc.k = m then d.setPort p { d.port p with rx := 1, fadeIn := 1 }
    else d.setPort p { d.port p with early := [(0, [])] }

/-- A port enters RATE_MISMATCH; with AUTO_RATE the restart that it arms takes it to PENDING at once, muted as in RATE_MISMATCH (R165, R168;
DESIGN CHOICE, log entry 147). -/
def Dev.toMismatch (d : Dev) (p : Nat) : Dev :=
  let d := (d.setPState p 4).setPort p { d.port p with mismatch := true }
  if d.is SAP_PCTRL.AUTO_RATE p then d.toPending p else d

/-- One member at a rejoin instant: attach, or RATE_MISMATCH; a master gated by its DLL goes on waiting (R168,
R175). -/
def Dev.joinMember (d : Dev) (p m : Nat) (start : Bool) : Dev :=
  if !d.pSync p || d.rateGood p then d.attach p m
  else if start then (d.toMismatch p).raise (FS.SAP_RATE + p)
  else if d.is SAP_PCFG.MASTER p then d
  else d.toMismatch p

/-- A rejoin instant of a group takes effect at block m (R166, R167, R168). -/
def Dev.rejoin (d : Dev) (k m : Nat) : Dev :=
  let x := d.sapGrp k
  let start := d.get SAP_GRP_STAT.STATE k == 1 && decide (x.startMin ≤ m)
  let d := d.setSapGrp k { x with due := none }
  let d := if start then d.put SAP_GRP_STAT.STATE 2 k else d
  let d := forN 16 (fun p d =>
    if d.pOn p && d.bit SAP_GRP_CFG.MEMBERS p k then
      if start && d.pState p == 0 then d.joinMember p m true
      else if d.pState p == 3 && decide ((d.port p).pendAt + 2 ≤ m) then d.joinMember p m false
      else d
    else d) d
  d.grpArm k

/-- The group's alarm matches: the native method acts at once, the shared frame clock at the leader's next frame
(R166, R167). -/
def Dev.grpAlarm (d : Dev) (k : Nat) : Dev :=
  let x := d.sapGrp k
  if d.is SAP_GRP_CFG.METHOD k then d.setSapGrp k { x with due := some x.armK } else d.rejoin k x.armK

/-- Group START (R166): the first rejoin instant at least 2 blocks ahead; ignored unless the group is stopped; held
while the cycle is not RUNNING (R175). -/
def Dev.grpStart (d : Dev) (k : Nat) : Dev :=
  if d.get SAP_GRP_STAT.STATE k ≠ 0 then d
  else ((d.put SAP_GRP_STAT.STATE 1 k).setSapGrp k { d.sapGrp k with startMin := d.cyc.k + 2, held := !d.running }).grpArm k

/-- The groups at the first boundary: AUTO groups start there, held ones from two blocks later (R166, R175). -/
def Dev.sapFirst (d : Dev) : Dev :=
  forN 16 (fun k d =>
    if d.is SAP_GRP_CFG.AUTO k && d.get SAP_GRP_CFG.MEMBERS k != 0 then
      let d := (d.put SAP_GRP_STAT.STATE 1 k).setSapGrp k { d.sapGrp k with startMin := d.cyc.k, armK := d.cyc.k }
      d.grpAlarm k
    else if d.get SAP_GRP_STAT.STATE k = 1 then (d.setSapGrp k { d.sapGrp k with startMin := d.cyc.k + 2, held := false }).grpArm k
    else d) d

/-- A port goes OFF; a master's clocks stop low at the end of the frame in progress (R168). -/
def Dev.portOff (d : Dev) (p : Nat) : Dev :=
  if d.pState p = 0 then d
  else
    let d := d.setPState p 0
    d.setPort p { d.port p with rampOut := 0, fadeIn := 0, early := [], mismatch := false, closing := d.tclk + 1 }

/-- Group STOP (R168). -/
def Dev.grpStop (d : Dev) (k : Nat) : Dev :=
  let d := forN 16 (fun p d => if d.bit SAP_GRP_CFG.MEMBERS p k && d.pOn p then d.portOff p else d) d
  let d := if d.get SAP_GRP_CFG.MEMBERS k != 0 then d.almDisarm (d.get SAP_GRP_CFG.ALARM k) else d
  (d.put SAP_GRP_STAT.STATE 0 k).setSapGrp k {}

/-- The block cycle leaves RUNNING: all ports OFF, all groups stopped; a START written since the cycle left RUNNING stays held (R168,
R175). -/
def Dev.sapStop (d : Dev) : Dev :=
  forN 16 (fun k d =>
    let held := (d.sapGrp k).held
    let d := d.grpStop k
    if held then (d.put SAP_GRP_STAT.STATE 1 k).setSapGrp k { held := true } else d) (forN 16 (fun p d => d.portOff p) d)

/-- RESTART of a port (R168, R175). -/
def Dev.sapRestart (d : Dev) (p : Nat) : Dev :=
  let st := d.pState p
  if st = 1 ∨ st = 2 ∨ st = 4 then
    let mute := st == 1 && d.is SAP_PCTRL.SLIP_ACT p
    let d := if mute then d.setPort p { d.port p with rampOut := d.nb } else d
    d.toPending p
  else d

/-! ### Slips and rates (R164, R165, R169, R170) -/

/-- A slip of an ATTACHED port (R168): DETACHED, or PENDING with AUTO_SLIP. `event` is false for a DLL unlock. -/
def Dev.slip (d : Dev) (p : Nat) (event : Bool) : Dev :=
  if d.pState p ≠ 1 then d
  else
    let d := (d.setPState p 2).put SAP_PSTAT.SLIP 1 p
    let d := d.setPort p { d.port p with rampOut := if d.is SAP_PCTRL.SLIP_ACT p then d.nb else 0 }
    let d := if d.is SAP_PCTRL.AUTO_SLIP p then d.toPending p else d
    if event then d.raise (FS.SAP_SLIP + p) else d

/-- A rate change is declared (R165): the channels of an asynchronous port retrack, or go IDLE at a clock stop; a
synchronous port enters RATE_MISMATCH, from PENDING too where the slip of the same frame brought it there (R175). Inputs that are muted
already stay as they are. -/
def Dev.rateChange (d : Dev) (p : Nat) (stopped : Bool) : Dev :=
  let d := d.put SAP_PSTAT.RCHG 1 p
  let x := d.port p
  let st := d.pState p
  let d := d.setPort p { x with rateAt := if st = 1 then d.tclk + 1 else 0 }
  let d :=
    if d.pSync p then
      if st = 1 ∨ st = 2 ∨ (st = 3 ∧ x.errFrame = true) then (d.setPort p { d.port p with rampOut := if d.pMuted p then x.rampOut else d.nb }).toMismatch p else d
    else
      let d := d.setPort p { d.port p with needRef := true, refAt := d.tclk }
      if stopped then
        forN 256 (fun c d =>
          let ch := d.get ASRC_CFG.CHAN c
          match d.convDir c with
          | 1 => if (d.pSources p).contains ch then d.convIdle c else d
          | 2 => if (d.pOutputs p).contains ch then d.convIdle c else d
          | _ => d) d
      else d.convRateChange (d.pSources p) (d.pOutputs p)
  d.raise (FS.SAP_RATE + p)

/-- Did a gate of 1,024 frames that ends now, at a rate in 1/16 Hz, begin at or after a tick (R164)? -/
def Dev.gateWhole (d : Dev) (rate at_ : Nat) : Bool := decide (at_ + 4096000000000 / max 1 rate ≤ d.tclk)

/-- A gate of 1,024 frames ends with a rate in 1/16 Hz. An asynchronous port takes its reference from the first one that is complete
since it attached or since its rate changed (R164, R165). -/
def Dev.gateDone (d : Dev) (p rate : Nat) : Dev :=
  if !d.pOn p || d.is SAP_PCFG.MASTER p then d
  else
    let d := d.put SAP_RATE.RATE rate p
    let x := d.port p
    let d := d.setPort p { x with present := true }
    if !d.pSync p && (x.needRef || d.get SAP_RREF.RREF p == 0) then
      if !x.needRef || !d.gateWhole rate x.refAt then d
      else (d.put SAP_RREF.RREF rate p).setPort p { x with present := true, needRef := false, bad := 0 }
    else if d.rateWithin p rate then d.setPort p { x with present := true, bad := 0 }
    else
      let d := d.setPort p { x with present := true, bad := x.bad + 1 }
      if x.bad = 1 then d.rateChange p false else d

/-- No frame start for 4 expected frame periods (R165). -/
def Dev.clockStop (d : Dev) (p : Nat) : Dev :=
  if !d.pOn p || d.is SAP_PCFG.MASTER p || d.get SAP_RREF.RREF p == 0 then d
  else ((d.setPort p { d.port p with present := false }).put SAP_PSTAT.CLKLOSS 1 p).rateChange p true

/-! ### Frames (R158, R159, R162, R167, R169) -/

/-- WORD in bits. -/
def Dev.wordBits (d : Dev) (p : Nat) : Nat := 16 + 8 * min 2 (d.get SAP_PCFG.WORD p)

/-- The 32 bits of a received slot, first bit highest, as a Q1.31 sample: the word of WORD bits that starts at the first bit of the
slot, and zeros below it (R158, R159). -/
def dinSample (bits : Nat) (w : Word) : Int := sgn32 (w.toNat / 2 ^ (32 - bits) * 2 ^ (32 - bits))

/-- A sample as the 32 bits of a transmitted slot: the word of WORD bits, MSB first, and zeros after it (R158, R159). -/
def doutWord (bits : Nat) (z : Int) : Word :=
  BitVec.ofInt 32 (clampI (-(2 ^ (bits - 1))) (2 ^ (bits - 1) - 1) (rhe z (2 ^ (32 - bits))) * 2 ^ (32 - bits))

/-- Does a frame start on the falling edge of FSYNC (R158)? -/
def Dev.frameFalls (d : Dev) (p : Nat) : Bool := (d.get SAP_PCFG.FMT p == 1) != d.is SAP_PCFG.FSPOL p

/-- The shape of a port's frame (R158): the BCLK periods by which data follows the frame start, the level of FSYNC from the
frame start, the BCLK periods that it keeps it, and whether data and FSYNC are launched on rising BCLK edges and captured on
falling ones. -/
def Dev.frameShape (d : Dev) (p : Nat) : List Nat :=
  let slots := max 1 (d.get SAP_PCFG.SLOTS p)
  let (delay, len) := match d.get SAP_PCFG.FMT p with
    | 0 => (d.get SAP_PCFG.DELAY p, if d.is SAP_PCFG.FSLONG p then 32 else 1)
    | 1 => (1, 16 * slots)
    | _ => (0, 16 * slots)
  [delay, b2n (!d.frameFalls p), len, d.get SAP_PCFG.BCPOL p]

/-- The slots of a frame become samples at position i of the block in capture. -/
def Dev.takeSlots (d : Dev) (p i : Nat) (ws : List Word) : Dev :=
  let x := d.port p
  let nb := d.nb
  let muted := d.pMuted p
  let (num, den) : Nat × Nat :=
    if muted then (x.rampOut - 1, nb) else if d.pState p = 1 then (x.fadeIn, 128) else (1, 1)
  let d := forN 32 (fun s d =>
    if d.is SAP_SLOT_IN.EN p s && decide (s < d.get SAP_PCFG.SLOTS p) then
      d.capture (d.get SAP_SLOT_IN.CHAN p s) i (rampSample (dinSample (d.wordBits p) (nth 0 ws s)) num den)
    else d) d
  d.setPort p { x with rampOut := x.rampOut - 1, fadeIn := min 128 (x.fadeIn + 1) }

/-- The slots of a frame of an asynchronous port, which began at `t`, reach the converters of its input channels (R162). -/
def Dev.feedSlots (d : Dev) (p : Nat) (t : Int) (ws : List Word) : Dev :=
  forN 32 (fun s d =>
    if d.is SAP_SLOT_IN.EN p s && decide (s < d.get SAP_PCFG.SLOTS p) then
      d.convFeed (d.get SAP_SLOT_IN.CHAN p s) t (dinSample (d.wordBits p) (nth 0 ws s))
    else d) d

/-- The converted samples of an asynchronous port's input channels in the sealed block n, muted and faded as the port's state says:
the fade in at an attach, the ramp out of MUTE, 0 in OFF (R168, R171); a port that attaches at the next block is still as before. -/
def Dev.scaleSlots (d : Dev) (p n : Nat) : Dev :=
  let x := d.port p
  let nb := d.nb
  let ahead := d.pState p == 1 && decide (n < x.attachK)
  let fade := d.pState p == 1 && !ahead
  let ramp := if ahead then x.before else if d.pMuted p then some x.rampOut else none
  let d := (d.pSources p).foldl (fun d c =>
    let zs := (List.range nb).map (fun i =>
      let z := sampAt d.aud.sealed c i
      match ramp with
      | some r => rampSample z (r - 1 - i) nb
      | none => if fade then rampSample z (x.fadeIn + i) 128 else z)
    { d with aud := { d.aud with sealed := sampPutAll d.aud.sealed c 0 zs } }) d
  d.setPort p { x with rampOut := x.rampOut - nb, fadeIn := if fade then min 128 (x.fadeIn + nb) else x.fadeIn }

/-- The frame that the port sends at position i of the output block in `buf`, `ofs` after the latest boundary (R159, R171). -/
def Dev.sendSlots (d : Dev) (p i : Nat) (buf : Tab Word) (ofs : Int) : Dev :=
  let n := max 1 (d.get SAP_PCFG.SLOTS p)
  let muted := d.pMuted p
  let ws := (List.range n).map (fun s =>
    let c := d.get SAP_SLOT_OUT.CHAN p s
    if muted || !d.is SAP_SLOT_OUT.EN p s then 0
    else if d.pSync p then doutWord (d.wordBits p) (if i < d.nb then sampAt buf c i else 0)
    else
      match d.convOf 2 c with
      | some cv => doutWord (d.wordBits p) (d.convOut cv ofs)
      | none => 0)
  if !d.is SAP_PCFG.PAIRED p || bitOf d.pair.ownS p == 1 then d.emit (.slots p (d.frameShape p) ws) else d

/-- The sample position of a frame that starts `ofs` after the boundary (R162). -/
def Dev.framePos (d : Dev) (p : Nat) (ofs : Int) : Int :=
  (2 * (ofs - sgn32 (d.get SAP_PHASE.PHASE p)) * d.fi + 16000000000) / 32000000000

/-- Does the port take part in frames: in any state but OFF, while the cycle generates boundaries? -/
def Dev.pLive (d : Dev) (p : Nat) : Bool := d.pState p != 0 && d.cycling

/-- A framing error at a frame start: FRERR and a slip. After the rate change of the same instant has taken an ATTACHED port to RATE_MISMATCH,
or on to PENDING, SLIP is set and SAP.SLIP raised beside it; in RATE_MISMATCH no other counts (R169, R175). -/
def Dev.framingError (d : Dev) (p : Nat) : Dev :=
  let d := d.setPort p { d.port p with errFrame := true }
  if d.pSync p && (d.port p).mismatch && (d.port p).rateAt == d.tclk + 1 then
    ((d.put SAP_PSTAT.FRERR 1 p).put SAP_PSTAT.SLIP 1 p).raise (FS.SAP_SLIP + p)
  else if d.pState p ≠ 4 then (d.put SAP_PSTAT.FRERR 1 p).slip p true
  else d

/-- A frame of a port: `bclk` BCLK periods after the previous one, `ofs` (1/16 ns) after the latest boundary,
with the 32 bits of each of its input slots (R162, R169). -/
def Dev.frameAt (d : Dev) (p bclk : Nat) (ofs : Int) (ws : List Word) : Dev :=
  let d := d.setPort p { d.port p with errFrame := false, closing := 0 }
  let d := if d.pSync p then d else d.feedSlots p (d.cyc.at16 + ofs) ws
  if !d.pLive p then d
  else
    let d := if bclk ≠ 32 * max 1 (d.get SAP_PCFG.SLOTS p) then d.framingError p else d
    if !d.pSync p then d.sendSlots p 0 [] ofs
    else
      let x := d.port p
      let i := if d.pState p = 1 then d.framePos p ofs else (x.rx : Int)
      if i < 0 then d
      else if (d.nb : Int) ≤ i ∧ d.pState p = 1 then
        let d := d.setPort p { x with early := x.early ++ [(i.toNat - d.nb, ws)] }
        d.sendSlots p (i.toNat - d.nb) d.aud.staged ofs
      else
        let d := d.setPort p { x with rx := x.rx + 1 }
        let d := if x.rx < d.nb then d.takeSlots p (i.toNat % 32) ws else d
        d.sendSlots p (i.toNat % 32) d.aud.emit ofs

/-- The leader of the port's group, where the group shares its frame clock and another port leads (R167). -/
def Dev.leaderOf (d : Dev) (p : Nat) : Option Nat :=
  let k := d.pGroup p
  let l := d.get SAP_GRP_CFG.LEADER k
  if d.is SAP_GRP_CFG.METHOD k && d.bit SAP_GRP_CFG.MEMBERS p k && l != p then some l else none

/-- The leader's frame at another member: the slots and the BCLK count that it has received since the leader's frame before; where it
has received none, as many BCLK periods as the leader's frame gives (R167). -/
def Dev.memberFrame (d : Dev) (p l bclk : Nat) (ofs : Int) : Dev :=
  let n := 32 * max 1 (d.get SAP_PCFG.SLOTS p)
  let (b, ws) := (d.port p).held.getD (n * bclk / (32 * max 1 (d.get SAP_PCFG.SLOTS l)), [])
  (d.setPort p { d.port p with held := none, present := true, lastOfs := ofs }).frameAt p b ofs ws

/-- A frame starts at a port, of its own FSYNC. A member of a shared-frame group other than the leader ignores that ball: what it receives
counts for the leader's next frame. The leader's frame start is every member's. A master whose DLL is gated drives no frame
(R160, R162, R167, R290). -/
def Dev.frameStart (d : Dev) (p bclk : Nat) (ofs : Int) (ws : List Word) : Dev :=
  if !d.pOn p || (d.is SAP_PCFG.MASTER p && d.dllGated (8 + p)) then d
  else if (d.leaderOf p).isSome then d.setPort p { d.port p with held := some (bclk, ws) }
  else
    let d := d.setPort p { d.port p with present := true, lastOfs := ofs }
    let k := d.pGroup p
    let leads := d.is SAP_GRP_CFG.METHOD k && d.get SAP_GRP_CFG.LEADER k == p
    let d := if leads then forN 16 (fun q d => if d.pOn q && d.leaderOf q == some p then
        d.setPort q { d.port q with present := true, lastOfs := ofs } else d) d else d
    let d := if leads then
        (match (d.sapGrp k).due with
         | some m => d.rejoin k m
         | none => d)
      else d
    let d := d.frameAt p bclk ofs ws
    if leads then forN 16 (fun q d => if d.pOn q && d.leaderOf q == some p then d.memberFrame q p bclk ofs else d) d else d

/-- Seal of the block in progress at every port: overruns and underruns, and the frames that belong to the next block
(R169, R170, R172). The capture buffer is the next block's. `n` is the block sealed. -/
def Dev.sapSeal (d : Dev) (n : Nat) : Dev :=
  forN 16 (fun p d =>
    if !d.pOn p then d
    else
      let x := d.port p
      let d := if d.pSync p then d else d.scaleSlots p n
      let st := d.pState p
      let whole := (st == 1 || st == 2 || st == 3) && d.pSync p && (decide (x.attachK ≤ n) || st != 1)
      let d := if whole && decide (d.nb < x.rx) then (d.inc SAP_PSTAT.OVR p).slip p true
        else if whole && decide (x.rx < d.nb) then (d.inc SAP_PSTAT.UNR p).slip p true
        else d
      let skip := x.marked || st != 1
      let x := d.port p
      let d := d.setPort p { x with rx := x.early.length, early := [], skip := skip,
                                    marked := decide (d.pState p ≠ 1) || decide (x.fadeIn < 128) }
      x.early.foldl (fun d e => if e.1 < d.nb then d.takeSlots p e.1 e.2 else d) d) d

/-- The DLL of a port has left RUN: a master port is DETACHED with SLIP (R175). -/
def Dev.sapDllLost (d : Dev) (p : Nat) : Dev :=
  if d.pOn p && d.is SAP_PCFG.MASTER p then d.slip p false else d

/-- Rates that need no measurement: RREF of synchronous ports, RATE of masters (R164). -/
def Dev.sapRates (d : Dev) : Dev :=
  forN 16 (fun p d =>
    if !d.pOn p then d
    else
      let d := if d.pSync p then d.put SAP_RREF.RREF (16 * d.fi) p else d
      if d.is SAP_PCFG.MASTER p then d.put SAP_RATE.RATE (16 * d.fi) p else d) d

/-- Register writes of SAP. -/
def Dev.sapWrite (d : Dev) (r : Reg) (i j : Nat) (w : Word) : Dev :=
  if r == SAP_PCTRL then
    let d := d.store r w i j
    if fget w 0 0 == 1 then d.sapRestart i else d
  else if r == SAP_GRP_CTRL then
    let d := d.store r w i j
    let d := if fget w 1 1 == 1 then d.grpStop i else d
    if fget w 0 0 == 1 then d.grpStart i else d
  else d.store r w i j

/-- BLOCK reset of SAP: all ports OFF; AUTO groups restart at the first rejoin instant at least 2 blocks later
(R175). -/
def Dev.sapBlockReset (d : Dev) : Dev :=
  let d := ({ d with sap := [], sapG := [] }).sapRates
  let d := forN 16 (fun p d => if d.pOn p && d.is SAP_PCFG.MASTER p then d.setPort p { closing := d.tclk + 1 } else d) d
  forN 16 (fun k d =>
    if d.get SAP_GRP_CFG.MEMBERS k = 0 then d
    else
      let d := d.almDisarm (d.get SAP_GRP_CFG.ALARM k)
      if d.is SAP_GRP_CFG.AUTO k && d.running then d.grpStart k else d) d

/-- A group's owned alarm was carried past its target: the next rejoin instant is armed (R259). -/
def Dev.grpMissed (d : Dev) (k : Nat) : Dev := (d.almDisarm (d.get SAP_GRP_CFG.ALARM k)).grpArm k

end Sys2Proof.Machine
end

