-- ==== Sys2Proof/Machine/Hlk.lean ====
section
/-! DEFINITION. The Hedgerow links: cells and their checks, credits, the transmitter, delay measurement and SYNC, the
receive rings and the reservations (R176 to R201). -/

namespace Sys2Proof.Machine

/-! ### Cells (R180 to R186) -/

/-- A byte of a cell. -/
def cb (bs : List Byte) (i : Nat) : Nat := (nth 0 bs i).toNat

/-- Header fields. -/
def hVer (bs : List Byte) : Nat := cb bs 0 / 64
/-- CLASS: 0 SYNC, 1 ISO, 2 CTRL, 3 BULK. -/
def hCls (bs : List Byte) : Nat := cb bs 0 / 16 % 4
/-- TYPE. -/
def hType (bs : List Byte) : Nat := cb bs 0 % 16
/-- MC. -/
def hMc (bs : List Byte) : Bool := cb bs 1 / 64 % 2 == 1
/-- LASTC. -/
def hLast (bs : List Byte) : Bool := cb bs 1 / 128 == 1
/-- LENW. -/
def hLenw (bs : List Byte) : Nat := cb bs 2
/-- CIDX. -/
def hCidx (bs : List Byte) : Nat := cb bs 3
/-- FLOW. -/
def hFlow (bs : List Byte) : Nat := beAt bs 4 3 / 16
/-- TTL. -/
def hTtl (bs : List Byte) : Nat := cb bs 6 % 16
/-- SRC. -/
def hSrc (bs : List Byte) : Nat := beAt bs 8 2
/-- SEQ. -/
def hSeq (bs : List Byte) : Nat := beAt bs 10 2
/-- BLK, 24 bits. -/
def hBlk (bs : List Byte) : Nat := beAt bs 12 3

/-- The header of a cell with its HCRC (R181). -/
def mkHdr (cls ty : Nat) (last mc : Bool) (lenw cidx flow ttl src seq blk : Nat) : List Byte :=
  let h := beBytes 1 (64 + 16 * cls + ty) ++ beBytes 1 (128 * b2n last + 64 * b2n mc) ++ beBytes 1 lenw ++ beBytes 1 cidx
    ++ beBytes 3 (flow * 16 + ttl % 16) ++ [0] ++ beBytes 2 src ++ beBytes 2 seq ++ beBytes 3 blk
  h ++ beBytes 1 (crc8 h)

/-- The header with another TTL and its HCRC (R192). -/
def setTtl (bs : List Byte) (ttl : Nat) : List Byte :=
  let h := setNth (bs.take 15) 6 (BitVec.ofNat 8 (cb bs 6 / 16 * 16 + ttl % 16))
  h ++ beBytes 1 (crc8 h) ++ bs.drop 16

/-- Cost of a cell in words from its payload bytes (R180). -/
def cellCost (len : Nat) : Nat := 1 + cdiv (20 + len) 8

/-- Cost of a waiting cell. -/
def QCell.cost (c : QCell) : Nat := cellCost (c.bytes.length - 16)

/-- Header checks of a received cell: HCRC, VER, CLASS against the SOC type, LENW (R192). -/
def hdrOk (soc : Nat) (bs : List Byte) : Bool :=
  decide (16 ≤ bs.length) && crc8 (bs.take 15) == cb bs 15 && hVer bs == 1 && hCls bs == soc && decide (hLenw bs ≤ 128)

/-- The trailing CRC: 0 correct, 1 stomped, 2 wrong (R193). -/
def crcState (bs : List Byte) : Nat :=
  let n := 16 + 4 * hLenw bs
  let c := crc32 (bs.take n)
  if bs.length < n + 4 then 2
  else if beAt bs n 4 = c then 0
  else if beAt bs n 4 = c ^^^ 0xFFFFFFFF then 1 else 2

/-- The payload of a received cell. -/
def cellPay (bs : List Byte) : List Byte := slice bs 16 (4 * hLenw bs)

/-- A block number extended from 24 to 32 bits, nearest to the device's own (R185). -/
def Dev.extBlk (d : Dev) (b24 : Nat) : Nat := unsW 32 ((d.cyc.k : Int) + sgnW 24 (b24 + 2 ^ 24 - d.cyc.k % 2 ^ 24))

/-- BLK of cells other than ISO: the block counter, 0 while not RUNNING (R185). -/
def Dev.cellBlk (d : Dev) : Nat := d.blkNow % 2 ^ 24

/-- The node's ID. -/
def Dev.nodeId (d : Dev) : Nat := d.get HFB_NODE.ID

/-! ### Link state, queues, credits (R187, R188, R190) -/

/-- A link's hidden state. -/
def Dev.lnk (d : Dev) (l : Nat) : HlkSt := tabGet {} d.hlk l

/-- Replace it. -/
def Dev.setLnk (d : Dev) (l : Nat) (x : HlkSt) : Dev := { d with hlk := tabPut {} d.hlk l x }

/-- Link state: 0 DISABLED, 1 TRAIN, 2 INIT, 3 ACTIVE, 4 DOWN. -/
def Dev.lState (d : Dev) (l : Nat) : Nat := d.get HLK_STAT.STATE l

/-- Is a link ACTIVE? -/
def Dev.lActive (d : Dev) (l : Nat) : Bool := d.lState l == 3

/-- Buffer sizes in words (R187). -/
def classBuf (cls : Nat) : Nat := nth 0 [128, 4096, 1024, 2048] cls

/-- Words returned to the partner: the counter of a class (R179). -/
def Dev.freeWords (d : Dev) (l cls n : Nat) : Dev :=
  let x := d.lnk l
  d.setLnk l { x with freed := tabPut 0 x.freed cls ((tabGet 0 x.freed cls + n) % 2 ^ 14) }

/-- Credit of a class (R188). -/
def Dev.credit (d : Dev) (l cls : Nat) : Nat :=
  let x := d.lnk l
  classBuf cls - (tabGet 0 x.sent cls + 2 ^ 14 - tabGet 0 x.ret cls) % 2 ^ 14

/-- Put a cell into a link's queue. -/
def Dev.queueCell (d : Dev) (l : Nat) (c : QCell) : Dev :=
  let x := d.lnk l
  d.setLnk l { x with q := x.q ++ [c] }

/-- A copy of a received cell has left or is discarded: its credit returns when no other copy waits (R188). -/
def Dev.release (d : Dev) (c : QCell) : Dev :=
  if c.ing = 255 then d
  else if (List.range 8).any (fun l => (d.lnk l).q.any (fun y => y.ing == c.ing && y.id == c.id)) then d
  else d.freeWords c.ing c.cls c.cost

/-- The stamp time base of HLK_TSYNC in 1/16 ns, `sub` 1/16 ns after the tick (R198). -/
def Dev.stamp16 (d : Dev) (sub : Nat) : Int := d.tb16 (d.get HLK_TSYNC.TB) + (sub : Nat)

/-- A time-base value of 96 bits from 1/16 ns: seconds, nanoseconds, 2^−16 ns. -/
def tb96 (t : Int) : List Byte :=
  let n := t.toNat
  beBytes 6 (n / 16000000000) ++ beBytes 4 (n / 16 % 1000000000) ++ beBytes 2 (n % 16 * 4096)

/-- The value of 12 bytes in 1/16 ns. -/
def ofTb96 (bs : List Byte) (o : Nat) : Int :=
  ((beAt bs o 6 * 1000000000 + beAt bs (o + 6) 4) * 16 + beAt bs (o + 10) 2 / 4096 : Nat)

/-- The header with another BLK and its HCRC (R181). -/
def setBlk (bs : List Byte) (blk : Nat) : List Byte :=
  let h := bs.take 12 ++ beBytes 3 blk
  h ++ beBytes 1 (crc8 h) ++ bs.drop 16

/-- Bytes of a cell as it leaves: a local cell that is not ISO takes the block counter at transmission, and the transmit stamp is
inserted (R185, R198, R199). -/
def Dev.stamped (d : Dev) (sub : Nat) (c : QCell) : List Byte :=
  let bs := if c.ing = 255 ∧ c.cls ≠ 1 then setBlk c.bytes d.cellBlk else c.bytes
  match c.stamp with
  | 2 => bs.take 28 ++ tb96 (d.stamp16 sub)
  | 3 => bs.take 16 ++ tb96 (d.stamp16 sub) ++ bs.drop 28
  | _ => bs

/-- A cell as it leaves: header and payload, CRC (inverted for a stomp), padding (R180, R193). -/
def wireCell (bs : List Byte) (stomp : Bool) : List Byte :=
  let c := crc32 bs
  let out := bs ++ beBytes 4 (if stomp then c ^^^ 0xFFFFFFFF else c)
  out ++ List.replicate (8 * cdiv out.length 8 - out.length) 0

/-- Word rate of a link in Gb/s. -/
def Dev.wordRate (d : Dev) (l : Nat) : Nat := if d.get HLK_CFG.RATE l = 0 then 25 else 10

/-- A cell leaves on a link, `sub` 1/16 ns after the tick; its words of 64 bits take their time at the word rate (R188, R195, R198). -/
def Dev.sendCell (d : Dev) (l sub : Nat) (c : QCell) : Dev :=
  let x := d.lnk l
  let bs := d.stamped sub c
  let x := { x with sent := tabPut 0 x.sent c.cls ((tabGet 0 x.sent c.cls + c.cost) % 2 ^ 14),
                    dreqs := if c.stamp = 1 then x.dreqs ++ [(hSeq c.bytes, d.stamp16 sub, d.tclk)] else x.dreqs,
                    until16 := 64 * d.tclk + sub + 1024 * c.cost / d.wordRate l }
  let d := d.setLnk l x
  ((d.emit (.cell l c.cls ((List.range 4).map (fun k => tabGet 0 x.freed k)) (wireCell bs c.stomp))).release c).perfEvent 0x18 1 { k := c.cls }

/-- A hardware consumer advances RD past an entry and notifies the software side: the core by its own controller, the host by vector 7 where
a link transmitter frees space, and not at all where an Ethernet transmitter does (R364, R366). -/
def Dev.ringPop (d : Dev) (q size : Nat) : Dev :=
  let d := d.ringSet q (d.ringWr q) ((d.ringRd q + min (d.ringFill q) size) % d.ringSize q)
  if !d.ringHost q then d.emit (.coreRing q) else if q < 80 then d.raiseVecTo (ringVec q) true false else d

/-- The entry at a ring's consumer offset, PAD and foreign entries skipped (R362, R364): size, header and payload. -/
def Dev.ringFront (d : Dev) (q kind : Nat) : Nat → Option (Nat × List Byte × List Byte) × Dev
  | 0 => (none, d)
  | f + 1 =>
    if !d.ringOn q || d.ringFill q = 0 then (none, d)
    else
      let a := d.ringBase q + d.ringRd q
      let h := d.bytes a 16
      let len := leAt h 0 2
      let k := leAt h 2 1
      if k = kind ∧ len ≤ 2032 then (some (entrySize len, h, d.bytes (a + 16) len), d.sramScan a (16 + len) 255)
      else
        let d := d.sramScan a 16 255
        let d := if k = 0 then d else d.put MGMT_RING_STAT.BADENT 1 (q - 64)
        Dev.ringFront (d.ringPop q (entrySize len)) q kind f

/-- The first waiting cell of a class in a link's own queue. -/
def Dev.firstOf (d : Dev) (l cls : Nat) : Option QCell := (d.lnk l).q.find? (fun c => c.cls == cls)

/-- Remove the first cell of a class from a link's queue. -/
def dropFirst (cls : Nat) : List QCell → List QCell
  | [] => []
  | c :: cs => if c.cls = cls then cs else c :: dropFirst cls cs

/-- The cell of the transmit ring's front entry: hardware puts in the block counter and computes HCRC (R185, R363). -/
def Dev.ringCell (d : Dev) (pay : List Byte) : QCell :=
  let h := slice pay 0 12 ++ beBytes 3 d.cellBlk
  { cls := hCls pay, bytes := h ++ beBytes 1 (crc8 h) ++ pay.drop 16 }

/-- At a cell boundary the transmitter starts the highest-priority class with a cell waiting and credit for it
(R188). CTRL and BULK cells come from the link's queue, then from ring Q72 + l. -/
def Dev.cellTransmit (d : Dev) (l sub : Nat) : Dev :=
  if !d.lActive l then d
  else
    let (ent, d) := d.ringFront (72 + l) 1 64
    let cand (cls : Nat) : Option (Bool × QCell) :=
      match d.firstOf l cls with
      | some c => if c.cost ≤ d.credit l cls then some (false, c) else none
      | none =>
        match ent with
        | some e => let c := d.ringCell e.2.2
                    if c.cls = cls ∧ c.cost ≤ d.credit l cls then some (true, c) else none
        | none => none
    match (List.range 4).findSome? cand with
    | none => d
    | some (fromRing, c) =>
      let d := if fromRing then d.ringPop (72 + l) (entrySize ((ent.map (fun e => e.2.2.length)).getD 0))
        else d.setLnk l { d.lnk l with q := dropFirst c.cls (d.lnk l).q }
      d.sendCell l sub c

/-- A SYNC-class cell leaves at once where its class has credit, else it waits (R188). -/
def Dev.sendSync (d : Dev) (l sub : Nat) (c : QCell) : Dev :=
  if (d.firstOf l 0).isNone && decide (c.cost ≤ d.credit l 0) then d.sendCell l sub c else d.queueCell l c

/-! ### Control blocks and the line code (R176, R178, R179) -/

/-- The block type of a SOC block by class; 0x1E is IDLE and 0x4B is LINK (R178). -/
def socType (cls : Nat) : Nat := nth 0 [0x2D, 0x33, 0x66, 0x78] cls

/-- The body of a credit-return block: four counters of 14 bits, SYNC uppermost (R179). -/
def creditBody (cs : List Nat) : Nat := (List.range 4).foldl (fun b k => b * 2 ^ 14 + nth 0 cs k % 2 ^ 14) 0

/-- The counter of a class in a credit-return body (R179). -/
def creditOf (body : BitVec 56) (cls : Nat) : Nat := body.toNat / 2 ^ (14 * (3 - cls)) % 2 ^ 14

/-- The body of a LINK block: VER 1, RFAULT, LOCKED, RATE, SEQ (R178). -/
def linkBody (rfault locked : Bool) (rate seq : Nat) : Nat :=
  2 ^ 52 + 2 ^ 51 * b2n rfault + 2 ^ 50 * b2n locked + 2 ^ 48 * (rate % 4) + 2 ^ 40 * (seq % 256)

/-- VER of a LINK block. -/
def linkVer (body : BitVec 56) : Nat := body.toNat / 2 ^ 52 % 16
/-- RFAULT. -/
def linkRfault (body : BitVec 56) : Bool := body.toNat / 2 ^ 51 % 2 == 1
/-- LOCKED. -/
def linkLocked (body : BitVec 56) : Bool := body.toNat / 2 ^ 50 % 2 == 1
/-- RATE. -/
def linkRate (body : BitVec 56) : Nat := body.toNat / 2 ^ 48 % 4

/-- What the transmitter of a link sends while no cell is in progress: nothing, at electrical idle, or one control block after another,
by type and body (R178, R190). -/
inductive LineOut where
  | electricalIdle
  | control (ty body : Nat)
deriving DecidableEq, Repr

/-- By the state of the link: LINK blocks with LOCKED 0 in TRAIN, LOCKED 1 in INIT and RFAULT 1 in DOWN, IDLE with the credit counters in
ACTIVE (R178, R179, R190, R203). `seq` is the SEQ of a LINK block, which the manual does not define further: any value. -/
def Dev.lineSends (d : Dev) (l seq : Nat) : LineOut :=
  let rate := d.get HLK_CFG.RATE l
  match d.get HLK_STAT.STATE l with
  | 1 => .control 0x4B (linkBody false false rate seq)
  | 2 => .control 0x4B (linkBody false true rate seq)
  | 3 => .control 0x1E (creditBody ((List.range 4).map (fun k => tabGet 0 (d.lnk l).freed k)))
  | 4 => .control 0x4B (linkBody true false rate seq)
  | _ => .electricalIdle

/-- The blocks of a cell on the line, each a sync header (2 control, 1 data) and 64 bits with the first byte uppermost: the SOC block of
its class with the credit counters, then the data blocks (R176, R178, R180). -/
def cellBlocks (cls : Nat) (credits : List Nat) (wire : List Byte) : List (Nat × Nat) :=
  (2, socType cls * 2 ^ 56 + creditBody credits) :: (List.range (cdiv wire.length 8)).map (fun k => (1, beAt wire (8 * k) 8))

/-- One bit through the self-synchronising scrambler 1 + x^39 + x^58, whose state holds the latest 58 bits sent, newest lowest (R176). -/
def scrambleBit (st : BitVec 58) (b : Bool) : Bool × BitVec 58 :=
  let o := b ^^ st.getLsbD 38 ^^ st.getLsbD 57
  (o, st <<< 1 ||| BitVec.ofNat 58 (b2n o))

/-- The payload bits of successive blocks, in the order sent, scrambled (R176). -/
def scramble : BitVec 58 → List Bool → List Bool
  | _, [] => []
  | st, b :: bs => (scrambleBit st b).1 :: scramble (scrambleBit st b).2 bs

/-- The receiver's inverse, which holds the latest 58 bits received (R176). -/
def descramble : BitVec 58 → List Bool → List Bool
  | _, [] => []
  | st, b :: bs => (b ^^ st.getLsbD 38 ^^ st.getLsbD 57) :: descramble (st <<< 1 ||| BitVec.ofNat 58 (b2n b)) bs

/-- Cumulative credit counters arrive; a counter that advances is noted (R179, R188). -/
def Dev.creditReturn (d : Dev) (l : Nat) (cs : List Nat) : Dev :=
  if !d.lActive l then d
  else
    let x := d.lnk l
    let moved := (List.range 4).filter (fun k => tabGet 0 x.ret k != nth 0 cs k % 2 ^ 14)
    d.setLnk l { x with ret := (List.range 4).foldl (fun t k => tabPut 0 t k (nth 0 cs k % 2 ^ 14)) x.ret,
                        adv := moved.foldl (fun t k => tabPut 0 t k d.tclk) x.adv }

/-- A control block other than LINK arrives: IDLE and SOC blocks return credit; any other type is invalid and counts as a header
error (R178, R179). -/
def Dev.creditBlock (d : Dev) (l ty : Nat) (body : BitVec 56) : Dev :=
  if ty = 0x1E ∨ ty = 0x2D ∨ ty = 0x33 ∨ ty = 0x66 ∨ ty = 0x78 then d.creditReturn l ((List.range 4).map (creditOf body))
  else if d.lActive l then (d.inc HLK_ERR.HDR l).raise (FS.HLK_CRC + l)
  else d

/-! ### Training (R190) -/

/-- Enter a state, from which its times count. -/
def Dev.setLState (d : Dev) (l st : Nat) : Dev := (d.put HLK_STAT.STATE st l).startTimer .link l

/-- 64 consecutive valid sync headers: TRAIN to INIT. -/
def Dev.blockLock (d : Dev) (l : Nat) : Dev :=
  if d.lState l = 1 then (d.setLState l 2).setLnk l { d.lnk l with good := 0 } else d

/-- No block lock for 50 ms: the receive polarity is inverted. -/
def Dev.polarityInvert (d : Dev) (l : Nat) : Dev :=
  if d.lState l = 1 ∧ d.isDue .link 50000000 l = true then (d.setLState l 1).put HLK_STAT.POLINV (1 - d.get HLK_STAT.POLINV l) l else d

/-- 10 ms in INIT. -/
def Dev.initTimeout (d : Dev) (l : Nat) : Dev := if d.lState l = 2 ∧ d.isDue .link 10000000 l = true then d.setLState l 1 else d

/-- 1 ms in DOWN. -/
def Dev.downTimeout (d : Dev) (l : Nat) : Dev := if d.lState l = 4 ∧ d.isDue .link 1000000 l = true then d.setLState l 1 else d

/-- Entry to ACTIVE: credit counters cleared, delay measurement begins (R190, R198). -/
def Dev.toActive (d : Dev) (l : Nat) : Dev :=
  let d := (d.setLState l 3).setLnk l { adv := (List.range 4).map (fun k => (k, d.tclk)) }
  let d := (d.stopTimer .dreq l).stopTimer .hello l
  (d.put HLK_DELAY.VALID 0 l).put HLK_STAT.LONG 0 l

/-- A LINK block in INIT: eight in a row with LOCKED = 1 and the same RATE give ACTIVE, another RATE gives TRAIN. -/
def Dev.linkBlockInit (d : Dev) (l : Nat) (locked : Bool) (rate : Nat) : Dev :=
  if d.lState l ≠ 2 then d
  else if rate ≠ d.get HLK_CFG.RATE l then d.setLState l 1
  else
    let n := if locked then (d.lnk l).good + 1 else 0
    if 8 ≤ n then d.toActive l else d.setLnk l { d.lnk l with good := n }

/-- Image applied: enabled links train (R190). -/
def Dev.hlkStart (d : Dev) : Dev :=
  forN 8 (fun l d => if d.is HLK_CFG.EN l && !d.is HLK_CTRL.DISABLE l && d.lState l == 0 then d.setLState l 1 else d) d

/-- RCAP of a link in cells per block (R195). -/
def Dev.rcapOf (d : Dev) (l : Nat) : Nat := 8 * d.nb * d.wordRate l * 1000000000 / (10 * d.fi * 64 * 68)

/-! ### Receive checks (R192, R193) -/

/-- A header error: HDR counted, HLK.CRC raised, the words received returned in the class that the SOC named. -/
def Dev.headerError (d : Dev) (l soc : Nat) (bs : List Byte) : Dev :=
  ((d.inc HLK_ERR.HDR l).freeWords l soc (1 + cdiv bs.length 8)).raise (FS.HLK_CRC + l)

/-- Count a failed trailing CRC (1 stomped, 2 wrong). -/
def Dev.crcError (d : Dev) (l st : Nat) : Dev :=
  if st = 1 then d.inc HLK_DROP.STOMP l
  else if st = 2 then (d.inc HLK_ERR.CRC l).raise (FS.HLK_CRC + l)
  else d

/-- A cell with an unassigned type at its destination: counted as a header error (R182). -/
def Dev.typeError (d : Dev) (l : Nat) : Dev := (d.inc HLK_ERR.HDR l).raise (FS.HLK_CRC + l)

/-- The words of a received cell return. -/
def Dev.freeCell (d : Dev) (l soc : Nat) (bs : List Byte) : Dev := d.freeWords l soc (cellCost (4 * hLenw bs))

/-- A cell of the SYNC class: checked; the payload goes on where it is sound and of the type wanted (R182, R192,
R203). -/
def Dev.syncCell (d : Dev) (l : Nat) (bs : List Byte) (ty len : Nat) (f : Dev → Dev) : Dev :=
  if !d.lActive l then d
  else if !hdrOk 0 bs then d.headerError l 0 bs
  else
    let st := crcState bs
    let d := d.freeCell l 0 bs
    if st ≠ 0 then d.crcError l st
    else
    let d := d.perfEvent 0x19 1
    if hType bs ≠ ty then (if 3 ≤ hType bs then d.typeError l else d)
    else if hLenw bs * 4 ≠ len then d
    else f d

/-! ### Delay measurement and SYNC (R198 to R200) -/

/-- The time from one DREQ to the next in ns: 1 ms for the first 16 after the entry to ACTIVE, then INT ms, 1 to 10,000 (R198). -/
def Dev.dreqNs (d : Dev) (l : Nat) : Nat :=
  if (d.lnk l).nreq < 16 then 1000000 else max 1 (min 10000 (d.get HLK_DREQ_CFG.INT)) * 1000000

/-- A DREQ is sent when its interval is over; its SEQ is not given by the manual (free). -/
def Dev.dreqSend (d : Dev) (l sub : Nat) : Dev :=
  if !d.lActive l || !d.isDue .dreq (d.dreqNs l) l then d
  else
    let (k, d) := (d.startTimer .dreq l).draw
    let d := d.setLnk l { d.lnk l with nreq := (d.lnk l).nreq + 1 }
    d.sendSync l sub { cls := 0, stamp := 1, bytes := mkHdr 0 1 false false 0 0 0 0 d.nodeId (Config.freeNat k % 65536) d.cellBlk }

/-- A DREQ arrives and is answered: T2 is its arrival, T3 is inserted as the DRSP leaves. -/
def Dev.dreqReceive (d : Dev) (l sub : Nat) (bs : List Byte) : Dev :=
  d.syncCell l bs 1 0 (fun d =>
    let h := mkHdr 0 2 false false 6 0 0 0 d.nodeId (hSeq bs) d.cellBlk
    d.sendSync l sub { cls := 0, stamp := 2, bytes := h ++ tb96 (d.stamp16 sub) ++ List.replicate 12 0 })

/-- A delay sample in 1/32 ns enters the mean of the latest 16, unless it lies more than 100 ns from it (R198). -/
def Dev.delaySample (d : Dev) (l : Nat) (s : Int) : Dev :=
  let x := d.lnk l
  let n := x.samples.length
  let sum := x.samples.foldl (· + ·) 0
  if d.is HLK_DELAY.VALID l && decide (3200 * n < (s * n - sum).natAbs) then d
  else
    let ss := (s :: x.samples).take 16
    let mean := rhe (ss.foldl (· + ·) 0) (2 * ss.length)
    let d := (d.setLnk l { x with samples := ss }).put HLK_DELAY.DELAY (clampI 0 16777215 mean).toNat l
    let d := if 16 ≤ ss.length then d.put HLK_DELAY.VALID 1 l else d
    d.put HLK_STAT.LONG (b2n (decide (80000 < mean))) l

/-- The DREQs that are less than 1 ms old; every other one is abandoned (R198). -/
def Dev.dreqsOpen (d : Dev) (l : Nat) : List (Nat × Int × Nat) := (d.lnk l).dreqs.filter (fun e => decide (d.tclk < e.2.2 + 250000))

/-- A DRSP arrives: ((T4 − T1) − (T3 − T2)) ÷ 2 (R198). -/
def Dev.drspReceive (d : Dev) (l sub : Nat) (bs : List Byte) : Dev :=
  d.syncCell l bs 2 24 (fun d =>
    match (d.dreqsOpen l).find? (fun e => e.1 == hSeq bs) with
    | none => d
    | some (sq, t1, _) =>
      let d := d.setLnk l { d.lnk l with dreqs := (d.dreqsOpen l).filter (fun e => e.1 != sq) }
      d.delaySample l ((d.stamp16 sub - t1) - (ofTb96 bs 28 - ofTb96 bs 16)))

/-- No DRSP 1 ms after its DREQ: the exchange is abandoned. -/
def Dev.drspTimeout (d : Dev) (l : Nat) : Dev := d.setLnk l { d.lnk l with dreqs := d.dreqsOpen l }

/-- The time from one SYNC cell of a link to the next in ns: INT × 125 µs, INT 1 to 8,000 (R199). -/
def Dev.syncNs (d : Dev) (l : Nat) : Nat := max 1 (min 8000 (d.get HLK_SYNC_CFG.INT l)) * 125000

/-- A SYNC cell is sent on a link with TXEN = 1 when its interval is over (R199); its SEQ is not given by the manual (free). -/
def Dev.syncSend (d : Dev) (l sub : Nat) : Dev :=
  if !d.lActive l || !d.is HLK_SYNC_CFG.TXEN l || !d.isDue .sync (d.syncNs l) l then d
  else
    let t := d.get HLK_TSYNC.TB
    let (k, d) := (d.startTimer .sync l).draw
    let h := mkHdr 0 0 false false 4 0 0 0 d.nodeId (Config.freeNat k % 65536) d.cellBlk
    let fl := d.get TIME_TB_CFG.TRACEABLE t + 2 * b2n (d.tbHoldover t)
    d.sendSync l sub { cls := 0, stamp := 3,
                       bytes := h ++ List.replicate 12 0 ++ beBytes 1 (d.get TIME_TB_CFG.DOM t) ++ beBytes 1 fl ++ beBytes 2 d.hfb.hops }

/-- A SYNC cell arrives: on the time-source link it delivers an offset in 1/16 ns to the servo (R200). -/
def Dev.syncReceive (d : Dev) (l sub : Nat) (bs : List Byte) : Dev :=
  d.syncCell l bs 0 16 (fun d =>
    let d := if d.get HLK_TSYNC.LINK = l then d.captureEvent 31 true sub else d
    if !d.is HLK_TSYNC.EN || d.get HLK_TSYNC.LINK != l then d
    else if !d.is HLK_DELAY.VALID l then d.inc HLK_SYNC_STAT.NODELAY
    else
      let theta := ofTb96 bs 16 + (d.get HLK_DELAY.DELAY l : Int) + sgnW 16 (d.get HLK_ASYM.ASYM l) - d.stamp16 sub
      (d.inc HLK_SYNC_STAT.DELIV).offset (d.get HLK_TSYNC.TB) 2 theta true false)

/-! ### Receive rings (R201) -/

/-- BULK_HW, 1 to 7. -/
def Dev.bulkHw (d : Dev) : Nat := max 1 (min 7 (d.get HLK_RING_CFG.BULK_HW))

/-- CTRL_HW, above BULK_HW, at most 8. -/
def Dev.ctrlHw (d : Dev) : Nat := max (d.bulkHw + 1) (min 8 (d.get HLK_RING_CFG.CTRL_HW))

/-- Is the type of a CTRL or BULK cell unassigned (R182)? -/
def badType (bs : List Byte) : Bool := if hCls bs = 2 then decide (4 ≤ hType bs) else decide (hType bs ≠ 0)

/-- A CTRL or BULK cell goes to receive ring Q64 + l, unless its type is unassigned (R182) or the ring is filled to its
mark (R201). -/
def Dev.toRing (d : Dev) (l : Nat) (bs : List Byte) : Dev :=
  if badType bs then d.typeError l else
  let q := 64 + l
  let ctrl := hCls bs == 2
  let mark := if ctrl then d.ctrlHw else d.bulkHw
  let pay := bs.take 16 ++ cellPay bs
  let (ok, d) := if d.ringOn q && decide (d.ringSize q * mark / 8 ≤ d.ringFill q) then (false, d)
    else d.ringPush q 1 0 l 0 pay
  if ok then d
  else ((if ctrl then d.inc HLK_RING_DROP.CTRL l else d.inc HLK_RING_DROP.BULK l).perfEvent 0x1B 1).raiseOnce FS.HLK_RXDROP

/-! ### Reservations (R195, R196) -/

/-- Sum of CELLS over a link's reservation registers. -/
def Dev.rsvSum (d : Dev) (l : Nat) : Nat := forN 256 (fun r n => n + d.get HLK_RSV.CELLS l r) 0

/-- A reservation write: refused where it would raise the sum above RCAP, else effective at the next boundary. -/
def Dev.rsvWrite (d : Dev) (l r : Nat) (w : Word) : Dev :=
  let new := fget w 28 20
  let old := d.get HLK_RSV.CELLS l r
  let s := d.rsvSum l
  if old < new ∧ d.get HLK_RSV_STAT.RCAP l < s - old + new then d.put HLK_RSV_STAT.REFUSED 1 l
  else d.store HLK_RSV w l r

/-- At a boundary the reservations written take effect; cells of blocks that no 24-bit BLK can name any more are forgotten (R185,
R196). -/
def Dev.rsvApply (d : Dev) : Dev :=
  let close (b : Nat) : Bool := decide ((sgnW 32 (b + 2 ^ 32 - d.cyc.k % 2 ^ 32)).natAbs ≤ 2 ^ 23)
  let d := { d with hfb := { d.hfb with used := d.hfb.used.filter (fun u => close u.2.2) } }
  let rsv := forN 8 (fun l t => forN 256 (fun r t => tabPut 0 t (l * 256 + r) (d.rd HLK_RSV l r)) t) ([] : Tab Word)
  let d := { d with hfb := { d.hfb with rsv := rsv } }
  forN 8 (fun l d => d.put HLK_RSV_STAT.SUM (d.rsvSum l) l) d

/-- The applied reservation of a flow on a link: its index and CELLS; entries with CELLS = 0 are unused. -/
def Dev.rsvOf (d : Dev) (l flow : Nat) : Option (Nat × Nat) :=
  (d.hfb.rsv.find? (fun kv => kv.1 / 256 == l && fget kv.2 19 0 == flow && fget kv.2 28 20 != 0)).map
    (fun kv => (kv.1 % 256, fget kv.2 28 20))

/-- Register writes of HLK that act beyond storing, except those that take the link down. -/
def Dev.hlkStore (d : Dev) (r : Reg) (i j : Nat) (w : Word) : Dev :=
  if r == HLK_RSV then d.rsvWrite i j w else d.store r w i j

end Sys2Proof.Machine
end

