-- ==== Sys2Proof/Machine/Hfb.lean ====
section
/-! DEFINITION. The Hedgerow fabric: adjacencies, links going down and rerouting, the forwarding decision, flooding,
de-duplication and policing, flow contexts, topology, elections (R190, R191, R204 to R225). -/

namespace Sys2Proof.Machine

/-! ### Adjacency and reroute (R206, R216) -/

/-- The links whose adjacency is UP, as a mask (U of R215). -/
def Dev.upMask (d : Dev) : Nat := forN 8 (fun l m => m + 2 ^ l * b2n (d.get HFB_ADJ.STATE l == 2)) 0

/-- The adjacency's hidden part. -/
def Dev.adj0 (d : Dev) (l : Nat) : AdjSt := tabGet {} d.hfb.adj l

/-- Replace it. -/
def Dev.setAdj0 (d : Dev) (l : Nat) (x : AdjSt) : Dev := { d with hfb := { d.hfb with adj := tabPut {} d.hfb.adj l x } }

/-- The egress set of an entry (R215). -/
def FwdEnt.egress (e : FwdEnt) (u : Nat) : Nat := if e.useBkp then (e.pri ||| e.bkp) &&& u else e.pri &&& u

/-- Is the flow ID one of an ISO flow (R183)? -/
def isoFlow (f : Nat) : Bool := decide (1 ≤ f) && decide (f ≤ 0xEFFFF)

/-- A link leaves U: entries whose PRI names it take their backup; HFB.REROUTE once, HFB.NOROUTE for an ISO entry left
without an egress (R216). The adjacency already reads NONE. -/
def Dev.reroute (d : Dev) (l : Nat) : Dev :=
  let u := d.upMask
  let hit (e : FwdEnt) : Bool := bitOf e.pri l == 1
  let fwd := d.hfb.fwd.map (fun kv => (kv.1, if hit kv.2 then { kv.2 with useBkp := true } else kv.2))
  let d' := { d with hfb := { d.hfb with fwd := fwd } }
  let d' := if d.hfb.fwd.any (fun kv => kv.2.valid && hit kv.2) then d'.raise FS.HFB_REROUTE else d'
  let emptied (e : FwdEnt) : Bool :=
    e.valid && isoFlow e.flow && !e.loc && e.egress (u + 2 ^ l) != 0 && ({ e with useBkp := e.useBkp || hit e } : FwdEnt).egress u == 0
  if d.hfb.fwd.any (fun kv => emptied kv.2) then d'.raise FS.HFB_NOROUTE else d'

/-- The adjacency of a link returns to NONE (R206); `dead` raises HFB.ADJ_DEAD. -/
def Dev.adjNone (d : Dev) (l : Nat) (dead : Bool) : Dev :=
  let was := d.get HFB_ADJ.STATE l
  let d := (d.put HFB_ADJ.STATE 0 l).setAdj0 l {}
  if was = 2 then
    let d := d.put HFB_ADJ.DEADEV 1 l
    let d := if dead then d.raise FS.HFB_ADJ_DEAD else d
    d.reroute l
  else d

/-- A HELLO arrives (R182, R205, R206): checked, consumed by HFB. -/
def Dev.helloReceive (d : Dev) (l : Nat) (bs : List Byte) : Dev :=
  if !d.lActive l then d
  else if !hdrOk 2 bs then d.headerError l 2 bs
  else
    let st := crcState bs
    let d := d.freeCell l 2 bs
    if st ≠ 0 then d.crcError l st
    else
    let d := d.perfEvent 0x19 1 { k := 2 }
    if hFlow bs = 0 ∧ 4 ≤ hType bs then d.typeError l
    else if hType bs ≠ 0 ∨ hFlow bs ≠ 0 then d
    else
      let p := cellPay bs
      let fab := beAt p 16 8
      if fab ≠ d.get HFB_FABID_HI.FABID * 2 ^ 32 + d.get HFB_FABID_LO.FABID then (d.put HFB_ADJ.FIDMIS 1 l).adjNone l false
      else
        let uid := beAt p 0 8
        let x := d.adj0 l
        let d := d.startTimer .adj l
        match d.get HFB_ADJ.STATE l with
        | 0 => (d.put HFB_ADJ.STATE 1 l).setAdj0 l ⟨uid, 1, beAt p 8 2, cb p 10⟩
        | 1 =>
          if uid ≠ x.uid then d.adjNone l false
          else if 3 ≤ x.n + 1 then
            let d := ((d.put HFB_ADJ.NBR x.node l).put HFB_ADJ.RLINK x.link l).put HFB_ADJ.STATE 2 l
            let own := d.get SYS_BLK_CFG.FI + 16 * d.get SYS_BLK_CFG.NB
            let d := d.put HFB_ADJ.FNMIS (b2n (cb p 12 % 64 != own)) l
            let d := if d.hfb.phase = 0 ∧ !d.is HFB_NODE.MODE ∧ d.nodeId = 0 then
                ({ d with hfb := { d.hfb with phase := 1 } }).startTimer .claim
              else d
            d.setAdj0 l { x with n := x.n + 1 }
          else d.setAdj0 l { x with n := x.n + 1 }
        | _ => if uid ≠ x.uid then d.adjNone l true else d.put HFB_ADJ.NBR (beAt p 8 2) l

/-- No valid HELLO for DEAD ms, at least 3 (R206). -/
def Dev.adjDead (d : Dev) (l : Nat) : Dev :=
  if !d.isDue .adj (max 3 (d.get HFB_CFG.DEAD) * 1000000) l then d else
  match d.get HFB_ADJ.STATE l with
  | 0 => d
  | 2 => d.adjNone l true
  | _ => d.adjNone l false

/-! ### Forwarding (R192, R193, R197, R207, R214 to R218) -/

/-- The valid entry of a flow. -/
def Dev.lookup (d : Dev) (flow : Nat) : Option (Nat × FwdEnt) := d.hfb.fwd.find? (fun kv => kv.2.valid && kv.2.flow == flow)

/-- Cells that have left link l for a flow and extended block number. -/
def Dev.usedCells (d : Dev) (l flow blk : Nat) : Nat := (d.hfb.used.filter (fun x => x == (l, flow, blk))).length

/-- Queue an ISO cell at an egress under policing (R197). -/
def Dev.isoTo (d : Dev) (l flow : Nat) (c : QCell) : Dev :=
  let ok := match d.rsvOf l flow with
    | some (_, n) => decide (d.usedCells l flow (c.blk % 2 ^ 32) < n)
    | none => false
  if ok then
    let d := { d with hfb := { d.hfb with used := (l, flow, c.blk % 2 ^ 32) :: d.hfb.used } }
    d.queueCell l c
  else (d.inc HLK_DROP.POLICE l).raise FS.HLK_POLICE

/-- Queue a cell at every link of a mask. -/
def Dev.sendTo (d : Dev) (mask flow : Nat) (c : QCell) : Dev :=
  (List.range 8).foldl (fun d l =>
    if bitOf mask l = 1 then (if c.cls = 1 then d.isoTo l flow c else d.queueCell l c) else d) d

/-- Of a mask, the links that take a cell cut through: whose rate does not exceed the ingress rate (R192). -/
def Dev.cutMask (d : Dev) (i mask : Nat) : Nat :=
  forN 8 (fun l m => m + 2 ^ l * b2n (bitOf mask l == 1 && decide (d.wordRate l ≤ d.wordRate i))) 0

/-- Forward a received cell to a mask of egresses: TTL 0 is discarded; a cell whose CRC failed leaves only where it is
cut through, stomped (R192, R193). -/
def Dev.forward (d : Dev) (i mask flow st : Nat) (bs : List Byte) (id : Nat) : Dev :=
  if mask = 0 then d
  else if hTtl bs = 0 then d.inc HLK_DROP.TTL i
  else
    let mask := if st = 0 then mask else d.cutMask i mask
    let c : QCell := { cls := hCls bs, bytes := setTtl (bs.take 16 ++ cellPay bs) (hTtl bs - 1), stomp := st != 0, ing := i, id := id,
                       blk := if hCls bs = 1 then d.extBlk (hBlk bs) else 0 }
    (d.sendTo mask flow c).perfEvent 0x1A (if mask = 0 then 0 else 1) { k := hCls bs }

/-- The de-duplication window (R218): the entry after a cell of an extended block number, and whether it is a duplicate. Eight block
numbers. -/
def FwdEnt.window (e : FwdEnt) (blk cidx : Nat) : Bool × FwdEnt :=
  let newest := match e.newest with
    | some n => if later32 blk n then blk else n
    | none => blk
  let old (b : Nat) : Bool := later32 newest (b + 7)
  if e.seen.contains (blk, cidx) || old blk then (true, e)
  else (false, { e with newest := some newest, seen := (blk, cidx) :: e.seen.filter (fun x => !old x.1) })

/-- Replace an entry. -/
def Dev.setFwd (d : Dev) (idx : Nat) (e : FwdEnt) : Dev := { d with hfb := { d.hfb with fwd := tabIns d.hfb.fwd idx e } }

/-- A fresh number for a received cell. -/
def Dev.cellId (d : Dev) : Nat × Dev := (d.hfb.cells, { d with hfb := { d.hfb with cells := d.hfb.cells + 1 } })

/-- The credit of a received cell returns unless copies of it wait (R188). -/
def Dev.settleCell (d : Dev) (i soc id : Nat) (bs : List Byte) : Dev :=
  d.release { cls := soc, bytes := bs.take 16 ++ cellPay bs, ing := i, id := id }

/-- The flood cache at the present tick: keys older than 100 ms gone (R207). -/
def Dev.floodFresh (d : Dev) : List (Nat × Nat) := d.hfb.flood.filter (fun x => decide (d.tclk < x.2 + 25000000))

/-- A key of the flood cache ages out: those 100 ms old go (R207). -/
def Dev.floodExpire (d : Dev) : Dev := { d with hfb := { d.hfb with flood := d.floodFresh } }

/-- The flood key (SRC, SEQ, trailing CRC). -/
def floodKey (bs : List Byte) : Nat := (hSrc bs * 65536 + hSeq bs) * 2 ^ 32 + beAt bs (16 + 4 * hLenw bs) 4

/-- A broadcast cell (R192, R207): a key in the cache discards it, else it goes to the ring and to every other link of U. -/
def Dev.floodCell (d : Dev) (i : Nat) (bs : List Byte) (id : Nat) : Dev :=
  let cache := d.floodFresh
  let k := floodKey bs
  if cache.any (fun x => x.1 == k) then ({ d with hfb := { d.hfb with flood := cache } }).inc HFB_DROP.FLOOD
  else
    let d := { d with hfb := { d.hfb with flood := ((k, d.tclk) :: cache).take 4096 } }
    (d.toRing i bs).forward i (d.upMask - (if bitOf d.upMask i = 1 then 2 ^ i else 0)) 0xFFFFF 0 bs id

/-! ### Receive contexts (R219 to R223) -/

/-- A flow context's hidden state. -/
def Dev.ctx (d : Dev) (x : Nat) : FlowSt := tabGet {} d.flow x

/-- Replace it. -/
def Dev.setCtx (d : Dev) (x : Nat) (f : FlowSt) : Dev := { d with flow := tabPut {} d.flow x f }

/-- Bytes per sample of a context. -/
def Dev.ctxBytes (d : Dev) (x : Nat) : Nat := if d.get FLOW_CFG.FMT x = 0 then 4 else 3

/-- Payload bytes of a context in one block. -/
def Dev.ctxLen (d : Dev) (x : Nat) : Nat := d.nb * d.get FLOW_MAP.NCH x * d.ctxBytes x

/-- NC: cells per block (R219). -/
def Dev.ctxNc (d : Dev) (x : Nat) : Nat := cdiv (d.ctxLen x) 512

/-- Payload bytes of cell CIDX of a context (R186). -/
def Dev.cellLen (d : Dev) (x cidx : Nat) : Nat :=
  let n := d.ctxLen x - 512 * cidx
  if 512 ≤ n then 512 else 4 * cdiv n 4

/-- A receive context accepts a cell or counts why not (R221). -/
def Dev.ctxAccept (d : Dev) (x : Nat) (bs : List Byte) : Dev :=
  if !d.running then d
  else
    let m := d.extBlk (hBlk bs)
    let cidx := hCidx bs
    let off := d.get FLOW_CFG.PRES x + d.get FLOW_CFG.HOLD x
    let c := d.ctx x
    if later32 m (d.cyc.k + 1) then d.inc FLOW_STAT.FORM x
    else if d.ctxNc x ≤ cidx ∨ 4 * hLenw bs ≠ d.cellLen x cidx then d.inc FLOW_STAT.FORM x
    else if later32 d.cyc.k (m + off) then d.inc FLOW_STAT.LATE x
    else if c.got.any (fun g => g.1 == m && g.2.1 == cidx) then d.inc FLOW_STAT.DUP x
    else d.setCtx x { c with got := c.got ++ [(m, cidx, cellPay bs)] }

/-- The context that receives a flow: CTX of the entry where it is a receive context. -/
def Dev.deliverIso (d : Dev) (ctx : Nat) (bs : List Byte) : Dev :=
  if d.get FLOW_CFG.KIND ctx = 1 then d.ctxAccept ctx bs else d

/-- A cell whose header is complete meets its entry's window: is it a duplicate, which is discarded and counted (R218)? -/
def Dev.passWindow (d : Dev) (idx : Nat) (e : FwdEnt) (bs : List Byte) : Bool × Dev :=
  let (dup, e') := if e.dedup then e.window (d.extBlk (hBlk bs)) (hCidx bs) else (false, e)
  let d := d.setFwd idx e'
  (dup, if dup then d.inc HFB_DROP.DUP else d)

/-- An entry hit (R215, R218): duplicates discarded, copies to the egress set, local delivery. -/
def Dev.hitCell (d : Dev) (i st idx : Nat) (e : FwdEnt) (bs : List Byte) (id : Nat) : Dev :=
  let cls := hCls bs
  let (dup, d) := d.passWindow idx e bs
  if dup then d
  else
    let eg := e.egress d.upMask
    let eg := if bitOf eg i = 1 then eg - 2 ^ i else eg
    if eg = 0 ∧ e.loc = false then d.inc HFB_DROP.NOROUTE
    else
      let d := d.forward i eg e.flow st bs id
      if e.loc && st == 0 then
        if cls = 1 then (if hType bs ≠ 0 then d.typeError i else d.deliverIso e.ctx bs) else d.toRing i bs
      else d

/-- A link-local cell is consumed at the link; one of an unassigned type counts as a header error (R182, R215). -/
def Dev.localCell (d : Dev) (i soc st : Nat) (bs : List Byte) : Dev :=
  if st = 0 ∧ (if soc = 1 then decide (hType bs ≠ 0) else badType bs) = true then d.typeError i else d

/-- A cell of class ISO, CTRL or BULK arrives at a link: header checks, the forwarding decision, the CRC, credit
(R192, R193, R215). -/
def Dev.cellReceive (d : Dev) (i soc : Nat) (bs : List Byte) : Dev :=
  if !d.lActive i then d
  else if !hdrOk soc bs then d.headerError i soc bs
  else
    let st := crcState bs
    let d := (d.crcError i st).perfEvent 0x19 (if st = 0 then 1 else 0) { k := soc }
    let (id, d) := d.cellId
    let f := hFlow bs
    let d :=
      if f = 0 then d.localCell i soc st bs
      else if f = 0xFFFFF ∧ 2 ≤ soc then (if st = 0 then d.floodCell i bs id else d)
      else if f = 0xF0000 + d.nodeId ∧ d.nodeId ≠ 0 ∧ 2 ≤ soc then (if st = 0 then d.toRing i bs else d)
      else
        match d.lookup f with
        | none => d.inc HFB_DROP.MISS
        | some (idx, e) => d.hitCell i st idx e bs id
    d.settleCell i soc id bs

/-! ### Links going down (R190, R191, R193, R203) -/

/-- The cells queued at a link are discarded and their credit returns; one that is partly sent is cut short and counted with them (R203). -/
def Dev.flushLink (d : Dev) (l : Nat) : Dev :=
  let q := (d.lnk l).q
  let d := if 64 * d.tclk < (d.lnk l).until16 then d.inc HLK_DROP.DOWN l else d
  let d := d.setLnk l { d.lnk l with q := [] }
  q.foldl (fun d c => (d.inc HLK_DROP.DOWN l).release c) d

/-- A link leaves ACTIVE. -/
def Dev.leaveActive (d : Dev) (l : Nat) : Dev := ((d.flushLink l).setLnk l {}).adjNone l false

/-- An event at a moment at which part of a cell has arrived at a link: its class and bytes. -/
def Dev.withPart (d : Dev) (l soc : Nat) (part : List Byte) (f : Dev → Dev) : Dev :=
  let d := f (d.setLnk l { d.lnk l with part := (soc, part) })
  d.setLnk l { d.lnk l with part := (0, []) }

/-- The cell that was arriving as its link was lost: a duplicate, known by its header, is discarded; where it was being cut through, the egress
completes it with zero bytes and a stomped CRC (R193, R218). A broadcast is never cut through: its trailing CRC is part of the key that
decides (R207). -/
def Dev.partCell (d : Dev) (i : Nat) : Dev :=
  let soc := (d.lnk i).part.1
  let bs := (d.lnk i).part.2
  if bs.length < 16 ∨ soc = 0 then d
  else if !hdrOk soc (bs.take 16) then d
  else
    match d.lookup (hFlow bs) with
    | none => d
    | some (idx, e) =>
      let (dup, d) := d.passWindow idx e bs
      let eg := e.egress d.upMask
      let eg := if bitOf eg i = 1 then eg - 2 ^ i else eg
      if dup || decide (bs.length < 24) then d else d.forward i eg e.flow 1 bs 0

/-- An ACTIVE link goes DOWN with a cause (R190). -/
def Dev.linkDown (d : Dev) (l cause : Nat) : Dev :=
  if d.lState l ≠ 3 then d
  else
    let d := (((d.partCell l).setLState l 4).put HLK_STAT.CAUSE cause l).put HLK_STAT.DOWNEV 1 l
    let d := (d.emit (.rfault l)).raise (FS.HLK_DOWN + l)
    d.leaveActive l

/-- A LINK control block arrives (R178, R190, R191); one of another VER is none that the manual defines and has no effect (DEDUCED, log
entry 126). -/
def Dev.linkBlock (d : Dev) (l : Nat) (body : BitVec 56) : Dev :=
  if linkVer body ≠ 1 then d
  else if d.lState l = 3 then (if linkRfault body then d.linkDown l 4 else d)
  else d.linkBlockInit l (linkLocked body) (linkRate body)

/-- A class has cells waiting, in the link's queue or at the front of its transmit ring, and its credit counter has not advanced for
1 ms (R188). -/
def Dev.creditTimeout (d : Dev) (l cls : Nat) : Dev :=
  let (ent, e) := d.ringFront (72 + l) 1 64
  let waiting := (d.firstOf l cls).isSome || ent.any (fun x => hCls x.2.2 == cls && decide (2 ≤ cls))
  if waiting && decide (tabGet 0 (d.lnk l).adv cls + 250000 ≤ d.tclk) then e.linkDown l 5 else d

/-- An enabled link goes to DISABLED, its transmitter at electrical idle (R190). -/
def Dev.linkToDisabled (d : Dev) (l : Nat) : Dev :=
  if d.lState l = 0 then d
  else if d.lActive l then (d.setLState l 0).leaveActive l else d.setLState l 0

/-- DISABLE written (R190). -/
def Dev.linkDisable (d : Dev) (l : Nat) (on : Bool) : Dev :=
  let d := d.put HLK_CTRL.DISABLE (b2n on) l
  if on then d.linkToDisabled l
  else if d.is HLK_CFG.EN l && d.lState l == 0 then d.setLState l 1 else d

/-- A link whose rate a planned restart changes, `o` being the device before it: DISABLED, then TRAIN at the new rate; one that the new
image does not enable stays DISABLED (R203). -/
def Dev.linkRestart (d o : Dev) (l : Nat) : Dev :=
  if !d.is HLK_CFG.EN l then d.linkToDisabled l
  else if d.get HLK_CFG.RATE l ≠ o.get HLK_CFG.RATE l && d.lState l != 0 then (d.linkToDisabled l).setLState l 1
  else d

/-! ### Sealing receive contexts (R222) -/

/-- Sample k of a byte stream of samples of 2, 3 or 4 bytes, most significant byte first. -/
def flowSample (bytes : Nat) (bs : List Byte) (k : Nat) : Int := sgn32 (beAt bs (bytes * k) bytes * 256 ^ (4 - bytes))

/-- The samples of a complete block: the payloads in order of CIDX. -/
def Dev.ctxPayload (d : Dev) (x m : Nat) : List Byte :=
  forN (d.ctxNc x) (fun c acc =>
    match (d.ctx x).got.find? (fun g => g.1 == m && g.2.1 == c) with
    | some g => acc ++ g.2.2
    | none => acc) []

/-- A ramp product of R94: z × num ÷ den, rounded half to even. -/
def rampMul (z : Int) (num den : Nat) : Int := rhe (z * num) den

/-- Present one block of a context, given its samples by channel and position: those samples, or the treatment of
FLOW_MAP.LOSS (R222). -/
def Dev.ctxPresentWith (d : Dev) (x : Nat) (f : Option (Nat → Nat → Int)) : Dev :=
  let nb := d.nb
  let nch := d.get FLOW_MAP.NCH x
  let first := d.get FLOW_MAP.FIRST x
  let c := d.ctx x
  let loss := d.get FLOW_MAP.LOSS x
  let muted := loss == 1 || (loss == 0 && c.treated)
  let val (ch i : Nat) : Int :=
    match f with
    | some z => if c.muted then rampMul (z ch i) (i + 1) nb else z ch i
    | none =>
      if muted then rampMul (sampAt c.last ch (nb - 1)) (nb - 1 - i) nb
      else if loss = 0 then sampAt c.last ch i else 0
  let t := forN nch (fun ch t => forN nb (fun i t => sampPut t ch i (val ch i)) t) []
  let d := { d with aud := { d.aud with sealed := forN nch (fun ch t => forN nb (fun i t => sampPut t (first + ch) i (val ch i)) t) d.aud.sealed } }
  let d := d.setCtx x { c with last := t, treated := f.isNone, muted := f.isNone && muted, skip := f.isNone }
  if f.isNone then (d.inc FLOW_STAT.LOSTB x).raise FS.FLOW_LOSS else d

/-- Present one block of a context from its bytes, `by_` for each sample, or treat it (R222). -/
def Dev.ctxPresent (d : Dev) (x by_ : Nat) (bs : Option (List Byte)) : Dev :=
  let nch := d.get FLOW_MAP.NCH x
  d.ctxPresentWith x (bs.map (fun b ch i => flowSample by_ b (i * nch + ch)))

/-- Seal of input block n at every Hedgerow receive context (R221, R222). A BLOCK reset of FLOW discards the
reassembly (R225). -/
def Dev.flowSeal (d : Dev) (n : Nat) : Dev :=
  forN 512 (fun x d =>
    if d.get FLOW_CFG.KIND x ≠ 1 then d
    else
      let off := d.get FLOW_CFG.PRES x + d.get FLOW_CFG.HOLD x
      let m := (n - off) % 2 ^ 32
      let nc := d.ctxNc x
      let have_ := ((d.ctx x).got.filter (fun g => g.1 == m)).length
      let full := decide (off ≤ n) && have_ == nc && !d.inReset (FLOW_CFG.base / 0x10000)
      let d := d.ctxPresent x (d.ctxBytes x) (if full then some (d.ctxPayload x m) else none)
      let d := d.setCtx x { d.ctx x with got := (d.ctx x).got.filter (fun g => later32 g.1 m) }
      (d.put FLOW_SEQ.NEXT ((n - off + 1) * nc % 65536) x).put FLOW_SEQ.BLK (m % 65536) x) d

/-! ### Transmit contexts (R217, R220, R308, R310) -/

/-- The bytes of a sample. -/
def flowBytes (bytes : Nat) (z : Int) : List Byte :=
  if bytes = 4 then beBytes 4 (unsW 32 z) else beBytes 3 (unsW 24 (clampI (-8388608) 8388607 (rhe z 256)))

/-- The cells of a transmit context for output block m, whose samples stand in `buf` (R186, R220). -/
def Dev.ctxCells (d : Dev) (x m : Nat) (buf : Tab Word) : List QCell :=
  let nch := d.get FLOW_MAP.NCH x
  let first := d.get FLOW_MAP.FIRST x
  let nb := d.nb
  let by_ := d.ctxBytes x
  let stream := (List.range (nb * nch)).foldl (fun acc k => acc ++ flowBytes by_ (sampAt buf (first + k % nch) (k / nch))) []
  let nc := d.ctxNc x
  (List.range nc).map (fun ci =>
    let pay := (stream.drop (512 * ci)).take 512
    let pay := pay ++ List.replicate (4 * cdiv pay.length 4 - pay.length) 0
    let flow := d.get FLOW_CFG.FLOW x
    let mc := match d.lookup flow with
      | some (_, e) => e.mc
      | none => false
    { cls := 1, blk := m,
      bytes := mkHdr 1 0 (ci + 1 == nc) mc (pay.length / 4) ci flow 15 d.nodeId ((m * nc + ci) % 65536) (m % 2 ^ 24) ++ pay })

/-- Does the chip send its transmit contexts (R155, R295)? -/
def Dev.sendsFlows (d : Dev) : Bool := !d.is PAIR_CFG.EN || d.pair.ownH

/-- The reservation index of a context's flow on an egress, for the order of R197. -/
def Dev.rsvIndex (d : Dev) (l x : Nat) : Nat := ((d.rsvOf l (d.get FLOW_CFG.FLOW x)).map (·.1)).getD 256

/-- The egress set of a transmit context's entry; 0 where there is none or the node has no ID (R209, R217). -/
def Dev.ctxEgress (d : Dev) (x : Nat) : Nat :=
  match d.lookup (d.get FLOW_CFG.FLOW x) with
  | some (_, e) => if d.nodeId = 0 then 0 else e.egress d.upMask
  | none => 0

/-- Insert a number by a key. -/
def insKey (key : Nat → Nat) : Nat → List Nat → List Nat
  | a, [] => [a]
  | a, b :: bs => if key a < key b then a :: b :: bs else b :: insKey key a bs

/-- The transmit contexts. -/
def Dev.txContexts (d : Dev) : List Nat := (List.range 512).filter (fun x => d.get FLOW_CFG.KIND x == 2)

/-- Queue the cells of one output block, given by context: at each egress in ascending reservation index there; a context without an
egress counts NOROUTE once for the block (R197, R217, R220). -/
def Dev.flowQueue (d : Dev) (cells : List (Nat × List QCell)) : Dev :=
  let d := cells.foldl (fun d c => if d.ctxEgress c.1 = 0 then d.inc FLOW_STAT.NOROUTE c.1 else d) d
  (List.range 8).foldl (fun d l =>
    let xs := (cells.map (·.1)).foldl (fun acc x => insKey (d.rsvIndex l) x acc) []
    xs.foldl (fun d x =>
      if bitOf (d.ctxEgress x) l = 0 then d
      else ((cells.filter (fun c => c.1 == x)).flatMap (·.2)).foldl (fun d c => d.isoTo l (d.get FLOW_CFG.FLOW x) c) d) d) d

/-- The cells of output block m have been queued for sending (R300). -/
def Dev.sentBlock (d : Dev) (m : Nat) : Dev := { d with pair := { d.pair with sentTo := m } }

/-- Transmission of output block m from its emission buffer (R220); the cells of the four latest blocks are retained
(R310). Nothing is sent while FLOW is in reset (R225). -/
def Dev.flowTransmit (d : Dev) (m : Nat) : Dev :=
  if d.inReset (FLOW_CFG.base / 0x10000) then d
  else
    let xs := d.txContexts
    let cells := xs.map (fun x => (x, d.ctxCells x m d.aud.emit))
    let d := xs.foldl (fun d x => (d.put FLOW_SEQ.NEXT ((m + 1) * d.ctxNc x % 65536) x).put FLOW_SEQ.BLK (m % 65536) x) d
    let d := if d.is PAIR_CFG.EN then { d with retained := ((m, cells) :: d.retained).take 4 } else d
    if d.sendsFlows then (d.flowQueue cells).sentBlock m else d

/-- TXDONE: the latest output block whose cells have all left; 0 where the chip has sent none (R300). -/
def Dev.txDone (d : Dev) : Nat :=
  let waiting := (List.range 8).flatMap (fun l => ((d.lnk l).q.filter (fun c => c.cls == 1 && c.ing == 255)).map (·.blk))
  match waiting with
  | [] => d.pair.sentTo
  | b :: bs => bs.foldl min b - 1

/-- A takeover replays the retained blocks from the 32-bit number `from_` on, oldest first (R310). -/
def Dev.replay (d : Dev) (from_ : Nat) : Dev :=
  (d.retained.filter (fun b => !later32 from_ b.1)).reverse.foldl (fun d b => (d.flowQueue b.2).sentBlock b.1) d

/-! ### The forwarding table's commands (R214) -/

/-- Write an entry from W0 and W1, or refuse: an entry written with VALID = 0 gives no valid entry, and its FLOW and masks
are checked all the same. -/
def Dev.fwdWrite (d : Dev) (idx : Nat) : Dev :=
  let w0 := d.rd HFB_FWD_W0
  let w1 := d.rd HFB_FWD_W1
  let e : FwdEnt := { flow := fget w0 19 0, pri := fget w1 15 8, bkp := fget w1 7 0, mc := fget w0 30 30 == 1,
                      loc := fget w0 29 29 == 1, ctx := fget w0 28 20, dedup := fget w1 31 31 == 1, revert := fget w1 30 30 == 1,
                      valid := fget w0 31 31 == 1 }
  let others := d.hfb.fwd.filter (fun kv => kv.1 != idx && kv.2.valid)
  let pop (m : Nat) : Nat := forN 8 (fun l n => n + bitOf m l) 0
  if (e.valid && others.any (fun kv => kv.2.flow == e.flow)) || e.flow == 0 || e.flow == 0xFFFFF || e.flow == 0xF0000 + d.nodeId
      || (!e.mc && (decide (1 < pop e.pri) || decide (1 < pop e.bkp)))
      || (e.valid && e.dedup && decide (1024 ≤ (others.filter (fun kv => kv.2.dedup)).length)) then d.put HFB_FWD_CMD.REFUSED 1
  else d.setFwd idx e

/-- Invalidate an entry. -/
def Dev.fwdInvalidate (d : Dev) (idx : Nat) : Dev :=
  match d.hfb.fwd.find? (fun kv => kv.1 == idx) with
  | none => d
  | some (_, e) => d.setFwd idx { e with valid := false }

/-- Read an entry into W0 and W1. -/
def Dev.fwdRead (d : Dev) (idx : Nat) : Dev :=
  match d.hfb.fwd.find? (fun kv => kv.1 == idx) with
  | none => (d.wr HFB_FWD_W0 0).wr HFB_FWD_W1 0
  | some (_, e) =>
    let w0 := 2 ^ 31 * b2n e.valid + 2 ^ 30 * b2n e.mc + 2 ^ 29 * b2n e.loc + 2 ^ 20 * e.ctx + e.flow
    let w1 := 2 ^ 31 * b2n e.dedup + 2 ^ 30 * b2n e.revert + 2 ^ 29 * b2n e.useBkp + 256 * e.pri + e.bkp
    (d.wr HFB_FWD_W0 (BitVec.ofNat 32 w0)).wr HFB_FWD_W1 (BitVec.ofNat 32 w1)

/-- A write of HFB_FWD_CMD. -/
def Dev.fwdCommand (d : Dev) (w : Word) : Dev :=
  let d := d.store HFB_FWD_CMD w
  let idx := d.get HFB_FWD_CMD.IDX
  match fget w 1 0 with
  | 1 => d.fwdWrite idx
  | 2 => d.fwdRead idx
  | 3 => d.fwdInvalidate idx
  | _ => d

/-- At a boundary, entries with REVERT whose primary links are back leave the backup (R216). -/
def Dev.revert (d : Dev) : Dev :=
  let u := d.upMask
  { d with hfb := { d.hfb with fwd := d.hfb.fwd.map (fun kv =>
      (kv.1, if kv.2.revert && kv.2.useBkp && (kv.2.pri &&& u) == kv.2.pri then { kv.2 with useBkp := false } else kv.2)) } }

/-! ### HELLO, topology, node identity, time source (R205, R208 to R213) -/

/-- The die identity. -/
def Dev.uid (d : Dev) : Nat := d.fuse.uid

/-- Does the fabric service of the management firmware run (R204, R225)? -/
def Dev.fabricService (d : Dev) : Bool := d.mgmt.fwRunning

/-- A broadcast CTRL cell of this node: on every link of U (R207). -/
def Dev.broadcast (d : Dev) (ty seq : Nat) (pay : List Byte) : Dev :=
  let bs := mkHdr 2 ty false false (pay.length / 4) 0 0xFFFFF 15 d.nodeId (seq % 65536) d.cellBlk ++ pay
  d.sendTo d.upMask 0xFFFFF { cls := 2, bytes := bs }

/-- FLAGS of the node's TOPO record. -/
def Dev.topoFlags (d : Dev) : Nat :=
  let t := d.get HLK_TSYNC.TB
  d.get HFB_NODE.MODE + 2 * d.get PAIR_CFG.EN + 4 * b2n (d.get PAIR_STAT.ROLE == 2) + 8 * d.get TIME_TB_CFG.TRACEABLE t
    + 16 * b2n (d.tbHoldover t)

/-- The links that are UP. -/
def Dev.upLinks (d : Dev) : List Nat := (List.range 8).filter (fun l => d.get HFB_ADJ.STATE l == 2)

/-- The neighbour entries of this node's record: node, local and remote link, rate, delay in ns (R208). -/
def Dev.topoAdj (d : Dev) : List (Nat × Nat × Nat × Nat × Nat) :=
  d.upLinks.map (fun l => (d.get HFB_ADJ.NBR l, l, d.get HFB_ADJ.RLINK l, d.get HLK_CFG.RATE l,
    min 65535 (rhe (d.get HLK_DELAY.DELAY l) 16).toNat))

/-- This node's own record. -/
def Dev.ownRec (d : Dev) : TopoRec :=
  { uid := d.uid, node := d.nodeId, seq := d.hfb.topoSeq, flags := d.topoFlags, tprio := d.get HFB_CFG.TPRIO, adj := d.topoAdj }

/-- What this node says of itself that an election rests on: its ID, flags, TPRIO and adjacencies (R213). -/
def Dev.ownKey (d : Dev) : TopoRec :=
  { d.ownRec with seq := 0, adj := d.upLinks.map (fun l => (d.get HFB_ADJ.NBR l, l, d.get HFB_ADJ.RLINK l, 0, 0)) }

/-- A change of which calls for a TOPO record: the node's ID and flags, and its adjacencies with their states (R208). -/
def Dev.topoKey (d : Dev) : TopoRec × List Nat :=
  ({ d.ownKey with tprio := 0 }, (List.range 8).map (fun l => d.get HFB_ADJ.STATE l))

/-- A TOPO record is called for (R208, R210). -/
def Dev.topoCall (d : Dev) : Dev := { d with hfb := { d.hfb with topoDue := true } }

/-- The fabric service originates a TOPO record after a change, or 1 s after the last one (R208, R225). -/
def Dev.topoOriginate (d : Dev) : Dev :=
  if !d.fabricService || (!d.hfb.topoDue && !d.isDue .topo 1000000000) then d else
  let d := ({ d with hfb := { d.hfb with topoDue := false } }).startTimer .topo
  let d := { d with hfb := { d.hfb with topoSeq := (d.hfb.topoSeq + 1) % 65536 } }
  let r := d.ownRec
  let ent (a : Nat × Nat × Nat × Nat × Nat) : List Byte :=
    beBytes 2 a.1 ++ beBytes 1 a.2.1 ++ beBytes 1 a.2.2.1 ++ beBytes 1 a.2.2.2.1 ++ [0] ++ beBytes 2 a.2.2.2.2
  let p := beBytes 8 r.uid ++ beBytes 1 r.flags ++ beBytes 1 r.tprio ++ beBytes 1 r.adj.length
    ++ [0, 0, 0, 0, 0] ++ r.adj.flatMap ent
  d.broadcast 1 d.hfb.topoSeq p

/-- A TOPO record from a cell (R208). -/
def topoOf (bs : List Byte) : TopoRec :=
  let p := cellPay bs
  { uid := beAt p 0 8, node := hSrc bs, seq := hSeq bs, flags := cb p 8, tprio := cb p 9,
    adj := (List.range (min 8 (cb p 10))).map (fun k =>
      (beAt p (16 + 8 * k) 2, cb p (18 + 8 * k), cb p (19 + 8 * k), cb p (20 + 8 * k), beAt p (22 + 8 * k) 2)) }

/-- All nodes that the database shows, this one included. -/
def Dev.nodes (d : Dev) : List TopoRec := d.ownRec :: (d.hfb.topo.map (·.2)).filter (fun r => r.uid != d.uid)

/-- Does one eligible node rank before another as time source (R213)? -/
def tsBefore (a b : TopoRec) : Bool :=
  let k (r : TopoRec) : Nat := (r.tprio * 2 + (1 - bitOf r.flags 3)) * 2 + bitOf r.flags 4
  decide (k a < k b) || (k a == k b && decide (a.uid < b.uid))

/-- The fabric time source. -/
def Dev.timeSource (d : Dev) : Option TopoRec :=
  (d.nodes.filter (fun r => decide (r.tprio < 255))).foldl
    (fun b r => match b with | none => some r | some x => if tsBefore r x then some r else some x) none

/-- Is this node the fabric time source (R213)? -/
def Dev.isSource (d : Dev) : Bool := d.timeSource.any (fun r => r.uid == d.uid)

/-- A HELLO is queued on a link that is ACTIVE, every 1 ms (R205); its SEQ is not given by the manual (free). -/
def Dev.helloSend (d : Dev) (l : Nat) : Dev :=
  if !d.lActive l || !d.isDue .hello 990000 l then d
  else
    let (k, d) := (d.startTimer .hello l).draw
    let fl := d.get HFB_NODE.MODE + 2 * d.get PAIR_CFG.EN + 4 * b2n d.isSource + 8 * b2n d.running
    let p := beBytes 8 d.uid ++ beBytes 2 d.nodeId ++ beBytes 1 l ++ beBytes 1 fl
      ++ beBytes 1 (d.get SYS_BLK_CFG.FI + 16 * d.get SYS_BLK_CFG.NB) ++ [0, 0, 0]
      ++ beBytes 4 (d.get HFB_FABID_HI.FABID) ++ beBytes 4 (d.get HFB_FABID_LO.FABID)
    d.queueCell l { cls := 2, bytes := mkHdr 2 0 false false 6 0 0 0 d.nodeId (Config.freeNat k % 65536) d.cellBlk ++ p }

/-- Hop counts from the source, by UID, after so many rounds: a node takes one more than its best neighbour. Nodes
without an ID cannot be named by others. -/
def hopRounds (nodes : List TopoRec) : Nat → Tab Nat → Tab Nat
  | 0, t => t
  | f + 1, t =>
    let t' := nodes.foldl (fun acc r =>
      if (t.find? (fun kv => kv.1 == r.uid)).isSome then acc
      else
        let reach := r.adj.filterMap (fun a => (nodes.find? (fun n => n.node == a.1 && n.node != 0)).bind
          (fun n => (t.find? (fun kv => kv.1 == n.uid)).map (·.2)))
        match reach with
        | [] => acc
        | x :: xs => tabIns acc r.uid (xs.foldl min x + 1)) t
    hopRounds nodes f t'

/-- The parent link of a node towards the source: least hops, then the next node's ID, then the link index (R213). -/
def parentOf (nodes : List TopoRec) (hops : Tab Nat) (r : TopoRec) : Option (Nat × Nat) :=
  r.adj.foldl (fun best a =>
    match (nodes.find? (fun n => n.node == a.1 && n.node != 0)).bind (fun n =>
      (hops.find? (fun kv => kv.1 == n.uid)).map (fun h => (h.2, n.uid))) with
    | none => best
    | some (h, u) =>
      let key := (h * 65536 + a.1) * 256 + a.2.1
      match best with
      | none => some (key, u)
      | some b => if key < b.1 then some (key, u) else some b) none

/-- Time-source election and the settings that follow (R213). Where no node is eligible, the node follows none and sends no SYNC cells
(DEDUCED, log entry 127). -/
def Dev.timeElect (d : Dev) : Dev :=
  match d.timeSource with
  | none => forN 8 (fun l d => d.put HLK_SYNC_CFG.TXEN 0 l) (d.put HLK_TSYNC.EN 0)
  | some src =>
    let nodes := d.nodes
    let hops := hopRounds nodes 32 [(src.uid, 0)]
    let own := d.ownRec
    let mine := (hops.find? (fun kv => kv.1 == d.uid)).map (·.2)
    let d := { d with hfb := { d.hfb with hops := (mine.getD 1) - 1 } }
    let d := if src.uid = d.uid then d.put HLK_TSYNC.EN 0
      else match parentOf nodes hops own with
        | some (key, _) => (d.put HLK_TSYNC.LINK (key % 256)).put HLK_TSYNC.EN 1
        | none => d
    forN 8 (fun l d =>
      let child := d.get HFB_ADJ.STATE l == 2 &&
        (match nodes.find? (fun n => n.uid == (d.adj0 l).uid) with
         | some n => n.uid != src.uid && (match parentOf nodes hops n with
            | some (key, u) => u == d.uid && key % 256 == d.get HFB_ADJ.RLINK l
            | none => false)
         | none => false)
      d.put HLK_SYNC_CFG.TXEN (b2n child) l) d

/-- Where the stored node ID lies in MRAM: the model's own layout. -/
abbrev mramNode : Nat := memMram + 0x3000

/-- The stored node ID, 0 where none is valid, as an initiator reads it from the MRAM (R210, R315). -/
def Dev.storedId (d : Dev) (master : Nat) : Nat × Dev :=
  let (w, d) := d.eccRead mramNode FS.SYS_MRAM_CORR FS.SYS_MRAM_UNC master
  (if w.toNat % 2 ^ 16 ≤ 0xFFE then w.toNat % 2 ^ 16 else 0, d)

/-- A write of HFB_NODE.ID, which calls for a TOPO record where it is accepted, also with the ID held (R210); the flag says that it was. -/
def Dev.nodeIdWrite (d : Dev) (v : Nat) : Bool × Dev :=
  let ok := if d.is HFB_NODE.MODE then v == 0 || v == d.hfb.staticId else decide (v ≤ 0xFFE)
  if !ok then (false, d)
  else
    let d := (d.put HFB_NODE.ID v).topoCall
    (true, if !d.is HFB_NODE.MODE && v != 0 then d.setMemLe mramNode 2 v else d)

/-- Is an ID held by another node of the database? -/
def Dev.idTaken (d : Dev) (id : Nat) : Bool := d.hfb.topo.any (fun kv => kv.2.node == id && kv.2.uid != d.uid)

/-- The next free ID after a number, within 0x0001 to 0x0FFE; past the last one the search goes on from the first; 0 where none is free
(R211; DESIGN CHOICE, log entry 148). -/
def Dev.freeId (d : Dev) (after : Nat) : Nat :=
  (((List.range 0xFFE).map (fun i => (after + i) % 0xFFE + 1)).find? (fun i => i != after && !d.idTaken i)).getD 0

/-- Claiming a candidate begins: its first CLAIM is due at once (R211). Where no ID is free the election waits, and the end of its wait tries
again (DESIGN CHOICE, log entry 148). -/
def Dev.claimWith (d : Dev) (c : Nat) : Dev :=
  if c = 0 then { d with hfb := { d.hfb with phase := 1 } }
  else (({ d with hfb := { d.hfb with phase := 2, cand := c, claims := 0, beaten := false } }).stopTimer .claim 1).stopTimer .claim 2

/-- The 1.5 s wait is over: the candidate ID is chosen (R211). -/
def Dev.electWaitDone (d : Dev) : Dev :=
  if !d.fabricService || !d.isDue .claim 1500000000 then d else
  if d.is HFB_NODE.MODE || d.nodeId != 0 || d.hfb.phase != 1 then d
  else
    let (c, d) := d.storedId 64
    let c := if c = 0 ∨ d.idTaken c = true then d.freeId 0 else c
    d.claimWith c

/-- The payload of an ELECT cell (R211). -/
def Dev.electPay (d : Dev) (op id : Nat) : List Byte :=
  beBytes 1 op ++ beBytes 1 (d.get HFB_NODE.MODE) ++ beBytes 2 id ++ beBytes 8 d.uid ++ [0, 0, 0, 0]

/-- A CLAIM of the candidate is sent, at most three times, 50 ms apart (R211, R225); its SEQ is free. -/
def Dev.claimSend (d : Dev) : Dev :=
  if d.hfb.phase ≠ 2 ∨ 3 ≤ d.hfb.claims ∨ d.fabricService = false ∨ d.isDue .claim 50000000 1 = false then d
  else
    let d := if d.hfb.claims = 0 then d.startTimer .claim 2 else d
    let (k, d) := (d.startTimer .claim 1).draw
    let d := { d with hfb := { d.hfb with claims := d.hfb.claims + 1 } }
    d.broadcast 2 (Config.freeNat k) (d.electPay 1 d.hfb.cand)

/-- 150 ms after the first CLAIM: the ID, claimed three times, is assigned and stored, or the next free one is tried (R211). -/
def Dev.claimWindowEnd (d : Dev) : Dev :=
  if d.hfb.phase ≠ 2 ∨ d.fabricService = false ∨ d.ranFor .claim 150000000 2 = false then d
  else if d.hfb.beaten || d.idTaken d.hfb.cand then d.claimWith (d.freeId d.hfb.cand)
  else if d.hfb.claims < 3 then d
  else
    let d := { d with hfb := { d.hfb with phase := 0 } }
    (d.nodeIdWrite d.hfb.cand).2

/-- A CLAIM or DEFEND is read by the fabric service (R211). -/
def Dev.electReceive (d : Dev) (bs : List Byte) : Dev :=
  let p := cellPay bs
  let op := cb p 0
  let id := beAt p 2 2
  let uid := beAt p 4 8
  if uid = d.uid ∨ d.fabricService = false then d
  else if op = 1 ∧ id = d.nodeId ∧ id ≠ 0 then
    let (k, d) := d.draw
    d.broadcast 2 (Config.freeNat k) (d.electPay 2 id)
  else if d.hfb.phase = 2 ∧ id = d.hfb.cand ∧ (op = 2 ∨ (op = 1 ∧ uid < d.uid)) then
    { d with hfb := { d.hfb with beaten := true } }
  else d

/-- Two UIDs hold this node's ID: the loser clears its own (R212). -/
def Dev.idConflict (d : Dev) (r : TopoRec) : Dev :=
  if r.node ≠ d.nodeId ∨ d.nodeId = 0 ∨ r.uid = d.uid then d
  else
    let mine := d.is HFB_NODE.MODE
    let theirs := bitOf r.flags 0 == 1
    let lose := if mine == theirs then decide (r.uid < d.uid) else theirs
    if lose then
      let d := (d.put HFB_NODE.ID 0).raise FS.HFB_ID_CONFLICT
      if mine then d
      else d.claimWith (d.freeId 0)
    else if mine && theirs then d.raise FS.HFB_ID_CONFLICT else d

/-- A TOPO record shows another UID with the candidate that this node claims (R211). -/
def Dev.candShown (d : Dev) (r : TopoRec) : Dev :=
  if d.hfb.phase = 2 ∧ r.node = d.hfb.cand then { d with hfb := { d.hfb with beaten := true } } else d

/-- A TOPO record is read by the fabric service (R208, R211, R212, R213). -/
def Dev.topoReceive (d : Dev) (bs : List Byte) : Dev :=
  let r := { topoOf bs with at_ := d.tclk }
  if r.uid = d.uid ∨ d.fabricService = false then d
  else
    let old := d.hfb.topo.find? (fun kv => kv.1 == r.uid)
    let newer := match old with
      | some (_, o) => later16 r.seq o.seq
      | none => decide (d.hfb.topo.length < 4094)
    if newer then ((({ d with hfb := { d.hfb with topo := tabIns d.hfb.topo r.uid r } }).candShown r).idConflict r).timeElect else d

/-- A record has not been refreshed within 3.5 s (R208, R213). -/
def Dev.topoExpire (d : Dev) (uid : Nat) : Dev :=
  if (d.hfb.topo.any (fun kv => kv.1 == uid && decide (d.tclk < kv.2.at_ + 875000000))) || !d.fabricService then d else
  ({ d with hfb := { d.hfb with topo := d.hfb.topo.filter (fun kv => kv.1 != uid) } }).timeElect

/-! ### Registers and resets -/

/-- Register writes of HLK. -/
def Dev.hlkWrite (d : Dev) (r : Reg) (i j : Nat) (w : Word) : Dev :=
  if r == HLK_CTRL then
    let was := d.is HLK_CTRL.DISABLE i
    let d := if (fget w 1 1 == 1) == was then d else d.linkDisable i (fget w 1 1 == 1)
    if fget w 0 0 == 1 then d.linkDown i 6 else d
  else d.hlkStore r i j w

/-- Register writes of HFB. -/
def Dev.hfbWrite (d : Dev) (r : Reg) (i j : Nat) (w : Word) : Dev :=
  if r == HFB_NODE then (if d.imageApplied then (d.nodeIdWrite (fget w 15 0)).2 else d)
  else if r == HFB_FWD_CMD then d.fwdCommand w
  else d.store r w i j

/-- BLOCK reset of HLK: every enabled link DOWN, counters 0 (R203); `o` is the device before its registers were reset. -/
def Dev.hlkBlockReset (d o : Dev) : Dev :=
  forN 8 (fun l d =>
    let act := o.lActive l
    let d := d.setLState l (if o.lState l = 0 then 0 else 4)
    (if act then d.leaveActive l else d.setLnk l {}).put HLK_DROP.DOWN 0 l) d

/-- What an image application makes of the links and the node, `o` being the device before it: RCAP by R195, whatever the image's words
say; the node ID of the FABRIC section in STATIC mode, the only one but 0 that writes may set, and in AUTO mode the one held, or the stored
one on the first application after a reset; at a hitless swap the ID stays (R195, R210, R225). -/
def Dev.fabricAdopt (d o : Dev) (swap : Bool) : Dev :=
  let d := forN 8 (fun l d => d.put HLK_RSV_STAT.RCAP (d.rcapOf l) l) d
  if swap then d.put HFB_NODE.ID o.nodeId
  else if d.is HFB_NODE.MODE then { d with hfb := { d.hfb with staticId := d.nodeId } }
  else if o.imageApplied then d.put HFB_NODE.ID o.nodeId
  else
    let (v, d) := d.storedId 67
    d.put HFB_NODE.ID v

/-- A change of this node's record, `o` being the device before a command: a TOPO record is called for, and the fabric service elects again, as
it does when it resumes (R208, R213, R225). -/
def Dev.electOnChange (d o : Dev) : Dev :=
  let d := if d.topoKey = o.topoKey then d else d.topoCall
  if d.fabricService && (decide (d.ownKey ≠ o.ownKey) || !o.fabricService) then d.timeElect else d

/-- BLOCK reset of HFB: adjacencies NONE, flood cache and windows cleared, table and ID kept (R225). -/
def Dev.hfbBlockReset (d o : Dev) : Dev :=
  let ups := (List.range 8).filter (fun l => o.get HFB_ADJ.STATE l == 2)
  let fwd := d.hfb.fwd.map (fun kv => (kv.1, { kv.2 with newest := none, seen := [] }))
  let d := { d with hfb := { d.hfb with adj := [], flood := [], fwd := fwd } }
  ups.foldl (fun d l => d.reroute l) d

/-- BLOCK reset of FLOW: reassembly discarded (R225). -/
def Dev.flowBlockReset (d : Dev) : Dev :=
  { d with flow := d.flow.map (fun kv => (kv.1, { kv.2 with got := [] })) }

end Sys2Proof.Machine
end

