-- ==== Sys2Proof/Machine/Eth.lean ====
section
/-! DEFINITION. The Ethernet ports: filters, stamps, rings, RTP streams (R226 to R243). -/

namespace Sys2Proof.Machine

/-! ### Frames (R227, R228) -/

/-- A MAC address of the address table. -/
def Dev.macAt (d : Dev) (e : Nat) : Nat := d.get ETH_ADDR_HI.MAC e * 2 ^ 32 + d.get ETH_ADDR_LO.MAC e

/-- Is the port in use? -/
def Dev.ethOn (d : Dev) (p : Nat) : Bool := d.get ETH_PORT_CFG.MODE p != 3

/-- Is the destination address accepted (R227)? -/
def Dev.dstOk (d : Dev) (p da : Nat) : Bool :=
  da == 0xFFFFFFFFFFFF || (d.is ETH_ADDR_HI.VALID p && da == d.macAt p)
    || (da / 2 ^ 40 % 2 == 1 && (List.range 256).any (fun e => d.is ETH_ADDR_HI.VALID (e + 2)
      && bitOf (d.get ETH_ADDR_HI.PORTS (e + 2)) p == 1 && d.macAt (e + 2) == da))

/-- Is a frame tagged? -/
def tagged (f : List Byte) : Bool := beAt f 12 2 == 0x8100

/-- Offset of the EtherType after a tag. -/
def etOfs (f : List Byte) : Nat := if tagged f then 16 else 12

/-- Is the tag's VID accepted, or the frame untagged (R227)? -/
def Dev.vlanOk (d : Dev) (p : Nat) (f : List Byte) : Bool :=
  !tagged f || (List.range 16).any (fun v => d.is ETH_VLAN.VALID p v && d.get ETH_VLAN.VID p v == beAt f 14 2 % 4096)

/-- Is a frame UDP over IPv4, not a fragment? -/
def isUdp (f : List Byte) : Bool :=
  let o := etOfs f + 2
  beAt f (etOfs f) 2 == 0x0800 && cb f o / 16 == 4 && cb f (o + 9) == 17

/-- Offset of the UDP header. -/
def udpOfs (f : List Byte) : Nat := etOfs f + 2 + 4 * (cb f (etOfs f + 2) % 16)

/-- Is it a PTP frame: EtherType 0x88F7, or UDP ports 319 and 320 (R228)? -/
def isPtp (f : List Byte) : Bool :=
  beAt f (etOfs f) 2 == 0x88F7 || (isUdp f && (beAt f (udpOfs f + 2) 2 == 319 || beAt f (udpOfs f + 2) 2 == 320))

/-- Offset of the PTP message. -/
def ptpOfs (f : List Byte) : Nat := if isUdp f then udpOfs f + 8 else etOfs f + 2

/-- The stamp of a port at this instant, the 96-bit value of its time base in 2^−16 ns with ADJ, in 1/16 ns, added (R230). -/
def Dev.ethStamp (d : Dev) (p : Nat) : Nat := (d.tbFull (d.get ETH_PORT_CFG.TB p) + sgnW 16 (d.get ETH_TS_ADJ.ADJ p) * 4096).toNat

/-- Seconds modulo 2^32 and nanoseconds of a stamp. -/
def stampSec (st : Nat) : Nat := st / 65536000000000 % 2 ^ 32
def stampNs (st : Nat) : Nat := st / 65536 % 1000000000

/-- LOW_HW, 1 to 7. -/
def Dev.lowHw (d : Dev) : Nat := max 1 (min 7 (d.get ETH_RING_CFG.LOW_HW))

/-- PTP_HW, above LOW_HW, at most 8. -/
def Dev.ptpHw (d : Dev) : Nat := max (d.lowHw + 1) (min 8 (d.get ETH_RING_CFG.PTP_HW))

/-- A frame is delivered to ring Q84 + p with its stamp, or discarded at a mark (R228, R231, R363). -/
def Dev.ethToRing (d : Dev) (p : Nat) (f : List Byte) : Dev :=
  let q := 84 + p
  let mark := if isPtp f then d.ptpHw else d.lowHw
  let st := d.ethStamp p
  let (ok, d) := if d.ringOn q && decide (d.ringSize q * mark / 8 ≤ d.ringFill q) then (false, d)
    else d.ringPush q 2 4 (stampSec st) (stampNs st) f
  if ok then d else ((d.inc ETH_PORT_STAT.RXDROP p).perfEvent 0x1B 1).raiseOnce FS.ETH_RXDROP

/-! ### Streams: constants (R229, R234) -/

/-- A stream's hidden state. -/
def Dev.strm (d : Dev) (s : Nat) : StrSt := tabGet {} d.str s

/-- Replace it. -/
def Dev.setStrm (d : Dev) (s : Nat) (x : StrSt) : Dev := { d with str := tabPut {} d.str s x }

/-- Fs in Hz. -/
def Dev.strFs (d : Dev) (s : Nat) : Nat := 48000 * 2 ^ d.get ETH_STR_CFG.FS s

/-- SPP: samples per packet. -/
def sppOf (fs ptime : Nat) : Nat := nth 0 [fs / 8000, fs / 4000, fs / 3000, fs / 1000, fs / 250] ptime

/-- SPP of a stream. -/
def Dev.strSpp (d : Dev) (s : Nat) : Nat := sppOf (d.strFs s) (d.get ETH_STR_CFG.PTIME s)

/-- Bytes of a sample: L16 or L24. -/
def Dev.strBytes (d : Dev) (s : Nat) : Nat := 2 + d.get ETH_STR_CFG.ENC s

/-- The stream's context. -/
def Dev.strCtx (d : Dev) (s : Nat) : Nat := d.get ETH_STR_CFG.CTX s

/-- Channels of a stream. -/
def Dev.strNch (d : Dev) (s : Nat) : Nat := d.get FLOW_MAP.NCH (d.strCtx s)

/-- Does a leg of a stream use port p? -/
def Dev.strLeg (d : Dev) (s p : Nat) : Bool :=
  match d.get ETH_STR_CFG.LEGS s with
  | 0 => p == 0
  | 1 => p == 1
  | 2 => true
  | _ => false

/-- Index of the leg registers that port p uses: leg g on port g with two legs, else leg 0. -/
def Dev.legOf (d : Dev) (s p : Nat) : Nat := if d.get ETH_STR_CFG.LEGS s = 2 then p else 0

/-- Is the context of a stream one that names it (R233)? -/
def Dev.strOk (d : Dev) (s : Nat) : Bool :=
  d.get FLOW_CFG.KIND (d.strCtx s) == 3 && d.get FLOW_CFG.FLOW (d.strCtx s) % 128 == s

/-! ### RTP receive (R237 to R240) -/

/-- The stream to which a UDP packet belongs (R237). -/
def Dev.strMatch (d : Dev) (p : Nat) (f : List Byte) : Option Nat :=
  if !isUdp f then none
  else
    let o := etOfs f + 2
    let u := udpOfs f
    (List.range 128).find? (fun s =>
      let g := d.legOf s p
      d.is ETH_STR_CTRL.EN s && d.get ETH_STR_CFG.DIR s == 0 && d.strOk s && d.strLeg s p
        && beAt f (o + 16) 4 == d.get ETH_STR_ADDR.ADDR s g && beAt f (u + 2) 2 == d.get ETH_STR_UDP.DPORT s g
        && (!d.is ETH_STR_HDR.SSM s || beAt f (o + 12) 4 == d.get ETH_STR_SRC.ADDR s g)
        && cb f (u + 9) % 128 == d.get ETH_STR_HDR.PT s)

/-- Payload of the RTP packet: after the header, its CSRCs and an extension (ignored). -/
def rtpPayload (f : List Byte) : List Byte :=
  let u := udpOfs f
  let len := beAt f (u + 4) 2
  let r := slice f (u + 8) (len - 8)
  let h := 12 + 4 * (cb r 0 % 16)
  let h := if cb r 0 / 16 % 2 = 1 then h + 4 + 4 * beAt r (h + 2) 2 else h
  r.drop h

/-- The sample index N of a timestamp: N ≡ T − RTPOFF modulo 2^32, nearest to the present of the stream's time base. -/
def Dev.rtpIndex (d : Dev) (s t : Nat) : Int :=
  let now := d.tb16 (d.get ETH_STR_CFG.TB s) * d.strFs s / 16000000000
  let n : Nat := (t + 2 ^ 32 - d.get ETH_STR_RTPOFF.RTPOFF s) % 2 ^ 32
  let off : Int := ((n : Int) - now) % 4294967296
  now + sgn32 off.toNat

/-- LINKOFF; 0 is treated as 1. -/
def Dev.linkOff (d : Dev) (s : Nat) : Nat := max 1 (d.get ETH_STR_TIME.LINKOFF s)

/-- PHASE modulo Tb, in 1/16 ns times the blocks of a second. -/
def Dev.phaseNum (d : Dev) : Nat := d.get SYS_BLK_PHASE.PHASE * d.bps % 16000000000

/-- How far the stream's time base lies ahead of the block time base, in 1/16 ns; a synchronous stream runs on the block time base
(R234). -/
def Dev.strAhead (d : Dev) (s : Nat) : Int := d.tb16 (d.get ETH_STR_CFG.TB s) - d.tb16 d.blkTb

/-- The least media-clock index N of a converted stream with N + `lead` at or after B(n), each on its own time base (R235, R238). -/
def Dev.mediaFirst (d : Dev) (s n lead : Nat) : Nat :=
  let num : Int := (d.instNum n + d.strAhead s * d.bps) * d.strFs s
  let den : Int := (16000000000 * d.bps : Nat)
  (-(-num / den) - lead).toNat

/-- The sample position, counted from block 0, whose interval contains the presentation instant of index N (R238). -/
def Dev.rtpPos (d : Dev) (s : Nat) (n : Int) : Int :=
  let fs := d.strFs s
  (2 * (n + d.linkOff s) * d.fi * 16000000000 - 2 * (d.phaseNum * d.nb * fs : Nat) + 16000000000 * fs) / (32000000000 * fs : Nat)

/-- The input block that contains the presentation instant of index N (R238). -/
def Dev.rtpBlock (d : Dev) (s : Nat) (n : Int) : Int :=
  let fs := d.strFs s
  if d.is ETH_STR_CFG.SYNC s then d.rtpPos s n / d.nb
  else (((n + d.linkOff s) * 16000000000 - d.strAhead s * fs) * d.bps - (d.phaseNum * fs : Nat)) / (16000000000 * fs : Nat)

/-- Is a packet early: its first presentation instant more than LINKOFF ÷ Fs + 1 ms ahead (R238)? -/
def Dev.rtpEarly (d : Dev) (s : Nat) (n : Int) : Bool :=
  let fs := d.strFs s
  decide ((d.tb16 (d.get ETH_STR_CFG.TB s) + 16000000) * fs < n * 16000000000)

/-- A packet of a stream is discarded, counted by its stream and by its context (R233, R237, R238, R240). -/
def Dev.rtpDrop (d : Dev) (s : Nat) (f g : FRef) : Dev := (d.inc f s).inc g (d.strCtx s)

/-- An RTP packet of stream s arrives on port p (R237 to R240). -/
def Dev.rtpReceive (d : Dev) (p s : Nat) (f : List Byte) : Dev :=
  let u := udpOfs f + 8
  let seq := beAt f (u + 2) 2
  let ts := beAt f (u + 4) 4
  let ssrc := beAt f (u + 8) 4
  let x := d.strm s
  let d := if x.ssrc.isSome && x.ssrc != some ssrc then d.put ETH_STR_STAT.SSRCCHG 1 s else d
  let d := d.setStrm s { x with ssrc := some ssrc }
  let pay := rtpPayload f
  let by_ := d.strBytes s
  let nch := d.strNch s
  let spp := d.strSpp s
  if pay.length ≠ spp * nch * by_ then d.rtpDrop s ETH_STR_STAT.FORM FLOW_STAT.FORM
  else if !d.running then d
  else
    let n := d.rtpIndex s ts
    let blk := d.rtpBlock s n
    let x := d.strm s
    match x.seqs.find? (fun e => e.1 == seq) with
    | some (_, b, legs) =>
      let x := { x with seqs := x.seqs.map (fun e => if e.1 = seq then (seq, b, legs ||| 2 ^ d.legOf s p) else e) }
      (d.setStrm s x).rtpDrop s ETH_STR_STAT.DUP FLOW_STAT.DUP
    | none =>
      if blk < d.cyc.k then d.rtpDrop s ETH_STR_STAT.LATE FLOW_STAT.LATE
      else if d.rtpEarly s n then d.inc ETH_STR_STAT.EARLY s
      else
        let d := d.setStrm s { x with seqs := x.seqs ++ [(seq, blk.toNat, 2 ^ d.legOf s p)] }
        let c := d.ctx (d.strCtx s)
        if !d.is ETH_STR_CFG.SYNC s then
          let got := (List.range spp).map (fun (k : Nat) =>
            ((d.rtpBlock s (n + k)).toNat, (n + k).toNat, (pay.drop (k * nch * by_)).take (nch * by_)))
          d.setCtx (d.strCtx s) { c with got := c.got ++ got }
        else
          let got := (List.range spp).map (fun (k : Nat) =>
            let g := (d.rtpPos s (n + k)).toNat
            (g / d.nb, g % d.nb, (pay.drop (k * nch * by_)).take (nch * by_)))
          d.setCtx (d.strCtx s) { c with got := c.got ++ got }

/-- A frame arrives at a port (without its FCS): filtered, stamped, delivered to its stream or ring, or discarded
(R227, R228). -/
def Dev.ethReceive (d : Dev) (p : Nat) (fcs : Bool) (f : List Byte) : Dev :=
  if !d.ethOn p || !d.is ETH_PORT_STAT.LINK p then d
  else if !fcs || decide (f.length < 60) || decide (1518 < f.length) then d.inc ETH_PORT_STAT.ERR p
  else if !d.dstOk p (beAt f 0 6) || !d.vlanOk p f then d
  else
    match d.strMatch p f with
    | some s => d.rtpReceive p s f
    | none => d.ethToRing p f

/-- Insert a packet of a block by its distance from a sequence number. -/
def insSeq (l : Nat) (e : Nat × Nat × Nat) : List (Nat × Nat × Nat) → List (Nat × Nat × Nat)
  | [] => [e]
  | f :: fs => if (e.1 + 65536 - l) % 65536 < (f.1 + 65536 - l) % 65536 then e :: f :: fs else f :: insSeq l e fs

/-- The packets of a block in the order of their numbers: from the latest number before, or about the first one that came. -/
def seqOrder (l : Option Nat) (es : List (Nat × Nat × Nat)) : List (Nat × Nat × Nat) :=
  es.foldl (fun acc e => insSeq (l.getD ((((es.head?).map (·.1)).getD 0 + 32768) % 65536)) e acc) []

/-- Losses of a stream at the seal of block n: numbers whose packets began in it and a leg did not deliver, and numbers
that no leg delivered (R240). -/
def Dev.strLosses (d : Dev) (s n : Nat) : Dev :=
  let x := d.strm s
  let mask := if d.get ETH_STR_CFG.LEGS s = 2 then 3 else 1
  let d := (seqOrder x.lastSeq (x.seqs.filter (fun e => e.2.1 == n))).foldl (fun d e =>
    let x := d.strm s
    let gap := match x.lastSeq with
      | some l => if later16 e.1 l then (e.1 + 65535 - l) % 65536 else 0
      | none => 0
    let d := forN (min gap 15) (fun _ d =>
      let d := if bitOf mask 0 = 1 then d.inc ETH_STR_STAT.LOSS0 s else d
      if bitOf mask 1 = 1 then d.inc ETH_STR_STAT.LOSS1 s else d) d
    let d := if bitOf mask 0 = 1 ∧ bitOf e.2.2 0 = 0 then d.inc ETH_STR_STAT.LOSS0 s else d
    let d := if bitOf mask 1 = 1 ∧ bitOf e.2.2 1 = 0 then d.inc ETH_STR_STAT.LOSS1 s else d
    d.setStrm s { d.strm s with lastSeq := some e.1 }) d
  d.setStrm s { d.strm s with seqs := (d.strm s).seqs.filter (fun e => decide (n < e.2.1 + 64)) }

/-- The media-clock indices of a converted receive stream whose presentation instants lie in block n: the first, and the one after the
last; they go on from the block before (R238). -/
def Dev.rtpSpan (d : Dev) (s n : Nat) : Nat × Nat :=
  let e := d.mediaFirst s (n + 1) (d.linkOff s)
  (min e ((d.strm s).nextN.getD (d.mediaFirst s n (d.linkOff s))), e)

/-- The samples of media-clock index N of a converted receive stream, where a packet brought them. -/
def Dev.rtpGot (d : Dev) (s n : Nat) : Option (List Byte) :=
  ((d.ctx (d.strCtx s)).got.find? (fun g => g.2.1 == n)).map (fun g => g.2.2)

/-- As input block n is sealed, the samples of the converted receive streams pass to their converters, 0 for one that is missing, and for all
while the cycle is not RUNNING (R238, R243). -/
def Dev.strFeed (d : Dev) (n : Nat) : Dev :=
  forN 128 (fun s d =>
    if !(d.is ETH_STR_CTRL.EN s && d.get ETH_STR_CFG.DIR s == 0 && d.strOk s) || d.is ETH_STR_CFG.SYNC s then d
    else
      let (a, e) := d.rtpSpan s n
      let first := d.get FLOW_MAP.FIRST (d.strCtx s)
      forN (e - a) (fun i d =>
        let bs := if d.running then (d.rtpGot s (a + i)).getD [] else []
        let t : Int := ((a + i + d.linkOff s) * 16000000000 : Nat) / (d.strFs s : Int) - d.strAhead s
        forN (d.strNch s) (fun c d => d.convFeed (first + c) t (flowSample (d.strBytes s) bs c)) d) d) d

/-- Seal of input block n at every receive stream that the image defines, enabled or not: losses, and the samples of the block,
treated where any is missing; none is presented while the cycle is not RUNNING (R239, R243). Those of a converted stream are what its converter delivers. -/
def Dev.strSeal (d : Dev) (n : Nat) : Dev :=
  forN 128 (fun s d =>
    if !(d.get ETH_STR_CFG.DIR s == 0 && d.strOk s) then d
    else
      let d := d.strLosses s n
      let x := d.strCtx s
      let c := d.ctx x
      if !d.is ETH_STR_CFG.SYNC s then
        let (a, e) := d.rtpSpan s n
        let full := (List.range (e - a)).all (fun i => (d.rtpGot s (a + i)).isSome) && !(d.strm s).halt && d.running
        let buf := d.aud.sealed
        let first := d.get FLOW_MAP.FIRST x
        let d := d.ctxPresentWith x (if full then some (fun ch i => sampAt buf (first + ch) i) else none)
        let d := d.setStrm s { d.strm s with nextN := some e }
        d.setCtx x { d.ctx x with got := (d.ctx x).got.filter (fun g => decide (e ≤ g.2.1)) }
      else
        let at_ (i : Nat) : Option (List Byte) := (c.got.find? (fun g => g.1 == n && g.2.1 == i)).map (fun g => g.2.2)
        let full := (List.range d.nb).all (fun i => (at_ i).isSome) && !(d.strm s).halt && d.running
        let bs := (List.range d.nb).flatMap (fun i => (at_ i).getD [])
        let d := d.ctxPresent x (d.strBytes s) (if full then some bs else none)
        d.setCtx x { d.ctx x with got := (d.ctx x).got.filter (fun g => decide (n < g.1)) }) d

/-! ### RTP transmit (R235, R236, R240, R241) -/

/-- A sample as L16 or L24, rounded half to even with saturation as other word formats are (R159, R186). -/
def rtpSample (bytes : Nat) (z : Int) : List Byte :=
  let w := 8 * bytes
  beBytes bytes (unsW w (clampI (-(2 ^ (w - 1))) (2 ^ (w - 1) - 1) (rhe z (2 ^ (32 - w)))))

/-- Does the chip send the packet of a stream whose first sample lies in output block m (R241, R243, R308, R312)? The owner
sends from block `ethFrom`, the other before it. -/
def Dev.strSends (d : Dev) (s m : Nat) : Bool := !d.is ETH_STR_CFG.PAIRED s || (d.pair.ownE == decide (d.pair.ethFrom ≤ m))

/-- The packet of a stream on one port: header fields (version and payload type as PT, sequence number, timestamp, SSRC,
source and destination address, ports, DSCP, PCP, VID) and payload. -/
def Dev.rtpPacket (d : Dev) (s p : Nat) (n0 : Nat) (pay : List Byte) : Emit :=
  let g := d.legOf s p
  .rtp p s [d.get ETH_STR_HDR.PT s, n0 / d.strSpp s % 65536, (n0 + d.get ETH_STR_RTPOFF.RTPOFF s) % 2 ^ 32, (Config.ssrc s).toNat,
    d.get ETH_PORT_IP.ADDR p, d.get ETH_STR_ADDR.ADDR s g, d.get ETH_STR_UDP.SPORT s g, d.get ETH_STR_UDP.DPORT s g,
    d.get ETH_STR_HDR.DSCP s, d.get ETH_STR_HDR.PCP s, d.get ETH_STR_HDR.VID s] pay

/-- A complete packet leaves on the stream's ports, and is retained for a takeover (R236, R240, R310). -/
def Dev.rtpEmit (d : Dev) (s m : Nat) : Dev :=
  let x := d.strm s
  (List.range 2).foldl (fun d p =>
    if d.strLeg s p && d.ethOn p && d.is ETH_PORT_STAT.LINK p then
      let e := d.rtpPacket s p x.n0 x.pay
      let d := if d.is ETH_STR_CFG.PAIRED s then { d with ethRetained := (m, [e]) :: d.ethRetained.filter (fun r => decide (m < r.1 + 4)) } else d
      if d.strSends s x.m0 then d.emit e else d
    else d) d

/-- One media-clock sample N of a transmitted stream, its channels' values given; a stream that is disabled begins no packet (R235,
R243). -/
def Dev.rtpTake (d : Dev) (s m n : Nat) (bytes : List Byte) : Dev :=
  let x := d.strm s
  let x := if n % d.strSpp s = 0 ∧ !d.is ETH_STR_CTRL.EN s then { x with cnt := 0, pay := [] }
    else if n % d.strSpp s = 0 then { x with n0 := n, m0 := m, cnt := 1, pay := bytes }
    else if x.cnt = 0 then x else { x with cnt := x.cnt + 1, pay := x.pay ++ bytes }
  let d := d.setStrm s x
  if x.cnt = d.strSpp s then (d.rtpEmit s m).setStrm s { x with cnt := 0, pay := [] } else d

/-- Media-clock indices N of a stream whose instants fall to block m: for a synchronous one those of the block's sample
positions, floor(t × Fs + ½); for a converted one those with N ÷ Fs of its own time base in the block, which go on from the block before
(R235). -/
def Dev.rtpRange (d : Dev) (s m : Nat) : Nat × Nat :=
  let fs := d.strFs s
  if d.is ETH_STR_CFG.SYNC s then
    ((2 * d.instNum m * fs + 16000000000 * d.bps) / (32000000000 * d.bps), d.nb)
  else
    let e := d.mediaFirst s (m + 1) 0
    let a := min e ((d.strm s).nextN.getD (d.mediaFirst s m 0))
    (a, e - a)

/-- The instant of media-clock index N of a converted stream, in 1/16 ns from the boundary B(m) (R235). -/
def Dev.rtpOfs (d : Dev) (s m n : Nat) : Int :=
  (n * 16000000000 : Nat) / (d.strFs s : Int) - d.strAhead s - (d.instNum m : Int) / d.bps

/-- Streams take the samples of output block m as it begins, and packets that it completes are sent (R236). A stream
that a reset stopped restarts at the first boundary with its links up (R243). -/
def Dev.rtpTransmit (d : Dev) (m : Nat) : Dev :=
  forN 128 (fun s0 d =>
    let s := s0
    if !((d.is ETH_STR_CTRL.EN s || (d.strm s).cnt != 0) && d.get ETH_STR_CFG.DIR s == 1 && d.strOk s) then d
    else
      let up := (List.range 2).any (fun p => d.strLeg s p && d.is ETH_PORT_STAT.LINK p)
      let d := if (d.strm s).halt && up then d.setStrm s { d.strm s with halt := false } else d
      if (d.strm s).halt then d
      else
        let (n0, cnt) := d.rtpRange s m
        let first := d.get FLOW_MAP.FIRST (d.strCtx s)
        let d := if d.is ETH_STR_CFG.SYNC s then d else d.setStrm s { d.strm s with nextN := some (n0 + cnt) }
        forN cnt (fun i d =>
          let (bytes, d) := (List.range (d.strNch s)).foldl (fun (acc : List Byte × Dev) c =>
            let d := acc.2
            if d.is ETH_STR_CFG.SYNC s then (acc.1 ++ rtpSample (d.strBytes s) (sampAt d.aud.emit (first + c) i), d)
            else
              match d.convOf 2 (first + c) with
              | some cv => (acc.1 ++ rtpSample (d.strBytes s) (d.convOut cv (d.rtpOfs s m (n0 + i))), d)
              | none => (acc.1 ++ rtpSample (d.strBytes s) 0, d)) ([], d)
          d.rtpTake s m (n0 + i) bytes) d) d

/-- A takeover sends the retained packets of blocks from the 32-bit number `from_` on (R310). -/
def Dev.ethReplay (d : Dev) (from_ : Nat) : Dev :=
  ((d.ethRetained.filter (fun r => !later32 from_ r.1)).reverse.flatMap (·.2)).foldl (fun d e => d.emit e) d

/-- Receive streams restart at a boundary with their links up (R243). -/
def Dev.strRestart (d : Dev) : Dev :=
  forN 128 (fun s d =>
    let x := d.strm s
    if x.halt && (List.range 2).any (fun p => d.strLeg s p && d.is ETH_PORT_STAT.LINK p) then d.setStrm s { x with halt := false } else d) d

/-- EN of a stream written (R243): after 0 the packet begun completes, and no later one is sent or taken. -/
def Dev.streamEnable (d : Dev) (s : Nat) (on : Bool) : Dev :=
  let was := d.is ETH_STR_CTRL.EN s
  let d := d.put ETH_STR_CTRL.EN (b2n on) s
  if on == was || (d.get ETH_STR_CFG.DIR s == 1 && (d.strm s).cnt != 0) then d else d.setStrm s {}

/-- The cycle stops: what the streams have begun ends with it (R243). -/
def Dev.strStop (d : Dev) : Dev :=
  { d with str := d.str.map (fun kv => (kv.1, { kv.2 with cnt := 0, pay := [], nextN := none })) }

/-! ### Transmit rings and stamps (R231) -/

/-- The 16-bit one's-complement sum of bytes. -/
def onesSum : List Byte → Nat → Nat
  | [], acc => acc
  | [a], acc => acc + a.toNat * 256
  | a :: b :: bs, acc => onesSum bs (acc + a.toNat * 256 + b.toNat)

/-- Fold to 16 bits and complement. -/
def onesFold (n : Nat) : Nat :=
  let a := n % 65536 + n / 65536
  let b := a % 65536 + a / 65536
  65535 - (b % 65536 + b / 65536)

/-- Replace bytes of a frame from an offset. -/
def patch (f : List Byte) (o : Nat) (bs : List Byte) : List Byte := f.take o ++ bs ++ f.drop (o + bs.length)

/-- A frame with its UDP checksum recomputed; other frames as they are. -/
def udpFix (f : List Byte) : List Byte :=
  if !isUdp f then f
  else
    let u := udpOfs f
    let o := etOfs f + 2
    let len := beAt f (u + 4) 2
    let f := patch f (u + 6) [0, 0]
    let c := onesFold (onesSum (slice f (o + 12) 8) 0 + 17 + len + onesSum (slice f u len) 0)
    patch f (u + 6) (beBytes 2 (if c = 0 then 0xFFFF else c))

/-- One-step insertion: originTimestamp of a Sync, the turnaround into correctionField of a Pdelay_Resp (R231). -/
def oneStep (f : List Byte) (st : Nat) (aux0 aux1 : Nat) : List Byte :=
  let o := ptpOfs f
  match cb f o % 16 with
  | 0 => udpFix (patch f (o + 34) (beBytes 6 (st / 65536000000000) ++ beBytes 4 (stampNs st)))
  | 3 =>
    let rx : Int := (aux0 * 1000000000 + aux1 : Nat)
    let tx : Int := (stampSec st * 1000000000 + stampNs st : Nat)
    let turn := (tx - rx) * 65536 + ((st % 65536 : Nat) : Int)
    udpFix (patch f (o + 8) (beBytes 8 (unsW 64 (turn + beAt f (o + 8) 8))))
  | _ => f

/-- The frame as it leaves, with the FCS that the hardware appends: the CRC-32 of IEEE 802.3, its first byte the lowest (R226, R363). -/
def withFcs (f : List Byte) : List Byte := f ++ leBytes 4 (crc32 f)

/-- A frame from transmit ring Q86 + p is sent (R231). -/
def Dev.frameTransmit (d : Dev) (p : Nat) : Dev :=
  if !d.ethOn p || !d.is ETH_PORT_STAT.LINK p then d
  else
    match d.ringFront (86 + p) 2 64 with
    | (none, d) => d
    | (some (size, h, f), d) =>
      let fl := leAt h 3 1
      let st := d.ethStamp p
      let f := if bitOf fl 0 = 1 then oneStep f st (leAt h 8 4) (leAt h 12 4) else f
      let d := (d.ringPop (86 + p) size).emit (.frame p (withFcs f))
      if bitOf fl 1 = 0 then d
      else
        let q := tabGet [] d.txts p
        if 64 ≤ q.length then (d.put ETH_TXTS_INFO.OVF 1 p).raise FS.ETH_TXTS
        else
          let o := ptpOfs f
          let e := [cb f o % 16, cb f (o + 4), beAt f (o + 30) 2, stampSec st, stampNs st]
          { d with txts := tabPut [] d.txts p (q ++ [e]) }

/-- A read of ETH_TXTS_INFO pops a stamp and loads SEC and NS (R231). -/
def Dev.txtsPop (d : Dev) (p : Nat) : Dev :=
  match tabGet [] d.txts p with
  | [] => d.put ETH_TXTS_INFO.VALID 0 p
  | e :: es =>
    let d := { d with txts := tabPut [] d.txts p es }
    let d := (((d.put ETH_TXTS_INFO.VALID 1 p).put ETH_TXTS_INFO.MTYPE (nth 0 e 0) p).put ETH_TXTS_INFO.DOMAIN (nth 0 e 1) p)
    ((d.put ETH_TXTS_INFO.SEQID (nth 0 e 2) p).put ETH_TXTS_SEC.SEC (nth 0 e 3) p).put ETH_TXTS_NS.NS (nth 0 e 4) p

/-! ### Links, registers, resets (R242, R243) -/

/-- A port's link is lost. -/
def Dev.ethLinkLoss (d : Dev) (p : Nat) : Dev :=
  if d.ethOn p && d.is ETH_PORT_STAT.LINK p then
    ((d.put ETH_PORT_STAT.LINK 0 p).put ETH_PORT_STAT.LINKEV 1 p).raise (FS.ETH_LINK + p)
  else d

/-- A port's link comes up. -/
def Dev.ethLinkUp (d : Dev) (p : Nat) : Dev := if d.ethOn p && d.imageApplied then d.put ETH_PORT_STAT.LINK 1 p else d

/-- Is a register a live stream field, writable only while the stream is disabled? -/
def liveField (r : Reg) : Bool :=
  r == ETH_STR_HDR || r == ETH_STR_TIME || r == ETH_STR_RTPOFF || r == ETH_STR_ADDR || r == ETH_STR_UDP || r == ETH_STR_SRC

/-- Register writes of ETH. -/
def Dev.ethWrite (d : Dev) (r : Reg) (i j : Nat) (w : Word) : Dev :=
  if r == ETH_STR_CTRL then
    let d := if fget w 1 1 == 1 then d.put ETH_STR_CTRL.BUSYWR 0 i else d
    d.streamEnable i (fget w 0 0 == 1)
  else if liveField r && d.is ETH_STR_CTRL.EN i then d.put ETH_STR_CTRL.BUSYWR 1 i
  else d.store r w i j

/-- BLOCK reset of ETH: links retrain, streams stop, the stamp FIFO is cleared (R243). -/
def Dev.ethBlockReset (d : Dev) : Dev :=
  { d with txts := [], str := (List.range 128).foldl (fun t s =>
      if d.is ETH_STR_CTRL.EN s then tabIns t s { halt := true } else t) [] }

end Sys2Proof.Machine
end

