-- ==== Sys2Proof/Machine/SprigWord.lean ====
section
/-! DEFINITION. The words of the Sprig instructions: the forms of R66 in both directions, the opcode map of R68, and the
fields that make a word ILLEGAL (R67). -/

namespace Sys2Proof

/-- The word of form R. -/
def RForm.word (x : RForm) (op : BitVec 6) : Word := x.fmt ++ x.neg ++ x.aux ++ x.b ++ x.a ++ x.d ++ op
/-- The word of form I. -/
def IForm.word (x : IForm) (op : BitVec 6) : Word := x.imm ++ x.a ++ x.d ++ op
/-- The word of form B. -/
def BForm.word (x : BForm) (op : BitVec 6) : Word := x.off ++ x.b ++ x.a ++ op
/-- The word of form J. -/
def JForm.word (x : JForm) (op : BitVec 6) : Word := x.off ++ x.d ++ op
/-- The word of form L. -/
def LForm.word (x : LForm) (op : BitVec 6) : Word := x.lc ++ x.imm ++ x.cnt ++ x.len ++ op
/-- The word of form M. -/
def MForm.word (x : MForm) (op : BitVec 6) : Word := x.step ++ x.lanes ++ x.c ++ x.d ++ op
/-- The word of form C. -/
def CForm.word (x : CForm) (op : BitVec 6) : Word := x.zero ++ x.csr ++ x.a ++ x.d ++ op

/-- The fields of form R. -/
def RForm.of (w : Word) : RForm :=
  ⟨w.extractLsb' 30 2, w.extractLsb' 29 1, w.extractLsb' 21 8, w.extractLsb' 16 5, w.extractLsb' 11 5, w.extractLsb' 6 5⟩
/-- The fields of form I. -/
def IForm.of (w : Word) : IForm := ⟨w.extractLsb' 16 16, w.extractLsb' 11 5, w.extractLsb' 6 5⟩
/-- The fields of form B. -/
def BForm.of (w : Word) : BForm := ⟨w.extractLsb' 16 16, w.extractLsb' 11 5, w.extractLsb' 6 5⟩
/-- The fields of form J. -/
def JForm.of (w : Word) : JForm := ⟨w.extractLsb' 11 21, w.extractLsb' 6 5⟩
/-- The fields of form L. -/
def LForm.of (w : Word) : LForm := ⟨w.extractLsb' 31 1, w.extractLsb' 30 1, w.extractLsb' 17 13, w.extractLsb' 6 11⟩
/-- The fields of form M. -/
def MForm.of (w : Word) : MForm := ⟨w.extractLsb' 18 14, w.extractLsb' 16 2, w.extractLsb' 11 5, w.extractLsb' 6 5⟩
/-- The fields of form C. -/
def CForm.of (w : Word) : CForm := ⟨w.extractLsb' 28 4, w.extractLsb' 16 12, w.extractLsb' 11 5, w.extractLsb' 6 5⟩

/-- Are the fields of a circular access legal (R67)? STEP is a multiple of 4. -/
def MForm.legal (f : MForm) : Bool := decide (f.step.toNat % 4 = 0) && decide (f.c.toNat < 4) && decide (f.d.toNat < 8)

namespace Machine

/-- Bits [5:0] of a word: the opcode. -/
def opcodeOf (w : Word) : BitVec 6 := w.extractLsb' 0 6

/-- Is an opcode assigned (R68)? -/
def opAssigned (op : Nat) : Bool :=
  op ∈ [0x01, 0x02, 0x03, 0x04, 0x05, 0x06, 0x07, 0x08, 0x09, 0x0A, 0x0B, 0x10, 0x11, 0x12, 0x13, 0x14, 0x15, 0x16, 0x18, 0x19,
    0x1C, 0x1D, 0x1E, 0x1F, 0x20, 0x21, 0x22, 0x23, 0x24, 0x25, 0x26, 0x27, 0x28, 0x2A, 0x2B, 0x2C, 0x2D, 0x30, 0x31, 0x32,
    0x34, 0x35, 0x38, 0x39, 0x3A, 0x3B, 0x3E, 0x3F]

/-- The registers that the instruction of a word reads, scalars by their number and vector registers from 32 on (R69 to R72). vins, which
leaves the other lanes unchanged, reads its destination too. -/
def readsOf (w : Word) : List Nat :=
  let a := (w.extractLsb' 11 5).toNat
  let b := (w.extractLsb' 16 5).toNat
  let d := (w.extractLsb' 6 5).toNat
  let rs := match (opcodeOf w).toNat with
    | 0x01 | 0x02 | 0x03 | 0x04 | 0x05 | 0x06 | 0x07 | 0x08 | 0x09 | 0x34 => [a, b]
    | 0x0A | 0x15 | 0x18 | 0x1C | 0x20 | 0x3A => [a]
    | 0x10 | 0x11 | 0x12 | 0x13 | 0x19 => [a, d]
    | 0x16 => if w.extractLsb' 30 1 == 0 then [(w.extractLsb' 17 5).toNat] else []
    | 0x1D => [a, 32 + d]
    | 0x1F => [32 + d]
    | 0x21 | 0x22 | 0x23 | 0x25 | 0x26 | 0x28 => [32 + a, 32 + b]
    | 0x24 => [32 + a, b]
    | 0x27 | 0x2A | 0x2B | 0x2D => [32 + a]
    | 0x2C => [a, 32 + d]
    | 0x35 => if w.extractLsb' 21 1 == 1 then [a] else []
    | _ => []
  rs.filter (· != 0)

/-- The register that a load writes, numbered as `readsOf` numbers them; 0 for an instruction that is no load. -/
def loadDest (w : Word) : Nat :=
  let d := (w.extractLsb' 6 5).toNat
  match (opcodeOf w).toNat with
  | 0x18 => d
  | 0x1C | 0x1E | 0x20 => 32 + d
  | _ => 0

/-- What a register field names: a scalar, a vector, an accumulator, a circular-address register, or nothing. -/
inductive RFile where
  | s | v | acc | ca | none
deriving DecidableEq, Repr

/-- Is a register index legal for its file (R67)? An unused field is 0. -/
def RFile.ok (f : RFile) (i : BitVec 5) : Bool :=
  match f with
  | .s => true
  | .v => decide (i.toNat < 8)
  | .acc => decide (i.toNat < 4)
  | .ca => decide (i.toNat < 4)
  | .none => i == 0

end Machine

/-- Are the fields of a form R word legal (R67)? `fmt` and `neg` say whether the instruction uses FMT (or ignores it) and
NEG, `aux` is the mask of the AUX bits that it uses. -/
def RForm.legal (x : RForm) (d a b : Machine.RFile) (fmt neg : Bool) (aux : Nat) : Bool :=
  d.ok x.d && a.ok x.a && b.ok x.b && x.fmt != 3 && (fmt || x.fmt == 0) && (neg || x.neg == 0)
    && (x.aux.toNat &&& (255 - aux)) == 0

end Sys2Proof
end

