-- ==== Sys2Proof/Machine/Perf.lean ====
section
/-! DEFINITION. Performance counters and precise sampling (R330 to R342), and the passage of time as the rest of the model
uses it: pace ticks charged to counters and slots. -/

namespace Sys2Proof.Machine

/-- SPRIGm. -/
def Dev.sprig (d : Dev) (m : Nat) : SprigSt := tabGet {} d.thk.sprig m

/-- Replace it. -/
def Dev.setSprig (d : Dev) (m : Nat) (x : SprigSt) : Dev := { d with thk := { d.thk with sprig := tabPut {} d.thk.sprig m x } }

/-- Sprigs of counter i's master filter (R334). -/
def Dev.cntSprigs (d : Dev) (i : Nat) : List Nat :=
  (List.range 64).filter (fun m => decide (d.get PERF_CNT_AUX.MLO i ≤ m) && decide (m ≤ d.get PERF_CNT_AUX.MHI i))

/-- Does counter i filter to Sprigs: a range that names some, and is not the range of every initiator? -/
def Dev.cntSprigFilter (d : Dev) (i : Nat) : Bool :=
  !(d.cntSprigs i).isEmpty && !(d.get PERF_CNT_AUX.MLO i == 0 && d.get PERF_CNT_AUX.MHI i == 255)

/-- Does each pace tick count in counter i: PACE, by its filter while a selected Sprig holds a job; IDLE while a selected one holds none
(R333)? -/
def Dev.cntEveryTick (d : Dev) (i : Nat) : Bool :=
  match d.get PERF_CNT_CFG.EVENT i with
  | 1 => !d.cntSprigFilter i || (d.cntSprigs i).any (fun m => (d.sprig m).busy)
  | 2 => (d.cntSprigs i).any (fun m => !(d.sprig m).busy)
  | _ => false

/-- Add to a slot counter: modulo 2^40, with WRAP (R331, R338). -/
def Dev.slotAdd (d : Dev) (m c n : Nat) : Dev :=
  let x := tabGet 0 d.perf.slot (4 * m + c) + n
  let d := { d with perf := { d.perf with slot := tabPut 0 d.perf.slot (4 * m + c) (x % 2 ^ 40) } }
  if 2 ^ 40 ≤ x then d.setBit PERF_SLOT_FLAGS.WRAP c m else d

/-- A free number of at most `n`. -/
def Dev.drawUpTo (d : Dev) (n : Nat) : Nat × Dev :=
  let (k, d) := d.draw
  (Config.freeNat k % (n + 1), d)

/-- A free number of at most `n` that only the counters and the sampler see: it takes nothing from the draws of the rest of the device
(R330). -/
def Dev.perfUpTo (d : Dev) (n : Nat) : Nat × Dev :=
  (Config.perfNat d.perf.free % (n + 1), { d with perf := { d.perf with free := d.perf.free + 1 } })

/-- The word of the running code at a pc. -/
def Dev.codeWord (d : Dev) (pc : Nat) : Word := d.memW (memCode + d.thk.codeBase + pc)

/-- Does a load of SPRIGm from window `w` wait on memory beyond the Sprig: the home window of a stolen job, the remote home window, the
shared store (R65, R331)? -/
def Dev.farLoad (d : Dev) (m w : Nat) : Bool :=
  w == 2 || w == 3 || (w == 0 && m != (nth {} d.thk.jobs (d.sprig m).job).home)

/-- The longest time in ns from the issue of a load to its result (R65): 0 for the home window at home and the scratch window. -/
def Dev.loadNs (d : Dev) (m w : Nat) : Nat :=
  if w = 3 then 150 else if w = 4 then 60 else if d.farLoad m w then 100 else 0

/-- The windows of the loads of SPRIGm that have not surely ended and whose result the instruction of a word reads (R65). -/
def Dev.loadsAwaited (d : Dev) (m : Nat) (w : Word) : List Nat :=
  ((d.sprig m).loads.filter (fun e => (readsOf w).contains e.1 && decide (4 * (d.tclk - e.2.2) ≤ d.loadNs m e.2.1))).map (·.2.1)

/-- What SPRIGm may have waited for since its latest command: the windows of the loads, and whether the store buffer (its 16 entries full at
a store, or stores before a fence or the end), the 8 outstanding loads, or destinations that the crosspoint pass has not formed (R65, R331). After the last instruction of a loop body the next one
is not known yet. -/
def Dev.spWaits (d : Dev) (m : Nat) : List Nat × Bool :=
  let x := d.sprig m
  if x.iter then (x.loads.map (·.2.1), !x.buf.isEmpty || 8 ≤ x.loads.length) else
  let w := d.codeWord x.pc
  let op := (opcodeOf w).toNat
  (d.loadsAwaited m w, (x.buf.length == 16 && (op == 0x19 || op == 0x1D)) || (!x.buf.isEmpty && (op == 0x1F || op == 0x3B || op == 0x3F))
    || (loadDest w != 0 && (decide (8 ≤ x.loads.length) || d.thk.stage != 3)))

/-- The pace ticks `p` of one Sprig that holds a job, as NEARWAIT, FARWAIT, FETCH and those of NEARWAIT in which it waits for a load; the
rest is ISSUE. From its pop to its first instruction every tick is FETCH; a job whose end waits for its stores is in NEARWAIT, and one whose
end issues is in ISSUE. Otherwise there is FARWAIT only with a load from beyond the Sprig that the next instruction reads, and NEARWAIT only
with a nearer one or a full buffer; within that the split is free (R90, R331; log entry 42). -/
def Dev.slotSplit (d : Dev) (m p : Nat) : (Nat × Nat × Nat × Nat) × Dev :=
  let x := d.sprig m
  if x.fresh && !(d.spWaits m).2 then ((0, 0, p, 0), d)
  else if x.ended then ((if x.buf.isEmpty then 0 else p, 0, 0, 0), d)
  else
    let (ws, own) := d.spWaits m
    let (far, d) := if ws.any (d.farLoad m) then d.perfUpTo p else (0, d)
    let (load, d) := if ws.any (fun w => !d.farLoad m w) then d.perfUpTo (p - far) else (0, d)
    let (rest, d) := if own then d.perfUpTo (p - far - load) else (0, d)
    let (fet, d) := d.perfUpTo (p - far - load - rest)
    ((load + rest, far, fet, load), d)

/-- The pace ticks of one Sprig that holds a job, charged to its four slot counters, those in which it waits for a load, by the class of one
that it waits for, and the line fills of its instruction cache, at most one in each tick without an instruction (R90, R331, R333). -/
def Dev.slotTicks (d : Dev) (m p : Nat) : Dev :=
  let ((near, far, fet, load), d) := d.slotSplit m p
  let (i, d) := d.perfUpTo ((d.spWaits m).1.length - 1)
  let k := nth 0 (d.spWaits m).1 i
  let d := if d.perf.effFreeze = 0 then
      (((d.slotAdd m 0 (p - near - far - fet)).slotAdd m 1 near).slotAdd m 2 far).slotAdd m 3 fet
    else d
  let s := (nth {} d.thk.jobs (d.sprig m).job).sys
  let (fills, d) := d.perfUpTo fet
  (d.perfEvent 0x07 (far + load) { s := s, master := m, k := k }).perfEvent 0x08 fills { s := s, master := m, addr := (d.sprig m).pc }

/-- `p` pace ticks, as the counters PACE, IDLE and MGMTBUSY and the slot counters see them (R331 to R333, R370). -/
def Dev.perfTicks (d : Dev) (p : Nat) : Dev :=
  let d := forN 32 (fun i d =>
    if !d.cntOn i then d else
    match d.get PERF_CNT_CFG.EVENT i with
    | 1 => if d.cntEveryTick i then d.cntAdd i p else d
    | 2 => d.cntAdd i (p * ((d.cntSprigs i).filter (fun m => !(d.sprig m).busy)).length)
    | _ => d) d
  let d := (d.thk.sprig.map (·.1)).foldl (fun d m => if (d.sprig m).busy then d.slotTicks m p else d) d
  if d.mgmt.fwRunning then
    let (b, d) := d.drawUpTo p
    let d := { d with mgmt := { d.mgmt with busyPace := d.mgmt.busyPace + b } }
    d.perfEvent 0x20 b
  else d

/-- `n` TCLK ticks pass (R7, R63, R244, R333). -/
def Dev.elapse (d : Dev) (n : Nat) : Dev :=
  let d' := d.pass n
  let p := (d'.pace + 2 ^ 48 - d.pace % 2 ^ 48) % 2 ^ 48
  if p = 0 then d' else d'.perfTicks p

/-! ### Reading and writing counters (R335 to R338) -/

/-- Is a port the management core's? Master 64 is the core, every other the host (R322, R336). -/
def portCore (port : Nat) : Bool := port == 64

/-- Port registers of counter i. -/
def Dev.cntPort (d : Dev) (i : Nat) : CntPort := tabGet {} d.perf.cntPort i

/-- Replace them. -/
def Dev.setCntPort (d : Dev) (i : Nat) (c : CntPort) : Dev :=
  { d with perf := { d.perf with cntPort := tabPut {} d.perf.cntPort i c } }

/-- Read of PERF_CNT_LO: the low word, and a snapshot for the port (R336). -/
def Dev.cntLoRead (d : Dev) (port i : Nat) : Word × Dev :=
  let c := tabGet 0 d.perf.cnt i
  let x := d.cntPort i
  (BitVec.ofNat 32 c, d.setCntPort i (if portCore port then { x with snapCore := c / 2 ^ 32 } else { x with snapHost := c / 2 ^ 32 }))

/-- Read of PERF_CNT_HI: the port's snapshot. -/
def Dev.cntHiRead (d : Dev) (port i : Nat) : Word :=
  BitVec.ofNat 32 (if portCore port then (d.cntPort i).snapCore else (d.cntPort i).snapHost)

/-- Write of PERF_CNT_HI: the port's staging register (R337). -/
def Dev.cntHiWrite (d : Dev) (port i : Nat) (w : Word) : Dev :=
  let x := d.cntPort i
  let v := w.toNat % 65536
  d.setCntPort i (if portCore port then { x with stageCore := v } else { x with stageHost := v })

/-- Does an increment of counter i fall on the pace tick of a write, which loses it? Always where every tick counts. Where the counter counts
an event, only if its latest increment came at the present pace count, and then that is a free value. The writing access itself counts
elsewhere (REGACC) (R337, R342). -/
def Dev.tickLost (d : Dev) (i : Nat) : Bool × Dev :=
  let ev := d.get PERF_CNT_CFG.EVENT i
  if !d.cntOn i || ev == 0x21 then (false, d)
  else if ev == 1 || ev == 2 then (d.cntEveryTick i, d)
  else if tabGet 0 d.perf.incAt i == d.pace + 1 then
    let (k, d) := d.perfUpTo 1
    (k == 1, d)
  else (false, d)

/-- Write of PERF_CNT_LO: the count becomes the staged bits above the written word; an increment at the tick of the write is lost, with
WRLOST (R337). -/
def Dev.cntLoWrite (d : Dev) (port i : Nat) (w : Word) : Dev :=
  let x := d.cntPort i
  let hi := if portCore port then x.stageCore else x.stageHost
  let (lost, d) := d.tickLost i
  let d := if lost then d.put PERF_CNT_AUX.WRLOST 1 i else d
  let d := { d with perf := { d.perf with cnt := tabPut 0 d.perf.cnt i (hi * 2 ^ 32 + w.toNat) } }
  d.setCntPort i (if portCore port then { x with stageCore := 0 } else { x with stageHost := 0 })

/-- Read of PERF_SLOT_LO (R336). -/
def Dev.slotLoRead (d : Dev) (port m c : Nat) : Word × Dev :=
  let x := tabGet 0 d.perf.slot (4 * m + c)
  let p := if portCore port then { d.perf with slotSnapCore := tabPut 0 d.perf.slotSnapCore (4 * m + c) (x / 2 ^ 32) }
    else { d.perf with slotSnapHost := tabPut 0 d.perf.slotSnapHost (4 * m + c) (x / 2 ^ 32) }
  (BitVec.ofNat 32 x, { d with perf := p })

/-- Read of PERF_SLOT_HI. -/
def Dev.slotHiRead (d : Dev) (port m c : Nat) : Word :=
  BitVec.ofNat 32 (tabGet 0 (if portCore port then d.perf.slotSnapCore else d.perf.slotSnapHost) (4 * m + c))

/-- Every slot counter becomes 0. A Sprig that holds a job charges each tick to one of its four counters, which loses that increment; which
of them is timing, and free where the state does not tell (R331, R337). -/
def Dev.slotClear (d : Dev) : Dev :=
  let d := { d with perf := { d.perf with slot := [] } }
  (d.thk.sprig.map (·.1)).foldl (fun d m =>
    if (d.sprig m).busy && d.perf.effFreeze == 0 then
      let ((near, far, fet, _), d) := d.slotSplit m 1
      d.setBit PERF_SLOT_FLAGS.WRLOST (if near = 1 then 1 else if far = 1 then 2 else if fet = 1 then 3 else 0) m
    else d) d

/-- Do EN, FREEZE and CLR wait for the next boundary (R335, R342)? -/
def Dev.perfAligned (d : Dev) : Bool := d.is PERF_CTRL.ALIGN && d.running

/-- CLR written (R335, R337). -/
def Dev.slotClrWrite (d : Dev) : Dev :=
  if d.perfAligned then { d with perf := { d.perf with pendClr := true } } else d.slotClear

/-- FREEZE written. -/
def Dev.freezeWrite (d : Dev) : Dev :=
  let f := d.get PERF_CTRL.FREEZE
  if d.perfAligned then { d with perf := { d.perf with pendFreeze := some f } }
  else { d with perf := { d.perf with effFreeze := f, pendFreeze := none } }

/-- EN of counter i written. The value waiting is kept plus 1. -/
def Dev.enWrite (d : Dev) (i : Nat) : Dev :=
  let e := d.get PERF_CNT_CFG.EN i
  if d.perfAligned then { d with perf := { d.perf with pendEn := tabPut 0 d.perf.pendEn i (e + 1) } }
  else { d with perf := { d.perf with effEn := tabPut 0 d.perf.effEn i e, pendEn := tabDel d.perf.pendEn i } }

/-- What ALIGN held takes effect at a boundary, or as the block cycle leaves RUNNING (R335, R342). -/
def Dev.perfBoundary (d : Dev) : Dev :=
  let d := if d.perf.pendClr then { d.slotClear with perf := { d.slotClear.perf with pendClr := false } } else d
  let d := match d.perf.pendFreeze with
    | some f => { d with perf := { d.perf with effFreeze := f, pendFreeze := none } }
    | none => d
  let en := d.perf.pendEn.foldl (fun t kv => tabPut 0 t kv.1 (kv.2 - 1)) d.perf.effEn
  { d with perf := { d.perf with effEn := en, pendEn := [] } }

/-- A register write of PERF. -/
def Dev.perfWrite (d : Dev) (r : Reg) (i j port : Nat) (w : Word) : Dev :=
  if d.inReset r.blk && r.dom == .block then d
  else if r == PERF_CNT_LO then d.cntLoWrite port i w
  else if r == PERF_CNT_HI then d.cntHiWrite port i w
  else
    let d := d.store r w i j
    if r == PERF_CTRL then d.freezeWrite
    else if r == PERF_CNT_CFG then d.enWrite i
    else if r == PERF_SLOT_CTRL && bitOf w.toNat 0 == 1 then d.slotClrWrite
    else d

/-- BLOCK reset of PERF beyond its registers (R342). -/
def Dev.perfBlockReset (d : Dev) : Dev :=
  { d with perf := { d.perf with cnt := [], cntPort := [], slot := [], slotSnapCore := [], slotSnapHost := [], buf := [] } }

/-- MGMT reset: the management port's snapshot and staging registers return to 0 (R342). -/
def Dev.perfMgmtReset (d : Dev) : Dev :=
  let cs := d.perf.cntPort.foldl (fun t kv => tabPut {} t kv.1 { kv.2 with snapCore := 0, stageCore := 0 }) []
  { d with perf := { d.perf with cntPort := cs, slotSnapCore := [] } }

/-! ### Precise sampling (R339 to R341) -/

/-- What the counters and the sampler see of one Sprig instruction: Sprig, word, pc, for a memory instruction its window (R333's K) and the
address of its first lane, and whether it reads the result of a load that may not have ended. -/
structure Retired where
  m : Nat
  instr : Nat
  pc : Nat
  mem : Option (Nat × Nat) := none
  waits : Bool := false
deriving DecidableEq, Repr

/-- Is a Sprig sampled? -/
def Dev.smpOn (d : Dev) (m : Nat) : Bool :=
  d.is PERF_SMP_CFG.EN && (if m < 32 then d.bit PERF_SMP_SPRIG0.S m else d.bit PERF_SMP_SPRIG1.S (m - 32))

/-- Does an instruction pass the sampler's filters? -/
def Dev.smpPasses (d : Dev) (x : Retired) : Bool :=
  let s := (nth {} d.thk.jobs (d.sprig x.m).job).sys
  let pr := d.get PERF_SMP_CFG.PRIV
  let okP := pr == 0 || pr == 3 || (pr == 1 && !s) || (pr == 2 && s)
  let ar := d.get PERF_SMP_CFG.ARSEL
  let inR := decide (d.get PERF_AR_LO.ADDR ar ≤ x.pc) && decide (x.pc ≤ d.get PERF_AR_HI.ADDR ar)
  let okA := !d.is PERF_SMP_CFG.AREN || (inR != d.is PERF_SMP_CFG.AINV)
  let km := if d.get PERF_SMP_CFG.KMASK = 0 then 0x3F else d.get PERF_SMP_CFG.KMASK
  let okK := match x.mem with
    | some (w, _) => bitOf km w == 1
    | none => km == 0x3F
  okP && okA && okK

/-- The length of a new interval: PERIOD, at least 1,000, or PERIOD − 128 + r with a value r of the Sprig's LFSR,
whose polynomial the manual does not give (R339). -/
def Dev.smpInterval (d : Dev) : Nat × Dev :=
  let p := max 1000 (d.get PERF_SMP_PERIOD.PERIOD)
  if d.is PERF_SMP_CFG.RAND then
    let (r, d) := d.perfUpTo 255
    (p - 128 + r, d)
  else (p, d)

/-- The 32 bytes of a sample record; the latency and the flag for a line fill are timing and free, and so is the flag for a load wait of an
instruction that reads the result of a load that may not have ended; of every other it is 0 (R65, R340). -/
def Dev.smpRecord (d : Dev) (x : Retired) : List Byte × Dev :=
  let sp := d.sprig x.m
  let j := nth {} d.thk.jobs sp.job
  let (fill, d) := d.perfUpTo 1
  let (wait, d) := if x.waits then d.perfUpTo 1 else (0, d)
  let (lat, d) := d.perfUpTo (2 ^ 32 - 1)
  let win := match x.mem with
    | some (w, _) => w
    | none => 7
  let addr := match x.mem with
    | some (_, a) => a
    | none => 0
  let flags := b2n j.sys + 2 * b2n (x.m != j.home) + 4 * b2n x.mem.isSome + 8 * fill + 16 * wait + 32 * win
  (leBytes 1 x.m ++ leBytes 1 flags ++ leBytes 2 sp.job ++ leBytes 4 x.pc ++ leBytes 4 x.instr ++ leBytes 4 addr
    ++ leBytes 4 lat ++ leBytes 4 (d.thk.inst.getD 0) ++ leBytes 6 d.pace ++ leBytes 1 j.home ++ [0], d)

/-- A sample record is dropped (R341). -/
def Dev.smpDrop (d : Dev) : Dev := (d.inc PERF_SMP_STAT.DROP).raiseOnce FS.PERF_TRACE_OVF

/-- A retired instruction counts toward its Sprig's interval; the one that completes it is recorded into the buffer
(R339, R341). -/
def Dev.smpRetire (d : Dev) (x : Retired) : Dev :=
  if !(d.smpOn x.m && d.smpPasses x) then d else
  let goal := tabGet 0 d.perf.smpGoal x.m
  let (goal, d) := if goal = 0 then d.smpInterval else (goal, d)
  let c := tabGet 0 d.perf.smpCount x.m + 1
  if goal ≤ c then
    let d := { d with perf := { d.perf with smpCount := tabDel d.perf.smpCount x.m, smpGoal := tabDel d.perf.smpGoal x.m } }
    let (r, d) := d.smpRecord x
    if 64 ≤ d.perf.buf.length then d.smpDrop else { d with perf := { d.perf with buf := d.perf.buf ++ [r] } }
  else { d with perf := { d.perf with smpCount := tabPut 0 d.perf.smpCount x.m c, smpGoal := tabPut 0 d.perf.smpGoal x.m goal } }

/-- The oldest buffered record goes to the trace ring, or is dropped where the ring is full (R341). -/
def Dev.sampleRecord (d : Dev) : Dev :=
  match d.perf.buf with
  | [] => d
  | r :: rs =>
    let d := { d with perf := { d.perf with buf := rs } }
    let (ok, d) := d.ringPush (92 + d.get PERF_SMP_CFG.RING) 5 0 0 0 r
    if ok then d.inc PERF_SMP_STAT.REC else d.smpDrop

/-- An instruction retires: RETIRED, LOAD or STORE, and the sampler (R333, R339). -/
def Dev.retire (d : Dev) (x : Retired) (load store : Bool) : Dev :=
  let s := (nth {} d.thk.jobs (d.sprig x.m).job).sys
  let d := d.perfEvent 0x03 1 { s := s, master := x.m, addr := x.pc }
  let d := match x.mem with
    | some (w, a) =>
      let e : PerfEv := { s := s, master := x.m, addr := a, k := w }
      let d := if load then d.perfEvent 0x05 1 e else d
      let d := if store then d.perfEvent 0x06 1 e else d
      if w = 3 then d.perfEvent 0x22 1 { e with addr := a - 0x10000000, k := 0 } else d
    | none => d
  d.smpRetire x

end Sys2Proof.Machine
end

