-- ==== Sys2Proof/Machine/Sprig.lean ====
section
/-! DEFINITION. The Sprig engine: job entry, memory windows, the store buffer, issue, precise exceptions, loops, and the
effect of every instruction (R52 to R80). -/

namespace Sys2Proof.Machine

/-! ### Jobs (R82, R86, R87, R92) -/

/-- Descriptor of job j. -/
def Dev.job (d : Dev) (j : Nat) : JobDesc := nth {} d.thk.jobs j

/-- Fate of job j in the instance in progress. -/
def Dev.fate (d : Dev) (j : Nat) : Nat := tabGet 0 d.thk.fate j

/-- Set it. -/
def Dev.setFate (d : Dev) (j v : Nat) : Dev := { d with thk := { d.thk with fate := tabPut 0 d.thk.fate j v } }

/-- The deque of SPRIGm, head first. -/
def Dev.deque (d : Dev) (m : Nat) : List Nat := tabGet [] d.thk.deque m

/-- Replace it. -/
def Dev.setDeque (d : Dev) (m : Nat) (q : List Nat) : Dev := { d with thk := { d.thk with deque := tabPut [] d.thk.deque m q } }

/-- Push a job onto the head of its home Sprig's deque, ending that Sprig's wait (R87, R88). -/
def Dev.pushJob (d : Dev) (j : Nat) : Dev :=
  let h := (d.job j).home
  let d := d.setDeque h (j :: d.deque h)
  if (d.sprig h).wait then d.setSprig h { d.sprig h with wait := false } else d

/-- Decrement the ready counter of a job; at 0 it is pushed (R86, R87). -/
def Dev.readyDec (d : Dev) (j : Nat) : Dev :=
  let c := tabGet 0 d.thk.cnt j
  let d := { d with thk := { d.thk with cnt := tabPut 0 d.thk.cnt j (c - 1) } }
  if c = 1 then d.pushJob j else d

/-- Has every job of the instance completed or failed? -/
def Dev.allDone (d : Dev) : Bool := (d.thk.fate.filter (fun kv => kv.2 == 2 || kv.2 == 3)).length == d.thk.jobs.length

/-- A job completed, or failed, which counts as completed for readiness: its successors' counters are decremented in
list order (R87, R92). The pace count of the instance's finish is kept (R100). -/
def Dev.jobOver (d : Dev) (j v : Nat) : Dev :=
  let d := d.setFate j v
  let d := (d.job j).succs.foldl (fun d s => d.readyDec s) d
  if d.allDone then { d with thk := { d.thk with fin := some d.pace } } else d

/-- Add the jobs reachable from a list to the tainted ones; successors have greater indices, so `fuel` of the number of
jobs suffices (R92). -/
def taintFrom (jobs : List JobDesc) : Nat → List Nat → List Nat → List Nat
  | 0, _, acc => acc
  | fuel + 1, work, acc =>
    let new := (work.flatMap (fun j => (nth {} jobs j).succs)).eraseDups.filter (fun s => !acc.contains s)
    if new.isEmpty then acc else taintFrom jobs fuel new (acc ++ new)

/-! ### Windows (R57 to R60) -/

/-- Is every word of an access granted to a U job (R60, R83)? -/
def Dev.granted (d : Dev) (j : JobDesc) (off n : Nat) (store : Bool) : Bool :=
  (List.range (n / 4)).all (fun k => d.thk.regions.any (fun r =>
    decide (r.base ≤ off + 4 * k) && decide (off + 4 * k + 4 ≤ r.base + r.size)
      && j.grants.any (fun g => g.1 == r.tag && (g.2 || !store))))

/-- Are the channels of an output-window store declared by the job? -/
def JobDesc.declares (j : JobDesc) (c : Nat) : Bool := decide (j.outFirst ≤ c) && decide (c < j.outFirst + j.outCount)

/-- The window and the device address of an access of `n` bytes at Sprig address `a` by the job on SPRIGm, or `none` where
it raises ACCESS (R57, R58, R60). Windows are numbered as R334's K. The input and output windows keep their Sprig
addresses. -/
def Dev.spMap (d : Dev) (m a n : Nat) (store : Bool) : Option (Nat × Nat) :=
  let j := d.job (d.sprig m).job
  if a + n ≤ 0x18000 then some (0, memLocal j.home + a)
  else if 0x18000 ≤ a ∧ a + n ≤ 0x20000 then some (1, memLocal m + a)
  else if 0x01000000 ≤ a ∧ a + n ≤ 0x01800000 then
    if j.sys ∧ (a - 0x01000000) % 0x20000 + n ≤ 0x18000 then some (2, a) else none
  else if memShared ≤ a ∧ a + n ≤ memShared + 0x1000000 then
    if j.sys || d.granted j (a - memShared) n store then some (3, a) else none
  else if 0x20000000 ≤ a ∧ a + n ≤ 0x20080000 then (if store then none else some (4, a))
  else if 0x21000000 ≤ a ∧ a + n ≤ 0x21080000 then
    let c := a % 0x4000 / 4
    if store && (j.sys || (List.range (n / 4)).all (fun k => j.declares (c + k))) then some (5, a) else none
  else none

/-- The word that a job's own buffered stores hold at a device address, newest first (R61). -/
def bufWord (buf : List (Nat × List Byte)) (k : Nat) : Option Nat :=
  (buf.reverse.find? (fun e => decide (e.1 ≤ k) && decide (k + 4 ≤ e.1 + e.2.length))).map (fun e => leAt e.2 (k - e.1) 4)

/-- The word at a device address as a job's load sees it, and whether memory is read there (R58, R59, R61). -/
def Dev.spWord (d : Dev) (m w k : Nat) : Nat × Bool :=
  match bufWord (d.sprig m).buf k with
  | some v => (v, false)
  | none =>
    if w = 1 ∧ (d.sprig m).scr.contains (k % 0x20000 / 16) = false then (0, false)
    else if w = 4 then
      let i := (k - 0x20000000) / 0x4000
      (if i < d.nb then (tabGet 0 d.aud.dest (sampKey (k % 0x4000 / 4) i)).toNat else 0, false)
    else (d.memLe k 4, true)

/-! ### The store buffer (R61, R65) -/

/-- Store output samples: positions at or beyond Nb are discarded (R59). The storing job is kept (R99). -/
def Dev.spOut (d : Dev) (m k : Nat) (bs : List Byte) : Dev :=
  let i := (k - 0x21000000) / 0x4000
  if d.nb ≤ i then d else
  forN (bs.length / 4) (fun x d =>
    let c := k % 0x4000 / 4 + x
    let o := (c, (d.sprig m).job)
    { d with aud := { d.aud with build := tabPut 0 d.aud.build (sampKey c i) (BitVec.ofNat 32 (leAt bs (4 * x) 4)) },
             thk := { d.thk with owner := if d.thk.owner.contains o then d.thk.owner else o :: d.thk.owner } }) d

/-- One buffered store completes. The first store to a scratch line zero-fills the rest of the line (R58). -/
def Dev.spStore (d : Dev) (m : Nat) (e : Nat × List Byte) : Dev :=
  let line := e.1 % 0x20000 / 16
  if 0x21000000 ≤ e.1 then d.spOut m e.1 e.2
  else if e.1 < 0x02000000 ∧ 0x18000 ≤ e.1 % 0x20000 then
    let x := d.sprig m
    let d := if x.scr.contains line then d
      else (d.setBytes (e.1 / 16 * 16) (List.replicate 16 0)).setSprig m { x with scr := line :: x.scr }
    d.setBytes e.1 e.2
  else d.setBytes e.1 e.2

/-- The `n` oldest buffered stores of SPRIGm complete, in order. -/
def Dev.spDrain (d : Dev) (m : Nat) : Nat → Dev
  | 0 => d
  | n + 1 =>
    match (d.sprig m).buf with
    | [] => d
    | e :: rest => ((d.setSprig m { d.sprig m with buf := rest }).spStore m e).spDrain m n

/-- Every buffered store completes. -/
def Dev.spFlush (d : Dev) (m : Nat) : Dev := d.spDrain m (d.sprig m).buf.length

/-- A free number of the oldest buffered stores has completed since the Sprig's last issue (R61, R65). -/
def Dev.spTick (d : Dev) (m : Nat) : Dev :=
  let n := (d.sprig m).buf.length
  if n = 0 then d else
  let (k, d) := d.drawUpTo n
  d.spDrain m k

/-! ### Issue, exceptions, retirement (R73, R75, R76) -/

/-- What an instruction does: its effect, with the next pc and, for a memory instruction, its window and first address; or
an exception with THK_EXC_ADDR and, for MEMERR, the device address of the bad word; or it waits and has not issued yet. -/
inductive SRes where
  | ok (d : Dev) (npc : Nat) (mem : Option (Nat × Nat)) (load store : Bool)
  | exc (code addr : Nat) (bad : Option Nat)
  | wait
deriving DecidableEq

/-- An instruction that changes only the Sprig and goes to the next one. -/
def SRes.next (d : Dev) (m : Nat) (x : SprigSt) : SRes := .ok (d.setSprig m x) (x.pc + 4) none false false

/-- The TYPE that an exception of an instruction whose data access has type `ty` reports: 3 for FETCH; jr has type 3, but reports none for
ILLEGAL (R322). -/
def excType (code ty : Nat) : Nat := if code = 7 then 3 else if code = 1 ∧ ty = 3 then 0 else ty

/-- ILLEGAL (R75). -/
def SRes.illegal : SRes := .exc 1 0 none

/-- A precise exception (R76): earlier stores complete, the record is written or OVF set, THK.SPRIG_EXC is raised, with
THK.ECC_UNC for MEMERR, and the job fails: it counts as completed for its successors, and all it reaches is tainted
(R92). `ty` is the access type of R322. -/
def Dev.spExcept (d : Dev) (m code addr ty : Nat) (bad : Option Nat) : Dev :=
  let d := d.spFlush m
  let x := d.sprig m
  let j := d.job x.job
  let d := if d.is THK_EXC_INFO.VALID m then d.put THK_EXC_INFO.OVF 1 m
    else
      let d := (((d.put THK_EXC_INFO.VALID 1 m).put THK_EXC_INFO.CAUSE code m).put THK_EXC_INFO.PRIV (b2n j.sys) m).put
        THK_EXC_INFO.JOB x.job m
      ((d.put THK_EXC_PC.PC x.pc m).put THK_EXC_ADDR.ADDR addr m).put THK_EXC_BLK.BLK (d.thk.inst.getD 0) m
  let ev : PerfEv := { s := j.sys, master := m, addr := x.pc }
  let d := (d.perfEvent 0x0C 1 ev).perfEvent 0x0E 1 ev
  let a : Access := { addr := addr, master := m, ty := ty }
  let d := match bad with
    | some k => d.raiseAll [(FS.THK_SPRIG_EXC, a), (FS.THK_ECC_UNC, { addr := k, master := m, ty := ty })]
    | none => d.raiseAt FS.THK_SPRIG_EXC a
  let d := d.setSprig m {}
  let d := { d with thk := { d.thk with doneAt := tabPut 0 d.thk.doneAt x.job (d.tclk + 1) } }
  let t := taintFrom d.thk.jobs d.thk.jobs.length [x.job] d.thk.taint
  ({ d with thk := { d.thk with taint := t } }).jobOver x.job 3

/-- Is SPRIGm in a job and about to issue an instruction? -/
def Dev.spReady (d : Dev) (m : Nat) : Bool :=
  let x := d.sprig m
  decide (m < 64) && x.busy && !x.ended && !x.iter && d.thk.inst.isSome

/-- The loads that may be pending once the instruction of a word has issued: not those whose result it reads or writes, and not those that
have surely ended; its own where it is a load (R65). -/
def Dev.loadsAfter (d : Dev) (m : Nat) (w : Word) (mem : Option (Nat × Nat)) : List (Nat × Nat × Nat) :=
  let dest := loadDest w
  let ls := (d.sprig m).loads.filter (fun e =>
    !(readsOf w).contains e.1 && e.1 != dest && decide (4 * (d.tclk - e.2.2) ≤ d.loadNs m e.2.1))
  match mem with
  | some (win, _) => if dest = 0 || d.loadNs m win = 0 then ls else ls ++ [(dest, win, d.tclk)]
  | none => ls

/-- SPRIGm issues the instruction at its pc, which `f` describes, where the word there satisfies `is`; `ty` is the access
type of its data. A pc at or beyond the end of the CODE section raises FETCH, an uncorrectable code word MEMERR
(R75). Control that stands after the last instruction of a loop body waits for the loop (R73). -/
def Dev.issue (d : Dev) (m : Nat) (is : Word → Bool) (ty : Nat) (f : Dev → SprigSt → SRes) : Dev :=
  if !d.spReady m then d else
  let pc := (d.sprig m).pc
  let k := memCode + d.thk.codeBase + pc / 4 * 4
  if d.thk.codeLen ≤ pc then d.spExcept m 7 pc 3 none
  else if d.eccBad.contains k then d.spExcept m 8 pc 3 (some k)
  else if !is (d.codeWord pc) then d
  else
    let o := d
    let d := if d.eccCor.contains k then d.corrected FS.THK_ECC_CORR { addr := k, master := m, ty := 3 } else d
    let d := d.spTick m
    let w := d.codeWord pc
    let waits := !(d.loadsAwaited m w).isEmpty
    match f d (d.sprig m) with
    | .wait => o
    | .exc code addr bad => d.spExcept m code addr (excType code ty) bad
    | .ok d npc mem load store =>
      let x := d.sprig m
      let d := d.setSprig m { x with pc := npc % 2 ^ 32, iter := x.order.any (fun i => (tabGet ⟨0, 0, 0⟩ x.lc i).last == pc),
                                     fresh := false, loads := d.loadsAfter m w mem }
      d.retire { m := m, instr := w.toNat, pc := pc, mem := mem, waits := waits } load store

/-- Is the instruction at the pc the last of an active body (R73)? -/
def SprigSt.lastOfBody (x : SprigSt) : Bool := x.order.any (fun i => (tabGet ⟨0, 0, 0⟩ x.lc i).last == x.pc)

/-- Deactivate a loop counter. -/
def SprigSt.loopOff (x : SprigSt) (i : Nat) : SprigSt := { x with lc := tabDel x.lc i, order := x.order.filter (· != i) }

/-- After the last body instruction: the latest-activated counter on it returns control to its body start, or is used up
and deactivates, and the next one on the same instruction follows (R73). -/
def loopBack (last : Nat) : List Nat → SprigSt → SprigSt
  | [], x => { x with iter := false }
  | i :: is, x =>
    let c := tabGet ⟨0, 0, 0⟩ x.lc i
    if c.last != last then loopBack last is x
    else if 1 < c.left then { x with iter := false, pc := c.first, lc := tabIns x.lc i { c with left := c.left - 1 } }
    else loopBack last is (x.loopOff i)

/-- LOOP_ITERATE. -/
def Dev.loopIterate (d : Dev) (m : Nat) : Dev :=
  let x := d.sprig m
  if x.busy && x.iter && d.thk.inst.isSome then d.setSprig m (loopBack (x.pc - 4) x.order.reverse x) else d

/-! ### Registers (R52) -/

/-- Scalar register; s0 reads 0. -/
def SprigSt.sr (x : SprigSt) (i : Nat) : Word := if i = 0 then 0 else tabGet 0 x.s i

/-- Write a scalar register; s0 ignores writes. -/
def SprigSt.setS (x : SprigSt) (i : Nat) (w : Word) : SprigSt := if i = 0 then x else { x with s := tabPut 0 x.s i w }

/-- Vector register. -/
def SprigSt.vr (x : SprigSt) (i : Nat) : BitVec 128 := tabGet 0 x.v i

/-- Write a vector register. -/
def SprigSt.setV (x : SprigSt) (i : Nat) (w : BitVec 128) : SprigSt := { x with v := tabPut 0 x.v i w }

/-- Accumulator. -/
def SprigSt.ac (x : SprigSt) (i : Nat) : AccSt := tabGet {} x.acc i

/-- Write an accumulator. -/
def SprigSt.setAc (x : SprigSt) (i : Nat) (a : AccSt) : SprigSt := { x with acc := tabPut {} x.acc i a }

/-- Circular-address register. -/
def SprigSt.car (x : SprigSt) (i : Nat) : CaSt := tabGet {} x.ca i

/-- Write it. -/
def SprigSt.setCa (x : SprigSt) (i : Nat) (c : CaSt) : SprigSt := { x with ca := tabPut {} x.ca i c }

/-- Set SST bits. -/
def SprigSt.flags (x : SprigSt) (f : Nat) : SprigSt := { x with sst := x.sst ||| f }

/-- The state at job entry (R53). -/
def entryState (j : JobDesc) (job n nb : Nat) (stolen : Bool) : SprigSt :=
  let x : SprigSt := { busy := true, job := job, stolen := stolen, pc := j.entry, fresh := true }
  ((x.setS 1 (BitVec.ofNat 32 j.arg)).setS 2 (BitVec.ofNat 32 n)).setS 3 (BitVec.ofNat 32 nb)

/-! ### Scalar and control instructions (R69) -/

/-- A scalar operation s[d] := g s[a] s[b]. -/
def Dev.spAlu (d : Dev) (m : Nat) (op : BitVec 6) (f : RForm) (g : Word → Word → Word) : Dev :=
  d.issue m (· == f.word op) 0 (fun d x =>
    if !f.legal .s .s .s false false 0 then .illegal
    else .next d m (x.setS f.d.toNat (g (x.sr f.a.toNat) (x.sr f.b.toNat))))

/-- addi. -/
def Dev.spAddi (d : Dev) (m : Nat) (f : IForm) : Dev :=
  d.issue m (· == f.word 0x0A) 0 (fun d x => .next d m (x.setS f.d.toNat (x.sr f.a.toNat + f.imm.signExtend 32)))

/-- lui. -/
def Dev.spLui (d : Dev) (m : Nat) (f : IForm) : Dev :=
  d.issue m (· == f.word 0x0B) 0 (fun d x =>
    if f.a != 0 then .illegal else .next d m (x.setS f.d.toNat (f.imm.zeroExtend 32 <<< 16)))

/-- A taken branch or jump: FETCH beyond the CODE section, and counters whose body does not hold the target deactivate
(R73, R75). -/
def Dev.spTaken (d : Dev) (m : Nat) (x : SprigSt) (t : Nat) : SRes :=
  if d.thk.codeLen ≤ t then .exc 7 t none
  else
    let out := x.order.filter (fun i => let c := tabGet ⟨0, 0, 0⟩ x.lc i; decide (t < c.first) || decide (c.last < t))
    .ok (d.setSprig m (out.foldl (fun x i => x.loopOff i) x)) t none false false

/-- pc + 4 + 4 × off modulo 2^32. -/
def relTarget (pc : Nat) (off : Int) : Nat := unsW 32 (pc + 4 + 4 * off)

/-- A conditional branch. -/
def Dev.spBranch (d : Dev) (m : Nat) (op : BitVec 6) (f : BForm) (c : Word → Word → Bool) : Dev :=
  d.issue m (· == f.word op) 0 (fun d x =>
    if x.lastOfBody then .illegal
    else if c (x.sr f.a.toNat) (x.sr f.b.toNat) then d.spTaken m x (relTarget x.pc f.off.toInt)
    else .next d m x)

/-- jal. -/
def Dev.spJal (d : Dev) (m : Nat) (f : JForm) : Dev :=
  d.issue m (· == f.word 0x14) 0 (fun d x =>
    if x.lastOfBody then .illegal
    else d.spTaken m (x.setS f.d.toNat (BitVec.ofNat 32 (x.pc + 4))) (relTarget x.pc f.off.toInt))

/-- jr. -/
def Dev.spJr (d : Dev) (m : Nat) (f : RForm) : Dev :=
  d.issue m (· == f.word 0x15) 3 (fun d x =>
    let t := (x.sr f.a.toNat).toNat
    if !f.legal .none .s .none false false 0 || x.lastOfBody then .illegal
    else if t % 4 ≠ 0 then .exc 3 t none
    else d.spTaken m x t)

/-- loop (R73). -/
def Dev.spLoop (d : Dev) (m : Nat) (f : LForm) : Dev :=
  d.issue m (· == f.word 0x16) 0 (fun d x =>
    let i := f.lc.toNat
    if f.len == 0 || x.lastOfBody || x.order.contains i then .illegal
    else
      let n := if f.imm == 1 then f.cnt.toNat else (x.sr (f.cnt.toNat % 32)).toNat
      let last := x.pc + 4 * f.len.toNat
      if n = 0 then .ok d (last + 4) none false false
      else .next d m { x with lc := tabIns x.lc i ⟨x.pc + 4, last, n⟩, order := x.order ++ [i] })

/-! ### Memory instructions (R70) -/

/-- s[a] + sext(imm16) modulo 2^32. -/
def eaOf (x : SprigSt) (f : IForm) : Nat := (x.sr f.a.toNat + f.imm.signExtend 32).toNat

/-- Load words at Sprig addresses, in one access of `n` bytes each; an exception has the failing lane's address (R70,
THK_EXC_ADDR). Every lane's address is checked before any word is read, so that ACCESS in one lane comes before MEMERR in another
(DESIGN CHOICE, log entry 131). The lists are the words and those read with a corrected error. Before the crosspoint pass of its instance
completes, the destinations of block n are not there yet: a load from the input window waits for them, with code 0 (DESIGN CHOICE, log
entry 120) (R4, R57). -/
def Dev.spLoad (d : Dev) (m n : Nat) (as : List Nat) : Except (Nat × Nat × Option Nat) (List Nat × List Nat × Nat) :=
  match as.find? (fun a => a % n != 0) with
  | some a => .error (3, a, none)
  | none =>
    match as.find? (fun a => (d.spMap m a n false).isNone) with
    | some a => .error (4, a, none)
    | none =>
      let ws := as.flatMap (fun a =>
        let (w, k) := (d.spMap m a n false).getD (0, 0)
        (List.range (n / 4)).map (fun i => (a, w, k + 4 * i)))
      if ws.any (fun e => e.2.1 == 4) && d.thk.stage != 3 then .error (0, 0, none) else
      match ws.find? (fun e => (d.spWord m e.2.1 e.2.2).2 && d.eccBad.contains e.2.2) with
      | some e => .error (8, e.1, some e.2.2)
      | none =>
        let cor := (ws.filter (fun e => (d.spWord m e.2.1 e.2.2).2 && d.eccCor.contains e.2.2)).map (fun e => e.2.2)
        .ok (ws.map (fun e => (d.spWord m e.2.1 e.2.2).1), cor, (ws.map (fun e => e.2.1)).headD 0)

/-- Take the words of a load, with an event for each corrected error. -/
def Dev.spLoadTo (d : Dev) (m n : Nat) (as : List Nat) (g : SprigSt → List Nat → SprigSt) : SRes :=
  match d.spLoad m n as with
  | .error (c, a, bad) => if c = 0 then .wait else .exc c a bad
  | .ok (ws, cor, w) =>
    let d := cor.foldl (fun d k => d.corrected FS.THK_ECC_CORR { addr := k, master := m, ty := 1 }) d
    let x := d.sprig m
    .ok (d.setSprig m (g x ws)) (x.pc + 4) (some (w, as.headD 0)) true false

/-- Store `n` bytes at each of several Sprig addresses through the store buffer, all or none; issue stalls while the 16 entries
have no room for them (R65, R70, R76). A vst takes one of the 16 entries and a vstc one for each lane (DESIGN CHOICE, log entry 132). -/
def Dev.spStoreAt (d : Dev) (m n : Nat) (as : List Nat) (vals : List (List Byte)) (g : SprigSt → SprigSt) : SRes :=
  match as.find? (fun a => a % n != 0) with
  | some a => .exc 3 a none
  | none =>
    match as.find? (fun a => (d.spMap m a n true).isNone) with
    | some a => .exc 4 a none
    | none =>
      let es := (as.zip vals).map (fun e => ((d.spMap m e.1 n true).getD (0, 0)).2 |> fun k => (k, e.2))
      let d := d.spDrain m ((d.sprig m).buf.length + es.length - 16)
      let x := d.sprig m
      let w := ((as.head?.bind (fun a => d.spMap m a n true)).getD (0, 0)).1
      .ok (d.setSprig m (g { x with buf := x.buf ++ es })) (x.pc + 4) (some (w, as.headD 0)) false true

/-- ldw. -/
def Dev.spLdw (d : Dev) (m : Nat) (f : IForm) : Dev :=
  d.issue m (· == f.word 0x18) 1 (fun d x =>
    d.spLoadTo m 4 [eaOf x f] (fun x ws => x.setS f.d.toNat (BitVec.ofNat 32 (ws.headD 0))))

/-- stw. -/
def Dev.spStw (d : Dev) (m : Nat) (f : IForm) : Dev :=
  d.issue m (· == f.word 0x19) 2 (fun d x => d.spStoreAt m 4 [eaOf x f] [leBytes 4 (x.sr f.d.toNat).toNat] id)

/-- vld. -/
def Dev.spVld (d : Dev) (m : Nat) (f : IForm) : Dev :=
  d.issue m (· == f.word 0x1C) 1 (fun d x =>
    if !RFile.v.ok f.d then .illegal
    else d.spLoadTo m 16 [eaOf x f] (fun x ws => x.setV f.d.toNat (ofLanes 0 ws)))

/-- vst. -/
def Dev.spVst (d : Dev) (m : Nat) (f : IForm) : Dev :=
  d.issue m (· == f.word 0x1D) 2 (fun d x =>
    if !RFile.v.ok f.d then .illegal
    else d.spStoreAt m 16 [eaOf x f] [leBytes 16 (x.vr f.d.toNat).toNat] id)

/-- vlds. -/
def Dev.spVlds (d : Dev) (m : Nat) (f : IForm) : Dev :=
  d.issue m (· == f.word 0x20) 1 (fun d x =>
    if !RFile.v.ok f.d then .illegal
    else d.spLoadTo m 4 [eaOf x f] (fun x ws => x.setV f.d.toNat (ofLanes 0 (List.replicate 4 (ws.headD 0)))))

/-- Lane addresses of a circular access (R70). -/
def CaSt.lanes (c : CaSt) (n : Nat) : List Nat := (List.range n).map (fun i => (c.base + (c.off + 4 * i) % c.len) % 2 ^ 32)

/-- OFF after a circular access. -/
def CaSt.advance (c : CaSt) (step : Int) : CaSt := { c with off := (((c.off : Int) + step) % c.len).toNat }

/-- vldc. -/
def Dev.spVldc (d : Dev) (m : Nat) (f : MForm) : Dev :=
  d.issue m (· == f.word 0x1E) 1 (fun d x =>
    let c := x.car f.c.toNat
    if !f.legal then .illegal
    else if c.len = 0 then .exc 4 c.base none
    else d.spLoadTo m 4 (c.lanes (f.lanes.toNat + 1)) (fun x ws =>
      (x.setV f.d.toNat (ofLanes 0 ws)).setCa f.c.toNat (c.advance f.step.toInt)))

/-- vstc. -/
def Dev.spVstc (d : Dev) (m : Nat) (f : MForm) : Dev :=
  d.issue m (· == f.word 0x1F) 2 (fun d x =>
    let c := x.car f.c.toNat
    if !f.legal then .illegal
    else if c.len = 0 then .exc 4 c.base none
    else
      let n := f.lanes.toNat + 1
      d.spStoreAt m 4 (c.lanes n) ((List.range n).map (fun i => leBytes 4 (laneOf 0 (x.vr f.d.toNat) i)))
        (fun x => x.setCa f.c.toNat (c.advance f.step.toInt)))

/-- setca. -/
def Dev.spSetca (d : Dev) (m : Nat) (f : RForm) : Dev :=
  d.issue m (· == f.word 0x34) 0 (fun d x =>
    let b := (x.sr f.a.toNat).toNat
    let l := (x.sr f.b.toNat).toNat
    if !f.legal .ca .s .s false false 0 then .illegal
    else if b % 4 ≠ 0 ∨ l % 4 ≠ 0 ∨ 2 ^ 24 < l then .exc 3 0 none
    else .next d m (x.setCa f.d.toNat ⟨b, l, 0⟩))

/-- caoff: OFF into a scalar register (AUX[0] = 0). -/
def Dev.spCaoff (d : Dev) (m : Nat) (f : RForm) : Dev :=
  d.issue m (fun w => w == f.word 0x35 && bitOf f.aux.toNat 0 == 0) 0 (fun d x =>
    if !f.legal .s .ca .none false false 0 then .illegal
    else .next d m (x.setS f.d.toNat (BitVec.ofNat 32 (x.car f.a.toNat).off)))

/-- caoff.w: OFF := s[a] mod LEN, 0 where LEN is 0 (AUX[0] = 1). -/
def Dev.spCaoffW (d : Dev) (m : Nat) (f : RForm) : Dev :=
  d.issue m (fun w => w == f.word 0x35 && bitOf f.aux.toNat 0 == 1) 0 (fun d x =>
    let c := x.car f.d.toNat
    if !f.legal .ca .s .none false false 1 then .illegal
    else .next d m (x.setCa f.d.toNat { c with off := if c.len = 0 then 0 else ((x.sr f.a.toNat).toInt % c.len).toNat }))

/-! ### Vector and accumulator instructions (R71) -/

/-- A lane-wise operation on two vectors in format FMT. -/
def Dev.spLanes (d : Dev) (m : Nat) (op : BitVec 6) (f : RForm) (neg fixed : Bool) (g : Nat → Nat → Nat → Nat × Nat) : Dev :=
  d.issue m (· == f.word op) 0 (fun d x =>
    let fmt := f.fmt.toNat
    let (a, b) := (x.vr f.a.toNat, x.vr f.b.toNat)
    if !f.legal .v .v .v true neg 0 then .illegal
    else if !fixed && fmt == 0 then .exc 5 0 none
    else
      let (ls, fl) := lanes (laneCount fmt) (fun i => g fmt (laneOf fmt a i) (laneOf fmt b i))
      .next d m ((x.setV f.d.toNat (ofLanes fmt ls)).flags fl))

/-- vabs. -/
def Dev.spVabs (d : Dev) (m : Nat) (f : RForm) : Dev :=
  d.issue m (· == f.word 0x27) 0 (fun d x =>
    let fmt := f.fmt.toNat
    if !f.legal .v .v .none true true 0 then .illegal
    else
      let (ls, fl) := lanes (laneCount fmt) (fun i => laneAbs (f.neg == 1) fmt (laneOf fmt (x.vr f.a.toNat) i))
      .next d m ((x.setV f.d.toNat (ofLanes fmt ls)).flags fl))

/-- The lanes of an accumulator after a multiply-accumulate; lanes beyond the format's count are left. -/
def macLanes (neg : Bool) (fmt : Nat) (acc : AccSt) (a b : Nat → Nat) : AccSt × Nat :=
  let n := laneCount fmt
  let (ls, fl) := lanes n (fun i => laneMac neg fmt (nth 0 acc.lanes i) (a i) (b i))
  ({ acc with lanes := ls ++ acc.lanes.drop n }, fl)

/-- vmac and vmacs. -/
def Dev.spMac (d : Dev) (m : Nat) (op : BitVec 6) (scalar : Bool) (f : RForm) : Dev :=
  d.issue m (· == f.word op) 0 (fun d x =>
    let fmt := f.fmt.toNat
    let acc := x.ac f.d.toNat
    if !f.legal .acc .v (if scalar then .s else .v) true true 0 then .illegal
    else if fmt != acc.tag || (scalar && fmt == 2) then .exc 5 0 none
    else
      let (r, fl) := macLanes (f.neg == 1) fmt acc (laneOf fmt (x.vr f.a.toNat))
        (if scalar then fun _ => (x.sr f.b.toNat).toNat else laneOf fmt (x.vr f.b.toNat))
      let d := d.perfEvent 0x04 (laneCount fmt) { s := (d.job x.job).sys, master := m }
      .next d m ((x.setAc f.d.toNat r).flags fl))

/-- vshf. -/
def Dev.spVshf (d : Dev) (m : Nat) (f : RForm) : Dev :=
  d.issue m (· == f.word 0x2A) 0 (fun d x =>
    if !f.legal .v .v .none true false 255 then .illegal
    else .next d m (x.setV f.d.toNat (ofLanes 0 ((List.range 4).map (fun i =>
      laneOf 0 (x.vr f.a.toNat) (f.aux.toNat / 4 ^ i % 4))))))

/-- vcvt. -/
def Dev.spVcvt (d : Dev) (m : Nat) (f : RForm) : Dev :=
  d.issue m (· == f.word 0x2B) 0 (fun d x =>
    let frm := f.fmt.toNat
    let tgt := f.aux.toNat % 4
    if !f.legal .v .v .none true false 3 || tgt == 3 then .illegal
    else
      let n := if frm = 2 ∨ tgt = 2 then 2 else 4
      let (ls, fl) := lanes n (fun i => laneCvt frm tgt (laneOf frm (x.vr f.a.toNat) i))
      .next d m ((x.setV f.d.toNat (ofLanes tgt ls)).flags fl))

/-- vins. FMT is a field that vins and vext do not use, so that another value than 0 is ILLEGAL (DESIGN CHOICE, log entry 122) (R67,
R71). -/
def Dev.spVins (d : Dev) (m : Nat) (f : RForm) : Dev :=
  d.issue m (· == f.word 0x2C) 0 (fun d x =>
    if !f.legal .v .s .none false false 3 then .illegal
    else
      let ls := (List.range 4).map (laneOf 0 (x.vr f.d.toNat))
      .next d m (x.setV f.d.toNat (ofLanes 0 (setNth ls (f.aux.toNat % 4) (x.sr f.a.toNat).toNat))))

/-- vext, with FMT as for vins (log entry 122). -/
def Dev.spVext (d : Dev) (m : Nat) (f : RForm) : Dev :=
  d.issue m (· == f.word 0x2D) 0 (fun d x =>
    if !f.legal .s .v .none false false 3 then .illegal
    else .next d m (x.setS f.d.toNat (BitVec.ofNat 32 (laneOf 0 (x.vr f.a.toNat) (f.aux.toNat % 4)))))

/-- accz. -/
def Dev.spAccz (d : Dev) (m : Nat) (f : RForm) : Dev :=
  d.issue m (· == f.word 0x30) 0 (fun d x =>
    if !f.legal .acc .none .none true false 0 then .illegal
    else .next d m (x.setAc f.d.toNat { tag := f.fmt.toNat }))

/-- accrd. -/
def Dev.spAccrd (d : Dev) (m : Nat) (f : RForm) : Dev :=
  d.issue m (· == f.word 0x31) 0 (fun d x =>
    let fmt := f.fmt.toNat
    let acc := x.ac f.a.toNat
    if !f.legal .v .acc .none true false 63 then .illegal
    else if fmt != acc.tag then .exc 5 0 none
    else
      let (ls, fl) := lanes (laneCount fmt) (fun i => laneRead fmt (nth 0 acc.lanes i) (sgnW 6 f.aux.toNat))
      .next d m ((x.setV f.d.toNat (ofLanes fmt ls)).flags fl))

/-- accred. -/
def Dev.spAccred (d : Dev) (m : Nat) (f : RForm) : Dev :=
  d.issue m (· == f.word 0x32) 0 (fun d x =>
    let fmt := f.fmt.toNat
    let acc := x.ac f.d.toNat
    let l := nth 0 acc.lanes
    if !f.legal .acc .none .none true false 0 then .illegal
    else if fmt != acc.tag then .exc 5 0 none
    else
      let (p, f1) := laneSum fmt (l 0) (l 1)
      let (q, f2) := laneSum fmt (l 2) (l 3)
      let (r, f3) := laneSum fmt p q
      let (r, fl) := if fmt = 2 then (p, f1) else (r, f1 ||| f2 ||| f3)
      .next d m ((x.setAc f.d.toNat { acc with lanes := [r, 0, 0, 0] }).flags fl))

/-! ### System instructions (R72, R74) -/

/-- rdpace. -/
def Dev.spRdpace (d : Dev) (m : Nat) (f : RForm) : Dev :=
  d.issue m (· == f.word 0x38) 0 (fun d x =>
    if !f.legal .s .none .none false false 0 then .illegal
    else if !(d.job x.job).ndet then .exc 6 0 none
    else .next d m (x.setS f.d.toNat (BitVec.ofNat 32 d.pace)))

/-- Is a CSR assigned (R74)? -/
def csrKnown (c : Nat) : Bool := decide (c ≤ 4) || c == 0x100 || c == 0x101

/-- The value of a CSR. -/
def Dev.csrVal (d : Dev) (m c : Nat) (x : SprigSt) : Nat :=
  match c with
  | 0 => x.sst
  | 1 => x.job
  | 2 => d.thk.inst.getD 0
  | 3 => d.nb
  | 4 => (d.job x.job).home
  | 0x100 => m
  | _ => d.pace / 2 ^ 32

/-- csrr. Where a U job whose non-comparable flag is 0 reads an S-only CSR, PRIV comes before NDET (DESIGN CHOICE, log entry 121)
(R74, R78). -/
def Dev.spCsrr (d : Dev) (m : Nat) (f : CForm) : Dev :=
  d.issue m (· == f.word 0x39) 0 (fun d x =>
    let c := f.csr.toNat
    let j := d.job x.job
    if f.zero != 0 || f.a != 0 || !csrKnown c then .illegal
    else if decide (0x100 ≤ c) && !j.sys then .exc 2 0 none
    else if decide (0x100 ≤ c) && !j.ndet then .exc 6 0 none
    else .next d m (x.setS f.d.toNat (BitVec.ofNat 32 (d.csrVal m c x))))

/-- csrw: a U job's access to an S-only CSR raises PRIV, and every other read-only CSR is ILLEGAL (R74). -/
def Dev.spCsrw (d : Dev) (m : Nat) (f : CForm) : Dev :=
  d.issue m (· == f.word 0x3A) 0 (fun d x =>
    let c := f.csr.toNat
    if f.zero != 0 || f.d != 0 || !csrKnown c then .illegal
    else if decide (0x100 ≤ c) && !(d.job x.job).sys then .exc 2 0 none
    else if c != 0 then .illegal
    else .next d m { x with sst := (x.sr f.a.toNat).toNat % 32 })

/-- fence: every earlier store completes (R61). -/
def Dev.spFence (d : Dev) (m : Nat) (f : RForm) : Dev :=
  d.issue m (· == f.word 0x3B) 0 (fun d _ =>
    if !f.legal .none .none .none false false 0 then .illegal
    else
      let d := d.spFlush m
      .next d m (d.sprig m))

/-- brk. -/
def Dev.spBrk (d : Dev) (m : Nat) (f : RForm) : Dev :=
  d.issue m (· == f.word 0x3E) 0 (fun _ x =>
    if !f.legal .none .none .none false false 0 || x.lastOfBody then .illegal else .exc 9 0 none)

/-- end: the job waits for its stores; active counters deactivate (R72, R80). -/
def Dev.spEnd (d : Dev) (m : Nat) (f : RForm) : Dev :=
  d.issue m (· == f.word 0x3F) 0 (fun d x =>
    if !f.legal .none .none .none false false 0 || x.lastOfBody then .illegal
    else .next d m { x with ended := true, lc := [], order := [] })

/-- A word with an unassigned opcode raises ILLEGAL (R67, R68). -/
def Dev.spUnassigned (d : Dev) (m : Nat) (w : Word) : Dev :=
  d.issue m (fun c => c == w && !opAssigned (opcodeOf w).toNat) 0 (fun _ _ => .illegal)

end Sys2Proof.Machine
end

