-- ==== Sys2Proof/Machine/Thicket.lean ====
section
/-! DEFINITION. The Thicket: readiness, deques and stealing, the deadline and its treatments, live parameter commits, slack
and the AVS decision (R86 to R104). -/

namespace Sys2Proof.Machine

/-! ### Deques and stealing (R88 to R91) -/

/-- The Sprigs that SPRIGm probes, in order (R88). -/
def probePartners (m : Nat) : List Nat := [1, 63, 2, 62, 4, 60, 8, 56].map (fun k => (m + k) % 64)

/-- Is SPRIGm inhibited from stealing (R89)? -/
def Dev.stealInh (d : Dev) (m : Nat) : Bool :=
  if m < 32 then d.bit THK_STEAL_INH0.INH m else d.bit THK_STEAL_INH1.INH (m - 32)

/-- The tail-most entry with PIN = 0 of a deque whose head is first. -/
def Dev.stealable (d : Dev) (q : List Nat) : Option Nat := q.reverse.find? (fun j => !(d.job j).pin)

/-- SPRIGm begins a job, taken from its deque or stolen (R53, R91). -/
def Dev.startJob (d : Dev) (m j : Nat) (stolen : Bool) : Dev :=
  let d := (d.setFate j 1).setSprig m (entryState (d.job j) j (d.thk.inst.getD 0) d.nb stolen)
  let d := d.perfEvent 0x09 1 { master := m }
  if stolen then d.perfEvent 0x0A 1 { master := m } else d

/-- A probe round: the first partner with a stealable entry, or a wait of 100 ns (R88). -/
def Dev.probe (d : Dev) (m : Nat) : Dev :=
  if d.stealInh m then d.setSprig m { d.sprig m with wait := false } else
  match (probePartners m).findSome? (fun p => (d.stealable (d.deque p)).map (fun j => (p, j))) with
  | some (p, j) => (d.setDeque p ((d.deque p).filter (· != j))).startJob m j true
  | none => ((d.setSprig m { d.sprig m with wait := true }).startTimer .steal m).perfEvent 0x0B 1 { master := m }

/-- SPRIG_TAKE_JOB: a Sprig without a job pops its own deque's head, or probes unless it waits (R88). -/
def Dev.takeJob (d : Dev) (m : Nat) : Dev :=
  if (d.sprig m).busy || d.inReset THK_STATUS.blk then d else
  match d.deque m with
  | j :: q => (d.setDeque m q).startJob m j false
  | [] => if (d.sprig m).wait then d else d.probe m

/-- STEAL_RETRY: 100 ns after a fruitless round the Sprig probes again (R88). -/
def Dev.stealRetry (d : Dev) (m : Nat) : Dev :=
  if (d.sprig m).wait && !(d.sprig m).busy && !d.inReset THK_STATUS.blk && d.isDue .steal 100 m then d.probe m else d

/-- JOB_COMPLETE: a job whose end has issued completes once all its stores have (R87). -/
def Dev.jobComplete (d : Dev) (m : Nat) : Dev :=
  let x := d.sprig m
  if x.busy && x.ended && d.thk.inst.isSome then
    let d := (d.spFlush m).setSprig m {}
    ({ d with thk := { d.thk with doneAt := tabPut 0 d.thk.doneAt x.job (d.tclk + 1) } }).jobOver x.job 2
  else d

/-! ### The instance (R43, R86) -/

/-- SEAL_COMPLETE: the instance for the sealed block n begins. Output buffers are zeroed, ready counters are loaded, and
the jobs whose counter is 0 are pushed in rising order (R59, R86). An instance that begins within a BLOCK reset of the
Thicket runs no job and loses every output (R51). -/
def Dev.sealComplete (d : Dev) : Dev :=
  if !(d.thk.stage == 1) then d else
  let n := (d.get SYS_BLK_COUNT.COUNT + 2 ^ 32 - 1) % 2 ^ 32
  let killed := d.inReset THK_STATUS.blk
  let cnt := (d.thk.jobs.mapIdx (fun i j => (i, j.preds + b2n j.xin))).filter (fun kv => kv.2 != 0)
  let d := { d with thk := { d.thk with inst := some n, stage := 2, killed := killed, cnt := cnt, fate := [], doneAt := [], taint := [],
                                        fin := none, owner := [], deque := [] },
                    aud := { d.aud with build := [] } }
  let d := { d with thk := { d.thk with fin := if d.thk.jobs.isEmpty then some d.pace else none } }
  if killed then d
  else (List.range d.thk.jobs.length).foldl (fun d j => if tabGet 0 d.thk.cnt j = 0 then d.pushJob j else d) d

/-- The crosspoint pass has completed: the counter of every job with XIN = 1 is decremented (R86). -/
def Dev.xinReady (d : Dev) : Dev :=
  let d := { d with thk := { d.thk with stage := 3 } }
  if d.thk.killed || d.thk.inst.isNone then d
  else (List.range d.thk.jobs.length).foldl (fun d j => if (d.job j).xin then d.readyDec j else d) d

/-! ### The deadline (R92 to R94, R99) -/

/-- Did a job complete untainted, in an instance that no reset touched (R94, R99)? -/
def Dev.jobGood (d : Dev) (j : Nat) : Bool := !d.thk.killed && d.fate j == 2 && !d.thk.taint.contains j

/-- Every Sprig that runs a job is stopped: stores that completed before D remain, the others are discarded; whether a
slot was in progress is free (R93). -/
def Dev.stopSprigs (d : Dev) : Dev :=
  (d.thk.sprig.map (·.1)).foldl (fun d m =>
    let x := d.sprig m
    if x.busy then
      let (k, d) := d.drawUpTo x.buf.length
      let d := d.spDrain m k
      let (b, d) := if x.ended || x.fresh then (0, d) else d.perfUpTo 1
      let d := d.perfEvent 0x0E b { s := (d.job x.job).sys, master := m, addr := x.pc }
      d.setSprig m { wait := false }
    else d.setSprig m {}) d

/-- Has job j, as D is reached, neither completed nor failed before it? One that completes or fails at the instant of D counts as
incomplete (R80, R93, R104). -/
def Dev.incomplete (d : Dev) (j : Nat) : Bool :=
  decide (d.fate j < 2) || (decide (d.fate j ≤ 3) && tabGet 0 d.thk.doneAt j == d.tclk + 1)

/-- Jobs that did not complete, or fail before D, are lost; THK.OVERRUN, JOBLOST and THK_OVR_STAT follow (R80, R93). The flag says
that the instance overran. -/
def Dev.loseJobs (d : Dev) : Bool × Dev :=
  let lost := (List.range d.thk.jobs.length).filter (fun j => d.incomplete j)
  let d := lost.foldl (fun d j => d.setFate j 4) d
  let d := { d with thk := { d.thk with deque := [] } }
  if lost.isEmpty then (false, d.put THK_SLACK.OVR 0)
  else
    let d := (d.perfEvent 0x0D lost.length).perfEvent 0x11 1
    let d := ((d.put THK_SLACK.OVR 1).inc THK_OVR_STAT.BLOCKS).put THK_OVR_STAT.LOST (min 8191 lost.length)
    (true, d.raise FS.THK_OVERRUN)

/-- THK_LOST and THK_LOSS_BLK hold the lost, failed and tainted jobs of the latest instance that has any (R92, R93). -/
def Dev.recordLoss (d : Dev) : Dev :=
  let bad := (List.range d.thk.jobs.length).filter (fun j => 3 ≤ d.fate j || d.thk.taint.contains j)
  if bad.isEmpty then d else
  let d := forN 128 (fun k d => d.wr THK_LOST 0 k) d
  let d := bad.foldl (fun d j => d.setBit THK_LOST.L (j % 32) (j / 32)) d
  d.put THK_LOSS_BLK.BLK (d.thk.inst.getD 0)

/-- Treatment set for an output channel. -/
def Dev.treatOf (d : Dev) (c : Nat) : Nat := d.get THK_OVR_TREAT.T (c / 16) / 4 ^ (c % 16) % 4

/-- The samples of one declared channel for output block n + 2 (R94): the job's, faded in after a muted block, or the
channel's treatment. The block before is the one in emission. -/
def Dev.treatChan (d : Dev) (c : Nat) (good : Bool) : Dev :=
  let nb := d.nb
  let st := tabGet 0 d.thk.treat c
  let prev := (List.range nb).map (sampAt d.aud.emit c)
  let x := (List.range nb).map (sampAt d.aud.build c)
  let last := sampAt d.aud.emit c (nb - 1)
  let mute := (List.range nb).map (fun i => rhe (last * ((nb - 1 - i : Nat) : Int)) nb)
  let (zs, st') :=
    if good then (if st = 2 then (x.mapIdx (fun i z => rhe (z * ((i : Int) + 1)) nb), 0) else (x, 0))
    else match d.treatOf c with
      | 0 => if st = 0 then (prev, 1) else (mute, 2)
      | 1 => (mute, 2)
      | _ => (List.replicate nb 0, 1)
  { d with aud := { d.aud with staged := sampPutAll d.aud.staged c 0 zs },
           thk := { d.thk with treat := tabPut 0 d.thk.treat c st' } }

/-- The output stage takes the declared channels of every job, and marks those that are not comparable (R94, R99). -/
def Dev.stageJobs (d : Dev) : Dev :=
  (List.range d.thk.jobs.length).foldl (fun d j =>
    let good := d.jobGood j
    let x := d.job j
    (List.range x.outCount).foldl (fun d i =>
      let d := d.treatChan (x.outFirst + i) good
      if good && !x.nc then d else { d with thk := { d.thk with skip := (x.outFirst + i) :: d.thk.skip } }) d) d

/-- Is an output channel declared by a job? -/
def Dev.declared (d : Dev) (c : Nat) : Bool := d.thk.jobs.any (fun j => j.declares c)

/-- The output stage takes the channels that the sink map feeds from destinations, then those that only stores of S jobs feed
(R106, R99). -/
def Dev.stageOthers (d : Dev) : Dev :=
  let sinks := d.xpt.sink.filter (fun kv => !d.declared kv.1)
  let d := sinks.foldl (fun d kv =>
    { d with aud := { d.aud with staged := sampPutAll d.aud.staged kv.1 0 ((List.range d.nb).map (sampAt d.aud.dest (kv.2 - 1))) } }) d
  let cs := ((d.thk.owner.map (·.1)).eraseDups).filter (fun c => !d.declared c && tabGet 0 d.xpt.sink c == 0)
  cs.foldl (fun d c =>
    let d := { d with aud := { d.aud with staged := sampPutAll d.aud.staged c 0 ((List.range d.nb).map (sampAt d.aud.build c)) } }
    if d.thk.owner.all (fun o => o.1 != c || (d.jobGood o.2 && !(d.job o.2).nc)) then d
    else { d with thk := { d.thk with skip := c :: d.thk.skip } }) d

/-! ### Slack and the AVS decision (R100 to R102) -/

/-- The AVS window restarts (R100). -/
def Dev.avsRestart (d : Dev) : Dev := ({ d with thk := { d.thk with avs := [] } }).put THK_SLACK_MIN.WMIN 0xFFFFFF

/-- Slack of the instance at D (R100). -/
def Dev.slackOf (d : Dev) (beyond : Bool) : Nat :=
  if beyond then 0 else
  match d.thk.fin with
  | some f => min 0xFFFFFF ((d.pace + 2 ^ 48 - f) % 2 ^ 48)
  | none => 0

/-- Write the slack, extend the window, and decide: raise (`some true`), lower (`some false`) or nothing (R100, R102). -/
def Dev.slackStep (d : Dev) (beyond : Bool) : Option Bool × Dev :=
  let s := d.slackOf beyond
  let d := d.put THK_SLACK.LAST s
  let d := d.put THK_SLACK_MIN.WMIN (min s (d.get THK_SLACK_MIN.WMIN))
  let rate := d.get THK_PACE_RATE.RATE
  let floor := d.get THK_PACE_RATE.FLOOR
  let d := { d with thk := { d.thk with avs := ((s, rate) :: d.thk.avs).take 255 } }
  if !d.is THK_AVS_CFG.EN || d.inReset THK_STATUS.blk then (none, d) else
  let low := 16 * d.get THK_AVS_MARK.LOW
  let high := 16 * d.get THK_AVS_MARK.HIGH
  let win := max 1 (d.get THK_AVS_CFG.WIN)
  let last := d.thk.avs.take win
  if s < low ∨ rate < floor then (some true, d.avsRestart)
  else if win ≤ d.thk.avs.length ∧ low < high ∧ last.all (fun x => decide (high ≤ x.1) && decide (102 * floor ≤ 100 * x.2)) = true then
    (some false, d.avsRestart)
  else (none, d)

/-- Pace rate of the block that ends at a boundary, in MHz, fraction discarded (R101). -/
def Dev.paceRate (d : Dev) : Dev :=
  let t := (d.pace + 2 ^ 48 - d.thk.paceAt) % 2 ^ 48
  ({ d with thk := { d.thk with paceAt := d.pace } }).put THK_PACE_RATE.RATE (min 65535 (t * d.bps / 1000000))

/-- The Thicket's part of DEADLINE up to the staged outputs; answers the AVS decision. -/
def Dev.thkDeadline (d : Dev) : Option Bool × Dev :=
  let d := d.stopSprigs
  let (beyond, d) := d.loseJobs
  let d := d.recordLoss
  let d := { d with aud := { d.aud with staged := [] }, thk := { d.thk with skip := [] } }
  let d := d.stageJobs.stageOthers
  let (req, d) := d.slackStep beyond
  (req, { d with thk := { d.thk with inst := none, stage := 0, owner := [] } })

/-- The instance in progress is abandoned (R104). -/
def Dev.thkAbandon (d : Dev) : Dev :=
  { d with thk := { d.thk with inst := none, stage := 0, sprig := [], deque := [], cnt := [], fate := [], doneAt := [], taint := [], owner := [],
                               fin := none, treat := [], skip := [] } }

/-! ### The shared-store window and live commits (R96 to R98) -/

/-- The region that holds an offset of the shared store. -/
def Dev.regionAt (d : Dev) (off : Nat) : Option Region :=
  d.thk.regions.find? (fun r => decide (r.base ≤ off) && decide (off < r.base + r.size))

/-- COUNT and FULL follow the staged writes. -/
def Dev.putStagedStore (d : Dev) : Dev :=
  (d.put THK_PCTRL.COUNT d.thk.staged.length).put THK_PCTRL.FULL (b2n (decide (4096 ≤ d.thk.staged.length)))

/-- SHARED_STORE_WRITE: a write of a word through the window (R96 to R98). -/
def Dev.storeWrite (d : Dev) (off : Nat) (w : Word) : Dev :=
  match d.regionAt off with
  | none => d.put THK_STATUS.WDISC 1
  | some r =>
    if !d.running then d.setMemW (memShared + off) w
    else if r.kind == 0 || r.kind == 2 then d.put THK_STATUS.WDISC 1
    else if 4096 ≤ d.thk.staged.length then (d.put THK_PCTRL.DISC 1).put THK_PCTRL.FULL 1
    else ({ d with thk := { d.thk with staged := d.thk.staged ++ [(off, w)] } }).putStagedStore

/-- Apply the staged writes as one commit (R96). -/
def Dev.pcommitApply (d : Dev) (late : Bool) : Dev :=
  let d := d.thk.staged.foldl (fun d e => d.setMemW (memShared + e.1) e.2) d
  let d := ({ d with thk := { d.thk with staged := [], late := false, missed := false } }).putStagedStore.put THK_PCTRL.ARM 0
  if late then d.put THK_PCTRL.LATE 1 else d

/-- A write of THK_PCTRL: where it arms a tagged commit whose block is not later than the current one, the commit is late (R37, R97). -/
def Dev.pcommitJudge (d : Dev) (w : Nat) : Dev :=
  if bitOf w 0 == 1 && bitOf w 1 == 1 && !later32 (d.get THK_PCOMMIT.BLOCK) (d.get SYS_BLK_COUNT.COUNT) then
    { d with thk := { d.thk with late := true } }
  else d

/-- Is a commit due at the start of block b, and late (R96, R97, R104)? TAGGED and BLOCK count as they stand at the boundary, also where
they were rewritten after ARM (DESIGN CHOICE, log entry 133). -/
def Dev.pcommitDue (d : Dev) (b : Nat) : Bool × Bool :=
  if !d.is THK_PCTRL.ARM then (false, false)
  else if !d.is THK_PCTRL.TAGGED then (true, false)
  else if d.thk.late then (true, true)
  else if !d.running || d.boot.restart then (false, false)
  else if d.thk.missed then (true, true)
  else (d.get THK_PCOMMIT.BLOCK == b % 2 ^ 32, false)

/-- The block of an armed, tagged commit is reached in REALIGN or in a planned restart, or lies among those that a stop of the cycle
skipped: the commit is applied at the first boundary after the cycle restarts (R104). `after` is the latest block before them. -/
def Dev.pcommitMiss (d : Dev) (after n : Nat) : Dev :=
  let x := (d.get THK_PCOMMIT.BLOCK + 2 ^ 32 - after % 2 ^ 32) % 2 ^ 32
  if d.is THK_PCTRL.ARM && d.is THK_PCTRL.TAGGED && decide (0 < x) && decide (x ≤ n) then
    { d with thk := { d.thk with missed := true } }
  else d

/-- The commit at the start of block b, within the seal. The flag says that one was applied. -/
def Dev.pcommitBoundary (d : Dev) (b : Nat) : Bool × Dev :=
  let (due, late) := d.pcommitDue b
  if due then (true, d.pcommitApply late)
  else (false, if !d.running || d.boot.restart then d.pcommitMiss (b + 2 ^ 32 - 1) 1 else d)

/-- At a change of image, staged writes outside the regions that the new image carries over are discarded (R104), also where no commit
is armed for that boundary, and at a planned restart; the others wait on (DESIGN CHOICE, log entry 134). -/
def Dev.pcommitKeep (d : Dev) (kept : List Region) : Dev :=
  let st := d.thk.staged.filter (fun e => kept.any (fun r => decide (r.base ≤ e.1) && decide (e.1 < r.base + r.size)))
  if st.length = d.thk.staged.length then d
  else ({ d with thk := { d.thk with staged := st } }).putStagedStore.put THK_PCTRL.DISC 1

/-- THK BLOCK reset (R51, R62, R80, R95, R104): jobs stop without a record, home areas and STATE regions return to their
initial content, DELAY regions to zero, staged writes are discarded. -/
def Dev.thkBlockReset (d : Dev) : Dev :=
  let any := !d.thk.staged.isEmpty || d.is THK_PCTRL.ARM
  let d := { d with thk := { d.thk with staged := [], late := false, missed := false, killed := true, deque := [], sprig := [] } }
  let d := if any then (d.putStagedStore.put THK_PCTRL.ARM 0).put THK_PCTRL.DISC 1 else d
  let d := forN 64 (fun m d => d.clearRange (memLocal m) (memLocal m + 0x18000)) d
  let d := d.thk.homeInit.foldl (fun d h => d.setBytes (memLocal h.1) h.2) d
  d.thk.regions.foldl (fun d r =>
    let a := memShared + r.base
    if r.kind = 2 then (d.clearRange a (a + r.size)).setBytes a (r.init.take r.size)
    else if r.kind = 0 then d.clearRange a (a + r.size)
    else d) d

/-- A register write of the Thicket. -/
def Dev.thkWrite (d : Dev) (r : Reg) (i j : Nat) (w : Word) : Dev :=
  let d := d.store r w i j
  if r == THK_AVS_CFG && bitOf w.toNat 31 == 1 then d.avsRestart
  else if r == THK_PCTRL then d.pcommitJudge w.toNat
  else d

end Sys2Proof.Machine
end

