-- ==== Sys2Proof/Machine/Pwr.lean ====
section
/-! DEFINITION. Supply, dip policy, supervisors and VCORE (R343 to R356). -/

namespace Sys2Proof.Machine

/-! ### Dip policy (R347 to R350, R356) -/

/-- PWR_WARN.LEVEL in mV, within 36 to 48 V. -/
def Dev.warnMv (d : Dev) : Nat := 100 * max 360 (min 480 (d.get PWR_WARN.LEVEL))

/-- CEIL in 2^−16, within 0x40 to 0xFF. -/
def Dev.dipCeil (d : Dev) : Nat := 256 * max 0x40 (min 0xFF (d.get PWR_DIP_CFG.CEIL))

/-- Does a group take its dip state from the ACTIVE (R350)? -/
def Dev.dipShared (d : Dev) (g : Nat) : Bool := d.grpStandby g && !d.is PAIR_STAT.UNMIRRORED

/-- The dip gain that a group has. -/
def DipSt.gain (x : DipSt) : Nat := if x.ceil then 65536 else x.val

/-- The policy acts on a group: CEILING at once, or, where it applies `anew` during a restore, from the present value without a step; RAMP
from the present gain to 0 over RAMP_DN (R347, R348). -/
def Dev.dipApply (d : Dev) (g : Nat) (anew : Bool) : Dev :=
  let x := d.dip g
  match d.get PWR_DIP_CFG.POLICY with
  | 1 =>
    if anew && x.ceil && (x.dir == 2 || x.dir == 3) then d.setDip g { x with dir := 3, foot := d.dipCeil }
    else d.setDip g { val := d.dipCeil, ceil := true, dir := 0, foot := d.dipCeil }
  | 2 =>
    let np := d.periods g (max 1 (d.get PWR_DIP_CFG.RAMP_DN))
    d.setDip g { val := x.gain, ceil := false, dir := 1, top := x.gain, p := np, np := np }
  | _ => d

/-- A group's restore begins, from its present value (R348). -/
def Dev.dipRestore (d : Dev) (g : Nat) : Dev :=
  let x := d.dip g
  let np := d.periods g (max 1 (d.get PWR_DIP_CFG.RAMP_UP))
  let foot := min x.foot x.val
  if x.val = 65536 then d.setDip g {}
  else d.setDip g { x with dir := 2, foot := foot, p := (x.val - foot) * np / (65536 - foot), np := np }

/-- The chip's own dip state becomes `st`. Unless a state of the ACTIVE is shown (R350), it is reported with the least value
in force. -/
def Dev.dipPut (d : Dev) (st : Nat) : Dev :=
  let d : Dev := { d with pwr := { d.pwr with dip := st } }
  if d.is PWR_DIP_STAT.SHARED then d else
  let v := ((List.range 4).filter (fun g => bitOf d.pwr.selected g == 1)).foldl (fun v g => min v (d.dip g).val) 65536
  (d.put PWR_DIP_STAT.STATE st).put PWR_DIP_STAT.GAIN (min 65535 v)

/-- Apply f to the groups of a mask whose dip state is the chip's own. -/
def Dev.dipGroups (d : Dev) (mask : Nat) (f : Nat → Dev → Dev) : Dev :=
  forN 4 (fun g d => if bitOf mask g == 1 && !d.dipShared g then f g d else d) d

/-- Is a policy with an action set? -/
def Dev.dipActive (d : Dev) : Bool := d.get PWR_DIP_CFG.POLICY == 1 || d.get PWR_DIP_CFG.POLICY == 2

/-- The VBUS reading in units of 10 mV (R351). -/
def Dev.putVbus (d : Dev) (mv : Nat) : Dev := (d.put PWR_VBUS.V (min 65535 (mv / 10))).startTimer .vbusRead

/-- The sensor's reading of the junction temperature in 0.1 °C (R345). -/
def Dev.putTj (d : Dev) (v : Int) : Dev := (d.put PWR_TJ.TJ (unsW 16 v)).startTimer .tjRead

/-- The groups of a mask join those that the policy selected. -/
def Dev.dipSelect (d : Dev) (g : Nat) : Dev := { d with pwr := { d.pwr with selected := d.pwr.selected ||| g } }

/-- A group that took its dip state from the ACTIVE does so no longer: the chip's own policy acts on it from the present value,
or it restores (R350). -/
def Dev.dipOwn (d : Dev) (g : Nat) : Dev :=
  if (d.pgrp g).shared.isNone || d.dipShared g then d else
  let d := d.setPgrp g { d.pgrp g with shared := none }
  let d := if d.pwr.dip = 1 ∧ bitOf d.pwr.selected g = 1 then d.dipApply g true else d.dipRestore g
  if (List.range 4).any (fun g => (d.pgrp g).shared.isSome) then d else (d.put PWR_DIP_STAT.SHARED 0).dipPut d.pwr.dip

/-- VBUS_WARN: VBUS at `mv` lies below LEVEL (R345, R347). -/
def Dev.vbusWarn (d : Dev) (mv : Nat) : Dev :=
  if d.is PWR_STAT.WARN || decide (d.warnMv ≤ mv) then d else
  let d := (((d.putVbus mv).put PWR_STAT.WARN 1).inc PWR_DIP_STAT.DIPS).raise FS.PWR_VBUS_WARN
  if !d.dipActive then d else
  let g := d.get PWR_DIP_CFG.GROUPS
  ((d.dipGroups g (fun g d => d.dipApply g true)).dipSelect g).dipPut 1

/-- VBUS_RECOVER: VBUS at `mv` lies above LEVEL + 1 V (R348). -/
def Dev.vbusRecover (d : Dev) (mv : Nat) : Dev :=
  if !d.is PWR_STAT.WARN || decide (mv ≤ d.warnMv + 1000) then d else
  let d := (d.putVbus mv).put PWR_STAT.WARN 0
  if d.pwr.dip ≠ 1 then d
  else (d.dipGroups d.pwr.selected (fun g d => d.dipRestore g)).dipPut 2

/-- Have the selected groups come back to 1, those that have carrier periods (R348)? -/
def Dev.dipBack (d : Dev) : Bool :=
  (List.range 4).all (fun g => bitOf d.pwr.selected g == 0 || d.dipShared g || !d.is PSM_PG_CFG.EN g || (d.dip g).val == 65536)

/-- DIP_RESTORE_DONE: the restore has reached 1 (R348). -/
def Dev.dipRestoreDone (d : Dev) : Dev :=
  if d.pwr.dip ≠ 2 ∨ !d.dipBack then d
  else
    let d := d.dipGroups d.pwr.selected (fun g d => d.setDip g {})
    ({ d with pwr := { d.pwr with selected := 0 } }).dipPut 0

/-- PWR_DIP_CFG written during a dip, VBUS being below LEVEL: the new values apply, and a group removed restores (R356). -/
def Dev.dipRewrite (d : Dev) : Dev :=
  if !d.is PWR_STAT.WARN then d else
  let new := if d.dipActive then d.get PWR_DIP_CFG.GROUPS else 0
  let d := d.dipGroups (d.pwr.selected - (d.pwr.selected &&& new)) (fun g d => d.dipRestore g)
  let d := (d.dipGroups new (fun g d => d.dipApply g false)).dipSelect new
  d.dipPut (if new ≠ 0 then 1 else if d.pwr.selected = 0 then 0 else 2)

/-! ### Supervisors (R345) -/

/-- Number of a supervisor. -/
def supNum : Sup → Nat
  | .vbusOv => 0 | .vintUv => 1 | .vcoreUv => 2 | .vcoreOv => 3 | .vio18Uv => 4 | .vio33Uv => 5 | .vanaUv => 6 | .vsdUv => 7
  | .vio33Oc => 8 | .tjWarn => 9 | .tjCrit => 10

/-- The fault source that it raises. -/
def supSource : Sup → Nat
  | .vbusOv => FS.PWR_VBUS_OV | .vintUv => FS.PWR_VINT_UV | .vcoreUv => FS.PWR_VCORE_UV | .vcoreOv => FS.PWR_VCORE_OV
  | .vio18Uv => FS.PWR_VIO_UV | .vio33Uv => FS.PWR_VIO_UV | .vanaUv => FS.PWR_VLDO_UV | .vsdUv => FS.PWR_VLDO_UV
  | .vio33Oc => FS.PWR_VIO33_OC | .tjWarn => FS.PWR_TJ_WARN | .tjCrit => FS.PWR_TJ_CRIT

/-- PWR_TJ.WARN in 0.1 °C, within 85 to 125 °C. -/
def Dev.tjWarn (d : Dev) : Int := 10 * (max 85 (min 125 (d.get PWR_TJ.WARN)) : Nat)

/-- Does a reading (mV, mA or 0.1 °C) trip a supervisor? -/
def Dev.supTrips (d : Dev) (s : Sup) (v : Int) : Bool :=
  match s with
  | .vbusOv => decide (80000 < v)
  | .vintUv => decide (v < 8000)
  | .vcoreUv => decide (100 * v < 92 * (d.pwr.vcore : Int))
  | .vcoreOv => decide (960 < v)
  | .vio18Uv => decide (v < 1620)
  | .vio33Uv => decide (v < 2970)
  | .vanaUv => decide (v < 1080)
  | .vsdUv => decide (v < 810)
  | .vio33Oc => decide (1000 < v)
  | .tjWarn => decide (d.tjWarn < v)
  | .tjCrit => decide (1400 < v)

/-- Does a reading clear it? The GRAVE ones are cleared by a POR alone. -/
def Dev.supClears (d : Dev) (s : Sup) (v : Int) : Bool :=
  match s with
  | .vintUv => decide (8400 < v)
  | .vcoreUv => decide (95 * (d.pwr.vcore : Int) < 100 * v)
  | .vio18Uv => decide (1674 < v)
  | .vio33Uv => decide (3069 < v)
  | .vanaUv => decide (1116 < v)
  | .vsdUv => decide (837 < v)
  | .vio33Oc => decide (v < 900)
  | .tjWarn => decide (v < d.tjWarn - 50)
  | _ => false

/-- Bit of PWR_STAT.PGOOD of the rail that a supervisor watches. -/
def supRail : Sup → Option Nat
  | .vintUv => some 0 | .vcoreUv => some 1 | .vcoreOv => some 1 | .vio18Uv => some 2 | .vio33Uv => some 3 | .vanaUv => some 4
  | .vsdUv => some 5 | _ => none

/-- The reading and the flag that a supervisor shows. -/
def Dev.supShow (d : Dev) (s : Sup) (v : Int) (on : Bool) : Dev :=
  let d := match s with
    | .vbusOv => (d.putVbus v.toNat).put PWR_STAT.OV (b2n on)
    | .vcoreUv | .vcoreOv => d.put PWR_VCORE.MEAS (min 1023 v.toNat)
    | .vio33Oc => d.put PWR_STAT.OCL (b2n on)
    | .tjWarn => (d.putTj v).put PWR_STAT.TJW (b2n on)
    | .tjCrit => d.putTj v
    | _ => d
  match supRail s with
  | some b => if on then d.clrBit PWR_STAT.PGOOD b else d.setBit PWR_STAT.PGOOD b
  | none => d

/-- Does VCORE still settle after a lowering, 10 µs at most (R352)? -/
def Dev.lowering (d : Dev) : Bool :=
  match d.pwr.lowAt with
  | some t => decide (d.tclk ≤ t + 2500)
  | none => false

/-- SUPERVISOR_TRIP. An undervoltage while a lowering settles makes the next request a raise (R356). -/
def Dev.supervisorTrip (d : Dev) (s : Sup) (v : Int) : Dev :=
  if d.pwr.tripped.contains (supNum s) || !d.supTrips s v then d else
  let m := d.pwr.mustRaise || (s == .vcoreUv && d.lowering)
  let d := { d with pwr := { d.pwr with tripped := supNum s :: d.pwr.tripped, mustRaise := m } }
  (d.supShow s v true).raise (supSource s)

/-- SUPERVISOR_CLEAR. -/
def Dev.supervisorClear (d : Dev) (s : Sup) (v : Int) : Dev :=
  if !d.pwr.tripped.contains (supNum s) || !d.supClears s v then d else
  ({ d with pwr := { d.pwr with tripped := d.pwr.tripped.filter (· != supNum s) } }).supShow s v false

/-! ### VCORE (R352, R353) -/

/-- PWR_VCORE_LIM.MAX, within 620 to 900 mV (R352). -/
def Dev.vcoreMax (d : Dev) : Nat := max 620 (min 900 (d.get PWR_VCORE_LIM.MAX))

/-- PWR_VCORE_LIM.MIN, at least 620 mV and at most MAX. -/
def Dev.vcoreMin (d : Dev) : Nat := min d.vcoreMax (max 620 (d.get PWR_VCORE_LIM.MIN))

/-- VCORE settles at a value; the next step follows 10 µs later (R352, R353). -/
def Dev.setVcore (d : Dev) (mv : Nat) : Dev := (({ d with pwr := { d.pwr with vcore := mv } }).put PWR_VCORE.MEAS mv).startTimer .vcore

/-- VCORE is lowered to a value. -/
def Dev.lowerVcore (d : Dev) (mv : Nat) : Dev := ({ d with pwr := { d.pwr with lowAt := some d.tclk } }).setVcore mv

/-- One request of the Thicket (R102, R352); a raise where an undervoltage asks for one (R356). -/
def Dev.vcoreRequest (d : Dev) (up : Bool) : Dev :=
  let v := d.pwr.vcore
  let up := up || d.pwr.mustRaise
  let d := { d with pwr := { d.pwr with mustRaise := false } }
  if up then
    if d.vcoreMax ≤ v then d.raise FS.THK_AVS_CEIL else d.setVcore (min d.vcoreMax (v + 5))
  else if v ≤ d.vcoreMin then d
  else d.lowerVcore (max d.vcoreMin (v - 5))

/-- What VCORE moves toward by itself: 800 mV after a reset, SET within the limits while AVS is off, MAX where it lies
above it (R353, R356). -/
def Dev.vcoreTarget (d : Dev) : Nat :=
  let v := if !d.is THK_AVS_CFG.EN then d.get PWR_VCORE.SET else if d.pwr.vret then 800 else d.pwr.vcore
  max d.vcoreMin (min d.vcoreMax v)

/-- VCORE_SET_STEP: one step of at most 5 mV toward the target, 10 µs after the one before (R353). -/
def Dev.vcoreStep (d : Dev) : Dev :=
  if !d.isDue .vcore 10000 then d else
  let v := d.pwr.vcore
  let t := d.vcoreTarget
  let n := if v < t then min t (v + 5) else max t (v - 5)
  let d := if v = t then d else if v < t then d.setVcore n else d.lowerVcore n
  if n = t then { d with pwr := { d.pwr with vret := false } } else d

/-! ### Power-up (R354) -/

/-- POWER_UP: VBUS rises through 35 V; the rails ramp with POR held. -/
def Dev.powerUp (d : Dev) (mv : Nat) : Dev :=
  if d.pwr.por && d.pwr.step == 0 && decide (35000 < mv) then ({ d with pwr := { d.pwr with step := 1 } }).startTimer .power else d

/-- RAIL_TIMEOUT: a rail has not reached regulation within 10 ms of its ramp; POR stays asserted and the failure is counted. -/
def Dev.railTimeout (d : Dev) : Dev :=
  if d.pwr.por && d.pwr.step == 1 && d.ranFor .power 10000000 then
    (({ d with pwr := { d.pwr with step := 2 } }).startTimer .power).inc PWR_POR_CNT.RETRY
  else d

/-- POWER_UP_RETRY: after 100 ms the whole sequence starts again. -/
def Dev.powerUpRetry (d : Dev) : Dev :=
  if d.pwr.por && d.pwr.step == 2 && d.ranFor .power 100000000 then ({ d with pwr := { d.pwr with step := 1 } }).startTimer .power else d

/-- A register write of PWR. -/
def Dev.pwrWrite (d : Dev) (r : Reg) (i j : Nat) (w : Word) : Dev :=
  if r == PWR_VCORE then (if d.is THK_AVS_CFG.EN then d else d.store r w i j)
  else
    let d := d.store r w i j
    if r == PWR_DIP_CFG then d.dipRewrite else d

end Sys2Proof.Machine
end

