-- ==== Sys2Proof/Machine/Mgmt.lean ====
section
/-! DEFINITION. Management core, host interface, rings, watchdog and scene store (R357 to R373). -/

namespace Sys2Proof.Machine

/-! ### Vectors and the endpoint (R358, R359, R366, R367) -/

/-- MGMT_VEC_RAISE: vectors 24 to 31 alone. -/
def Dev.vecRaise (d : Dev) (v : Nat) : Dev := if 24 ≤ v ∧ v ≤ 31 then d.raiseVec v else d

/-- Write an entry of the MSI-X table. -/
def Dev.setMsix (d : Dev) (v : Nat) (e : MsixEntry) : Dev := { d with mgmt := { d.mgmt with msix := tabPut {} d.mgmt.msix v e } }

/-- The words of a vector's table entry, at 16 × v in BAR2 (R359): address, upper address, data, vector control. -/
def Dev.msixWords (d : Dev) (v : Nat) : List Nat :=
  let e := tabGet {} d.mgmt.msix v
  [e.addr % 2 ^ 32, e.addr / 2 ^ 32, e.data, b2n e.masked]

/-- A word of the pending-bit array, at 0x800 in BAR2 (R359). -/
def Dev.pbaWord (d : Dev) (k : Nat) : Nat := (List.range 32).foldl (fun n i => n + b2n (d.mgmt.pba.contains (32 * k + i)) * 2 ^ i) 0

/-- The host at the MSI-X table: an entry written unmasked sends a pending message, one written masked holds its messages back, and a look
returns the four words of the entry and the two of the pending-bit array (R359, R367). No access is served while PERST_N is low (R402). -/
def Dev.msixAccess (d : Dev) (v addr : Nat) (x : MsixUse) : Dev :=
  if !d.pcie || d.mgmt.perstLow || decide (64 ≤ v) then d else
  match x with
  | .unmask data => (d.setMsix v ⟨addr, data, false⟩).msixTry v
  | .mask data => d.setMsix v ⟨addr, data, true⟩
  | .look =>
    let d := ((d.msixWords v).mapIdx (fun i w => (i, w))).foldl (fun d e => d.emit (.bar2 (16 * v + 4 * e.1) (BitVec.ofNat 32 e.2))) d
    (d.emit (.bar2 0x800 (BitVec.ofNat 32 (d.pbaWord 0)))).emit (.bar2 0x804 (BitVec.ofNat 32 (d.pbaWord 1)))

/-! ### Rings (R361 to R365) -/

/-- Least size of a ring in bytes (R361). -/
def ringMin (q : Nat) : Nat := if q < 80 then 2048 else if q < 88 then 4096 else 1024

/-- Does an enabled ring other than q overlap the range of ring q? -/
def Dev.ringOverlap (d : Dev) (q : Nat) : Bool :=
  (List.range 32).any (fun i =>
    let o := 64 + i
    o != q && d.ringOn o && decide (d.ringBase o < d.ringBase q + d.ringSize q) && decide (d.ringBase q < d.ringBase o + d.ringSize o))

/-- RING_ENABLE: a write of MGMT_RING_CFG, accepted only while EN = 0; an enable of a bad ring is refused (R361). FILL follows the SIZE
written (R364). -/
def Dev.ringCfgWrite (d : Dev) (q : Nat) (w : Word) : Dev :=
  let i := q - 64
  if d.is MGMT_RING_CFG.EN i then d else
  let host := d.get MGMT_RING_CFG.HOST i
  let d := d.store MGMT_RING_CFG w i
  let d := if 80 ≤ q ∧ q ≤ 83 then d.put MGMT_RING_CFG.HOST host i else d
  if !d.is MGMT_RING_CFG.EN i then d.putFill q
  else if d.ringSize q < ringMin q ∨ memSram + 0x80000 < d.ringBase q + d.ringSize q ∨ d.ringOverlap q = true then
    ((d.put MGMT_RING_CFG.EN 0 i).put MGMT_RING_CFG.BADCFG 1 i).putFill q
  else d.putFill q

/-- Is a ring's producer software (R361)? -/
def ringSoftProd (q : Nat) : Bool := (decide (72 ≤ q) && decide (q ≤ 83)) || q == 86 || q == 87

/-- Is a ring's consumer software? -/
def ringSoftCons (q : Nat) : Bool := !(decide (72 ≤ q) && decide (q ≤ 79)) && q != 86 && q != 87

/-- Is the host the consumer of a ring? -/
def Dev.hostCons (d : Dev) (q : Nat) : Bool :=
  if 80 ≤ q ∧ q ≤ 83 then q % 2 == 1 else ringSoftCons q && d.ringHost q

/-- Is the host the producer of a ring? -/
def Dev.hostProd (d : Dev) (q : Nat) : Bool :=
  if 80 ≤ q ∧ q ≤ 83 then q % 2 == 0 else ringSoftProd q && d.ringHost q

/-- A software producer has advanced WR: the consumer is told (R364, R366). -/
def Dev.softAdvance (d : Dev) (q : Nat) : Dev :=
  if 80 ≤ q ∧ q ≤ 83 then d.raiseVecTo (q - 72) (d.hostCons q) (!d.hostCons q) else d

/-- RING_WR_WRITE: a software producer may not advance WR past RD (R364); a write of the same offset advances nothing. -/
def Dev.ringWrWrite (d : Dev) (q v : Nat) : Dev :=
  if !ringSoftProd q then d else
  let sz := d.ringSize q
  let adv := (v + sz - d.ringWr q % sz) % sz
  if sz ≤ v ∨ sz ≤ d.ringFill q + adv then d.put MGMT_RING_STAT.OVR 1 (q - 64)
  else if adv = 0 then d.ringSet q v (d.ringRd q)
  else (d.ringSet q v (d.ringRd q)).softAdvance q

/-- RING_RD_WRITE: a software consumer advances RD. -/
def Dev.ringRdWrite (d : Dev) (q v : Nat) : Dev :=
  if ringSoftCons q then d.ringSet q (d.ringWr q) v else d

/-- The ring that the host port reaches, where the host is its consumer or producer. -/
def Dev.hportRing (d : Dev) : Option Nat :=
  let q := d.get MGMT_HPORT_SEL.Q
  if 64 ≤ q ∧ q ≤ 95 ∧ (d.hostCons q || d.hostProd q) = true then some q else none

/-- The cursor returns to RD or WR (R365, R373). -/
def Dev.hportHome (d : Dev) : Dev :=
  match d.hportRing with
  | some q => d.put MGMT_HPORT_CTRL.CURSOR (if d.hostCons q then d.ringRd q else d.ringWr q)
  | none => d

/-- HPORT_SELECT. -/
def Dev.hportSelect (d : Dev) (w : Word) : Dev := (d.store MGMT_HPORT_SEL w).hportHome

/-- The cursor moves by one word. -/
def Dev.hportStep (d : Dev) (q : Nat) : Dev :=
  d.put MGMT_HPORT_CTRL.CURSOR ((d.get MGMT_HPORT_CTRL.CURSOR + 4) % d.ringSize q)

/-- HPORT_READ: the word at the cursor. -/
def Dev.hportRead (d : Dev) (master : Nat) : Word × Dev :=
  match d.hportRing with
  | some q =>
    let (w, d) := d.eccRead (d.ringBase q + d.get MGMT_HPORT_CTRL.CURSOR) FS.MGMT_ECC_CORR FS.MGMT_ECC_UNC master
    (w, d.hportStep q)
  | none => (0, d)

/-- HPORT_WRITE: stored at the cursor, or discarded where it would pass RD. -/
def Dev.hportWrite (d : Dev) (w : Word) : Dev :=
  match d.hportRing with
  | some q =>
    let c := d.get MGMT_HPORT_CTRL.CURSOR
    let sz := d.ringSize q
    if sz ≤ (c + sz - d.ringRd q % sz) % sz + 4 then d.put MGMT_HPORT_CTRL.OVR 1
    else (d.setMemW (d.ringBase q + c) w).hportStep q
  | none => d

/-- Does the cursor lie on an entry boundary, by the LEN fields from an offset (R365)? The look at LEN and KIND is no read that reports a
memory error (DESIGN CHOICE, log entry 137). -/
def Dev.onBoundary (d : Dev) (q cursor : Nat) : Nat → Nat → Bool
  | 0, o => o == cursor
  | fuel + 1, o =>
    if o = cursor then true else
    let a := d.ringBase q + o
    let len := d.memLe a 2
    let e := if (d.memLe (a + 2) 1) = 0 then 16 + len else entrySize len
    let sz := d.ringSize q
    let dist := (cursor + sz - o) % sz
    if dist < e then false else d.onBoundary q cursor fuel ((o + e) % sz)

/-- HPORT_COMMIT: RD or WR takes the cursor, or MISALIGN (R365). -/
def Dev.hportCommit (d : Dev) : Dev :=
  match d.hportRing with
  | some q =>
    let c := d.get MGMT_HPORT_CTRL.CURSOR
    if d.hostCons q then
      if d.onBoundary q c 4096 (d.ringRd q) then d.ringSet q (d.ringWr q) c else d.put MGMT_HPORT_CTRL.MISALIGN 1
    else if d.onBoundary q c 4096 (d.ringWr q) then
      let moved := c != d.ringWr q
      let d := d.ringSet q c (d.ringRd q)
      if moved then d.softAdvance q else d
    else d.put MGMT_HPORT_CTRL.MISALIGN 1
  | none => d

/-! ### PCIe (R359, R402) -/

/-- A reset of the endpoint: MSI-X table and pending array, the host port's PERF registers; the host-port cursor returns
(R359, R373). -/
def Dev.endpointReset (d : Dev) : Dev :=
  let cs := d.perf.cntPort.foldl (fun (t : Tab CntPort) kv => tabPut ({} : CntPort) t kv.1 { kv.2 with snapHost := 0, stageHost := 0 }) []
  let d := { d with mgmt := { d.mgmt with msix := [], pba := [] }, perf := { d.perf with cntPort := cs, slotSnapHost := [] } }
  d.hportHome

/-- PCIE_RESET. -/
def Dev.pcieReset (d : Dev) : Dev := if d.pcie then d.endpointReset else d

/-- PCIE_LINK_DOWN. -/
def Dev.pcieLinkDown (d : Dev) : Dev :=
  if d.pcie then d.raise FS.MGMT_PCIE_DOWN else d

/-- PCIE_ERROR. -/
def Dev.pcieError (d : Dev) : Dev := if d.pcie then d.raise FS.MGMT_PCIE_ERR else d

/-- PERST_N_CHANGE: a low level resets the endpoint alone; after its rise the link trains and serves accesses again (R402). -/
def Dev.perstChange (d : Dev) (low : Bool) : Dev :=
  let d := { d with mgmt := { d.mgmt with perstLow := low } }
  if d.pcie && low then d.endpointReset else d

/-! ### Watchdog and MGMT reset (R368) -/

/-- The watchdog starts. -/
def Dev.wdogStart (d : Dev) : Dev := { d with mgmt := { d.mgmt with wdogAt := d.tclk, wdogWas := d.tclk } }

/-- The kick or start from which an expiry at the present tick is counted: a kick at that very tick comes too late (R373). -/
def Dev.wdogFrom (d : Dev) : Nat := if d.mgmt.wdogAt = d.tclk then d.mgmt.wdogWas else d.mgmt.wdogAt

/-- WDOG_KICK. -/
def Dev.wdogKick (d : Dev) (key : Nat) : Dev :=
  if key = 0xC1A5 then { d with mgmt := { d.mgmt with wdogAt := d.tclk, wdogWas := d.wdogFrom } } else d.put MGMT_STAT.BADKICK 1

/-- A write of MGMT_WDOG; enabling starts the timer. -/
def Dev.wdogWrite (d : Dev) (w : Word) : Dev :=
  let was := d.is MGMT_WDOG.EN
  let d := d.store MGMT_WDOG w
  if !was && d.is MGMT_WDOG.EN then d.wdogStart else d

/-- A MGMT reset beyond its registers: the core stops, its page and PERF port registers return to 0 (R342, R368, R382). -/
def Dev.mgmtReset (d : Dev) : Dev :=
  ({ d with mgmt := { d.mgmt with resetting := true, fwRunning := false, corePage := 0 } }).perfMgmtReset

/-- Timeout in ms. -/
def Dev.wdogMs (d : Dev) : Nat := max 1 (min 10000 (d.get MGMT_WDOG.TMO))

/-- Has the time from the latest kick reached TMO, less the 1 % of accuracy? A TCLK tick is 4 ns. -/
def Dev.wdogDue (d : Dev) : Bool :=
  d.is MGMT_WDOG.EN && !d.mgmt.resetting && decide (99 * d.wdogMs * 250000 ≤ 100 * (d.tclk - d.wdogFrom))

/-- MGMT_RESET_DONE: the boot ROM checks the MGFW copy and restarts the firmware, or sets FWFAIL (R368). -/
def Dev.mgmtResetDone (d : Dev) : Dev :=
  if !d.mgmt.resetting then d else
  let ok := crc32 (d.bytes memSram d.mgmt.fwLen) == d.mgmt.fwCrc
  let d := d.sramScan memSram d.mgmt.fwLen 64
  let d := ({ d with mgmt := { d.mgmt with resetting := false, fwRunning := ok && d.imageApplied } }).wdogStart
  let d := d.put MGMT_STAT.FWFAIL (b2n (!ok))
  (d.put MGMT_STAT.MRSTEV 1).raiseVec 4

/-- The load monitor latches (R370). -/
def Dev.loadLatch (d : Dev) : Dev :=
  let tot := (d.pace + 2 ^ 48 - d.mgmt.paceAt) % 2 ^ 48
  let busy := d.mgmt.busyPace
  let d := { d with mgmt := { d.mgmt with busyPace := 0, paceAt := d.pace } }
  let d := (d.put MGMT_LOAD_BUSY.BUSY busy).put MGMT_LOAD_TOT.TOT tot
  d.put MGMT_LOAD_MAX.PERMIL (max (d.get MGMT_LOAD_MAX.PERMIL) (busy * 1000 / max 1 tot))

/-! ### Scene store (R371, R372) -/

/-- Is a page protected against the host? -/
def Dev.scnProtected (d : Dev) (a : Nat) : Bool :=
  let p := (a - memScene) / 0x10000
  if p < 32 then d.bit MGMT_SCN_WP0.WP p else d.bit MGMT_SCN_WP1.WP (p - 32)

/-- PEND follows the buffer. -/
def Dev.putPend (d : Dev) : Dev := d.put MGMT_SCN_STAT.PEND (min 64 d.mgmt.sceneBuf.length)

/-- SCENE_WRITE: a word enters the buffer or waits for room; a protected page discards a host write (R371, R372). -/
def Dev.sceneWrite (d : Dev) (port a : Nat) (w : Word) : Dev :=
  if port != 64 && d.scnProtected a then d.raiseAt FS.SYS_BUS_ERR { addr := a, master := port, ty := 2 }
  else ({ d with mgmt := { d.mgmt with sceneBuf := d.mgmt.sceneBuf ++ [(a, w)] } }).putPend

/-- SCENE_WORD_DONE: the oldest buffered word is written; `bad` says that its read-back failed twice, which leaves its
content free (R371). -/
def Dev.sceneWordDone (d : Dev) (bad : Bool) : Dev :=
  match d.mgmt.sceneBuf with
  | [] => d
  | (a, w) :: rest =>
    let d := ({ d with mgmt := { d.mgmt with sceneBuf := rest } }).putPend
    if bad then
      let (k, d) := d.draw
      ((d.setMemW a (Config.freeWord k)).put MGMT_SCN_STAT.MISEV 1).raise FS.MGMT_SCENE
    else d.setMemW a w

/-- A read of the scene store, which follows the writes before it (R371, R378). -/
def Dev.sceneRead (d : Dev) (a port : Nat) : Word × Dev :=
  match d.mgmt.sceneBuf.reverse.find? (fun e => e.1 == a) with
  | some e => (e.2, d)
  | none => d.eccRead a FS.SYS_MRAM_CORR FS.SYS_MRAM_UNC port

/-- At POR the word that has begun completes and the rest are lost; whether the oldest has begun is free (R371). -/
def Dev.scenePor (d : Dev) : Dev :=
  match d.mgmt.sceneBuf with
  | [] => d
  | (a, w) :: _ =>
    let (k, d) := d.draw
    let d := { d with mgmt := { d.mgmt with sceneBuf := [] } }
    if Config.freeBit k then d.setMemW a w else d

end Sys2Proof.Machine
end

