-- ==== Sys2Proof/Machine/Pair.lean ====
section
/-! DEFINITION. Duplicated pair operation: roles, ownership, heartbeats and detection, arbitration, comparison, Pleach and
health (R295 to R314). -/

namespace Sys2Proof.Machine

/-! ### Roles and ownership (R295, R296, R299, R308, R312) -/

/-- Replace the pair's state. -/
def Dev.setPair (d : Dev) (p : PairSt) : Dev := { d with pair := p }

/-- The role: 0 NONE, 1 SOLO, 2 ACTIVE, 3 STANDBY, 4 FAILED (R295). -/
def Dev.role (d : Dev) : Nat := d.get PAIR_STAT.ROLE

/-- Pair operation is enabled. -/
def Dev.pairOn (d : Dev) : Bool := d.is PAIR_CFG.EN

/-- Factory test mode is active (R413). -/
def Dev.ftm (d : Dev) : Bool := d.is TEST_STAT.FTM

/-- The block in progress, modulo 2^32. -/
def Dev.blk (d : Dev) : Nat := d.get SYS_BLK_COUNT.COUNT

/-- Drive OWN_OUT; low in factory test mode (R299, R414). -/
def Dev.setOwnOut (d : Dev) (high : Bool) : Dev := d.setPair { d.pair with ownOut := high && !d.ftm }

/-- Mask of the paired modulator groups that are enabled. -/
def Dev.pairedGroups (d : Dev) : Nat := forN 4 (fun g m => m + 2 ^ g * b2n (d.is PSM_PG_CFG.PAIRED g && d.is PSM_PG_CFG.EN g)) 0

/-- Enter a role. A STANDBY does not diagnose: a diagnosis of a paired group that it began is abandoned (R147, R148). -/
def Dev.setRole (d : Dev) (r : Nat) : Dev :=
  let d := d.put PAIR_STAT.ROLE r
  if r = 3 then forN 4 (fun g d => if d.is PSM_PG_CFG.PAIRED g && d.diagnosing g then d.groupDown g 0 else d) d else d

/-- The chip takes the paired outputs, packets from output block m on: groups at once and each port at its next frame boundary; or, with a
tick, each group from its next carrier period on and each port at the first frame boundary from that tick on (R173, R308, R310). -/
def Dev.take (d : Dev) (m : Nat) (ports : Option Nat) : Dev :=
  let p := d.pair
  let d := d.setPair { p with ownG := if ports.isNone then 0xF else 0, takeG := if ports.isNone then 0 else 0xF, ownE := true, ownH := true,
                              ethFrom := m, relG := [], relH := false, takeS := ports, wantS := true, yieldS := false }
  d.setOwnOut true

/-- The chip lets go of every paired output, of each port at its next frame boundary, and lowers OWN_OUT (R173, R296, R299). -/
def Dev.releaseNow (d : Dev) : Dev :=
  let p := { d.pair with ownG := 0, wantS := false, ownE := false, ownH := false, ethFrom := 0, relG := [], relH := false, takeS := none,
                           takeG := 0, yieldS := false }
  (d.setPair p).setOwnOut false

/-- Paired groups go on driving to the end of the carrier period in progress, which is the next period start of each, with OWN_OUT high
until then; a chip without paired groups lowers it at once (R299, R308, R312). -/
def Dev.releaseGroups (d : Dev) : Dev :=
  let gs := (List.range 4).filter (fun g => bitOf d.pairedGroups g == 1)
  if gs.isEmpty then (d.setPair { d.pair with ownG := 0, takeG := 0 }).setOwnOut false
  else d.setPair { d.pair with relG := gs, takeG := 0 }

/-- A release of a paired group comes to its end as its next carrier period begins; with the last group's OWN_OUT goes low (R299, R308,
R312). -/
def Dev.groupReleased (d : Dev) (g : Nat) : Dev :=
  if !d.pair.relG.contains g then d else
  let rest := d.pair.relG.filter (fun x => x != g)
  let d := d.setPair { d.pair with relG := rest, ownG := d.pair.ownG - 2 ^ g * bitOf d.pair.ownG g }
  if !rest.isEmpty then d else
  let stop := d.pair.yieldS
  (d.setPair { d.pair with ownG := 0, ownS := if stop then 0 else d.pair.ownS, wantS := d.pair.wantS && !stop, yieldS := false }).setOwnOut false

/-- Does the carrier period of a group that begins now contain the boundary of the next block? -/
def Dev.periodHoldsBoundary (d : Dev) (g : Nat) : Bool :=
  decide (d.inst16 (d.cyc.k + 1) < d.now16 + cdiv 250000 (3 * 2 ^ d.get PSM_PG_CFG.CAR g))

/-- The taking chip of a planned handover raises OWN_OUT and drives a group from the start of the carrier period that contains B(H), while
it is still STANDBY (R299, R308); after a takeover the group is driven from its first carrier period (R310). -/
def Dev.groupTaken (d : Dev) (g : Nat) : Dev :=
  if bitOf d.pair.takeG g == 1 then
    d.setPair { d.pair with ownG := d.pair.ownG ||| 2 ^ g, takeG := d.pair.takeG - 2 ^ g }
  else if d.role == 3 && d.is PSM_PG_CFG.PAIRED g && d.is PSM_PG_CFG.EN g && d.pair.ho == some ((d.cyc.k + 1) % 2 ^ 32) && d.running
      && d.periodHoldsBoundary g then
    (d.setPair { d.pair with ownG := d.pair.ownG ||| 2 ^ g }).setOwnOut true
  else d

/-- A paired group begins a carrier period: it is released or taken there (R299, R308, R312). -/
def Dev.pairCarrier (d : Dev) (g : Nat) : Dev := (d.groupReleased g).groupTaken g

/-- A frame boundary of a port: the chip takes or releases it there, a takeover no earlier than 6 µs after OWN_OUT rose (R173, R308,
R310). -/
def Dev.pairFrame (d : Dev) (p : Nat) : Dev :=
  let has := bitOf d.pair.ownS p
  if d.pair.wantS then
    if has == 0 && !d.pair.yieldS && decide (d.pair.takeS.getD 0 ≤ d.tclk) then d.setPair { d.pair with ownS := d.pair.ownS + 2 ^ p } else d
  else d.setPair { d.pair with ownS := d.pair.ownS - has * 2 ^ p }

/-- ACTIVE gives up its outputs on its own: groups and OWN_OUT at the end of the carrier period in progress, flows at the next boundary,
streams after the packet in progress (R296, R312). Where OWN_IN has risen (`split`) the ports stop with OWN_OUT, as R312 has it; a written
YIELD releases each port at its next frame boundary (R173, R308). The two rules differ on the ports of a yield (DESIGN CHOICE, log entry
140). -/
def Dev.yieldNow (d : Dev) (split : Bool) : Dev :=
  let d := (d.setRole 3).setPair { d.pair with relH := true, ownE := false, ethFrom := d.cyc.k + 1, takeS := none, ho := none,
                                               wantS := split, yieldS := split, det1 := false, det2 := false }
  let d := d.releaseGroups
  if split && d.pair.relG.isEmpty then d.setPair { d.pair with ownS := 0, wantS := false, yieldS := false } else d

/-- To FAILED from ACTIVE or STANDBY (R296). -/
def Dev.pairFail (d : Dev) : Dev :=
  if d.role = 2 ∨ d.role = 3 then
    let d := (d.setRole 4).releaseNow
    d.setPair { d.pair with ho := none, backoff := false }
  else d

/-- Entry to NONE: everything released (R296); with EN = 0 and an image applied the chip is SOLO again. -/
def Dev.pairNone (d : Dev) : Dev :=
  let d := (d.setRole 0).releaseNow
  let d := d.setPair { d.pair with noneAt := d.tclk, heard := false, grant := false, ho := none, resync := none, backoff := false, yields := 0,
                                   startTake := none, det1 := false, det2 := false }
  if d.imageApplied && !d.pairOn then (d.setRole 1).take 0 none else d

/-- The block cycle has left RUNNING; a chip in NONE loses a grant (R296). -/
def Dev.pairCycleStop (d : Dev) : Dev := if d.role = 0 then d.setPair { d.pair with grant := false } else d.pairNone

/-- An image has been applied: SOLO with EN = 0, else NONE (R296). -/
def Dev.pairStart (d : Dev) : Dev := d.pairNone

/-- In NONE with the cycle RUNNING and OWN_IN high: STANDBY (R296); not in factory test mode (R414). -/
def Dev.pairSees (d : Dev) : Dev :=
  if d.role = 0 && d.pairOn && d.running && d.pair.ownIn && !d.ftm then
    (d.setRole 3).setPair { d.pair with grant := false, det1 := false, det2 := false }
  else d

/-! ### Detection (R300) -/

/-- HBWIN in TCLK ticks, held within 2 µs and Tb ÷ 2 − 1 µs. -/
def Dev.hbwin (d : Dev) : Nat :=
  max 500 (min (250 * d.get PAIR_CFG.HBWIN) (250000000 / (2 * max 1 d.bps) - 250))

/-- MISS; 0 is treated as 1. -/
def Dev.miss (d : Dev) : Nat := max 1 (d.get PAIR_CFG.MISS)

/-- Something arrives from the partner: does it count for the present boundary (`true, _`) or the next one (`_, true`)? -/
def Dev.inWindowOf (d : Dev) : Bool × Bool :=
  let t := d.tclk - d.pair.lastB
  (d.cycling && decide (t ≤ d.hbwin), d.cycling && decide (250000000 ≤ (t + d.hbwin) * max 1 d.bps))

/-- LIVE_EDGE: LIVE_IN changes level; its time against the nearest boundary goes to PAIR_SKEW in ns (R300). The level is that behind the
100 ns filter of R299 (DESIGN CHOICE, log entry 141). -/
def Dev.liveEdge (d : Dev) (level : Bool) : Dev :=
  if d.pair.liveIn == level then d else
  let d := d.captureEvent 29
  let (now, early) := d.inWindowOf
  let t : Int := (d.tclk - d.pair.lastB : Nat) * 4
  let tb : Int := 1000000000 / max 1 d.bps
  let d := d.setPair { d.pair with liveIn := level, liveSeen := d.pair.liveSeen || now, liveEarly := d.pair.liveEarly || (early && !now) }
  if now then d.put PAIR_SKEW.SKEW (unsW 32 t) else if early then d.put PAIR_SKEW.SKEW (unsW 32 (t - tb)) else d

/-- A heartbeat frame's bytes (R300). -/
def hbBytes (h : Hb) : List Byte :=
  let body := leBytes 8 h.uid ++ leBytes 1 h.role ++ leBytes 1 h.flags ++ leBytes 2 h.node ++ leBytes 4 h.blk ++ leBytes 4 h.txdone
    ++ leBytes 4 h.hoblk ++ leBytes 8 h.build ++ leBytes 8 h.skip ++ (List.range 64).flatMap (fun j => leBytes 4 (nth 0 h.crcs j))
  body ++ leBytes 4 (crc32 body)

/-- A heartbeat from the bytes of a frame; none where the length or the CRC-32 is wrong. -/
def hbOf (bs : List Byte) : Option Hb :=
  if bs.length ≠ 0x12C ∨ crc32 (bs.take 0x128) ≠ leAt bs 0x128 4 then none
  else some { uid := leAt bs 0 8, role := leAt bs 8 1, flags := leAt bs 9 1, node := leAt bs 10 2, blk := leAt bs 0xC 4,
              txdone := leAt bs 0x10 4, hoblk := leAt bs 0x14 4, build := leAt bs 0x18 8, skip := leAt bs 0x20 8,
              crcs := (List.range 64).map (fun j => leAt bs (0x28 + 4 * j) 4) }

/-- The role that the latest heartbeat reports; 7 where none has been received. -/
def Dev.partnerRole (d : Dev) : Nat := match d.pair.hb with | some h => h.role | none => 7

/-- DIVERGED is set; only with pair operation (R305). -/
def Dev.diverge (d : Dev) : Dev := if d.pairOn then d.put PAIR_STAT.DIVERGED 1 else d

/-- Does block b of the partner's lie before the latest resynchronisation (R305)? -/
def Dev.beforeResync (d : Dev) (b : Nat) : Bool := match d.pair.resyncAt with | some r => later32 r b | none => false

/-! ### Comparison (R303, R304) -/

/-- CRC of slice j of an output block: its channels in ascending order, each its samples from 0, words little-endian. -/
def Dev.sliceCrc (d : Dev) (buf : Tab Word) (j : Nat) : Nat :=
  let per := d.ns / 64
  crc32 ((List.range (per * d.nb)).flatMap (fun k => leBytes 4 (tabGet 0 buf (sampKey (j * per + k / d.nb) (k % d.nb))).toNat))

/-- The CRCs of the 64 slices. -/
def Dev.sliceCrcs (d : Dev) (buf : Tab Word) : List Nat := (List.range 64).map (d.sliceCrc buf)

/-- Input sources that are not comparable in the sealed block: of ports not attached or fading in, of contexts that applied
their loss treatment, of unmirrored converters (R115, R172, R223). -/
def Dev.skipSources (d : Dev) : List Nat :=
  (List.range 16).flatMap (fun p => if d.is SAP_PCFG.EN p && (d.port p).skip then d.pSources p else [])
    ++ (List.range 512).flatMap (fun x => if (d.ctx x).skip then
        (List.range (d.get FLOW_MAP.NCH x)).map (fun c => d.get FLOW_MAP.FIRST x + c) else [])
    ++ ((List.range 256).filter (fun c => d.convDir c == 1 && (d.conv c).unmir)).map (fun c => d.get ASRC_CFG.CHAN c)

/-- Did a port, a context or a converter deliver samples that are not comparable into the sealed block (R115, R172, R223)? -/
def Dev.skipInput (d : Dev) : Bool := (List.range 16).any (fun p => d.is SAP_PCFG.EN p && (d.port p).skip) || !d.skipSources.isEmpty

/-- Does a destination have a slot routed to one of the sources, or did it fade from or to one in the latest pass? -/
def Dev.destFrom (d : Dev) (x : Nat) (srcs : List Nat) : Bool :=
  let p := tabGet (0, 0) d.xpt.part x
  (List.range p.2).any (fun k => srcs.contains (d.slot (p.1 + k)).src) || d.xpt.left.any (fun f => f.1 == x && srcs.contains f.2)

/-- Output channels of the staged block that are not comparable; a channel that a job declares is fed by no destination (R99, R106, R115,
R172, R223). -/
def Dev.skipOutputs (d : Dev) : List Nat :=
  let srcs := d.skipSources
  let conv := ((List.range 256).filter (fun c => d.convDir c == 2 && (d.conv c).unmir)).map (fun c => d.get ASRC_CFG.CHAN c)
  let fromDest := if srcs.isEmpty then [] else
    (d.xpt.sink.filter (fun kv => !d.declared kv.1 && d.destFrom (kv.2 - 1) srcs)).map (·.1)
  let xin := (List.range d.thk.jobs.length).filter (fun j => (d.job j).xin)
  let jobs := if !d.skipInput then [] else taintFrom d.thk.jobs d.thk.jobs.length xin xin
  d.thk.skip ++ conv ++ fromDest ++ jobs.flatMap (fun j => (List.range (d.job j).outCount).map (fun i => (d.job j).outFirst + i))

/-- The SKIP mask of the staged block (R303). -/
def Dev.skipMask (d : Dev) : Nat :=
  let per := max 1 (d.ns / 64)
  let cs := d.skipOutputs
  forN 64 (fun j m => m + 2 ^ j * b2n (cs.any (fun c => c / per == j))) 0

/-- The output stage is complete: CRCs and SKIP of the block that begins next (R43 step 5, R303). -/
def Dev.pairStaged (d : Dev) : Dev :=
  d.setPair { d.pair with crcNext := d.sliceCrcs d.aud.staged, skipNext := d.skipMask }

/-- A STANDBY compares the latest heartbeat with its own block (R304). -/
def Dev.compare (d : Dev) : Dev :=
  match d.pair.hb with
  | none => d
  | some h =>
    if d.role ≠ 3 ∨ d.is PAIR_STAT.UNMIRRORED ∨ d.is PAIR_STAT.DIVERGED ∨ bitOf h.flags 2 = 1 ∨ h.build ≠ d.build ∨ h.blk ≠ d.blk
        ∨ d.pair.compared.isSome then d
    else
      let js := (List.range 64).filter (fun j => bitOf h.skip j == 0 && bitOf d.pair.skip j == 0)
      let bad := js.filter (fun j => nth 0 h.crcs j != nth 0 d.pair.crc j)
      let a := d.pair.acc
      let mask := bad.foldl (fun m j => m ||| 2 ^ j) 0
      let d := d.setPair { d.pair with
        compared := some js.length,
        acc := { a with cmpd := a.cmpd + js.length, skipped := a.skipped + (64 - js.length), mism := a.mism + bad.length, mask := a.mask ||| mask },
        hist := if js.isEmpty then d.pair.hist else ((!bad.isEmpty) :: d.pair.hist).take 64 }
      if bad.isEmpty then d
      else
        let d := d.wr PAIR_CMP_MIS0 (d.rd PAIR_CMP_MIS0 ||| BitVec.ofNat 32 mask)
        let d := d.wr PAIR_CMP_MIS1 (d.rd PAIR_CMP_MIS1 ||| BitVec.ofNat 32 (mask / 2 ^ 32))
        ((d.put PAIR_CMP_BLK.BLK d.blk).inc PAIR_CMP_CNT.MIS).raise FS.PAIR_MISMATCH

/-- HEARTBEAT_RECEIVE: a valid frame is recorded, shows its role and node, carries a handover proposal, and is compared with
the block in progress (R300, R304, R305, R309). -/
def Dev.heartbeatReceive (d : Dev) (bs : List Byte) : Dev :=
  match hbOf bs with
  | none => d
  | some h =>
    let (now, early) := d.inWindowOf
    let p := d.pair
    let ho := if d.role ≠ 3 then p.ho else if bitOf h.flags 3 = 1 then some h.hoblk else if p.ho = some d.blk then p.ho else none
    let d := d.setPair { p with link := true, hb := some h, hbSeen := p.hbSeen || now, hbEarly := p.hbEarly || (early && !now), ho := ho }
    let d := (d.put PAIR_EV.PROLE h.role).put PAIR_PARTNER.NODE h.node
    let d := if bitOf h.flags 2 = 1 ∧ (d.role = 2 ∨ d.role = 3) ∧ d.beforeResync h.blk = false then d.diverge else d
    if now then d.compare else d

/-! ### Takeover and arbitration (R296, R297, R310) -/

/-- Takeover (R310). `both` says that both paths were lost. -/
def Dev.takeover (d : Dev) (both : Bool) : Dev :=
  let from_ := match d.pair.hb with | some h => h.txdone + 1 | none => d.cyc.k
  let d := (d.setRole 2).put PAIR_EV.TAKEEV 1
  let d := d.take 0 (some (d.tclk + 1500))
  let d := d.setPair { d.pair with ho := none, startTake := none }
  let d := if both && d.pair.ownIn then (d.setPair { d.pair with ownForce := true }).put PAIR_STAT.OWNERR 1 else d
  ((d.replay from_).ethReplay from_).raise FS.PAIR_TAKEOVER

/-- Takeover detection on a STANDBY: taken, or noted in NOTAKE (R296). -/
def Dev.detected (d : Dev) (both : Bool) : Dev :=
  let d := d.put PAIR_TAKE_BLK.BLK d.blk
  if !d.is PAIR_STAT.READY ∧ !d.is PAIR_CFG.TAKE_UNHEALTHY then d.put PAIR_EV.NOTAKE 1 else d.takeover both

/-- Is ownership granted at start (R297)? -/
def Dev.granted0 (d : Dev) (hbNow : Bool) : Bool :=
  let p := d.pair
  match p.hb with
  | some h =>
    if hbNow && (h.role == 3 || h.role == 4) then true
    else if hbNow && h.role == 0 && decide (4 ≤ p.hbRun) then
      (d.is PAIR_CFG.PREF && bitOf h.flags 4 == 0) || ((d.get PAIR_CFG.PREF == bitOf h.flags 4) && decide (d.uid < h.uid))
    else !p.heard && decide ((2 - d.get PAIR_CFG.PREF) * d.get PAIR_CFG.STARTUP * 250000 ≤ d.tclk - p.noneAt)
  | none => !p.heard && decide ((2 - d.get PAIR_CFG.PREF) * d.get PAIR_CFG.STARTUP * 250000 ≤ d.tclk - p.noneAt)

/-! ### Pleach (R306) -/

/-- The paired serial ports. -/
def Dev.pairedPorts (d : Dev) : List Nat := (List.range 16).filter (fun q => d.is SAP_PCFG.PAIRED q && d.is SAP_PCFG.EN q)

/-- Test CLK fails: a loop of a paired output without VALID, the block loop without LOCK, or a DLL of a paired output not in RUN (R306). -/
def Dev.pleachClk (d : Dev) : Bool :=
  let dlls := (d.pairedPorts.filter (fun q => d.is SAP_PCFG.MASTER q)).map (· + 8)
    ++ ((List.range 4).filter (fun g => bitOf d.pairedGroups g == 1)).map (· + 24)
  dlls.any (fun x => d.dllState x != 4 || !d.is RCU_LOOP_STAT.VALID (d.dllLoop x)) || !d.is RCU_LOOP_STAT.LOCK (d.get SYS_BLK_CFG.LOOP)

/-- Test LINK fails: a transmit context without a link of PRI or BKP in U (R306). -/
def Dev.pleachLink (d : Dev) : Bool :=
  d.txContexts.any (fun x => match d.lookup (d.get FLOW_CFG.FLOW x) with
    | some (_, e) => ((e.pri ||| e.bkp) &&& d.upMask) == 0
    | none => true)

/-- Test PSM fails: a paired group with PSFLT_N_Gx low, UV = 1, or a state at the latest boundary other than the partner's (R306). -/
def Dev.pleachPsm (d : Dev) : Bool :=
  (List.range 4).any (fun g => bitOf d.pairedGroups g == 1 && ((d.pgrp g).flt || d.is PSM_PG_STAT.UV g
    || (tabGet 0 d.pair.psmPartner g != 0 && tabGet 0 d.pair.psmPartner g != tabGet 0 d.pair.psmOwn g + 1)))

/-- Test SAP fails: a paired port DETACHED, PENDING or in RATE_MISMATCH (R306). -/
def Dev.pleachSap (d : Dev) : Bool := d.pairedPorts.any (fun q => decide (2 ≤ d.pState q))

/-- The Pleach tests as (passing, failing) masks. -/
def Dev.pleach (d : Dev) : Nat × Nat :=
  let p := d.pair
  let skew := sgn32 (d.get PAIR_SKEW.SKEW)
  let sync := d.is PAIR_STAT.BLKMIS || decide (1000 < skew) || decide (skew < -1000)
  let beyond := match p.overAt with | some k => decide (d.cyc.k < k + 1024) | none => false
  let slack := beyond || decide (d.get THK_SLACK_MIN.WMIN < 16 * d.get THK_AVS_MARK.LOW)
  let cmp := !d.is PAIR_STAT.UNMIRRORED && p.hist.any id
  let kbad := p.kern.any (fun kv => kv.2 == 2)
  let fails := [cmp, kbad, !p.scrubBad.isEmpty, d.pleachClk, d.pleachLink, d.pleachPsm, d.pleachSap, sync, slack]
  let known := [true, !p.kern.isEmpty, p.scrubbed || !p.scrubBad.isEmpty, true, true, true, true, true, true]
  let mask (f : Nat → Bool) : Nat := forN 9 (fun t m => m + 2 ^ t * b2n (f t)) 0
  (mask (fun t => nth false known t && !nth false fails t), mask (fun t => nth false known t && nth false fails t))

/-- READY: every test named in PAIR_PL_REQ passes (R306). -/
def Dev.pleachReady (d : Dev) : Dev :=
  let req := d.get PAIR_PL_REQ.REQ
  d.put PAIR_STAT.READY (b2n ((d.get PAIR_PL_STAT.PASS &&& req) == req))

/-- Results of the tests: PASS, FAIL, READY; a change to FAIL raises PAIR.PLEACH once (R306). -/
def Dev.pleachPut (d : Dev) (pass fail : Nat) : Dev :=
  let old := d.get PAIR_PL_STAT.FAIL
  let d := ((d.put PAIR_PL_STAT.PASS pass).put PAIR_PL_STAT.FAIL fail).pleachReady
  if fail &&& old != fail then d.raise FS.PAIR_PLEACH else d

/-- Evaluate all tests, in every role but NONE (R306). -/
def Dev.pleachStep (d : Dev) : Dev := if d.role = 0 then d else d.pleachPut d.pleach.1 d.pleach.2

/-- The tests CLK, LINK, PSM and SAP are evaluated continuously, in every role but NONE (R306). -/
def Dev.pleachCont (d : Dev) : Dev :=
  if d.role = 0 then d else
  let f := 8 * b2n d.pleachClk + 16 * b2n d.pleachLink + 32 * b2n d.pleachPsm + 64 * b2n d.pleachSap
  let fail := (d.get PAIR_PL_STAT.FAIL &&& 0x187) + f
  let pass := (d.get PAIR_PL_STAT.PASS &&& 0x187) + (0x78 - f)
  if fail = d.get PAIR_PL_STAT.FAIL ∧ pass = d.get PAIR_PL_STAT.PASS then d else d.pleachPut pass fail

/-- PLEACH_KERNEL: an idle Sprig runs its known-answer kernel (R306). -/
def Dev.pleachKernel (d : Dev) (m : Nat) (good : Bool) : Dev :=
  if d.role = 0 ∨ (d.sprig m).busy then d
  else d.setPair { d.pair with kern := tabPut 0 d.pair.kern m (if good then 1 else 2), kernAt := tabPut 0 d.pair.kernAt m (d.cyc.k + 1) }

/-! ### The evaluation (R300) -/

/-- The runs of present and absent blocks after an evaluation (R300, R302, R312). -/
def PairSt.evaluated (p : PairSt) (prole : Nat) : PairSt :=
  let hb := p.hbSeen
  let live := p.liveSeen
  { p with
    hbMiss := (if hb then 0 else min 3 (p.hbMiss + 1)), liveMiss := (if live then 0 else min 3 (p.liveMiss + 1)),
    hbRun := (if hb then p.hbRun + 1 else 0), liveRun := (if live then p.liveRun + 1 else 0),
    heard := p.heard || hb, linkRun := (if hb && p.link then p.linkRun + 1 else 0),
    inhibit := p.inhibit && !(hb && decide (15 ≤ p.hbRun)) && !(live && decide (15 ≤ p.liveRun)),
    ownDis := (if hb && (p.ownIn != (prole == 1 || prole == 2)) then p.ownDis + 1 else 0),
    acc := { p.acc with hbMiss := p.acc.hbMiss + b2n (!hb), liveMiss := p.acc.liveMiss + b2n (!live) } }

/-- Is the heartbeat path lost (R300)? -/
def Dev.hbLost (d : Dev) : Bool := decide (d.miss ≤ d.pair.hbMiss)

/-- Is the LIVE path lost (R300)? -/
def Dev.liveLost (d : Dev) : Bool := decide (d.miss ≤ d.pair.liveMiss)

/-- The paths are judged: counts, HBLOST, LIVELOST with PAIR.LIVE, UNMIRRORED after 16 heartbeats, OWNERR with PAIR.OWN. -/
def Dev.judgePaths (d : Dev) : Dev :=
  let d := if d.pair.hbSeen then d else d.inc PAIR_MISSCNT.HB
  let d := if d.pair.liveSeen then d else d.inc PAIR_MISSCNT.LIVE
  let d := d.setPair (d.pair.evaluated d.partnerRole)
  let d := if d.liveLost && !d.is PAIR_STAT.LIVELOST && !d.hbLost then d.raise FS.PAIR_LIVE else d
  let d := (d.put PAIR_STAT.HBLOST (b2n d.hbLost)).put PAIR_STAT.LIVELOST (b2n d.liveLost)
  let d := if d.pair.link && decide (16 ≤ d.pair.linkRun) then d.put PAIR_STAT.UNMIRRORED 0 else d
  let d := if d.pair.ownDis = 2 then d.raise FS.PAIR_OWN else d
  d.put PAIR_STAT.OWNERR (b2n (decide (2 ≤ d.pair.ownDis) || d.pair.ownForce))

/-- The partner's block number and build are judged, and its slices compared (R304, R305). -/
def Dev.judgeHb (d : Dev) : Dev :=
  match d.pair.hb with
  | some h =>
    if d.pair.hbSeen then
      let same := h.build == d.build
      let d := (d.put PAIR_STAT.BLKMIS (b2n (h.blk != d.blk))).put PAIR_STAT.IMGMIS (b2n (!same))
      let d := if d.pair.bldEq && !same then d.diverge else d
      (d.setPair { d.pair with bldEq := same }).compare
    else d
  | none => d

/-- A STANDBY counts the block as compared or not (PAIR_CMP_CNT). -/
def Dev.countCompare (d : Dev) : Dev :=
  if d.role = 3 then (if 0 < d.pair.compared.getD 0 then d.inc PAIR_CMP_CNT.CMPD else d.inc PAIR_CMP_CNT.SKIP) else d

/-- Does a planned handover cover the block in progress or the next one? -/
def Dev.planned (d : Dev) : Bool :=
  match d.pair.ho with
  | some h => h == d.blk || h == (d.blk + 1) % 2 ^ 32
  | none => false

/-- Takeover detection at an evaluation: either condition becomes true (R300); none while a yield inhibits it (R312). -/
def Dev.detect (d : Dev) : Dev :=
  if d.pair.inhibit then d else
  let c1 := d.hbLost && d.liveLost
  let c2 := !d.pair.ownIn && (!d.pair.hbSeen || d.partnerRole != 2) && !d.planned
  let new := (c1 && !d.pair.det1) || (c2 && !d.pair.det2)
  let d := d.setPair { d.pair with det1 := c1, det2 := c2 }
  if new then d.detected c1 else d

/-- Has the evaluation instant of the block in progress, B(k) + HBWIN, come, and has the block not been evaluated (R300)? -/
def Dev.evalDue (d : Dev) : Bool := d.running && decide (d.pair.lastB + d.hbwin ≤ d.tclk) && d.pair.evalAt != d.cyc.k + 1

/-- PAIR_EVALUATE, B(k) + HBWIN, once for each boundary: presence and loss of the paths, OWN disagreement, comparison, tests, arbitration and
detection. -/
def Dev.pairEvaluate (d : Dev) : Dev :=
  if !d.evalDue then d else
  let d := d.setPair { d.pair with evalAt := d.cyc.k + 1 }
  if !d.pairOn then d.pleachStep else
  let d := d.judgePaths.judgeHb.countCompare.pleachStep
  if d.role = 0 then
    let d := d.pairSees
    if d.role = 0 && !d.ftm && !d.pair.ownIn then d.setPair { d.pair with grant := d.granted0 d.pair.hbSeen } else d
  else if d.role = 3 && !d.pair.backoff then d.detect
  else d

/-- The length in blocks of the back-off after the k-th start-up yield: 16 + byte k of the UID (R297). -/
def Dev.backoffBlocks (d : Dev) : Nat := 16 + d.uid / 256 ^ (d.pair.yields - 1) % 256

/-- STARTUP_BACKOFF_EXPIRE: the wait of a start-up yield ends, and the chip takes over when OWN_IN is low and the heartbeat is
absent or does not report ACTIVE (R297). -/
def Dev.backoffExpire (d : Dev) : Dev :=
  if d.role = 3 ∧ d.pair.backoff = true ∧ d.pair.backoffAt + d.backoffBlocks ≤ d.cyc.k then
    let d := d.setPair { d.pair with backoff := false, det1 := false, det2 := false }
    if !d.pair.ownIn && (d.pair.hbMiss != 0 || d.partnerRole != 2) then
      let d := d.takeover false
      d.setPair { d.pair with startTake := some d.cyc.k }
    else d
  else d

/-- OWN_IN_CHANGE: a rise on an ACTIVE outside a planned handover makes it yield (R296, R297, R312). The level is that behind the 100 ns
filter of R299 (DESIGN CHOICE, log entry 141). -/
def Dev.ownInChange (d : Dev) (high : Bool) : Dev :=
  let d := if d.pair.ownIn == high then d else d.captureEvent 30
  let d := (d.setPair { d.pair with ownIn := high, ownForce := d.pair.ownForce && high }).put PAIR_STAT.OWNIN (b2n high)
  if high && d.role == 2 && !d.planned then
    let start := match d.pair.startTake with | some k => decide (d.cyc.k ≤ k + 16) | none => false
    let d := d.yieldNow true
    let d := if start then d.setPair { d.pair with backoff := true, backoffAt := d.cyc.k, yields := d.pair.yields + 1 }
      else d.setPair { d.pair with inhibit := true, yields := 0, hbRun := 0, liveRun := 0 }
    (d.put PAIR_EV.SPLITEV 1).raise FS.PAIR_SPLIT
  else d.pairSees

/-! ### Commands (R296, R305, R309, R312, R314) -/

/-- YIELD (R312). -/
def Dev.pairYield (d : Dev) : Dev :=
  if d.role = 2 then
    let d := d.yieldNow false
    d.setPair { d.pair with inhibit := true, yields := 0, hbRun := 0, liveRun := 0 }
  else d

/-- HANDOVER: proposed, or refused (R309). -/
def Dev.pairHandover (d : Dev) : Dev :=
  let h := d.get PAIR_HO_BLK.BLOCK
  let ready := match d.pair.hb with | some x => x.role == 3 && bitOf x.flags 0 == 1 | none => false
  if d.role ≠ 2 ∨ d.is PAIR_STAT.UNMIRRORED = true ∨ ready = false ∨ later32 h (d.blk + 2) = false then d.put PAIR_EV.HOREF 1
  else d.setPair { d.pair with ho := some h }

/-- Is a RESYNC accepted: for a block later than the current one + 2 (R305)? -/
def Dev.resyncOk (d : Dev) : Bool := (d.role == 2 || d.role == 3) && later32 (d.get PAIR_RESYNC.BLOCK) (d.blk + 2)

/-- RESYNC (R305). -/
def Dev.pairResync (d : Dev) : Dev := if d.resyncOk then d.setPair { d.pair with resync := some (d.get PAIR_RESYNC.BLOCK) } else d

/-- CLEAR (R296). -/
def Dev.pairClear (d : Dev) : Dev := if d.role = 4 then d.pairNone else d

/-- A RESYNC that the ACTIVE mirrors: what the ACTIVE accepted, the STANDBY accepts too, while its block has not begun (R301, R305). -/
def Dev.pairResyncMirrored (d : Dev) : Dev :=
  let b := d.get PAIR_RESYNC.BLOCK
  if d.role = 3 ∧ later32 b d.blk = true then d.setPair { d.pair with resync := some b } else d

/-- A write of PAIR_CTRL: HANDOVER is refused where YIELD is written with it (R314). -/
def Dev.pairCtrl (d : Dev) (w : Word) : Dev :=
  let b (i : Nat) : Bool := fget w i i == 1
  let d := if b 4 then (if b 0 then d.pairYield.put PAIR_EV.HOREF 1 else d.pairYield) else if b 0 then d.pairHandover else d
  let d := if b 3 then d.pairResync else d
  let d := if b 1 then d.pairFail else d
  if b 2 then d.pairClear else d

/-! ### Frames from the partner (R114, R155, R302, R307, R350) -/

/-- Does the chip take what the ACTIVE mirrors: STANDBY, the pair link ACTIVE, and not UNMIRRORED (R302)? -/
def Dev.mirrored (d : Dev) : Bool := d.role == 3 && d.pair.link && !d.is PAIR_STAT.UNMIRRORED

/-- PAIR_VBUS_RECEIVE: the ACTIVE's reading (mV), warning state, and ceiling or dip gain of a group (R155, R350). -/
def Dev.pairVbus (d : Dev) (g v val st : Nat) (ceil : Bool) : Dev :=
  let d := d.setPair { d.pair with link := true }
  if d.grpStandby g && d.mirrored then
    let d := (d.setPgrp g { d.pgrp g with shared := some v }).setDip g { val := val, ceil := ceil }
    ((d.put PWR_DIP_STAT.STATE st).put PWR_DIP_STAT.SHARED 1).put PWR_DIP_STAT.GAIN (min 65535 val)
  else d

/-- PAIR_ASRC_RECEIVE: ratio word, state and starting position of each channel for a block (R114). -/
def Dev.pairAsrc (d : Dev) (b : Nat) (ws : List (Nat × Nat × Nat × Nat)) : Dev :=
  let d := d.setPair { d.pair with link := true }
  ws.foldl (fun d w => d.setConv w.1 { d.conv w.1 with words := (b, w.2.1, w.2.2.1, w.2.2.2) :: (d.conv w.1).words.take 3 }) d

/-- The partner's state of a group is known (R306). -/
def Dev.psmKnown (d : Dev) (f : PsmFrame) : Dev := d.setPair { d.pair with psmPartner := tabPut 0 d.pair.psmPartner f.grp (f.state + 1) }

/-- PAIR_PSM_RECEIVE: states that a STANDBY adopts at the next boundary; on another chip they are the partner's at once (R302, R306). -/
def Dev.pairPsm (d : Dev) (f : PsmFrame) : Dev :=
  let d := d.setPair { d.pair with link := true }
  if d.role = 3 then d.setPair { d.pair with psm := d.pair.psm.filter (fun x => x.grp != f.grp) ++ [f] } else d.psmKnown f

/-- Adopt a PSM frame (R302, R148): DIAG, RES, channel and latch states, then the group's state, which answers a START that waits. -/
def Dev.psmAdopt (d : Dev) (f : PsmFrame) : Dev :=
  if !d.grpStandby f.grp then d else
  let d := forN 8 (fun k d =>
    let n := 8 * f.grp + k
    match f.chans[k]? with
    | some (st, diag, res, latch) =>
      let d := ((d.put PSM_CH_STAT.DIAG diag n).put PSM_CH_RES.R res n).put PSM_CH_STAT.LATCH latch n
      let cur := d.cState n
      if cur = st ∨ (st = 2 ∧ cur = 1) ∨ ((st = 2 ∨ st = 3) ∧ (cur = 2 ∨ cur = 3)) then d
      else if st = 2 ∨ st = 3 then d.setCState n 1 else (d.setCState n st).zeroState n
    | none => d) d
  let old := d.gState f.grp
  if f.state = old then d else
  let d := d.setPgrp f.grp { d.pgrp f.grp with startReq := false }
  if f.state = 0 ∨ f.state = 6 then d.groupDown f.grp f.state
  else if f.state = 5 then d.stopRamp f.grp 10
  else (d.setGState f.grp f.state).setPsen f.grp (decide (2 ≤ f.state))

/-- PSM frames waiting are adopted at a boundary, and the chip's own group states noted (R302, R306). -/
def Dev.psmAdoptAll (d : Dev) : Dev :=
  let d := if d.mirrored then d.pair.psm.foldl (fun d f => (d.psmAdopt f).psmKnown f) d else d
  d.setPair { d.pair with psm := [], psmOwn := (List.range 4).foldl (fun t g => tabPut 0 t g (d.gState g)) [] }

/-- HEALTH_RECEIVE: a record whose CRC-32 is right is kept; its overrun flag sets DIVERGED, but for the overrun of a resynchronisation that
both chips took, and for what lies before it (R305, R307). -/
def Dev.healthReceive (d : Dev) (bs : List Byte) : Dev :=
  if bs.length ≠ 64 ∨ crc32 (bs.take 0x3C) ≠ leAt bs 0x3C 4 then d
  else
    let before := d.beforeResync (leAt bs 0 4)
    let own := d.pair.resyncRec
    let d := d.setPair { d.pair with link := true, health := bs, resyncRec := own && before }
    if bitOf (leAt bs 5 1) 4 = 1 ∧ before = false ∧ own = false then d.diverge else d

/-- PAIR_LINK_DOWN: the pair link leaves ACTIVE (R302). -/
def Dev.pairLinkDown (d : Dev) : Dev :=
  let d := d.setPair { d.pair with link := false, linkRun := 0 }
  if d.pairOn then (d.put PAIR_STAT.UNMIRRORED 1).raise FS.PAIR_LINK else d

/-- Has more than Tb + HBWIN of TCLK passed since the latest boundary (R302)? -/
def Dev.missedTb (d : Dev) : Bool := decide (250000000 + d.hbwin * d.bps < (d.tclk - d.cyc.tick) * d.bps)

/-- Is the present instant away from Tb after the latest boundary by more than HBWIN (R302)? -/
def Dev.offTb (d : Dev) : Bool := d.missedTb || decide ((d.tclk - d.cyc.tick + d.hbwin) * d.bps < 250000000)

/-- BOUNDARY_MISSED: a chip that RUNS has produced no boundary within HBWIN of Tb after the latest one (R302). -/
def Dev.boundaryMissed (d : Dev) : Dev := if d.running && d.missedTb then d.pairFail else d

/-- Sprigs in STALE: no idle time for 65,536 blocks (R306). -/
def Dev.staleSprigs (d : Dev) : Nat :=
  ((List.range 64).filter (fun m => decide (65536 ≤ d.cyc.k + 1 - max (tabGet 0 d.pair.kernAt m) (d.get SYS_BLK_FIRST.FIRST)))).length

/-- The health record (R307). -/
def Dev.healthBytes (d : Dev) : List Byte :=
  let a := d.pair.acc
  let fl := d.get PAIR_STAT.READY + 2 * d.get PAIR_STAT.UNMIRRORED + 4 * d.get PAIR_STAT.DIVERGED + 8 * d.get PAIR_STAT.OWNERR
    + 16 * b2n a.beyond + 32 * d.get PAIR_STAT.IMGMIS + 64 * d.get PAIR_STAT.BLKMIS
  let body := leBytes 4 d.blk ++ leBytes 1 d.role ++ leBytes 1 fl ++ leBytes 2 (d.get PAIR_PL_STAT.PASS) ++ leBytes 2 (d.get PAIR_PL_STAT.FAIL)
    ++ leBytes 2 d.staleSprigs ++ leBytes 4 a.cmpd ++ leBytes 4 a.skipped ++ leBytes 4 a.mism ++ leBytes 4 (d.get PAIR_CMP_BLK.BLK)
    ++ leBytes 8 a.mask ++ leBytes 4 a.corr ++ leBytes 4 (d.get THK_SLACK_MIN.WMIN) ++ leBytes 2 (min 65535 a.hbMiss)
    ++ leBytes 2 (min 65535 a.liveMiss) ++ leBytes 4 (d.get PAIR_SKEW.SKEW) ++ leBytes 8 d.build
  body ++ leBytes 4 (crc32 body)

/-- HEALTH_RECORD: every INT blocks a record is written to ring Q92 + RING and sent on the pair link (R307). -/
def Dev.healthRecord (d : Dev) : Dev :=
  if !d.running || (d.pair.healthAt != 0 && decide (d.cyc.k + 1 < d.pair.healthAt + max 1 (d.get PAIR_HEALTH_CFG.INT))) then d else
  let bs := d.healthBytes
  let (_, d) := d.ringPush (92 + d.get PAIR_HEALTH_CFG.RING) 6 0 0 0 bs
  let d := d.setPair { d.pair with acc := {}, healthAt := d.cyc.k + 1 }
  if d.pair.link then d.emit (.pair 6 [] bs) else d

/-! ### Boundaries -/

/-- The heartbeat that the chip sends for the block in progress (R300). -/
def Dev.ownHb (d : Dev) : Hb :=
  { uid := d.uid, role := d.role, node := d.nodeId, blk := d.blk, txdone := d.txDone % 2 ^ 32, build := d.build, skip := d.pair.skip,
    crcs := d.pair.crc, hoblk := match d.pair.ho with | some h => (if d.role = 2 then h else 0) | none => 0,
    flags := d.get PAIR_STAT.READY + 2 * d.get PAIR_STAT.UNMIRRORED + 4 * d.get PAIR_STAT.DIVERGED
      + 8 * b2n (d.role == 2 && d.pair.ho.isSome) + 16 * d.get PAIR_CFG.PREF }

/-- The ASRC frame of a block: ratio, state and position of every converted channel (R114). -/
def Dev.asrcFrame (d : Dev) : List Nat :=
  (List.range 256).flatMap (fun c => if d.convOn c then [c, (d.conv c).nextR, (d.conv c).nextS, (d.conv c).nextP] else [])

/-- Each converter takes up the words of a block: a STANDBY's the ACTIVE's, with the ramp or fade of the state that they bring, or its own
where those are absent or late, which makes it unmirrored; in every other role its own (R112, R114, R115). -/
def Dev.asrcMirror (d : Dev) (b : Nat) : Dev :=
  forN 256 (fun c d =>
    if !d.convOn c then d else
    match (if d.mirrored then (d.conv c).words.find? (fun w => w.1 == b) else none) with
    | some (_, ratio, st, pos) =>
      let d := (d.setRatio c ratio).put ASRC_STAT.STATE st c
      let a := d.conv c
      d.setConv c { a.turn d.nb ratio st (if d.convDir c = 1 then a.align pos else pos) with unmir := false }
    | none =>
      let a := d.conv c
      let un := d.role == 3
      let d := d.setConv c { a.turn d.nb a.nextR a.nextS a.nextP with unmir := un }
      if un then d.put ASRC_STAT.UNMIR 1 c else d) d

/-- The role changes that fall to the boundary that begins block b: a start-up take, a planned handover, contexts released by a
yield (R296, R297, R308, R312). -/
def Dev.pairBoundaryRole (d : Dev) (b : Nat) : Dev :=
  let d := if d.pair.relH then d.setPair { d.pair with ownH := false, relH := false } else d
  let d := d.pairSees
  let d := if d.role = 0 && d.pair.grant && !d.ftm && d.running then
      let d := (d.setRole 2).take d.cyc.k none
      d.setPair { d.pair with grant := false, startTake := some d.cyc.k }
    else d
  match d.pair.ho with
  | some h =>
    if h = b then
      if d.role = 2 then
        let d := (d.setRole 3).setPair { d.pair with ownH := false, ownE := false, wantS := false, ethFrom := d.cyc.k, takeS := none,
                                                     yieldS := false, det1 := false, det2 := false, startTake := none }
        d.releaseGroups
      else if d.role = 3 then
        let d := (d.setRole 2).take d.cyc.k none
        d.setPair { d.pair with ho := none }
      else d
    else if later32 b h then d.setPair { d.pair with ho := none } else d
  | none => d

/-- At a boundary, after the output block has changed over: CRCs, windows, the heartbeat of every role, the ASRC frame of a pair, LIVE_OUT
(R297, R299, R300, R303). -/
def Dev.pairBoundary (d : Dev) : Dev :=
  let p := d.pair
  let crc := if p.crcNext.isEmpty then d.sliceCrcs d.aud.emit else p.crcNext
  let d := d.setPair { p with lastB := d.tclk, crc := crc, skip := p.skipNext, crcNext := [], skipNext := 0, compared := none,
                              hbSeen := p.hbEarly, hbEarly := false, liveSeen := p.liveEarly, liveEarly := false, liveOut := !p.liveOut }
  let d := d.emit (.pair 2 [] (hbBytes d.ownHb))
  if d.pairOn then d.emit (.pair 3 d.asrcFrame []) else d

/-- The chip sends its bus reading and dip state of a paired group on the pair link, each carrier period (R155, R350). -/
def Dev.pairSendVbus (d : Dev) (g : Nat) : Dev :=
  if d.role == 2 && d.is PSM_PG_CFG.PAIRED g && d.pair.link then
    d.emit (.pair 1 [g, d.get PSM_PG_VBUS.V g, (d.dip g).val, d.get PWR_DIP_STAT.STATE, b2n (d.dip g).ceil] [])
  else d

/-- The PSM frame of a group: its state, and DIAG, RES, state and latch of its channels (R302). -/
def Dev.psmFrame (d : Dev) (g : Nat) : List Nat :=
  g :: d.gState g :: (List.range 8).flatMap (fun k =>
    let n := 8 * g + k
    [d.cState n, d.get PSM_CH_STAT.DIAG n, d.get PSM_CH_RES.R n, d.get PSM_CH_STAT.LATCH n])

/-- The ACTIVE, and a STANDBY for the partner's test PSM, send the PSM frame of each paired group whose frame changed since `o` (R302, R306). -/
def Dev.pairSendPsm (d o : Dev) : Dev :=
  forN 4 (fun g d =>
    if (d.role == 2 || d.role == 3) && d.is PSM_PG_CFG.PAIRED g && d.pair.link && d.psmFrame g != o.psmFrame g then
      d.emit (.pair 5 (d.psmFrame g) [])
    else d) d

/-- BLOCK reset of PAIR: roles and lines kept, with what the paths of the present window showed; counters and comparison state cleared; the
link retrains (R314). -/
def Dev.pairBlockReset (d : Dev) : Dev :=
  let p := d.pair
  let d := d.setPair { p with hist := [], acc := {}, compared := none, kern := [], kernAt := [], scrubBad := [], scrubbed := false,
                              health := [], psm := [] }
  d.pairLinkDown

end Sys2Proof.Machine
end

