-- ==== Sys2Proof/Machine/Fits.lean ====
section
/-! DEFINITION. What the loader checks of the registers and tables that an image's sections fix: the structure and the resources
of the crosspoint, the ports, the loops, the DLLs, the flow contexts and the streams (R6, R17, R24 step 6). Each definition takes
a device whose registers are those that the image sets. -/

namespace Sys2Proof.Machine

/-- Are the numbers of a list all different? -/
def allDiffer : List Nat → Bool
  | [] => true
  | x :: xs => !xs.contains x && allDiffer xs

/-! ### Crosspoint (R116, R117) -/

/-- Nx: the total of NSLOT over the destinations. -/
def slotTotal (part : Tab (Nat × Nat)) : Nat := part.foldl (fun n r => n + r.2.2) 0

/-- Do two slot ranges overlap? -/
def rangesMeet (a b : Nat × Nat) : Bool := decide (0 < a.2) && decide (0 < b.2) && decide (a.1 < b.1 + b.2) && decide (b.1 < a.1 + a.2)

/-- Does a slot range meet a later one? -/
def anyMeet : List (Nat × Nat) → Bool
  | [] => false
  | x :: xs => xs.any (rangesMeet x) || anyMeet xs

/-- Slot ranges that overlap, or reach beyond slot Nx − 1. -/
def badRanges (part : Tab (Nat × Nat)) : Bool :=
  anyMeet (part.map (·.2)) || part.any (fun r => decide (0 < r.2.2) && decide (slotTotal part < r.2.1 + r.2.2))

/-- More than 64 slots for one destination, more crosspoints than R6 gives, a destination outside the namespace of R6 in the partition
or in the sink map (which holds destinations plus 1), a slot whose initial source is reserved, or a reserved output channel. -/
def Dev.overXpt (v : Dev) (part : Tab (Nat × Nat)) (slots : Tab XSlot) (sink : Tab Nat) : Bool :=
  part.any (fun r => decide (64 < r.2.2)) || decide (v.scale 16384 < slotTotal part)
    || slots.any (fun x => x.2.src != 0xFFFF && v.badSource x.2.src) || sink.any (fun c => v.badOutput c.1 || decide (v.ns < c.2))
    || part.any (fun r => decide (v.ns ≤ r.1))

/-! ### Loops, groups, DLLs (R136, R270, R279, R286, R287) -/

/-- The frequency of a loop's MCLK as the image gives it, in 1/64 Hz. -/
def Dev.foutOf (v : Dev) (k : Nat) : Nat := v.get RCU_LOOP_FOUT.FOUT k

/-- Is FOUT × MDIV of a loop within 540 to 720 MHz (R270)? -/
def Dev.dcoFits (v : Dev) (k : Nat) : Bool :=
  let f := v.foutOf k * v.get RCU_LOOP_CTRL.MDIV k
  decide (64 * 540000000 ≤ f) && decide (f ≤ 64 * 720000000)

/-- HOPOK on a loop that must not hop (R279). -/
def Dev.hopForbidden (v : Dev) (k : Nat) : Bool :=
  v.is RCU_LOOP_CFG.HOPOK k &&
    (v.get SYS_BLK_CFG.LOOP == k || (List.range 4).any (fun g => v.is PSM_PG_CFG.EN g && v.get PSM_PG_CFG.LOOP g == k)
      || (List.range 16).any (fun p => v.is SAP_PCFG.EN p && v.is SAP_PCFG.MASTER p && v.get SAP_PCFG.LOOP p == k)
      || (List.range 8).any (fun l => v.is HLK_CFG.TXREF l && v.get HLK_CFG.TXLOOP l == k))

/-- Does a divider of a loop's MCLK give a whole multiple of 100 Hz (R287)? -/
def Dev.dividerFits (v : Dev) (k n : Nat) : Bool := v.foutOf k % (6400 * n) == 0

/-- The clocks of a PORT section that break a limit. -/
def Dev.overClocks (v : Dev) : Bool :=
  (List.range 4).any (fun g => v.is PSM_PG_CFG.EN g && v.foutOf (v.get PSM_PG_CFG.LOOP g) != 64 * 24576000)
    || (List.range 4).any (fun k => (v.is RCU_LOOP_CFG.EN k && !v.dcoFits k) || v.hopForbidden k)
    || (List.range 28).any (fun x =>
        v.dllOn x && (decide (v.foutOf (v.dllLoop x) < 64 * 10000000) || decide (64 * 52000000 < v.foutOf (v.dllLoop x))))
    || (List.range 8).any (fun o => v.is ALN_OUT_CFG.EN o && !v.dividerFits (v.get ALN_OUT_CFG.LOOP o) (v.get ALN_OUT_CFG.DIVM1 o + 1))
    || (List.range 4).any (fun k => v.is SAP_MCLK_CFG.EN k && !v.dividerFits (v.get SAP_PCFG.LOOP (4 * k)) (2 ^ v.get SAP_MCLK_CFG.DIV k))

/-! ### Serial ports (R161) -/

/-- The channels of the enabled input (true) or output slots of an enabled port. -/
def Dev.slotChans (v : Dev) (p : Nat) (input : Bool) : List Nat :=
  if !v.is SAP_PCFG.EN p then [] else
  (List.range 32).filterMap (fun s =>
    if input then (if v.is SAP_SLOT_IN.EN p s then some (v.get SAP_SLOT_IN.CHAN p s) else none)
    else if v.is SAP_SLOT_OUT.EN p s then some (v.get SAP_SLOT_OUT.CHAN p s) else none)

/-- Does a port break a limit: its bit clock, its clocking as a master, its channels, the converters of an asynchronous one? -/
def Dev.overPort (v : Dev) (p : Nat) : Bool :=
  let slots := v.get SAP_PCFG.SLOTS p
  let i := v.slotChans p true
  let o := v.slotChans p false
  v.is SAP_PCFG.EN p &&
    (decide (49152000 < slots * 32 * v.fi)
      || (v.is SAP_PCFG.MASTER p && (!v.is SAP_PCFG.SYNC p
          || v.foutOf (v.get SAP_PCFG.LOOP p) != 64 * (v.get SAP_PCFG.BDIV p * slots * 32 * v.fi)))
      || (i ++ o).any (fun c => decide (c < v.sapBase) || decide (v.ethBase ≤ c))
      || (!v.is SAP_PCFG.SYNC p && (i.any (fun c => (v.convOf 1 c).isNone) || o.any (fun c => (v.convOf 2 c).isNone))))

/-- The serial ports that break a limit, alone or together. -/
def Dev.overPorts (v : Dev) : Bool :=
  let i := (List.range 16).flatMap (fun p => v.slotChans p true)
  let o := (List.range 16).flatMap (fun p => v.slotChans p false)
  (List.range 16).any v.overPort || !allDiffer i || decide (v.scale 256 < i.length) || decide (v.scale 256 < o.length)

/-! ### Flow contexts and streams (R219, R234) -/

/-- The contexts of a kind. -/
def Dev.ctxsOf (v : Dev) (kind : Nat) : List Nat := (List.range 512).filter (fun x => v.get FLOW_CFG.KIND x == kind)

/-- The channels of contexts, together. -/
def Dev.nchTotal (v : Dev) (xs : List Nat) : Nat := xs.foldl (fun n x => n + v.get FLOW_MAP.NCH x) 0

/-- Are the channels of a context within a range of the namespace? -/
def Dev.chansFit (v : Dev) (x lo hi : Nat) : Bool :=
  decide (lo ≤ v.get FLOW_MAP.FIRST x) && decide (v.get FLOW_MAP.FIRST x + v.get FLOW_MAP.NCH x ≤ hi)

/-- Hedgerow contexts that break a limit (R219). -/
def Dev.overFlows (v : Dev) : Bool :=
  let rx := v.ctxsOf 1
  let tx := v.ctxsOf 2
  !allDiffer (rx.map (fun x => v.get FLOW_CFG.FLOW x)) || !allDiffer (tx.map (fun x => v.get FLOW_CFG.FLOW x))
    || (rx ++ tx).any (fun x => !v.chansFit x 0 v.sapBase || decide (256 < v.ctxNc x) || decide (8 < v.get FLOW_CFG.HOLD x))
    || decide (v.scale 1024 < v.nchTotal rx) || decide (v.scale 1024 < v.nchTotal tx)

/-- Does a stream break a limit of its own: its context, payload, channels, rates, converters (R234)? -/
def Dev.overStream (v : Dev) (s : Nat) : Bool :=
  let x := v.strCtx s
  let nch := v.strNch s
  let sync := v.is ETH_STR_CFG.SYNC s
  let dir := if v.is ETH_STR_CFG.DIR s then 2 else 1
  v.get FLOW_CFG.KIND x != 3 || decide (1440 < v.strSpp s * nch * v.strBytes s) || decide (nch < 1) || decide (64 < nch)
    || !v.chansFit x v.ethBase v.psmBase || decide (2 * v.strFs s < v.fi) || decide (2 * v.fi < v.strFs s)
    || (sync && (v.strFs s != v.fi || v.get ETH_STR_CFG.TB s != v.get SYS_BLK_CFG.TB))
    || (!sync && (List.range nch).any (fun c => (v.convOf dir (v.get FLOW_MAP.FIRST x + c)).isNone))

/-- Bits per second of the packets of a stream on one leg, 82 bytes of overhead counted. -/
def Dev.strRate (v : Dev) (s : Nat) : Nat := 8 * (v.strSpp s * v.strNch s * v.strBytes s + 82) * cdiv (v.strFs s) (v.strSpp s)

/-- Line rate of a port in bit/s (R226). -/
def Dev.lineRate (v : Dev) (p : Nat) : Nat := if v.get ETH_PORT_CFG.MODE p = 0 then 10312500000 else 1250000000

/-- Streams that break a limit, alone or together. -/
def Dev.overStreams (v : Dev) : Bool :=
  let ss := (v.ctxsOf 3).map (fun x => v.get FLOW_CFG.FLOW x)
  let go (tx : Bool) : List Nat := ss.filter (fun s => v.is ETH_STR_CFG.DIR s == tx)
  let total (tx : Bool) : Nat := v.nchTotal ((go tx).map v.strCtx)
  let load (tx : Bool) (p : Nat) : Nat := ((go tx).filter (fun s => v.strLeg s p)).foldl (fun n s => n + v.strRate s) 0
  ss.any (fun s => decide (128 ≤ s) || v.overStream s) || decide (v.scale 256 < total false) || decide (v.scale 256 < total true)
    || (List.range 2).any (fun p => decide (v.lineRate p * 8 < load false p * 10) || decide (v.lineRate p * 8 < load true p * 10))

end Sys2Proof.Machine
end

