-- ==== Sys2Proof/Machine/Image.lean ====
section
/-! DEFINITION. Topiary images: layout, the checks of the loader in their order, and the decoding of GRAPH (R11 to R19, R24,
R25, R81 to R85). -/

namespace Sys2Proof.Machine

/-! ### Header, table, trailer (R11 to R14) -/

/-- One entry of the section table (R13). -/
structure SecEnt where
  ty : Nat
  flags : Nat
  off : Nat
  len : Nat
  crc : Nat
deriving DecidableEq, Repr

/-- IMG_LEN. -/
def imgLen (im : List Byte) : Nat := leAt im 0x0C 4

/-- SEC_COUNT. -/
def imgSecs (im : List Byte) : Nat := leAt im 0x10 2

/-- FLAGS.SIGNED. -/
def imgSigned (im : List Byte) : Bool := bitOf (leAt im 0x0B 1) 0 == 1

/-- BUILD_ID. -/
def imgBuild (im : List Byte) : Nat := leAt im 0x18 8

/-- The section table. -/
def imgTable (im : List Byte) : List SecEnt :=
  (List.range (imgSecs im)).map (fun i =>
    let o := 0x40 + 16 * i
    ⟨leAt im o 2, leAt im (o + 2) 2, leAt im (o + 4) 4, leAt im (o + 8) 4, leAt im (o + 12) 4⟩)

/-- A section's body. -/
def secBody (im : List Byte) (e : SecEnt) : List Byte := slice im e.off e.len

/-- Sections with their bodies, in section-table order. -/
def imgSections (im : List Byte) : List (Nat × List Byte) := (imgTable im).map (fun e => (e.ty, secBody im e))

/-- The body of a section type; empty where the image has none. -/
def imgSection (im : List Byte) (ty : Nat) : List Byte := (((imgSections im).find? (fun s => s.1 == ty)).map (·.2)).getD []

/-- What a section of an image fixes. -/
def imgContent (im : List Byte) (ty : Nat) : Content :=
  if (imgTable im).any (fun e => e.ty == ty) then Config.sectionContent ty (imgSection im ty) else {}

/-! ### Checks of the loader (R24, R25) -/

/-- Are all bytes of a range zero? -/
def zeros (im : List Byte) (o n : Nat) : Bool := (slice im o n).all (· == 0)

/-- Step 1: header fields; `cap` bounds IMG_LEN for a flash slot. 0 where they pass. -/
def checkHeader (im : List Byte) (cap : Nat) : Nat :=
  let fi := leAt im 0x14 4
  if leAt im 0 4 ≠ 0x59544F54 then 1
  else if leAt im 4 2 ≠ 2 then 2
  else if leAt im 8 2 ≠ 0x1024 then 3
  else if 0x10 < leAt im 0x0A 1 then 4
  else if leAt im 6 2 ≠ 0x40 ∨ 2 ^ 24 < imgLen im ∨ imgSecs im = 0 ∨ 64 < imgSecs im ∨ imgLen im < 0x40 + 16 * imgSecs im + 192
      ∨ 2 ≤ leAt im 0x0B 1 ∨ zeros im 0x12 2 = false ∨ zeros im 0x28 8 = false ∨ fi % 4 = 3
      ∨ fi ≠ fi % 4 + 16 * (fi / 16 % 4) ∨ cap < imgLen im then 5
  else 0

/-- Do two bodies overlap? -/
def overlaps (a b : SecEnt) : Bool := decide (0 < a.len) && decide (0 < b.len) && decide (a.off < b.off + b.len) && decide (b.off < a.off + a.len)

/-- Does any pair of a list, in order, satisfy a relation? -/
def anyPair (r : SecEnt → SecEnt → Bool) : List SecEnt → Bool
  | [] => false
  | x :: xs => xs.any (r x) || anyPair r xs

/-- Is a section type one of the table of R15? -/
def knownSec (ty : Nat) : Bool := decide (1 ≤ ty) && decide (ty ≤ 12)

/-- Required section types (R15). -/
def requiredSecs : List Nat := [1, 2, 5, 6, 7, 9, 10]

/-- Step 2: the section table. -/
def checkTable (im : List Byte) : Nat :=
  let t := imgTable im
  let lo := 0x40 + 16 * imgSecs im
  let hi := imgLen im - 192
  if t.any (fun e => e.off % 16 != 0 || decide (e.off < lo) || decide (hi < e.off + e.len) || decide (2 ≤ e.flags))
      || anyPair overlaps t || anyPair (fun a b => a.ty == b.ty) t then 5
  else if t.any (fun e => !knownSec e.ty && e.flags == 0) then 0xC
  else if requiredSecs.any (fun ty => !t.any (fun e => e.ty == ty)) then 0xB
  else 0

/-- Insert by offset. -/
def insOff (e : SecEnt) : List SecEnt → List SecEnt
  | [] => [e]
  | x :: xs => if e.off < x.off then e :: x :: xs else x :: insOff e xs

/-- Step 3: the CRCs of the sections that have arrived, in ascending offset, and PORT_FP with the PORT body. -/
def checkBodies (im : List Byte) : Nat :=
  (((imgTable im).foldl (fun acc e => insOff e acc) []).filter (fun e => decide (e.off + e.len ≤ im.length))).foldl (fun r e =>
    if r ≠ 0 then r
    else
      let b := secBody im e
      if crc32 b ≠ e.crc then 6
      else if e.ty = 2 ∧ (sha256 b).take 8 ≠ slice im 0x20 8 then 0x10
      else 0) 0

/-- Steps 1 to 4 on the bytes that have arrived (R24, R25): 0 while nothing fails. -/
def checkArrived (im : List Byte) (host : Bool) (cap : Nat) : Nat :=
  if im.length < 0x40 then 0 else
  let h := checkHeader im cap
  if h ≠ 0 then h else
  if im.length < 0x40 + 16 * imgSecs im then 0 else
  let t := checkTable im
  if t ≠ 0 then t else
  let b := checkBodies im
  if b ≠ 0 then b else
  let n := imgLen im
  if im.length < n then 0
  else if leAt im (n - 192) 4 ≠ 0x4C525454 then (if host then 5 else 0xE)
  else if sha256 (im.take (n - 192)) ≠ slice im (n - 184) 32 then 7
  else if host ∧ n < im.length then 5
  else 0

/-- Have all the bytes of the image arrived? -/
def imgComplete (im : List Byte) : Bool := decide (0x40 ≤ im.length) && decide (imgLen im ≤ im.length)

/-- PUBKEY of the trailer. -/
def imgPubKey (im : List Byte) : List Byte := slice im (imgLen im - 192 + 0x28) 64

/-- Does the image carry a valid signature (R14)? -/
def imgSigOk (im : List Byte) : Bool :=
  let o := imgLen im - 192
  imgSigned im && ecdsaOk (slice im (o + 8) 32) (imgPubKey im) (beAt im (o + 0x68) 32) (beAt im (o + 0x88) 32)

/-- Step 5: authentication in the order of R18; R19 rejects nothing. -/
def checkAuth (im : List Byte) (f : Fuses) : Nat :=
  if !f.authEn then 0
  else if !imgSigned im then 8
  else if sha256 (imgPubKey im) ≠ f.keyHash then 9
  else if !imgSigOk im then 0xA
  else 0

/-! ### GRAPH (R81 to R85) -/

/-- Offset of descriptor j in the GRAPH body. -/
def descAt (j : Nat) : Nat := 16 + 32 * j

/-- Counts of the GRAPH header: jobs, grants, successors. -/
def graphCounts (b : List Byte) : Nat × Nat × Nat := (leAt b 0 2, leAt b 2 2, leAt b 4 4)

/-- One grant entry: tag and whether read-write (R83). -/
def grantAt (b : List Byte) (g : Nat) : Nat × Bool :=
  let w := leAt b (16 + 32 * (graphCounts b).1 + 4 * g) 4
  (w % 65536, bitOf w 16 == 1)

/-- One successor entry. -/
def succAt (b : List Byte) (s : Nat) : Nat :=
  let (j, g, _) := graphCounts b
  leAt b (16 + 32 * j + 4 * g + 2 * s) 2

/-- A job descriptor (R82). -/
def jobAt (b : List Byte) (j : Nat) : JobDesc :=
  let o := descAt j
  let fl := leAt b (o + 9) 1
  { entry := leAt b o 4 % 2 ^ 21, arg := leAt b (o + 4) 4, home := leAt b (o + 8) 1 % 64, pin := bitOf fl 0 == 1, xin := bitOf fl 1 == 1,
    sys := bitOf fl 2 == 1, ndet := bitOf fl 3 == 1, preds := leAt b (o + 0xA) 1,
    succs := (List.range (leAt b (o + 0xB) 1)).map (fun i => succAt b (leAt b (o + 0xC) 4 + i)),
    grants := (List.range (leAt b (o + 0x12) 1)).map (fun i => grantAt b (leAt b (o + 0x10) 2 + i)),
    outFirst := leAt b (o + 0x14) 2, outCount := leAt b (o + 0x16) 2, est := leAt b (o + 0x18) 4 }

/-- One round of marking (R85). -/
def markNc (jobs : List JobDesc) : List JobDesc :=
  let bad (t : Nat) : Bool := jobs.any (fun j => j.nc && j.grants.any (fun g => g.1 == t && g.2))
  jobs.mapIdx (fun i j =>
    { j with nc := j.nc || j.ndet || (jobs.any (fun p => p.nc && p.succs.contains i)) || j.grants.any (fun g => bad g.1) })

/-- Marking repeated until no further job is marked; each round but the last marks at least one. -/
def markAll : Nat → List JobDesc → List JobDesc
  | 0, js => js
  | f + 1, js => let js' := markNc js; if js' = js then js else markAll f js'

/-- The jobs of a GRAPH body, marked. -/
def graphJobs (b : List Byte) : List JobDesc :=
  let js := (List.range (graphCounts b).1).map (jobAt b)
  markAll (js.length + 1) js

/-- First output channel number that is reserved, for an Fi code (R106). -/
def outLimit (fi : Nat) : Nat := 3072 / 2 ^ fi + 32

/-- The checks of the GRAPH section (R81, R82, R84); `code` is the length of CODE. The manual gives no reason for a successor index beyond
the jobs, a range of successors or of grants beyond the header's counts, or a body shorter than its counts need: such a section is not
rejected for it, absent bytes reading 0 (DESIGN CHOICE, log entry 135). -/
def checkGraph (b : List Byte) (fi code : Nat) (tags : List Nat) : Nat :=
  let (nj, ng, ns) := graphCounts b
  if nj = 0 ∨ 4096 < nj ∨ 4096 < ng ∨ 32768 < ns then 0xD
  else
    let js := (List.range nj).map (jobAt b)
    let o (j : Nat) := descAt j
    let badIdx := (List.range nj).any (fun j =>
      decide (leAt b (o j) 4 % 4 ≠ 0) || (nth {} js j).succs.any (fun s => decide (s ≤ j)))
    let badPred := (List.range nj).any (fun j =>
      (js.foldl (fun n x => n + (x.succs.filter (· == j)).length) 0) != (nth {} js j).preds)
    let badTag := ((List.range ng).map (grantAt b) ++ js.flatMap (·.grants)).any (fun g => !tags.contains g.1)
    let chans := js.flatMap (fun j => (List.range j.outCount).map (· + j.outFirst))
    let dup := chans.eraseDups.length != chans.length
    let rsv := !zeros b 8 8 || (List.range nj).any (fun j => decide (2 ^ 21 ≤ leAt b (o j) 4) || decide (64 ≤ leAt b (o j + 8) 1)
        || decide (16 ≤ leAt b (o j + 9) 1) || !zeros b (o j + 0x13) 1 || !zeros b (o j + 0x1C) 4)
      || (List.range ng).any (fun g => decide (2 ^ 17 ≤ leAt b (16 + 32 * nj + 4 * g) 4))
    if badIdx || badPred || badTag || dup || rsv then 5
    else if (List.range nj).any (fun j => decide (code ≤ leAt b (o j) 4) || decide (64 < leAt b (o j + 0xB) 1) || decide (8 < leAt b (o j + 0x12) 1)
        || decide (4096 < leAt b (o j + 0x16) 2)) || chans.any (fun c => decide (outLimit fi ≤ c)) then 0xD
    else 0

/-- Is the default class of a source GRAVE (R315)? -/
def fltGrave (n : Nat) : Bool := fltCfgDefault n / 2 ^ 30 == 3

/-- A register's word from an image: it reaches the fields that an image or software sets, and no status (R8, R15); of FLOW_CFG of a
context of KIND 3 only KIND and the stream index, the rest reading 0 (R233), and of the third word of ranks only R[0] (R264); a source whose
default class is GRAVE has CLASS GRAVE and E among its severe-level reactions whatever the image says (R316). -/
def Dev.imgPut (d : Dev) (w : Nat × Nat) : Dev :=
  match decodeReg w.1 with
  | some (r, i, j) =>
    let m := fldMask (fun f => f.img || f.ty == .rw) r.flds
    let v := if r == FLT_SRC_CFG && fltGrave i then w.2 ||| 0xC1000000 else w.2
    let m := if r == FLOW_CFG && w.2 / 2 ^ 30 % 4 == 3 then 0xC000007F else if r == RCU_LOOP_RANK && j == 2 then 0xF else m
    d.wr r (BitVec.ofNat 32 (((d.rd r i j).toNat &&& (2 ^ 32 - 1 - m)) ||| (v &&& m))) i j
  | none => d

/-- The registers that an image sets, over their reset words: the loader's view of its structure. -/
def imgView (im : List Byte) : Dev :=
  ((imgTable im).filter (fun e => knownSec e.ty)).foldl (fun d e => (imgContent im e.ty).regs.foldl (fun d w => d.imgPut w) d) {}

/-- The alarms that the block-cycle sequencer and the serial-port groups with members use. -/
def Dev.unitAlarms (v : Dev) : List Nat :=
  v.get SYS_BLK_CFG.ALARM :: ((List.range 16).filter (fun k => v.get SAP_GRP_CFG.MEMBERS k != 0)).map (fun k => v.get SAP_GRP_CFG.ALARM k)

/-- An alarm of a unit that the TIME section does not give to it, two units on one alarm, or an owned alarm on another time base than the
block time base (R259). -/
def Dev.badAlarms (v : Dev) : Bool :=
  v.get TIME_ALM_CFG.OWNER (v.get SYS_BLK_CFG.ALARM) != 1
    || (List.range 16).any (fun k => v.get SAP_GRP_CFG.MEMBERS k != 0 && v.get TIME_ALM_CFG.OWNER (v.get SAP_GRP_CFG.ALARM k) != 2)
    || !allDiffer v.unitAlarms
    || (List.range 32).any (fun a => (v.get TIME_ALM_CFG.OWNER a == 1 || v.get TIME_ALM_CFG.OWNER a == 2)
        && v.get TIME_ALM_CFG.TB a != v.get SYS_BLK_CFG.TB)

/-- Structural checks of a section's contents (R12, R15, R84, R116, R259, R419): do they fail? -/
def badStructure (im : List Byte) (v : Dev) (ty : Nat) (b : List Byte) : Bool :=
  let c := imgContent im ty
  let fi := leAt im 0x14 4 % 4
  let nb := leAt im 0x14 4 / 16 % 4
  match ty with
  | 2 => v.get SYS_BLK_CFG.FI != fi || v.get SYS_BLK_CFG.NB != nb
  | 4 => badRanges c.part
  | 5 => !allDiffer (c.regions.map (·.tag))
  | 7 => b.length % 4 != 0
  | 10 => v.badAlarms
  | _ => false

/-- Resource checks of a section's contents (R6, R17, R106, R116, R117, R136, R161, R219, R234, R270, R279, R286, R287): do they
fail? -/
def overResource (im : List Byte) (v : Dev) (ty : Nat) (b : List Byte) : Bool :=
  let c := imgContent im ty
  match ty with
  | 2 => v.overClocks || v.overPorts
  | 3 => v.overFlows || v.overStreams
  | 4 => v.overXpt c.part c.slots c.sink
  | 5 => decide (2 ^ 24 < c.regions.foldl (fun n r => n + r.size) 0)
  | 7 => decide (2 ^ 21 < b.length)
  | _ => false

/-- Step 6: the contents of one section: the counts of its own header, structure, what its own layout asks for where the manual does not
give it, resources (R17, R24). -/
def checkContent (im : List Byte) (v : Dev) (ty : Nat) (b : List Byte) : Nat :=
  let c := imgContent im ty
  let g := if ty = 6 then checkGraph b (leAt im 0x14 4 % 4) (imgSection im 7).length ((imgContent im 5).regions.map (·.tag)) else 0
  if g ≠ 0 then g
  else if ty = 3 ∧ 512 < c.contexts then 0xD
  else if badStructure im v ty b then 5
  else if ty ≠ 6 ∧ ty ≠ 7 ∧ c.reason ≠ 0 then c.reason
  else if overResource im v ty b then 0xD
  else 0

/-- Step 6 in section-table order: the first failure. -/
def checkContents (im : List Byte) : Nat :=
  let v := imgView im
  (imgSections im).foldl (fun r s => if r ≠ 0 then r else if knownSec s.1 = false then 0 else checkContent im v s.1 s.2) 0

/-- PORT sections byte-identical, FABRIC sections byte-identical or both absent (R30). -/
def hitlessOk (a b : List Byte) : Bool :=
  let has (im : List Byte) : Bool := (imgTable im).any (fun e => e.ty == 8)
  imgSection a 2 == imgSection b 2 && has a == has b && imgSection a 8 == imgSection b 8

end Sys2Proof.Machine
end

