-- ==== Sys2Proof/Machine/Boot.lean ====
section
/-! DEFINITION. The loader: boot, host loading, staging, the application of images, and the swap (R15 to R34, R416,
R417). -/

namespace Sys2Proof.Machine

/-- Replace the loader's state. -/
def Dev.setBoot (d : Dev) (b : BootSt) : Dev := { d with boot := b }

/-- PHASE of the boot; reaching 6 or 7 raises vector 5 (R366). -/
def Dev.setPhase (d : Dev) (p : Nat) : Dev :=
  if d.get SYS_BOOT_STATUS.PHASE = p then d
  else
    let d := d.put SYS_BOOT_STATUS.PHASE p
    if 6 ≤ p then d.raiseVec 5 else d

/-- The loader is in NO_IMAGE: it waits for a host image at boot, or one is being loaded and has not been applied yet (R26). -/
def Dev.noImage (d : Dev) : Bool := d.boot.host && !d.boot.staging && d.boot.step != 0

/-- The device slot that runs. -/
def Dev.runSlot (d : Dev) : Nat := d.get SYS_BOOT_STATUS.SLOT

/-- State of an image slot: 0 EMPTY, 1 STAGING, 2 STAGED, 3 RUNNING, 4 INVALID. -/
def Dev.slotState (d : Dev) (s : Nat) : Nat := d.get SYS_SLOT_STATUS.STATE s

/-- Set the state of an image slot. -/
def Dev.setSlotState (d : Dev) (s st : Nat) : Dev := d.put SYS_SLOT_STATUS.STATE st s

/-- The image in a device slot. -/
def Dev.slotImg (d : Dev) (s : Nat) : List Byte := tabGet [] d.boot.slots s

/-- Replace the image in a device slot. -/
def Dev.setSlotImg (d : Dev) (s : Nat) (im : List Byte) : Dev := d.setBoot { d.boot with slots := tabPut [] d.boot.slots s im }

/-! ### Boot (R21 to R26) -/

/-- The loader waits for a host image: NO_IMAGE (R26). -/
def Dev.awaitHost (d : Dev) : Dev :=
  let d := d.put SYS_BOOT_STATUS.SOURCE (1 + d.boot.sel % 2)
  (d.setBoot { d.boot with step := 5, host := true, img := [], chunk := none, arrived := false, gap := false }).setPhase 7

/-- Both directory copies are read with command 0x03 at 12.5 MHz and 3-byte addresses (R22). -/
def Dev.readDirectory (d : Dev) : Dev := (d.emit (.qspi 0x03 125 3 0 0)).emit (.qspi 0x03 125 3 0 0x1000)

/-- A flash slot is read from its offset, with 8 dummy clocks at the speed of the directory: command 0x6B, or 0x6C with 4-byte
addresses on a flash above 16 MiB (R22, R23). -/
def Dev.readSlot (d : Dev) (off : Nat) : Dev :=
  let sck := if d.boot.dir.fast then 1000 else 500
  d.emit (if d.boot.dir.addr4 then .qspi 0x6C sck 4 8 off else .qspi 0x6B sck 3 8 off)

/-- BOOT_START: RESET_N rises or POR is released; BOOTSEL chooses the source and the host interface (R21, R358). -/
def Dev.bootStart (d : Dev) (sel : Nat) : Dev :=
  let d := { d with resetN := true }
  if d.pwr.por || d.boot.step != 0 || d.imageApplied then d else
  let d := d.wr SYS_BOOT_STATUS 0
  let d := d.put MGMT_STAT.HOSTIF (sel % 2)
  let d := d.setBoot { sel := sel % 4 }
  if 2 ≤ sel % 4 then d.awaitHost else ((d.setBoot { d.boot with step := 1 }).setPhase 1).readDirectory

/-- One directory copy, where its magic and CRC are valid, with its SEQ (R22). -/
def dirOf (bs : List Byte) : Option (Nat × FlashDir) :=
  if leAt bs 0 4 ≠ 0x52445054 ∨ crc32 (slice bs 0 0x3C) ≠ leAt bs 0x3C 4 then none
  else some (leAt bs 4 4, { boot := if leAt bs 8 1 = 1 then 1 else 0, fast := leAt bs 9 1 == 1, addr4 := leAt bs 0xA 1 == 1,
                            off0 := leAt bs 0xC 4, len0 := leAt bs 0x10 4, off1 := leAt bs 0x14 4, len1 := leAt bs 0x18 4 })

/-- The copy in force: valid, with the higher SEQ, the first on equality (R22). -/
def pickDir (a b : List Byte) : Option FlashDir :=
  match dirOf a, dirOf b with
  | some x, some y => if x.1 < y.1 then some y.2 else some x.2
  | some x, none => some x.2
  | none, some y => some y.2
  | none, none => none

/-- Offset and length of a flash slot. -/
def FlashDir.slot (f : FlashDir) (s : Nat) : Nat × Nat := if s = 0 then (f.off0, f.len0) else (f.off1, f.len1)

/-- The reason of a rejection is recorded in both status registers, MGMT.IMG_REJECT raised (R24, R34); the slot becomes INVALID. -/
def Dev.rejectImg (d : Dev) (code : Nat) : Dev :=
  let s := d.boot.slot
  let d := (d.put SYS_SLOT_STATUS.REASON code s).setSlotState s 4
  let d := (d.put SYS_SLOT_STATUS.CODE_BANK 3 s).put SYS_BOOT_STATUS.REASON code
  (d.setBoot { d.boot with fell := true, img := [], chunk := d.boot.chunk }).raise FS.MGMT_IMG_REJECT

/-- The next attempt from flash: empty slots are skipped, slots that cannot be read rejected, the fallback taken when none
is left (R21, R23). A slot that fails with 0x0E unread counts in ATTEMPTS and raises MGMT.IMG_REJECT as a rejected image does: DESIGN
CHOICE, log entry 117. `fuel` exceeds the number of slots left. -/
def nextFlash (fuel : Nat) (d : Dev) : Dev :=
  match fuel with
  | 0 => d
  | n + 1 =>
    match d.boot.order with
    | [] => if d.boot.staging then d.setBoot { d.boot with step := 0, staging := false } else d.awaitHost
    | s :: rest =>
      let (off, len) := d.boot.dir.slot s
      let d := d.setBoot { d.boot with order := rest, fslot := s, img := [] }
      if len = 0 then
        let d := d.setBoot { d.boot with fell := true }
        nextFlash n (if d.boot.staging then (d.setSlotState d.boot.slot 4).put SYS_SLOT_STATUS.REASON 1 d.boot.slot else d)
      else
        let d := if d.boot.staging then d else
          (d.put SYS_BOOT_STATUS.ATTEMPTS (min 3 (d.get SYS_BOOT_STATUS.ATTEMPTS + 1))).setPhase 2
        if off % 4096 ≠ 0 ∨ (d.boot.dir.addr4 = false ∧ 2 ^ 24 < off + len) then nextFlash n (d.rejectImg 0xE)
        else (d.setBoot { d.boot with step := 2 }).readSlot off

/-- An attempt has failed with a reason: recorded, and the next source tried; a host can load again (R24, R26). -/
def Dev.failAttempt (d : Dev) (code : Nat) : Dev :=
  let d := d.rejectImg code
  if d.boot.staging then d.setBoot { d.boot with step := 0, staging := false }
  else if d.boot.host then d.awaitHost
  else nextFlash 3 d

/-- FLASH_DIRECTORY_READ: both copies have been read (R22, R23). With neither valid no image is rejected: REASON 0x01 in
SYS_BOOT_STATUS, no slot status changed, and the fallback, or a staging that ends (R24). -/
def Dev.directoryRead (d : Dev) (a b : List Byte) : Dev :=
  if d.boot.step ≠ 1 then d else
  match pickDir a b with
  | some f =>
    let d := d.setBoot { d.boot with dir := f, order := if d.boot.staging then d.boot.order else [f.boot, 1 - f.boot] }
    nextFlash 3 d
  | none =>
    let d := d.put SYS_BOOT_STATUS.REASON 1
    if d.boot.staging then d.setBoot { d.boot with step := 0, staging := false }
    else (d.setBoot { d.boot with fell := true }).awaitHost

/-- The bytes that have arrived are checked (R24, R25): the attempt fails, goes on, or is complete and awaits its
signature. -/
def Dev.judgeImg (d : Dev) : Dev :=
  let b := d.boot
  let cap := if b.host then 2 ^ 24 else (b.dir.slot b.fslot).2
  let r := checkArrived b.img b.host cap
  if r ≠ 0 then d.failAttempt r
  else
    let table := decide (0x40 ≤ b.img.length) && decide (0x40 + 16 * imgSecs b.img ≤ b.img.length)
    let d := if table && !b.staging then d.setPhase 3 else d
    let last := !b.host || (match b.chunk with | some c => c.2.1 | none => false)
    if imgComplete b.img && last then
      let d := if b.staging then d else d.setPhase 4
      d.setBoot { d.boot with step := 3, img := b.img.take (imgLen b.img) }
    else d

/-- The bytes of a chunk in the buffer (R416). -/
def Dev.chunkBytes (d : Dev) (n : Nat) : List Byte :=
  (List.range n).map (fun i => BitVec.ofNat 8 (d.get SYS_CHUNK.D (i / 4) / 256 ^ (i % 4)))

/-- The bytes of the chunk handed over arrive at the loader; a chunk that lacks discarded bytes ends the attempt (R27). -/
def Dev.chunkArrive (d : Dev) : Dev :=
  match d.boot.chunk with
  | some (n, _, lacks) =>
    if d.boot.arrived then d
    else
      let d := d.setBoot { d.boot with arrived := true, img := d.boot.img ++ d.chunkBytes n }
      if lacks then d.failAttempt 5 else d.judgeImg
  | none => d

/-- IMAGE_DATA_ARRIVE: bytes from flash, or those of the chunk handed over (R24). -/
def Dev.imageData (d : Dev) (bs : List Byte) : Dev :=
  if d.boot.step ≠ 2 then d
  else if d.boot.host then d.chunkArrive
  else (d.setBoot { d.boot with img := d.boot.img ++ bs }).judgeImg

/-- A write of SYS_LOAD_CTRL hands a chunk over: LEN 0 is ignored, and so is a write that finds READY 0 or no host image
awaited (R25, R27, R416). -/
def Dev.loadChunk (d : Dev) (len : Nat) (last : Bool) : Dev :=
  let b := d.boot
  if len = 0 ∨ d.is SYS_LOAD_STATUS.READY = false ∨ b.host = false ∨ (b.step ≠ 5 ∧ b.step ≠ 2) then d
  else
    let first := b.step == 5
    let d := d.setBoot { b with step := 2, chunk := some (min len 0x8000, last, b.gap), arrived := false, gap := false }
    let d := d.put SYS_LOAD_STATUS.READY 0
    if first && !b.staging then (d.put SYS_BOOT_STATUS.ATTEMPTS (min 3 (d.get SYS_BOOT_STATUS.ATTEMPTS + 1))).setPhase 2 else d

/-- CHUNK_TAKEN: READY rises; a last chunk that leaves the image short is judged (R25, R416). -/
def Dev.chunkTaken (d : Dev) : Dev :=
  if d.is SYS_LOAD_STATUS.READY then d else
  let d := if d.boot.step = 2 ∧ d.boot.host = true then d.chunkArrive else d
  let last := match d.boot.chunk with | some c => c.2.1 | none => false
  let d := if d.boot.step = 2 ∧ d.boot.host = true ∧ last = true ∧ imgComplete d.boot.img = false then d.failAttempt 5 else d
  let d := (d.setBoot { d.boot with chunk := none, arrived := false }).startTimer .hostLoad
  (d.put SYS_LOAD_STATUS.READY 1).raiseVec 5

/-- CHUNK_WRITE: stored, or discarded with ERROR while READY is 0 (R27). -/
def Dev.chunkWrite (d : Dev) (i : Nat) (w : Word) : Dev :=
  if d.is SYS_LOAD_STATUS.READY then d.wr SYS_CHUNK w i
  else (d.setBoot { d.boot with gap := true }).put SYS_LOAD_STATUS.ERROR 1

/-- FLASH_READ_ERROR: reason 0x0E; of the directory, as neither copy valid (R25). -/
def Dev.flashError (d : Dev) : Dev :=
  if d.boot.step = 1 then d.directoryRead [] []
  else if d.boot.step = 2 ∧ d.boot.host = false then d.failAttempt 0xE else d

/-- HOST_LOAD_TIMEOUT: more than 1 s since a chunk was taken, and none has followed (R25). -/
def Dev.hostTimeout (d : Dev) : Dev :=
  if d.boot.step = 2 ∧ d.boot.host = true ∧ d.boot.chunk = none ∧ d.ranFor .hostLoad 1000000001 then d.failAttempt 0xF else d

/-- SIGNATURE_VERIFIED: authentication is judged (R18, R19), then the contents (R24 step 6). AUTH_OK speaks of the booted image: a
staged one leaves it (DESIGN CHOICE, log entry 117). -/
def Dev.signatureVerified (d : Dev) : Dev :=
  if d.boot.step ≠ 3 then d else
  let im := d.boot.img
  let r := checkAuth im d.fuse
  let d := if d.boot.staging then d else d.put SYS_BOOT_STATUS.AUTH_OK (b2n (imgSigOk im))
  if r ≠ 0 then d.failAttempt r
  else
    let d := if d.boot.staging then d else d.setPhase 5
    let c := checkContents im
    if c ≠ 0 then d.failAttempt c else d.setBoot { d.boot with step := 4 }

/-! ### Regions and code banks (R29, R32) -/

/-- Places of the shared store that a region of a size may take: offset 0 and the end of every region, free of the others;
the lowest that fits 16 MiB. -/
def placeRegion (taken : List Region) (size : Nat) : Option Nat :=
  let cands := 0 :: taken.map (fun r => 16 * cdiv (r.base + r.size) 16)
  let free (o : Nat) : Bool := decide (o + size ≤ 2 ^ 24) && taken.all (fun r => decide (o + size ≤ r.base) || decide (r.base + r.size ≤ o))
  (cands.filter free).foldl (fun b o => match b with | none => some o | some x => some (min x o)) none

/-- The free stretches of the shared store, as offset and size: from offset 0 and from the end of each region to the next region. -/
def freeGaps (taken : List Region) : List (Nat × Nat) :=
  (0 :: taken.map (fun r => r.base + r.size)).eraseDups.filterMap (fun o =>
    let e := taken.foldl (fun m r => if o < r.base + r.size then min m r.base else m) (2 ^ 24)
    if o < e then some (o, e - o) else none)

/-- A region cut into the free stretches that it needs. -/
def cutRegion (r : Region) : List (Nat × Nat) → Nat → List Region
  | [], _ => []
  | (o, n) :: gs, done =>
    if r.size ≤ done then []
    else { r with base := o, size := min n (r.size - done), whole := r.size, init := (r.init.drop done).take (min n (r.size - done)) }
      :: cutRegion r gs (done + n)

/-- Two regions, or pieces of regions, of the same tag, kind and size. -/
def sameRegion (a b : Region) : Bool :=
  a.tag == b.tag && a.kind == b.kind && (if a.whole = 0 then a.size else a.whole) == (if b.whole = 0 then b.size else b.whole)

/-- The places of the pieces of a carried region, with the new image's initial content. -/
def carryRegion (r : Region) : List Region → Nat → List Region
  | [], _ => []
  | o :: os, done => { o with init := (r.init.drop done).take o.size } :: carryRegion r os (done + o.size)

/-- The regions of an image placed: carried over where the other image has one of the same tag, kind and size, else in space
that it does not use (R29), in one piece where a free stretch holds it. The places are the model's choice (log entry 117). -/
def placeRegions (old : List Region) : List Region → List Region → List Region
  | [], acc => acc
  | r :: rs, acc =>
    match old.filter (sameRegion r) with
    | o :: os => placeRegions old rs (acc ++ carryRegion r (o :: os) 0)
    | [] =>
      match placeRegion (old ++ acc) r.size with
      | some b => placeRegions old rs (acc ++ [{ r with base := b }])
      | none => placeRegions old rs (acc ++ cutRegion r (freeGaps (old ++ acc)) 0)

/-- Is a region carried over from the other image? -/
def carried (old : List Region) (r : Region) : Bool := old.any (sameRegion r)

/-- The loader writes the words of a region of the shared store, as initiator 67 (R322, R333). -/
def Dev.regionCount (d : Dev) (r : Region) : Dev :=
  if (List.range 32).any (fun i => d.cntOn i && d.get PERF_CNT_CFG.EVENT i == 0x22) then
    forN (r.size / 4) (fun k d => d.perfEvent 0x22 1 { master := 67, addr := r.base + 4 * k }) d
  else d

/-- Write the initial content of regions, zero beyond it. -/
def Dev.initRegions (d : Dev) (rs : List Region) : Dev :=
  rs.foldl (fun d r =>
    let a := memShared + r.base
    let d := d.regionCount r
    (d.clearRange a (a + r.size)).setBytes a (r.init.take r.size)) d

/-- The code bank of an image: 0 or 1 as given, 2 (both) where CODE exceeds 1 MiB. -/
def bankOf (im : List Byte) (free : Nat) : Nat := if 2 ^ 20 < (imgSection im 7).length then 2 else free

/-- Offset of a bank in the code store. -/
def bankBase (bank : Nat) : Nat := if bank = 1 then 2 ^ 20 else 0

/-- Write the CODE section into a bank, zero beyond it. -/
def Dev.loadCode (d : Dev) (im : List Byte) (bank : Nat) : Dev :=
  let a := memCode + bankBase bank
  (d.clearRange a (a + (if bank = 2 then 2 ^ 21 else 2 ^ 20))).setBytes a (imgSection im 7)

/-! ### Application (R28, R32, R33, R62) -/

/-- The sections of an image but those of an unknown type, which are skipped (R16). -/
def imgKnown (im : List Byte) : List (Nat × List Byte) := (imgSections im).filter (fun s => knownSec s.1)

/-- The loader writes a register through the window's decoding, as initiator 67 (R315, R322, R333, R374). -/
def Dev.imgLoad (d : Dev) (w : Nat × Nat) : Dev :=
  let d := d.perfEvent 0x21 1 { master := 67, addr := w.1 }
  if (decodeReg w.1).isNone then d.raiseAt FS.SYS_BUS_ERR { addr := w.1, master := 67, ty := 2 } else d.imgPut w

/-- Does a change of image write a register of a section, given by type and address? At a hitless swap (`live`) the PORT and FABRIC sections
are those in force, and the policy and limits of PWR are unchanged (R30, R264, R356). -/
def imgWrites (live : Bool) (ty a : Nat) : Bool := !live || (ty != 2 && ty != 8 && a / 0x10000 != 1)

/-- The registers that an image sets: where its GRAPH section is silent, overruns mute and stealing is allowed (R15). -/
def Dev.applyRegs (d : Dev) (im : List Byte) (live : Bool) : Dev :=
  let d := forN 256 (fun k d => d.wr THK_OVR_TREAT 0x55555555 k) d
  let d := (d.wr THK_STEAL_INH0 0).wr THK_STEAL_INH1 0
  let d' := (imgKnown im).foldl (fun d s =>
    ((Config.sectionContent s.1 s.2).regs.filter (fun w => imgWrites live s.1 w.1)).foldl (fun d w => d.imgLoad w) d) d
  d'.genAdopt d

/-- Image fields return to their reset values, so that what a new image leaves out stands at its default (R15, R33). -/
def Dev.dropImageFields (d : Dev) : Dev :=
  { d with regs := d.regs.filterMap (fun kv =>
      match decodeReg kv.1 with
      | some (r, i, j) =>
        let w := r.flds.foldl (fun w f => if f.img then fset w f.hi f.lo (fget (r.rstAt i j) f.hi f.lo) else w) kv.2
        if w = r.rstAt i j then none else some (kv.1, w)
      | none => some kv) }

/-- The registers that a section set which the new image lacks return to their reset words (R15). -/
def Dev.dropSections (d : Dev) (old im : List Byte) (live : Bool) : Dev :=
  ((imgKnown old).filter (fun s => !(imgTable im).any (fun e => e.ty == s.1))).foldl (fun d s =>
    ((Config.sectionContent s.1 s.2).regs.filter (fun w => imgWrites live s.1 w.1)).foldl (fun d w =>
      match decodeReg w.1 with
      | some (r, i, j) => d.imgPut (w.1, (r.rstAt i j).toNat)
      | none => d) d) d

/-- The graph, code and home areas of an image are the Thicket's; its regions as placed. -/
def Dev.applyGraph (d : Dev) (im : List Byte) (bank : Nat) (rs : List Region) : Dev :=
  let jobs := graphJobs (imgSection im 6)
  let d := { d with thk := { d.thk with jobs := jobs, codeLen := (imgSection im 7).length, codeBase := bankBase bank, regions := rs,
                                        homeInit := (imgContent im 5).homes ++ (imgContent im 6).homes } }
  (d.put THK_STATUS.JOBS jobs.length).put THK_STATUS.NCJOBS (jobs.filter (·.nc)).length

/-- The copy of the firmware in the SRAM, with the length and CRC-32 that the boot ROM checks (R368). -/
def Dev.loadFirmware (d : Dev) (im : List Byte) : Dev :=
  let b := imgSection im 1
  let d := d.setBytes memSram b
  { d with mgmt := { d.mgmt with fwLen := b.length, fwCrc := crc32 b } }

/-- What an image's TIME section says of alarm a. -/
def imgAlarm (im : List Byte) (a : Nat) : List (Nat × Nat) :=
  (imgContent im 0xA).regs.filter (fun w => decide (TIME_ALM_CFG.addr a 0 ≤ w.1 ∧ w.1 < TIME_ALM_CFG.addr a 0 + 16))

/-- Firmware alarms that the image enables are armed (R32, R258). -/
def Dev.armAlarms (d : Dev) (im : List Byte) : Dev :=
  forN 32 (fun a d =>
    if d.is TIME_ALM_CFG.EN a && d.almFw a && !d.armed a && !(imgAlarm im a).isEmpty then d.almArmFw a else d) d

/-- The time bases at a hitless swap, `o` being the device before it: a servo whose SRC changed goes to FREE; an alarm that the new image
gives otherwise than the old one is disarmed where it was firmware's and armed anew where it is, and every other one is kept
(R32, R250, R263). -/
def Dev.timeSwap (d o : Dev) (old im : List Byte) : Dev :=
  let d := forN 4 (fun t d => if d.get TIME_TB_CFG.SRC t = o.get TIME_TB_CFG.SRC t then d else d.servoTo t 0) d
  forN 32 (fun a d =>
    if imgAlarm im a = imgAlarm old a then d
    else
      let d := if o.almFw a then d.almDisarm a else d
      if d.is TIME_ALM_CFG.EN a && d.almFw a && !(imgAlarm im a).isEmpty then d.almArmFw a else d) d

/-- The sections of an image that is applied count as applied from then on (R376). -/
def Dev.addSections (d : Dev) (im : List Byte) : Dev := { d with sections := (d.sections ++ (imgTable im).map (·.ty)).eraseDups }

/-- An image is in force. -/
def Dev.setImage (d : Dev) (im : List Byte) : Dev := { d with imageApplied := true, build := imgBuild im }

/-- An image is applied with everything it fixes: at boot, or at a planned restart (R28, R33). One without a FABRIC section has TPRIO 255 (R209).
The firmware starts (R368). -/
def Dev.applyImage (d : Dev) (im : List Byte) (bank : Nat) (rs : List Region) : Dev :=
  let o := d
  let d := if (imgTable im).any (fun e => e.ty == 8) then d else d.put HFB_CFG.TPRIO 255
  let d := (d.applyRegs im false).fabricAdopt o false
  let d := (d.addSections im).setImage im
  let d := (d.applyGraph im bank rs).loadFirmware im
  let d := forN 64 (fun m d => d.clearRange (memLocal m) (memLocal m + 0x18000)) d
  let d := d.thk.homeInit.foldl (fun d h => d.setBytes (memLocal h.1) h.2) d
  let x := imgContent im 4
  let d := { d.xptLoad x.part (slotTotal x.part) x.slots x.sink with aud := {} }
  let d := d.tioAdopt o
  let f := imgContent im 8
  let d := { d with hfb := { d.hfb with fwd := f.fwd }, mgmt := { d.mgmt with fwRunning := true } }
  let d := d.put MGMT_STAT.FWFAIL 0
  (d.rcuStart.alnStart.hlkStart.armAlarms im).sapRates

/-- SECTIONS_APPLIED: at boot the image goes into device slot 0 and runs; firmware starts, the sequencer waits for its loop
(R23, R28, R39). -/
def Dev.sectionsApplied (d : Dev) : Dev :=
  if d.boot.step ≠ 4 ∨ d.boot.staging = true then d else
  let im := d.boot.img
  let bank := bankOf im 0
  let rs := placeRegions [] (imgContent im 5).regions []
  let d := ((d.loadCode im bank).initRegions rs).applyImage im bank rs
  let d := ((d.put SYS_SLOT_STATUS.REASON 0 0).put SYS_SLOT_STATUS.CODE_BANK bank 0).setSlotState 0 3
  let d := d.setSlotImg 0 im
  let d := ((d.put SYS_BOOT_STATUS.SLOT 0).put SYS_BOOT_STATUS.FALLBACK (b2n d.boot.fell)).put SYS_BOOT_STATUS.FSLOT
    (if d.boot.host then 0 else d.boot.fslot)
  let d := d.setBoot { d.boot with step := 0, img := [], host := false }
  let d := { d.put SYS_BLK_STATUS.STATE 1 with flt := { d.flt with cReset := false } }
  d.pairStart.setPhase 6

/-! ### Staging (R29, R30, R34) -/

/-- The slot that does not run. -/
def Dev.otherSlot (d : Dev) : Nat := 1 - d.runSlot

/-- The staged content of a slot is discarded. -/
def Dev.discardStaged (d : Dev) (s : Nat) : Dev :=
  let d := ((d.setSlotState s 0).put SYS_SLOT_STATUS.CODE_BANK 3 s).put SYS_SLOT_STATUS.REASON 0 s
  let d := d.setSlotImg s []
  let d := d.setBoot { d.boot with regions := [] }
  d.put SYS_SWAP_STATUS.HITLESS_OK 0

/-- STAGE_START: begins staging; ignored while a slot is STAGING or no image runs (R29, R34). From the begin of a planned restart to
RESTART_SILENT it discards the image about to be applied, as it does any STAGED one, and the restart then applies what the slot holds
(DESIGN CHOICE, log entry 117). -/
def Dev.stageStart (d : Dev) : Dev :=
  let s := d.otherSlot
  if !d.imageApplied || d.slotState s == 1 then d
  else
    let d := (d.discardStaged s).setSlotState s 1
    let host := d.is SYS_STAGE_CTRL.SRC
    let d := d.setBoot { d.boot with
      staging := true, host := host, slot := s, img := [], chunk := none, arrived := false, gap := false,
      order := [d.get SYS_STAGE_CTRL.FLASH_SLOT], step := if host then 5 else 1 }
    if host then d else d.readDirectory

/-- Staging ends without an image: the slot becomes EMPTY (R34). -/
def Dev.stageAbort (d : Dev) : Dev :=
  let s := d.otherSlot
  if d.slotState s = 1 then
    let d := d.discardStaged s
    d.setBoot { d.boot with staging := false, step := 0, img := [] }
  else d

/-- STAGING_COMPLETE: resources judged, code and new regions written, HITLESS_OK evaluated (R29, R30). -/
def Dev.stagingComplete (d : Dev) : Dev :=
  if d.boot.step ≠ 4 ∨ d.boot.staging = false then d else
  let im := d.boot.img
  let s := d.boot.slot
  let rb := d.get SYS_SLOT_STATUS.CODE_BANK d.runSlot
  let new := (imgContent im 5).regions
  let total : Nat := (d.thk.regions ++ new.filter (fun r => !carried d.thk.regions r)).foldl (fun n r => n + r.size) 0
  if rb = 2 ∨ bankOf im 0 = 2 ∨ 2 ^ 24 < total then d.failAttempt 0xD
  else
    let rs := placeRegions d.thk.regions new []
    let bank := 1 - rb
    let d := (d.loadCode im bank).initRegions (rs.filter (fun r => !carried d.thk.regions r))
    let d := ((d.put SYS_SLOT_STATUS.REASON 0 s).put SYS_SLOT_STATUS.CODE_BANK bank s).setSlotState s 2
    let d := d.setSlotImg s im
    let d := d.setBoot { d.boot with staging := false, step := 0, img := [], regions := rs }
    d.put SYS_SWAP_STATUS.HITLESS_OK (b2n (hitlessOk (d.slotImg d.runSlot) im))

/-! ### Arming (R31, R34, R301) -/

/-- RESULT is written: DONE set, ARM cleared, vector 5 raised (R366). -/
def Dev.swapResult (d : Dev) (code : Nat) : Dev :=
  (((d.put SYS_SWAP_STATUS.RESULT code).put SYS_SWAP_STATUS.DONE 1).put SYS_SWAP_CTRL.ARM 0).raiseVec 5

/-- ARM: refused where no slot is STAGED or the block is not later than the current one + 1 (R34); where both hold the RESULT is 3 (DESIGN
CHOICE, log entry 117). -/
def Dev.swapArm (d : Dev) : Dev :=
  if d.slotState d.otherSlot ≠ 2 then d.swapResult 3
  else if !later32 (d.get SYS_SWAP_TARGET.BLOCK) (d.blk + 1) then d.swapResult 4
  else d.put SYS_SWAP_CTRL.ARM 1

/-- A mirrored ARM carries the BUILD_ID of the ACTIVE's staged slot: refused with IMGMIS where the chip's own differs (R301). -/
def Dev.swapArmMirrored (d : Dev) (build : Nat) : Dev :=
  if d.slotState d.otherSlot ≠ 2 ∨ imgBuild (d.slotImg d.otherSlot) ≠ build then (d.put PAIR_STAT.IMGMIS 1).swapResult 3 else d.swapArm

/-- DISARM cancels an armed swap (R34). -/
def Dev.swapDisarm (d : Dev) : Dev := if d.is SYS_SWAP_CTRL.ARM then d.swapResult 7 else d

/-- A BLOCK reset takes effect: it cancels a swap that is armed for the next boundary when that boundary comes (R34). -/
def Dev.swapCancel (d : Dev) : Dev := if d.cycling then d.setBoot { d.boot with cancel := some ((d.blk + 1) % 2 ^ 32) } else d

/-! ### The swap (R31 to R33) -/

/-- The slots change over: the new image RUNNING, the old one STAGED (R32). -/
def Dev.exchange (d : Dev) (oldRegions : List Region) : Dev :=
  let s := d.otherSlot
  let o := d.runSlot
  let d := (d.setSlotState s 3).setSlotState o 2
  let d := (d.put SYS_BOOT_STATUS.SLOT s).setBoot { d.boot with regions := oldRegions }
  d.put SYS_SWAP_STATUS.HITLESS_OK (b2n (hitlessOk (d.slotImg s) (d.slotImg o)))

/-- FLOW_SEQ goes with the sequence state of a flow that both images have, whatever the index of its context (R32, R225). -/
def Dev.seqsCarry (d o : Dev) : Dev :=
  forN 512 (fun x d =>
    if d.get FLOW_CFG.KIND x = 0 then d
    else
      match (List.range 512).find? (fun y => o.get FLOW_CFG.KIND y == d.get FLOW_CFG.KIND x && o.get FLOW_CFG.FLOW y == d.get FLOW_CFG.FLOW x) with
      | some y => d.wr FLOW_SEQ (o.rd FLOW_SEQ y) x
      | none => d) d

/-- Sequence state of the flow contexts that both images have, by flow ID (R32): `o` is the device before. -/
def Dev.flowsCarry (d o : Dev) : Dev :=
  let flow := (List.range 512).filterMap (fun x =>
      if d.get FLOW_CFG.KIND x = 0 then none
      else
        let f := d.get FLOW_CFG.FLOW x
        match (List.range 512).find? (fun y => o.get FLOW_CFG.KIND y == d.get FLOW_CFG.KIND x && o.get FLOW_CFG.FLOW y == f) with
        | some y => if o.ctx y = {} then none else some (x, o.ctx y)
        | none => none)
  { d.seqsCarry o with flow := flow }

/-- Fault sources whose class, N or window changed restart their counts, and COUNTING returns to IDLE; an escalation time of 0 stops a
timer that runs (R32, R329). The counts are those of the window, INWIN and INJWIN; FLT_SRC_CNT, which only software clears, goes on
(DESIGN CHOICE, log entry 117). -/
def Dev.faultsCarry (d o : Dev) : Dev :=
  forN 192 (fun n d =>
    let d := if d.fltEsc n = 0 then { d with flt := { d.flt with esc := tabDel d.flt.esc n } } else d
    if d.fltClass n = o.fltClass n ∧ d.fltN n = o.fltN n ∧ d.fltWin n = o.fltWin n then d
    else
      let d := { d with flt := { d.flt with events := tabDel d.flt.events n, injEv := tabDel d.flt.injEv n } }
      let d := (d.put FLT_SRC_STAT.INWIN 0 n).put FLT_SRC_STAT.INJWIN 0 n
      if d.get FLT_SRC_STAT.STATE n = 1 then d.fltSetState n 0 else d) d

/-- Does the core run on at a change of image: the MGFW sections are the same, and its copy did not fail its CRC (R32, R368)? -/
def Dev.keepsFirmware (d : Dev) (im old : List Byte) : Bool := imgSection im 1 == imgSection old 1 && !d.is MGMT_STAT.FWFAIL

/-- A hitless swap changes every block over to the new image (R32). -/
def Dev.swapHitless (d : Dev) : Dev :=
  let o := d
  let s := d.otherSlot
  let im := d.slotImg s
  let old := d.slotImg d.runSlot
  let rs := d.boot.regions
  let d := { (((d.dropSections old im true).applyRegs im true).fabricAdopt o true).addSections im with build := imgBuild im }
  let d := (d.initRegions (rs.filter (fun r => !carried o.thk.regions r))).applyGraph im (d.get SYS_SLOT_STATUS.CODE_BANK s) rs
  let d := d.pcommitKeep (rs.filter (carried o.thk.regions))
  let x := imgContent im 4
  let d := d.xptSwap x.part (slotTotal x.part) x.slots x.sink
  let d := ((((d.flowsCarry o).faultsCarry o).tioAdopt o).timeSwap o old im).rcuSwap o
  let d := if d.keepsFirmware im old then d else (d.loadFirmware im).addDue .mgmt
  (d.exchange o.thk.regions).swapResult 1

/-- A planned restart begins: every destination fades to silence and the modulator groups ramp to idle (R33, R417). -/
def Dev.restartBegin (d : Dev) : Dev :=
  let d := (d.put SYS_SWAP_STATUS.RESTARTING 1).put SYS_SWAP_CTRL.ARM 0
  let d := ((d.fadeAllBegin 1).psmStopAll).startTimer .fadeDown
  d.setBoot { d.boot with restart := true }

/-- The armed swap at the boundary that begins block b (R31, R33, R34, R51). The manual does not say what an ARM does that is written in the
fade of a planned restart, before RESTART_SILENT: it is accepted, the slot being STAGED still, and at its target the restart and its fade
begin anew (DESIGN CHOICE, log entry 136). -/
def Dev.swapBoundary (d : Dev) (b : Nat) : Dev :=
  if !d.is SYS_SWAP_CTRL.ARM || d.get SYS_SWAP_TARGET.BLOCK != b then d
  else if d.get SYS_BLK_STATUS.STATE = 5 then d.swapResult 8
  else if d.boot.cancel = some b ∨ d.pair.resync = some b then d.swapResult 6
  else if d.slotState d.otherSlot ≠ 2 then d.swapResult 3
  else if d.is SYS_SWAP_STATUS.HITLESS_OK then d.swapHitless
  else if d.is SYS_SWAP_CTRL.ALLOW_RESTART then d.restartBegin
  else d.swapResult 5

/-! ### The cycle stops (R33, R39, R104, R127, R168) -/

/-- RAMP + 2 × Tb in ns: from the begin of a fade of all destinations until the faded output has been emitted (R33, R39). RAMP is limited to
1 to 1,000 ms. -/
def Dev.fadedNs (d : Dev) : Nat := min 1000 (max 1 (d.get SYS_SWAP_CTRL.RAMP)) * 1000000 + 2 * d.nb * 1000000000 / d.fi

/-- The block cycle stops and waits for its loop (R39); what the counters held for the next boundary takes effect (R342). -/
def Dev.cycleStop (d : Dev) : Dev :=
  let d := ((d.put SYS_BLK_STATUS.STATE 1).put SYS_BLK_STATUS.FREE 0).pseudoFrom
  let d := d.thkAbandon.xptStop.sapStop
  let d : Dev := { d with cyc := { d.cyc with realign := false, fresh := false, fadeUp := true }, boot := { d.boot with cancel := none },
                          aud := { d.aud with capt := [], sealed := [], build := [], staged := [], emit := [] } }
  d.flowBlockReset.strStop.pairCycleStop.perfBoundary

/-- RESTART_SILENT: the outputs are silent; the cycle stops and the new structure is applied; links whose rate changed
retrain (R33, R417). The old slot becomes STAGED, as R32 says of a hitless swap (DESIGN CHOICE, log entry 117). -/
def Dev.restartSilent (d : Dev) : Dev :=
  if !d.boot.restart || !d.ranFor .fadeDown d.fadedNs then d else
  let o := d
  let s := d.otherSlot
  let im := d.slotImg s
  let rs := d.boot.regions
  let d := forN 4 (fun g d => if d.gState g = 0 ∨ d.gState g = 6 then d else d.groupDown g 0) d
  let d := (d.cycleStop.dropImageFields).dropSections (o.slotImg o.runSlot) im false
  let d := d.initRegions (rs.filter (fun r => !carried o.thk.regions r))
  let d := d.applyImage im (d.get SYS_SLOT_STATUS.CODE_BANK s) rs
  let d := ((d.pcommitKeep (rs.filter (carried o.thk.regions))).rcuRestart o (imgView (o.slotImg o.runSlot))).alnRestart o
  let d := forN 8 (fun l d => d.linkRestart o l) d
  let d := d.exchange o.thk.regions
  let d := d.setBoot { d.boot with restart := false }
  let d := if o.keepsFirmware im (o.slotImg o.runSlot) then d else d.addDue .mgmt
  (d.put SYS_BLK_STATUS.STATE 1).pairStart

/-- The fade up of a planned restart has ended: RESULT 2 is written and RESTARTING, 1 from step 1 to step 5, reads 0 (R33). That both
happen at the end of step 5 and not at its start is a DESIGN CHOICE, log entry 117. -/
def Dev.restartDone (d : Dev) : Dev :=
  if d.is SYS_SWAP_STATUS.RESTARTING && d.xpt.fade == 0 && !d.boot.restart && d.running then
    (d.put SYS_SWAP_STATUS.RESTARTING 0).swapResult 2
  else d

end Sys2Proof.Machine
end

