-- ==== Sys2Proof/Machine/Resets.lean ====
section
/-! DEFINITION. Reset domains, BLOCK, MGMT and CHIP resets, POR, reset shadows (R10, R32, R319, R324, R329, R346, R354,
R368, R382), what follows a change of a clock, and how the resets that a command calls for are taken once it has been
handled. -/

namespace Sys2Proof.Machine

/-- Keep the registers that satisfy a test; the others return to their reset words. -/
def Dev.keepRegs (d : Dev) (p : Reg → Bool) : Dev :=
  { d with regs := d.regs.filter (fun kv => match decodeReg kv.1 with | some (r, _, _) => p r | none => true) }

/-! ### Clock changes -/

/-- A step of the block time base that carries an owned alarm past its target makes its owner choose again (R51, R259,
R263). -/
def Dev.missedAlarms (d : Dev) : Dev :=
  let d := if d.get SYS_BLK_STATUS.STATE = 3 ∧ d.almReached (d.get SYS_BLK_CFG.ALARM) = true then d.armCycle else d
  forN 16 (fun k d =>
    let a := d.get SAP_GRP_CFG.ALARM k
    if d.get SAP_GRP_CFG.MEMBERS k != 0 && d.armed a && d.almReached a then d.grpMissed k else d) d

/-- The loops and the alarm owners answer a step of a time base (R259, R284). -/
def Dev.stepSettle (d : Dev) (t : Nat) : Dev :=
  let d := d.rcuStepped t
  if d.blkTb = t then d.missedAlarms else d

/-- The DLLs that left RUN are told to the port or the group that they serve (R157, R175). -/
def Dev.dllSettle (d : Dev) : Dev :=
  d.dllLost.foldl (fun d x =>
    if 8 ≤ x ∧ x < 24 then d.sapDllLost (x - 8) else if 24 ≤ x then d.psmDllLost (x - 24) else d) { d with dllLost := [] }

/-- What follows in the loops, the DLLs and the units that they clock once a command has changed a clock. -/
def Dev.clockSync (d : Dev) : Dev :=
  let ts := d.time.stepped.eraseDups
  let d := ts.foldl (fun d t => d.stepSettle t) { d with time := { d.time with stepped := [] } }
  d.rcuSync.alnSync.dllSettle

/-! ### BLOCK and MGMT resets (R324, R329, R368, R382) -/

/-- Has a block a block reset? SYS, PWR, FLT and TEST have none (R319). -/
def hasBlockReset (b : Nat) : Bool := decide (b < 18) && b != 0 && b != 1 && b != 15

/-- SYS_BLKRST.BUSY: a commanded reset is asserted. -/
def Dev.putBusy (d : Dev) : Dev :=
  d.put SYS_BLKRST.BUSY (b2n (d.flt.shadows.any (fun kv => kv.2.inReset && kv.2.cause == 0xFE)))

/-- A reset of a block is asserted: its shadow opens over the block's dependency set, or the open one is extended with the
new cause (R324, R329). -/
def Dev.shadowOpen (d : Dev) (b cause : Nat) : Dev :=
  let x := tabGet {} d.flt.shadows b
  let set := if x.open_ then x.set else (List.range 6).map (fun k => (d.rd FLT_SHADOW_SET b k).toNat)
  let s : Shadow := { open_ := true, inReset := true, cause := cause, seq := d.flt.seq + 1, set := set }
  let d := { d with flt := { d.flt with shadows := tabPut {} d.flt.shadows b s, seq := d.flt.seq + 1 } }
  ((d.setBit FLT_STAT.SHADOW b).startTimer .blockReset b).putBusy

/-- BLOCK_RESET_END: the reset of a block, asserted for 1 µs, ends; its shadow stays open for SHADOW ms more (R324, R382). -/
def Dev.blockResetEnd (d : Dev) (b : Nat) : Dev :=
  let x := tabGet {} d.flt.shadows b
  if x.inReset && d.isDue .blockReset 1000 b then
    (({ d with flt := { d.flt with shadows := tabPut {} d.flt.shadows b { x with inReset := false } } }).startTimer .shadow b).putBusy
  else d

/-- SHADOW_CLOSE: the shadow of a block closes SHADOW ms after the end of its reset (R324). -/
def Dev.shadowClose (d : Dev) (b : Nat) : Dev :=
  let x := tabGet {} d.flt.shadows b
  if x.open_ && !x.inReset && d.isDue .shadow (min 1000 (max 1 (d.get FLT_CFG.SHADOW)) * 1000000) b then
    ({ d with flt := { d.flt with shadows := tabDel d.flt.shadows b } }).clrBit FLT_STAT.SHADOW b
  else d

/-- What a BLOCK reset does in each block once its registers are reset; `o` is the device before. -/
def Dev.blockResetEffect (d o : Dev) (b : Nat) : Dev :=
  match b with
  | 2 => d.rcuBlockReset o
  | 3 => d.alnBlockReset o
  | 5 => d.hlkBlockReset o
  | 6 => d.hfbBlockReset o
  | 7 => d.ethBlockReset
  | 8 => d.flowBlockReset
  | 9 => d.sapBlockReset
  | 10 => d.asrcBlockReset
  | 11 => d.xptBlockReset
  | 12 => d.thkBlockReset
  | 13 => d.psmBlockReset
  | 14 => d.pairBlockReset
  | 16 => d.perfBlockReset
  | _ => d

/-- A MGMT reset: the shadow of MGMT, the MGMT-domain registers, the core; a slot that is STAGING becomes EMPTY (R10, R34, R368). -/
def Dev.mgmtBegin (d : Dev) (cause : Nat) : Dev :=
  let d := (d.shadowOpen 17 cause).keepRegs (fun r => r.dom != .mgmt)
  d.mgmtReset.stageAbort

/-- A BLOCK reset of a block (R319, R324, R382). A reset of THK or XPT that no resynchronisation takes makes the pair
DIVERGED (R305). -/
def Dev.blockReset (d : Dev) (b cause : Nat) (resync : Bool) : Dev :=
  if !hasBlockReset b then d
  else if b = 17 then d.mgmtBegin cause
  else
    let d := (d.shadowOpen b cause).swapCancel
    let d := if (b = 11 ∨ b = 12) ∧ resync = false then d.diverge else d
    let d := if b = 4 then d.timeBlockReset else d
    (d.keepRegs (fun r => !(r.blk == b && r.dom == .block))).blockResetEffect d b

/-- BLOCK_RESET_CMD: a write of SYS_BLKRST (R382). -/
def Dev.blkrstWrite (d : Dev) (w : Word) : Dev :=
  let b := fget w 4 0
  let d := d.store SYS_BLKRST w
  if hasBlockReset b then d.addDue (.block b 0xFE) else d.put SYS_BLKRST.REFUSED 1

/-! ### CHIP reset and POR (R10, R346, R354) -/

/-- The registers that fuses and MRAM set: identity, fuse status, pace floor, GRAVE log head (R18, R101, R205, R327). -/
def Dev.loadFixed (d : Dev) : Dev :=
  let d := (d.put HFB_UID_LO.UID d.fuse.uid).put HFB_UID_HI.UID (d.fuse.uid / 2 ^ 32)
  let d := (d.put SYS_FUSE_STATUS.AUTH_EN (b2n d.fuse.authEn)).put SYS_FUSE_STATUS.KEY_PROG (b2n d.fuse.keyProg)
  let d := d.put THK_PACE_RATE.FLOOR d.fuse.floor
  let d := (d.eccRead graveHead FS.SYS_MRAM_CORR FS.SYS_MRAM_UNC 255).2
  let d := (d.eccRead (graveHead + 4) FS.SYS_MRAM_CORR FS.SYS_MRAM_UNC 255).2
  let d := (d.put FLT_GLOG_HEAD.NEXT (d.memLe graveHead 2)).put FLT_GLOG_HEAD.WRAP (d.memLe (graveHead + 2) 2)
  d.put FLT_GLOG_HEAD.PORCNT d.porCount

/-- SYS.FUSE is raised where the fuse array fails its check as it is read (R315). -/
def Dev.fuseCheck (d : Dev) : Dev := if d.fuse.bad then d.raise FS.SYS_FUSE else d

/-- The levels of PSFLT_N_Gx, which the stages drive, are those of the device before. -/
def Dev.psfltKeep (d o : Dev) : Dev := forN 4 (fun g d => if (o.pgrp g).flt then d.setPgrp g { flt := true } else d) d

/-- A CHIP reset: every register but the POR-domain ones, and every state of the blocks but what survives: memories, time bases,
the factory band table, the GRAVE log record in progress, the scene words buffered, the test block, the levels that the
chip does not drive, VCORE. `cause` is the source and kind of a C reaction (R10, R52, R245, R319, R329, R353). -/
def Dev.chipReset (d : Dev) (cause : Option (Nat × Nat)) : Dev :=
  let d := (d.servosFree.timeChipReset).keepRegs (fun r => r.dom == .por)
  let n : Dev :=
    { regs := d.regs, mem := d.mem, eccCor := d.eccCor, eccBad := d.eccBad, fuse := d.fuse, tclk := d.tclk, free := d.free,
      period := d.period + 1, out := d.out, time := d.time, rcu := d.rcuChipReset.rcu, test := d.test, resetN := d.resetN,
      pwr := { d.pwr with tripped := [], selected := 0, dip := 0, vret := true, lowAt := none, mustRaise := false },
      pair := { ownIn := d.pair.ownIn, liveIn := d.pair.liveIn },
      mgmt := { sceneBuf := d.mgmt.sceneBuf, perstLow := d.mgmt.perstLow, wdogAt := d.tclk, wdogWas := d.tclk },
      flt := { log := d.flt.log, cReset := cause.isSome }, perf := { free := d.perf.free } }
  let n := n.startTimer .pseudo
  let n := ((n.loadFixed.put FLT_STAT.FTM (n.get TEST_STAT.FTM)).put PAIR_STAT.OWNIN (b2n n.pair.ownIn)).putPend
  let n := ((n.put PWR_VCORE.MEAS n.pwr.vcore).psfltKeep d).fuseCheck
  match cause with
  | some (src, kind) => ((n.put FLT_RST_CAUSE.VALID 1).put FLT_RST_CAUSE.SRC src).put FLT_RST_CAUSE.KIND kind
  | none => n

/-- CHIP_RESET: RESET_N low for `ns`. A pulse of 1 µs or less is ignored, one of 10 µs or more resets, and one between is
free (R397). -/
def Dev.resetPin (d : Dev) (ns : Nat) : Dev :=
  if ns ≤ 1000 then d else
  let (k, d) := d.draw
  if 10000 ≤ ns ∨ Config.resetPulse k = true then { d.chipReset none with resetN := false } else d

/-- Is the device held in POR, or by RESET_N? -/
def Dev.heldReset (d : Dev) : Bool := d.pwr.por || !d.resetN

/-- Memory that keeps its content without supply: the MRAM (R10, R371). -/
def isMram (a : Nat) : Bool := (decide (memScene ≤ a) && decide (a < memScene + 0x400000)) || decide (memMram ≤ a)

/-- The GRAVE log record whose write a POR interrupts is not guaranteed: its bytes are free (R327). -/
def Dev.graveTorn (d : Dev) : Dev :=
  if d.flt.log.isEmpty then d else
  forN 8 (fun i d => let (k, d) := d.draw; d.setMemW (graveLog + 32 * d.get FLT_GLOG_HEAD.NEXT + 4 * i) (Config.freeWord k)) d

/-- POR: VBUS at `mv` lies below 32 V (R346). Everything but MRAM and fuses is as at first power; the count of PORs in the log's
header grows (R327). While POR is held, the power-up sequence ends and waits for VBUS to rise through 35 V anew (R354). -/
def Dev.porAssert (d : Dev) (mv : Nat) : Dev :=
  if 32000 ≤ mv then d
  else if d.pwr.por then { d with pwr := { d.pwr with step := 0 } }
  else
  let d := d.scenePor.graveTorn
  let d := d.setMemLe (graveHead + 4) 4 (d.porCount + 1)
  let n : Dev :=
    { mem := d.mem.filter (fun c => isMram c.1), eccCor := d.eccCor.filter isMram, eccBad := d.eccBad.filter isMram, fuse := d.fuse,
      tclk := d.tclk, free := d.free, period := d.period + 1, out := d.out, rcu := d.rcuChipReset.rcu, resetN := d.resetN, pwr := {}, pair := { ownIn := d.pair.ownIn, liveIn := d.pair.liveIn },
      mgmt := { perstLow := d.mgmt.perstLow }, perf := { free := d.perf.free } }
  (n.loadFixed.put PAIR_STAT.OWNIN (b2n n.pair.ownIn)).psfltKeep d

/-- POR_RELEASE: all rails good, VBUS above 35 V, TCLK locked; TESTEN is sampled (R354, R406). -/
def Dev.porRelease (d : Dev) (testen : Bool) : Dev :=
  if d.pwr.por && d.pwr.step == 1 then
    (({ d with pwr := { d.pwr with por := false, step := 7 } }).wdogStart.pseudoFrom.put TEST_STAT.TESTEN (b2n testen)).fuseCheck
  else d

/-! ### The GRAVE log (R327) -/

/-- GRAVE_LOG_WRITTEN: the first record waiting is complete in MRAM; a full log loses its oldest record; a C reaction that
waited for it proceeds (R319, R327). -/
def Dev.graveWritten (d : Dev) : Dev :=
  match d.flt.log with
  | [] => d
  | r :: rest =>
    let n := d.get FLT_GLOG_HEAD.NEXT
    let full := d.is FLT_GLOG_HEAD.WRAP
    let d := ({ d with flt := { d.flt with log := rest } }).setBytes (graveLog + 32 * n) r
    let d := d.put FLT_GLOG_HEAD.NEXT (n + 1)
    let d := if n = 255 then d.put FLT_GLOG_HEAD.WRAP 1 else d
    let d := (d.setMemLe graveHead 2 (d.get FLT_GLOG_HEAD.NEXT)).setMemLe (graveHead + 2) 2 (d.get FLT_GLOG_HEAD.WRAP)
    let d := if full then d.raise FS.FLT_LOGFULL else d
    match rest, d.flt.logWait with
    | [], some (src, kind) => ({ d with flt := { d.flt with logWait := none } }).addDue (.chip src kind)
    | _, _ => d

/-- GLOG_ERASE: the log is cleared while the GRAVE condition is not active (R327); the count of PORs stays. -/
def Dev.graveErase (d : Dev) : Dev :=
  if d.is FLT_GRAVE.ACTIVE then d else
  let d := (d.clearRange graveLog (graveLog + 0x2000)).setMemLe graveHead 4 0
  (d.put FLT_GLOG_HEAD.NEXT 0).put FLT_GLOG_HEAD.WRAP 0

/-- A write of FLT_GLOG_CTRL. -/
def Dev.glogWrite (d : Dev) (w : Word) : Dev :=
  let d := d.store FLT_GLOG_CTRL w
  if fget w 31 31 = 1 then d.graveErase else d

/-- FLT_GLOG_DATA: a word of the record that SEL names, read from the MRAM (R315, R327). -/
def Dev.glogData (d : Dev) (i master : Nat) : Word × Dev :=
  d.eccRead (graveLog + 32 * d.get FLT_GLOG_CTRL.SEL + 4 * i) FS.SYS_MRAM_CORR FS.SYS_MRAM_UNC master

/-! ### Once a command has been handled -/

/-- Take one reset that is due. A C reaction waits for the GRAVE log records being written (R319, R327); the GRAVE condition
fails the pair and takes the power stages to OFF (R325). -/
def Dev.settleOne (d : Dev) : Due → Dev
  | .block b cause => (d.blockReset b cause false).clockSync
  | .chip src kind =>
    if d.flt.log.isEmpty then d.chipReset (some (src, kind)) else { d with flt := { d.flt with logWait := some (src, kind) } }
  | .grave _ => d.pairFail.psmGrave
  | .mgmt => d.mgmtBegin 0xFE

/-- Take the resets that are due, oldest first, those that they call for in turn after them. -/
def Dev.settleN : Nat → Dev → Dev
  | 0, d => d
  | n + 1, d =>
    match d.flt.due with
    | [] => d
    | x :: xs => Dev.settleN n (Dev.settleOne { d with flt := { d.flt with due := xs } } x)

/-- The levels of ERR_N and IRQ_N follow what holds them low (R320, R367). -/
def Dev.pins (d : Dev) : Dev := { d with errN := !d.errLow, irqN := !d.irqLow }

/-- While the GRAVE condition lasts no chip of a pair is ACTIVE or STANDBY (R296, R325). -/
def Dev.graveHold (d : Dev) : Dev := if d.is FLT_GRAVE.ACTIVE then d.pairFail else d

/-- End of a command: the resets due, then the pins. -/
def Dev.settle (d : Dev) : Dev := (d.settleN 64).graveHold.pins

end Sys2Proof.Machine
end

