-- ==== Sys2Proof/Machine/Block.lean ====
section
/-! DEFINITION. The block cycle: start, boundaries, the stages within a block, REALIGN (R36 to R51, R417). -/

namespace Sys2Proof.Machine

/-! ### Starting (R39) -/

/-- BLOCK_CYCLE_ARM: the block loop reports lock, and with WAIT_SYNC set the servo of the block time base reports lock (R39). -/
def Dev.cycleArm (d : Dev) : Dev :=
  let st := d.get SYS_BLK_STATUS.STATE
  let locked := d.is RCU_LOOP_STAT.LOCK (d.get SYS_BLK_CFG.LOOP)
  let sync := d.servo d.blkTb == 2
  if st = 1 ∧ locked = true then
    if !d.is SYS_BLK_CTRL.WAIT_SYNC then d.armCycle
    else if sync then (d.put SYS_BLK_STATUS.STATE 2).armCycle
    else (d.put SYS_BLK_STATUS.STATE 2).startTimer .waitSync
  else if st = 2 ∧ sync = true then d.armCycle
  else d

/-- SYNC_TIMEOUT: SYNC_TMO seconds have passed since the entry to WAIT_SYNC (R39). -/
def Dev.syncTimeout (d : Dev) : Dev :=
  let t := d.get SYS_BLK_CTRL.SYNC_TMO
  if d.get SYS_BLK_STATUS.STATE = 2 ∧ t ≠ 0 ∧ d.ranFor .waitSync (t * 1000000000) then (d.put SYS_BLK_STATUS.FREE 1).armCycle else d

/-- The boundary error in 1/16 ns is reported and held against LIMIT (R41). An error beyond the 32 bits of ERR is reported modulo 2^32
(DESIGN CHOICE, log entry 118). -/
def Dev.phaseCheck (d : Dev) (k t16 : Nat) : Dev :=
  let e := d.boundaryErr k t16
  let d := d.put SYS_BLK_ERR.ERR (unsW 32 e)
  if 16 * max 100 (d.get SYS_BLK_LIMIT.LIMIT) < e.natAbs then (d.put SYS_BLK_STATUS.PHASE_EXC 1).raise FS.SYS_BLK_PHASE
  else d.put SYS_BLK_STATUS.PHASE_EXC 0

/-! ### Boundaries (R40, R43) -/

/-- The converted input channels deliver their samples of the block that is sealed (R112, R114). -/
def Dev.convSeal (d : Dev) : Dev :=
  forN 256 (fun c d => if d.convDir c = 1 then d.convBlock c (d.get ASRC_CFG.CHAN c) else d) d

/-- The sense sources of the sealed block, in units of 2^−31 V at the pins, full scale ±1 V (R105, R144). -/
def Dev.senseSeal (d : Dev) (sense : List (Nat × List Int)) : Dev :=
  sense.foldl (fun d s =>
    if s.1 < 64 then
      { d with aud := { d.aud with sealed := sampPutAll d.aud.sealed (d.psmBase + s.1) 0 ((s.2.take d.nb).map sat31) } }
    else d) d

/-- The seal of input block n, whose sources close; the staged output block begins emission (R43 step 1). -/
def Dev.seal (d : Dev) (n : Nat) (sense : List (Nat × List Int)) : Dev :=
  let d := { d with aud := { d.aud with sealed := d.aud.capt, capt := [] } }
  let d := (((d.senseSeal sense).strFeed n).asrcMirror (n % 2 ^ 32)).convSeal
  let d := ((d.sapSeal n).flowSeal n).strSeal n
  ({ d with aud := { d.aud with emit := d.aud.staged, staged := [] }, thk := { d.thk with stage := 1 } }).convTurnover

/-- A REALIGN's fade begins at the first boundary after its write: all destinations and the modulator groups (R39, R417). -/
def Dev.realignFade (d : Dev) : Dev :=
  if d.cyc.realign then (({ (d.fadeAllBegin 1) with cyc := { d.cyc with realign := false } }).psmStopAll).startTimer .fadeDown else d

/-- A resynchronisation at the boundary of its block: THK and XPT are reset and DIVERGED clears (R305). -/
def Dev.resyncTurn (d : Dev) (b : Nat) : Dev :=
  if d.pair.resync = some b then
    let d := d.setPair { d.pair with resync := none, resyncAt := some b, resyncing := true, resyncRec := true }
    let d := (d.blockReset 12 0xFE true).blockReset 11 0xFE true
    d.put PAIR_STAT.DIVERGED 0
  else d

/-- Commits of the ACTIVE's by their blocks, at the boundary of block b: is one due, was one late, and those that wait on (R301). -/
def markDue (ms : List Nat) (b : Nat) : Bool × Bool × List Nat :=
  let due := ms.filter (fun t => !later32 t b)
  (!due.isEmpty, due.any (fun t => t != b % 2 ^ 32), ms.filter (fun t => later32 t b))

/-- The live parameter commit at the boundary of block b: the chip's own, or on a mirrored STANDBY the ACTIVE's (R96, R301). -/
def Dev.pcommitTurn (d : Dev) (b : Nat) : Dev :=
  if d.mirrored then
    let (due, late, rest) := markDue d.pair.markT b
    if !due then d else
    let d := (d.pcommitApply late).setPair { d.pair with markT := rest }
    if late then d.diverge else d
  else (d.pcommitBoundary b).2

/-- The crosspoint commit at the boundary of block b (R121, R301). -/
def Dev.xptTurn (d : Dev) (b : Nat) : Dev :=
  if d.mirrored then
    let d := d.xptWaiting
    let (due, late, rest) := markDue d.pair.markX b
    if !due then d else
    let d := (d.xptCommit).setPair { d.pair with markX := rest }
    if late then (d.put XPT_CTRL.LATE 1).diverge else d
  else d.xptBoundary b

/-- Output block m begins: cells, stream packets, heartbeat (R220, R236, R300); none of them while the cycle is not RUNNING (R203,
R243, R297). -/
def Dev.sendTurn (d : Dev) (m : Nat) : Dev :=
  if d.running then (((d.flowTransmit m).rtpTransmit m).strRestart).pairBoundary else d.strRestart

/-- A swap whose target passed while the cycle was stopped is reported at the first boundary after the restart (R51). -/
def Dev.swapMissed (d : Dev) (b : Nat) : Dev :=
  let t := d.get SYS_SWAP_TARGET.BLOCK
  if d.is SYS_SWAP_CTRL.ARM && !later32 t b && t != b then d.swapResult 8 else d

/-- The block-cycle alarm matches: the first boundary, `sub` 1/16 ns after the tick (R39, R40, R41, R42, R104,
R166, R417). -/
def Dev.cycleStart (d : Dev) (sub : Nat) : Dev :=
  let k := d.cyc.armK
  let d := (((d.pcommitMiss d.cyc.k (k - d.cyc.k - 1)).xptMiss d.cyc.k (k - d.cyc.k - 1)).put SYS_BLK_STATUS.STATE 4).newPeriod
  let d := (d.put SYS_BLK_COUNT.COUNT k).put SYS_BLK_FIRST.FIRST k
  let t16 := d.firstInst k (d.now16 + sub)
  let d := { d with cyc := { d.cyc with k := k, at16 := t16, mclk := 0, tick := d.tclk, realign := false, fresh := true } }
  let d := d.setPair { d.pair with crcNext := [], skipNext := 0, markT := [], markX := [] }
  let d := ((d.captureEvent 28 true sub).phaseCheck k t16).avsRestart
  let d := if d.cyc.fadeUp then { d.fadeAllBegin 2 with cyc := { d.cyc with fadeUp := false } } else d
  let d := { d with thk := { d.thk with stage := 0, paceAt := d.pace }, aud := { d.aud with capt := [], sealed := [], staged := [], emit := [] } }
  let d := ((d.swapMissed (k % 2 ^ 32)).swapBoundary (k % 2 ^ 32)).pcommitTurn (k % 2 ^ 32)
  let d := ((d.xptTurn (k % 2 ^ 32)).convFirst.sapFirst.psmBoundary true).rsvApply.revert.pairSees
  ((d.sendTurn k).perfBoundary.loadLatch).perfEvent 0x10 1

/-- BLOCK_BOUNDARY: Nb × (FOUT ÷ Fi) periods of the block loop's MCLK have passed, and block k + 1 begins, `sub` 1/16 ns after the tick; the
command does nothing where they cannot have passed yet. A boundary away from Tb by more than HBWIN fails a paired chip (R40, R43, R302). -/
def Dev.boundary (d : Dev) (sub : Nat) (sense : List (Nat × List Int)) : Dev :=
  if !d.cycling || d.tooSoon then d else
  let n := d.cyc.k
  let k := n + 1
  let b := k % 2 ^ 32
  let d := if d.running && d.offTb then d.pairFail else d
  let d := if d.running then d.newPeriod else d
  let d := d.put SYS_BLK_COUNT.COUNT b
  let d := { d with cyc := { d.cyc with k := k, at16 := d.now16 + sub, mclk := d.cyc.mclk + d.blockMclk, tick := d.tclk, fresh := false } }
  let d := d.captureEvent 28 true sub
  let d := (d.seal n sense).paceRate.phaseCheck k (d.now16 + sub)
  let d := ((d.swapBoundary b).realignFade.resyncTurn b).pcommitTurn b
  let d := ((d.xptTurn b).psmAdoptAll.psmBoundary false).rsvApply.revert
  let d := ((d.pairBoundaryRole b).sendTurn k).perfBoundary
  (if d.running then d.loadLatch else d).perfEvent 0x10 1

/-! ### Stages within a block (R43, R86, R93, R119) -/

/-- XPT_PASS_DONE: destinations, fades, gain steps, silence; jobs with crosspoint input become ready; a restart whose fade up has
ended is reported (R33, R43 step 3, R86, R119). -/
def Dev.passDone (d : Dev) : Dev :=
  if d.thk.stage = 2 then (d.xptPass.xinReady.psmWake).restartDone else d

/-- DEADLINE: the output stage takes the outputs of block n + 2; slack, AVS, the pair's record (R43 steps 4 and 5, R93, R100,
R102, R303, R305, R306). The losses of a resynchronisation's own resets do not set DIVERGED. -/
def Dev.deadline (d : Dev) : Dev :=
  if d.thk.inst.isNone then d else
  let o := d
  let (req, d) := d.thkDeadline
  let beyond := d.is THK_SLACK.OVR
  let bad := (List.range o.thk.jobs.length).any (fun j => 3 ≤ d.fate j || d.thk.taint.contains j)
  let d := match req with
    | some up => d.vcoreRequest up
    | none => d
  let own := d.pair.resyncing
  let d := if bad && !own then d.diverge else d
  let d := if own && !d.inReset 12 then d.setPair { d.pair with resyncing := false } else d
  let d := if beyond then d.setPair { d.pair with overAt := some d.cyc.k, acc := { d.pair.acc with beyond := true } } else d
  d.pairStaged

/-! ### REALIGN (R39, R51) -/

/-- BLOCK_REALIGN: only while RUNNING, with no swap armed and no restart in progress. The cycle leaves RUNNING (R39, R296). -/
def Dev.realign (d : Dev) : Dev :=
  if d.running && !d.is SYS_SWAP_CTRL.ARM && !d.is SYS_SWAP_STATUS.RESTARTING then
    ({ (d.put SYS_BLK_STATUS.STATE 5).pseudoFrom with cyc := { d.cyc with realign := true } }).pairCycleStop.perfBoundary
  else d

/-- REALIGN_STOP: the faded output has been emitted, RAMP + 2 × Tb after the fade began; the cycle stops (R39). -/
def Dev.realignStop (d : Dev) : Dev :=
  if d.get SYS_BLK_STATUS.STATE = 5 ∧ d.cyc.realign = false ∧ d.ranFor .fadeDown d.fadedNs then d.cycleStop else d

/-- A write of SYS_BLK_CTRL. -/
def Dev.blkCtrlWrite (d : Dev) (w : Word) : Dev :=
  let d := d.store SYS_BLK_CTRL w
  if fget w 0 0 = 1 then d.realign else d

/-- Have 100 µs passed since the latest such period began? At State.reset it began with TCLK at 0. -/
def Dev.pseudoDue (d : Dev) : Bool := decide (100000 ≤ (d.elapsed .pseudo).getD (4 * d.tclk))

/-- PSEUDO_BLOCK: every 100 µs, counted from the latest CHIP reset or from the cycle's leaving RUNNING or stopping, while it is not RUNNING
(R321, R370). -/
def Dev.pseudoBlock (d : Dev) : Dev := if d.running || !d.pseudoDue then d else d.pseudoFrom.loadLatch

/-! ### Alarms (R257, R259) -/

/-- ALARM_FIRE: an armed alarm whose time base has reached its target fires; the block-cycle sequencer's begins the cycle, a serial-port
group's tells the group. Owned alarms disarm as they fire. -/
def Dev.alarmFire (d : Dev) (a sub : Nat) : Dev :=
  if !d.armed a || !d.almReached a then d
  else if d.almFw a then d.almFire a
  else
    let d := d.almFire a
    let d := d.almDisarm a
    if d.get SYS_BLK_STATUS.STATE = 3 ∧ d.get SYS_BLK_CFG.ALARM = a then d.cycleStart sub
    else forN 16 (fun k d => if d.get SAP_GRP_CFG.MEMBERS k != 0 && d.get SAP_GRP_CFG.ALARM k == a && d.running then d.grpAlarm k else d) d

end Sys2Proof.Machine
end

