-- ==== Sys2Proof/Machine/Test.lean ====
section
/-! DEFINITION. Analog test buses, boundary scan, factory test mode (R406 to R415), the scrub engine (R418), fault injection
(R328). -/

namespace Sys2Proof.Machine

/-! ### Analog test buses (R406, R407) -/

/-- A write of TEST_ATB_CFG[b]: outside factory test mode a FORCE of 1 is ignored with FREF (R407). -/
def Dev.atbWrite (d : Dev) (b : Nat) (w : Word) : Dev :=
  if fget w 30 30 = 1 ∧ d.ftm = false then
    ((d.store TEST_ATB_CFG w b).put TEST_ATB_CFG.FORCE (d.get TEST_ATB_CFG.FORCE b) b).put TEST_STAT.FREF 1
  else d.store TEST_ATB_CFG w b

/-! ### Boundary scan (R408 to R412) -/

/-- Length of the boundary register (R410). -/
abbrev bsrCells : Nat := 612

/-- The identification register (R409). -/
abbrev idcode : Nat := 0x110242AF

/-- TAP_RESET: Test-Logic-Reset selects IDCODE and gives the balls back (R408, R412). -/
def Dev.tapReset (d : Dev) : Dev := { d with test := { d.test with ir := 1, dr := 1, dreg := idcode, drive := false } }

/-- What the instruction register captures, and so the 8 bits that every scan of it shifts out (R408). -/
abbrev irCapture : Nat := 1

/-- An instruction is scanned in and reaches Update-IR; while POR is held the TAP stays in Test-Logic-Reset (R408, R412). -/
def Dev.tapLoad (d : Dev) (x : TestSt → TestSt) : Dev :=
  if d.pwr.por then d else { d.emit (.tdo 8 irCapture) with test := x d.test }

/-- An observing instruction in effect: it selects a data register and leaves the balls to the device (R408, R411). -/
def Dev.tapObserve (d : Dev) (code dr dreg latch : Nat) : Dev :=
  d.tapLoad (fun x => { x with ir := code, dr := dr, dreg := dreg, latch := latch, drive := false })

/-- IDCODE. -/
def Dev.tapIdcode (d : Dev) : Dev := d.tapObserve 1 1 idcode d.test.latch

/-- The bypass register selected and the balls left to the device (R408). -/
def Dev.tapToBypass (d : Dev) (code : Nat) : Dev := d.tapObserve code 0 0 d.test.latch

/-- BYPASS, and every code that is no instruction; the codes 0x00 to 0x06 are the other instructions (R408). -/
def Dev.tapBypass (d : Dev) (code : Nat) : Dev := if code < 7 then d else d.tapToBypass code

/-- A scan of the boundary register: the levels it captured leave at TDO (R408, R410). -/
def Dev.bsrOut (d : Dev) (pins : Nat) : Dev := if d.pwr.por then d else d.emit (.tdo bsrCells (pins % 2 ^ bsrCells))

/-- SAMPLE/PRELOAD: the levels `pins` are captured, and `shifted` is loaded into the update latches (R408, R410). -/
def Dev.tapSample (d : Dev) (pins shifted : Nat) : Dev :=
  (d.tapObserve 2 2 (pins % 2 ^ bsrCells) (shifted % 2 ^ bsrCells)).bsrOut pins

/-- May a driving instruction take the balls (R411)? -/
def Dev.tapMay (d : Dev) : Bool := d.ftm || d.noImage

/-- A driving instruction: in effect, or treated as BYPASS with JREF (R411). -/
def Dev.tapDrive (d : Dev) (code dr dreg latch : Nat) : Dev :=
  if d.pwr.por then d
  else if d.tapMay then d.tapLoad (fun x => { x with ir := code, dr := dr, dreg := dreg, latch := latch, drive := true })
  else (d.tapToBypass code).put TEST_STAT.JREF 1

/-- A driving instruction with the boundary register selected: EXTEST, EXTEST_PULSE, EXTEST_TRAIN. From Update-IR on the balls carry the
preload of the update latches; a scan of the boundary register that captures `pins` and has reached Update-DR replaces it with what was
shifted in, and none has with `none` (R408, R410). -/
def Dev.tapExtest (d : Dev) (code pins : Nat) (shifted : Option Nat) : Dev :=
  let e := d.tapDrive code 2 (pins % 2 ^ bsrCells) ((shifted.map (· % 2 ^ bsrCells)).getD d.test.latch)
  if shifted.isSome && d.tapMay then e.bsrOut pins else e

/-- A driving instruction with the bypass register selected: HIGHZ, CLAMP. -/
def Dev.tapHold (d : Dev) (code : Nat) : Dev := d.tapDrive code 0 0 d.test.latch

/-! ### Factory test mode (R413, R414) -/

/-- Factory test mode begins (R413, R414). -/
def Dev.ftmEnter (d : Dev) : Dev :=
  let d := ((d.put TEST_STAT.FTM 1).put FLT_STAT.FTM 1).raise FS.TEST_FTM
  if d.pairOn then d.pairNone else d.setOwnOut false

/-- FTM_KEY: a write of TEST_FTM (R413). -/
def Dev.ftmKey (d : Dev) (key : Nat) : Dev :=
  let seq (s : Option Nat) (d : Dev) : Dev := { d with test := { d.test with key := s } }
  if !d.is TEST_STAT.TESTEN then seq none (d.put TEST_STAT.KEYERR 1)
  else if key = 0x5E7A then
    seq (some d.tclk) (if d.test.key.isSome then d.put TEST_STAT.KEYERR 1 else d)
  else
    match d.test.key with
    | some t => if key = 0xA1C3 ∧ d.tclk ≤ t + 250000 then seq none d.ftmEnter else seq none (d.put TEST_STAT.KEYERR 1)
    | none => d.put TEST_STAT.KEYERR 1

/-! ### ECC and scrub (R306, R418) -/

/-- A soft error arises in the word at an address: 1 correctable, 2 uncorrectable, anything else none. -/
def Dev.eccArise (d : Dev) (a err : Nat) : Dev :=
  match err with
  | 1 => if d.eccBad.contains a || d.eccCor.contains a then d else { d with eccCor := a :: d.eccCor }
  | 2 => if d.eccBad.contains a then d else { d with eccBad := a :: d.eccBad, eccCor := d.eccCor.filter (· != a) }
  | _ => d

/-- Is an address a word of a memory that ECC protects and scrub visits: shared store, local memories, code store, SRAM? -/
def eccWord (a : Nat) : Bool :=
  a % 4 == 0 && ((decide (memShared ≤ a) && decide (a < memShared + 0x1000000)) || (decide (memLocal 0 ≤ a) && decide (a < memLocal 64))
    || (decide (memCode ≤ a) && decide (a < memCode + 0x200000)) || (decide (memSram ≤ a) && decide (a < memSram + 0x80000)))

/-- SCRUB: the engine visits a word, in which an error may have arisen. A correctable one is reported and rewritten, an
uncorrectable one reported and left; the Pleach memory test and the health record follow (R306, R307, R315, R418). The engine visits no
MRAM: for a word there the command says only that an error has arisen in it (DESIGN CHOICE, log entry 138). -/
def Dev.scrub (d : Dev) (a err : Nat) : Dev :=
  if isMram a && a % 4 == 0 then d.eccArise a err else
  if !eccWord a then d else
  let d := d.eccArise a err
  let d := if memShared ≤ a ∧ a < memCode then d.perfEvent 0x22 1 { master := 69, addr := a - memShared } else d
  let acc : Access := { addr := a, master := 69, ty := 1 }
  let sram := decide (memSram ≤ a)
  let d := if sram then d else d.setPair { d.pair with scrubbed := true, scrubBad := d.pair.scrubBad.filter (· != a) }
  if d.eccBad.contains a then
    let d := if sram then d else d.setPair { d.pair with scrubBad := a :: d.pair.scrubBad }
    d.raiseAt (if sram then FS.MGMT_ECC_UNC else FS.THK_ECC_UNC) acc
  else if d.eccCor.contains a then
    ({ d with eccCor := d.eccCor.filter (· != a) }).corrected (if sram then FS.MGMT_ECC_CORR else FS.THK_ECC_CORR) acc
  else d

/-! ### Injection (R328) -/

/-- One injected event of an injection in progress. -/
def Dev.injectEvent (d : Dev) : Dev :=
  if d.flt.injLeft = 0 then d
  else (({ d with flt := { d.flt with injLeft := d.flt.injLeft - 1 } }).startTimer .inject).inject1 d.flt.injSrc

/-- The next injected event, 1 µs after the one before (R328). -/
def Dev.injectNext (d : Dev) : Dev := if d.isDue .inject 1000 then d.injectEvent else d

/-- A write of FLT_INJ: GO starts an injection with its first event in factory test mode; elsewhere the write is ignored, with INJREF (R328).
The reserved sources are never raised (R315). -/
def Dev.injWrite (d : Dev) (w : Word) : Dev :=
  if fget w 31 31 = 1 ∧ d.ftm = false then d.put FLT_STAT.INJREF 1 else
  let d := d.store FLT_INJ w
  if fget w 31 31 = 0 ∨ 169 ≤ d.get FLT_INJ.SRC then d
  else ({ d with flt := { d.flt with injLeft := max 1 (d.get FLT_INJ.COUNT), injSrc := d.get FLT_INJ.SRC } }).injectEvent

/-! ### Fault registers -/

/-- A write of FLT_SEV[k] acknowledges the sources of the bits written 1 (R318). -/
def Dev.sevWrite (d : Dev) (k : Nat) (w : Word) : Dev :=
  forN 32 (fun j d => if fget w j j = 1 then d.fltAck (32 * k + j) else d) d

/-- A write of FLT_SRC_CFG[n]: a running escalation timer goes on against the new ESC; one already passed expires at once, 0
stops it (R329). -/
def Dev.srcCfgWrite (d : Dev) (n : Nat) (w : Word) : Dev :=
  let d := d.store FLT_SRC_CFG w n
  if d.flt.esc.any (fun kv => kv.1 == n) then
    if d.fltEsc n = 0 then { d with flt := { d.flt with esc := tabDel d.flt.esc n } }
    else if 250000 * d.fltEsc n ≤ d.tclk - tabGet 0 d.flt.esc n then d.fltEscalate n
    else d
  else d

/-- A register write of FLT. -/
def Dev.fltWrite (d : Dev) (r : Reg) (i j : Nat) (w : Word) : Dev :=
  if r == FLT_SEV then d.sevWrite i w
  else if r == FLT_GLOG_CTRL then d.glogWrite w
  else if r == FLT_INJ then d.injWrite w
  else if r == FLT_SRC_CFG then d.srcCfgWrite i w
  else d.store r w i j

/-- Has an escalation timer that started at a tick reached ESC, within the 1 % of its accuracy (R318)? -/
def Dev.escDue (d : Dev) (n start : Nat) : Bool := d.fltEsc n != 0 && decide (99 * 250000 * d.fltEsc n ≤ 100 * (d.tclk - start))

/-- ESCALATION_EXPIRE: a running timer reaches ESC (R318). One that was acknowledged at this very tick is carried out too, and leaves the
source IDLE (R329). -/
def Dev.escalationExpire (d : Dev) (n : Nat) : Dev :=
  let (t, start) := tabGet (0, 0) d.flt.acked n
  if d.flt.esc.any (fun kv => kv.1 == n) then (if d.escDue n (tabGet 0 d.flt.esc n) then d.fltEscalate n else d)
  else if d.flt.acked.any (fun kv => kv.1 == n) && t == d.tclk && d.escDue n start then
    ({ d with flt := { d.flt with acked := tabDel d.flt.acked n } }).fltEscalation n
  else d

end Sys2Proof.Machine
end

