-- ==== Sys2Proof/Machine/Bus.lean ====
section
/-! DEFINITION. The register window: decoding, ports, what a write and a read of each register do beyond their fields, mirroring
between the chips of a pair (R8, R301, R302, R357, R360, R374 to R384). -/

namespace Sys2Proof.Machine

/-! ### Ports -/

/-- May a port reach the window: the core, and the host over the interface that BOOTSEL chose; no access comes
through an endpoint that PERST_N holds in reset (R357, R358, R402)? -/
def Dev.portOpen (d : Dev) (port : Nat) : Bool :=
  if port = 65 then d.pcie && !d.mgmt.perstLow else if port = 66 then !d.pcie else true

/-- SYS.BUS_ERR of an access: type 1 read, 2 write (R322, R376). -/
def Dev.busErr (d : Dev) (port a ty : Nat) : Dev := d.raiseAt FS.SYS_BUS_ERR { addr := a, master := port, ty := ty }

/-- A register-window access is counted (R333). -/
def Dev.busCount (d : Dev) (port a : Nat) : Dev := d.perfEvent 0x21 1 { master := port, addr := a }

/-- The same, but for counter `i`, which loses the increment. -/
def Dev.busCountBut (d : Dev) (port a i : Nat) : Dev :=
  let e : PerfEv := { master := port, addr := a }
  forN 32 (fun k d => if k != i && d.get PERF_CNT_CFG.EVENT k == 0x21 && d.cntOn k && d.cntPasses k 0x21 e then d.cntAdd k 1 else d) d

/-- Does an access at an address count in counter `i`? -/
def Dev.busCounts (d : Dev) (port a i : Nat) : Bool :=
  d.get PERF_CNT_CFG.EVENT i == 0x21 && d.cntOn i && d.cntPasses i 0x21 { master := port, addr := a }

/-- A write of PERF_CNT_AUX as the count of that very access wraps: the set of WRAP wins over the W1C (R9, R342); `o` is the device
before the access was counted. -/
def Dev.wrapWins (d o : Dev) (port a i : Nat) : Dev :=
  if o.busCounts port a i && tabGet 0 o.perf.cnt i == 2 ^ 48 - 1 then d.put PERF_CNT_AUX.WRAP 1 i else d

/-- A port's page of the shared-store window (R379). -/
def Dev.ssPage (d : Dev) (port : Nat) : Nat := if port = 64 then d.mgmt.corePage else d.mgmt.hostPage

/-- A write of SYS_SS_PAGE sets the port's own page. -/
def Dev.ssPageWrite (d : Dev) (port : Nat) (w : Word) : Dev :=
  if port = 64 then { d with mgmt := { d.mgmt with corePage := fget w 1 0 } }
  else { d with mgmt := { d.mgmt with hostPage := fget w 1 0 } }

/-- Window ranges (R374). -/
def inRegs (a : Nat) : Bool := decide (a < 0x130000)
/-- The shared-store window. -/
def inShared (a : Nat) : Bool := decide (0x800000 ≤ a) && decide (a < 0xC00000)
/-- The scene store. -/
def inScene (a : Nat) : Bool := decide (0xC00000 ≤ a) && decide (a < 0x1000000)

/-- The management SRAM, which the core alone reaches, in its private space beside the window, by the addresses of R322 (R357, R365). -/
def coreSram (port a : Nat) : Bool := port == 64 && decide (memSram ≤ a) && decide (a < memSram + 0x80000)

/-- The shared-store offset that a window address reaches through a port (R379). -/
def Dev.ssOffset (d : Dev) (port a : Nat) : Nat := d.ssPage port * 0x400000 + (a - 0x800000)

/-! ### What writes do, block by block -/

/-- SYS_SWAP_CTRL: RAMP and ALLOW_RESTART, DISARM, ARM. `build` is the BUILD_ID that a mirrored ARM carries (R34, R301). -/
def Dev.swapCtrlWrite (d : Dev) (w : Word) (build : Option Nat) : Dev :=
  let d := d.store SYS_SWAP_CTRL (fset w 0 0 0)
  let d := if fget w 1 1 = 1 then d.swapDisarm else d
  if fget w 0 0 = 0 ∨ d.is SYS_SWAP_CTRL.ARM = true then d
  else match build with
    | some b => d.swapArmMirrored b
    | none => d.swapArm

/-- SYS_STAGE_CTRL. -/
def Dev.stageWrite (d : Dev) (w : Word) : Dev :=
  let d := d.store SYS_STAGE_CTRL w
  let d := if fget w 1 1 = 1 then d.stageAbort else d
  if fget w 0 0 = 1 then d.stageStart else d

/-- A write of a SYS register. -/
def Dev.sysWrite (d : Dev) (port : Nat) (r : Reg) (i j : Nat) (w : Word) (build : Option Nat) : Dev :=
  if r == SYS_STAGE_CTRL then d.stageWrite w
  else if r == SYS_SWAP_CTRL then d.swapCtrlWrite w build
  else if r == SYS_LOAD_CTRL then (if fget w 15 0 = 0 then d else d.loadChunk (fget w 15 0) (fget w 31 31 == 1))
  else if r == SYS_CHUNK then d.chunkWrite i w
  else if r == SYS_BLKRST then d.blkrstWrite w
  else if r == SYS_SS_PAGE then d.ssPageWrite port w
  else if r == SYS_BLK_CTRL then d.blkCtrlWrite w
  else d.store r w i j

/-- TIME_TB_CTRL: FREE, then SET (R246, R250). -/
def Dev.tbCtrlWrite (d : Dev) (t : Nat) (w : Word) : Dev :=
  let d := d.store TIME_TB_CTRL w t
  let d := if fget w 1 1 = 1 then d.servoTo t 0 else d
  if fget w 0 0 = 1 then d.tbSet t else d

/-- TIME_ALM_CFG: EN = 0 disarms (R258). -/
def Dev.almCfgWrite (d : Dev) (a : Nat) (w : Word) : Dev :=
  let d := d.store TIME_ALM_CFG w a
  if fget w 31 31 = 0 then d.almDisarm a else d

/-- TIME_ALM_NS: with EN = 1 the write arms (R258). -/
def Dev.almNsWrite (d : Dev) (a : Nat) (w : Word) : Dev :=
  let d := d.store TIME_ALM_NS w a
  if d.is TIME_ALM_CFG.EN a then d.almArmFw a else d

/-- TIME_SEL_CTRL: SLEW and the options, then SWITCH (R253, R254). -/
def Dev.selCtrlWrite (d : Dev) (w : Word) : Dev :=
  let d := d.store TIME_SEL_CTRL w
  let d := d.setBo d.selBo
  if fget w 0 0 = 1 then d.selCommand else d

/-- Registers of an alarm. -/
def almReg (r : Reg) : Bool := r == TIME_ALM_CFG || r == TIME_ALM_SEC || r == TIME_ALM_NS || r == TIME_ALM_PER

/-- A write of a TIME register; one of an owned alarm is ignored (R259). -/
def Dev.timeWrite (d : Dev) (r : Reg) (i j : Nat) (w : Word) : Dev :=
  if almReg r && !d.almFw i then d
  else if r == TIME_TB_CTRL then d.tbCtrlWrite i w
  else if r == TIME_TB_RATE_LO then d.rateLoWrite i w.toNat
  else if r == TIME_TB_RATE_HI then d.rateCommit i w.toNat
  else if r == TIME_OFS_VAL then d.offsetFw i w.toInt
  else if r == TIME_ALM_CFG then d.almCfgWrite i w
  else if r == TIME_ALM_NS then d.almNsWrite i w
  else if r == TIME_SEL_CTRL then d.selCtrlWrite w
  else d.store r w i j

/-- MGMT_CTRL: the doorbell interrupts the core, MRST takes a MGMT reset (R357, R368). -/
def Dev.mgmtCtrlWrite (d : Dev) (w : Word) : Dev :=
  let d := if fget w 0 0 = 1 then d.emit .doorbell else d
  if fget w 1 1 = 1 then d.addDue (.block 17 0xFE) else d

/-- MGMT_HPORT_CTRL. -/
def Dev.hportCtrlWrite (d : Dev) (w : Word) : Dev :=
  let d := d.store MGMT_HPORT_CTRL w
  if fget w 16 16 = 1 then d.hportCommit else d

/-- A write of a MGMT register. -/
def Dev.mgmtWrite (d : Dev) (port : Nat) (r : Reg) (i j : Nat) (w : Word) : Dev :=
  if r == MGMT_CTRL then d.mgmtCtrlWrite w
  else if r == MGMT_WDOG then d.wdogWrite w
  else if r == MGMT_WDOG_KICK then d.wdogKick (fget w 15 0)
  else if r == MGMT_VEC_RAISE then d.vecRaise (fget w 5 0)
  else if r == MGMT_HPORT_SEL then d.hportSelect w
  else if r == MGMT_HPORT_DATA then d.hportWrite w
  else if r == MGMT_HPORT_CTRL then d.hportCtrlWrite w
  else if r == MGMT_SCN_WP0 || r == MGMT_SCN_WP1 then (if port = 64 then d.store r w i j else d)
  else if r == MGMT_RING_CFG then d.ringCfgWrite (64 + i) w
  else if r == MGMT_RING_WR then d.ringWrWrite (64 + i) (fget w 15 0)
  else if r == MGMT_RING_RD then d.ringRdWrite (64 + i) (fget w 15 0)
  else d.store r w i j

/-- A write of a PAIR register. -/
def Dev.pairWrite (d : Dev) (r : Reg) (i j : Nat) (w : Word) : Dev :=
  if r == PAIR_CTRL then d.pairCtrl w
  else if r == PAIR_PL_REQ then (d.store r w i j).pleachReady
  else d.store r w i j

/-- A write of a TEST register (R406, R407, R413). -/
def Dev.testWrite (d : Dev) (r : Reg) (i j : Nat) (w : Word) : Dev :=
  if r == TEST_ATB_CFG then d.atbWrite i w
  else if r == TEST_FTM then d.ftmKey (fget w 15 0)
  else d.store r w i j

/-- What a write of a register does. -/
def Dev.regWrite (d : Dev) (port : Nat) (r : Reg) (i j : Nat) (w : Word) (build : Option Nat) : Dev :=
  match r.blk with
  | 0 => d.sysWrite port r i j w build
  | 1 => d.pwrWrite r i j w
  | 2 => d.rcuWrite r i j w
  | 3 => d.alnWrite r i j w
  | 4 => d.timeWrite r i j w
  | 5 => d.hlkWrite r i j w
  | 6 => d.hfbWrite r i j w
  | 7 => d.ethWrite r i j w
  | 9 => d.sapWrite r i j w
  | 11 => d.xptWrite r i j w
  | 12 => d.thkWrite r i j w
  | 13 => d.psmWrite r i j w
  | 14 => d.pairWrite r i j w
  | 15 => d.fltWrite r i j w
  | 16 => d.perfWrite r i j port w
  | 17 => d.mgmtWrite port r i j w
  | 18 => d.testWrite r i j w
  | _ => d.store r w i j

/-! ### Mirroring (R301, R302) -/

/-- Registers whose staged writes are mirrored (R120). -/
def xptStagedReg (r : Reg) : Bool :=
  r == XPT_GEN_CFG || r == XPT_GEN_FREQ || r == XPT_GEN_LEVEL || r == XPT_GEN_SEED || r == XPT_SIL_CFG || r == XPT_PSM_SIL || r == XPT_CMD_DATA

/-- The bits of a register that are mirrored (R301). -/
def mirrorMask (r : Reg) : Nat :=
  if xptStagedReg r || r == XPT_CMD_SLOT || r == XPT_COMMIT || r == XPT_FADE_CFG || r == THK_PCTRL || r == THK_PCOMMIT || r == THK_OVR_TREAT
      || r == SYS_SWAP_TARGET || r == SYS_SWAP_CTRL || r == PSM_PG_CTRL || r == PSM_PG_TIME || r == PSM_DIAG_CFG || r == PSM_CH_CFG
      || r == SAP_PCTRL || r == SAP_GRP_CTRL || r == PAIR_RESYNC then 0xFFFFFFFF
  else if r == XPT_CTRL then 0x7
  else if r == FLOW_MAP then 0xC0000000
  else if r == PSM_CH_STAT then 0x80000000
  else if r == PAIR_CTRL then 0x8
  else 0

/-- A write cut down to the bits of a mask: RW fields outside it keep their present value, the others are written 0. -/
def maskWord (flds : List Fld) (mask : Nat) (w cur : Word) : Word :=
  let keep := fldMask (fun f => f.ty == .rw) flds
  BitVec.ofNat 32 ((w.toNat &&& mask) ||| (cur.toNat &&& keep &&& (0xFFFFFFFF - mask)))

/-- Would the bits of a mask in a write change a field or trigger an action (R302)? -/
def maskActs (flds : List Fld) (mask : Nat) (w cur : Word) : Bool :=
  let rw := fldMask (fun f => f.ty == .rw) flds
  ((w.toNat &&& mask &&& rw) != (cur.toNat &&& mask &&& rw)) || ((w.toNat &&& mask &&& (0xFFFFFFFF - rw)) != 0)

/-- A mirrored STANDBY ignores its own write of the mirrored bits, with WREJ; the register's other fields act (R302). -/
def Dev.mirrorReject (d : Dev) (port : Nat) (r : Reg) (i j : Nat) (w : Word) : Dev :=
  let mask := mirrorMask r
  let cur := d.rd r i j
  if mask = 0xFFFFFFFF then d.put PAIR_EV.WREJ 1
  else
    let acts := maskActs r.flds mask w cur
    let d := if acts then d.put PAIR_EV.WREJ 1 else d
    d.regWrite port r i j (maskWord r.flds (0xFFFFFFFF - mask) w cur) none

/-- The block at whose start a commit armed now is applied. -/
def Dev.commitBlock (d : Dev) (tagged : Bool) (t : Nat) : Nat :=
  if tagged && later32 t d.blk then t else (d.blk + 1) % 2 ^ 32

/-- Commits that a write has armed, as the ACTIVE sends them with their blocks (R301). -/
def Dev.commitMarks (d : Dev) (r : Reg) : Dev :=
  if !d.running then d
  else if r == THK_PCTRL || r == THK_PCOMMIT then
    if d.is THK_PCTRL.ARM then d.emit (.pair 4 [1, 0, d.commitBlock (d.is THK_PCTRL.TAGGED) (d.get THK_PCOMMIT.BLOCK)] []) else d
  else if xptStagedReg r || r == XPT_CTRL || r == XPT_COMMIT then
    let mode := d.get XPT_CTRL.MODE
    if (mode == 0 && !d.xpt.staged.isEmpty) || d.is XPT_CTRL.ARM then
      d.emit (.pair 4 [1, 1, d.commitBlock (mode == 2) (d.get XPT_COMMIT.BLOCK)] [])
    else d
  else d

/-- What a mirrored write carries beside its word: the slot word of a crosspoint command, the BUILD_ID of a swap. -/
def Dev.mirrorAux (d : Dev) (r : Reg) : Nat :=
  if r == XPT_CMD_DATA then (d.rd XPT_CMD_SLOT).toNat
  else if r == SYS_SWAP_CTRL then imgBuild (d.slotImg d.otherSlot)
  else 0

/-- The ACTIVE sends every write of a mirrored register or field, of LATCH the writes of 1, of RESYNC those that it accepts, and then the commits
it armed; `o` is the device before (R301, R305). -/
def Dev.mirrorOut (d o : Dev) (r : Reg) (i j : Nat) (w : Word) : Dev :=
  let sends := if r == PSM_CH_STAT then w.toNat &&& mirrorMask r != 0
    else if r == PAIR_CTRL then w.toNat &&& mirrorMask r != 0 && o.resyncOk
    else true
  if o.role == 2 && o.pair.link && sends then
    (d.emit (.pair 4 [0, r.addr i j, w.toNat, o.mirrorAux r] [])).commitMarks r
  else d

/-- A write of a register by software: mirrored, or rejected where the chip is a mirrored STANDBY. -/
def Dev.regFront (d : Dev) (port : Nat) (r : Reg) (i j : Nat) (w : Word) : Dev :=
  if mirrorMask r = 0 then d.regWrite port r i j w none
  else if d.mirrored then d.mirrorReject port r i j w
  else (d.regWrite port r i j w none).mirrorOut d r i j w

/-- A write through the shared-store window; PARAM and TABLE regions are mirrored (R96, R301, R302). -/
def Dev.ssWrite (d : Dev) (port off : Nat) (w : Word) : Dev :=
  let mir := match d.regionAt off with
    | some r => r.kind == 1 || r.kind == 3
    | none => false
  let d := d.perfEvent 0x22 1 { master := port, addr := off }
  if mir && d.mirrored then d.put PAIR_EV.WREJ 1
  else
    let o := d
    let d := d.storeWrite off w
    if mir && o.role == 2 && o.pair.link then d.emit (.pair 4 [0, memShared + off, w.toNat, 0] []) else d

/-! ### Accesses -/

/-- A write of a register at an address, with what its own count, made at the same tick, does to a counter written: an increment
that meets a write of the count is lost, with WRLOST; a wrap that meets a W1C of WRAP, or of vector 3 in MGMT_VEC_PEND0, sets it (R9,
R337, R342). -/
def Dev.regAccess (d o : Dev) (port a : Nat) (r : Reg) (i j : Nat) (w : Word) : Dev :=
  if r == PERF_CNT_LO && !o.inReset r.blk then
    let c := (o.busCountBut port a i).regFront port r i j w
    if o.busCounts port a i then c.put PERF_CNT_AUX.WRLOST 1 i else c
  else if r == PERF_CNT_AUX then (d.regFront port r i j w).wrapWins o port a i
  else if r == MGMT_VEC_PEND0 then (o.regFront port r i j w).busCount port a
  else d.regFront port r i j w

/-- A word write of the window (R374 to R378), or of the core to its SRAM. -/
def Dev.busWrite (d : Dev) (port a : Nat) (w : Word) : Dev :=
  if !d.portOpen port then d else
  if coreSram port a && a % 4 == 0 then d.setMemW a w else
  let o := d
  let d := d.busCount port a
  if a % 4 ≠ 0 then d.busErr port a 2
  else if inRegs a then
    match decodeReg a with
    | some (r, i, j) => d.regAccess o port a r i j w
    | none => d.busErr port a 2
  else if inShared a then d.ssWrite port (d.ssOffset port a) w
  else if inScene a then d.sceneWrite port a w
  else d.busErr port a 2

/-- Registers whose read loads them first, or acts (R231, R246, R261, R275, R277, R286, R345, R351). -/
def Dev.regBeforeRead (d : Dev) (r : Reg) (i : Nat) : Dev :=
  if r == TIME_TB_T0 then d.tbRead i
  else if r == TIME_CAP_T0 then d.capRead i
  else if r == ETH_TXTS_INFO then d.txtsPop i
  else if r == XPT_RD_SRC || r == XPT_RD_GAIN then d.xptRead r
  else if r == RCU_LOOP_STAT then d.loopHvalid i
  else if r == RCU_LOOP_PHASE then d.phaseRead i
  else if r == PWR_VBUS then d.senseVbus
  else if r == PWR_TJ then d.senseTj
  else if r == ALN_DLL_TSZ then d.putTsz i
  else d

/-- The word that a read of a register returns, and the device after it (R8, R376, R384). -/
def Dev.regRead (d : Dev) (port : Nat) (r : Reg) (i j : Nat) : Word × Dev :=
  if r.dom == .block && d.inReset r.blk then (regLoad (d.imgSet r i) r.flds (r.rstAt i j), d)
  else if r == SYS_SS_PAGE then (BitVec.ofNat 32 (d.ssPage port), d)
  else if r == FLT_GLOG_DATA then d.glogData i port
  else if r == MGMT_HPORT_DATA then d.hportRead port
  else if r == PERF_CNT_LO then d.cntLoRead port i
  else if r == PERF_CNT_HI then (d.cntHiRead port i, d)
  else if r == PERF_SLOT_LO then d.slotLoRead port i j
  else if r == PERF_SLOT_HI then (d.slotHiRead port i j, d)
  else
    let d := d.regBeforeRead r i
    let cur := d.rd r i j
    let v := regLoad (d.imgSet r i) r.flds cur
    (v, if r.flds.any (fun f => f.ty == .rc) then d.wr r (regAfterRead r.flds cur) i j else d)

/-- A read through the shared-store window. -/
def Dev.ssRead (d : Dev) (port off : Nat) : Word × Dev :=
  (d.perfEvent 0x22 1 { master := port, addr := off }).eccRead (memShared + off) FS.THK_ECC_CORR FS.THK_ECC_UNC port

/-- A word read of the window (R374 to R378), or of the core from its SRAM. An increment at the tick of a PERF_CNT_LO read is counted after
it (R336). -/
def Dev.busRead (d : Dev) (port a : Nat) : Word × Dev :=
  if coreSram port a && a % 4 == 0 then d.eccRead a FS.MGMT_ECC_CORR FS.MGMT_ECC_UNC port else
  let o := d
  let d := d.busCount port a
  if a % 4 ≠ 0 then (0, d.busErr port a 1)
  else if inRegs a then
    match decodeReg a with
    | some (r, i, j) =>
      if r == PERF_CNT_LO then let (v, d) := o.regRead port r i j; (v, d.busCount port a)
      else (if r.hasImage && !d.imgSet r i then d.busErr port a 1 else d).regRead port r i j
    | none => (0, d.busErr port a 1)
  else if inShared a then d.ssRead port (d.ssOffset port a)
  else if inScene a then d.sceneRead a port
  else (0, d.busErr port a 1)

/-- A read whose word goes back to its port. -/
def Dev.busLoad (d : Dev) (port a : Nat) : Dev :=
  if !d.portOpen port then d else
  let (v, d) := d.busRead port a
  d.emit (.rdata port a v)

/-- The memory word that an address reads, where it reads one (R315, R322, R418). -/
def Dev.readTarget (d : Dev) (port a : Nat) : Option Nat :=
  if inShared a then some (memShared + d.ssOffset port a)
  else if inScene a then some a
  else if coreSram port a then some a
  else if FLT_GLOG_DATA.addr 0 0 ≤ a ∧ a < FLT_GLOG_DATA.addr 0 0 + 32 then
    some (graveLog + 32 * d.get FLT_GLOG_CTRL.SEL + (a - FLT_GLOG_DATA.addr 0 0))
  else if a = MGMT_HPORT_DATA.addr 0 0 then d.hportRing.map (fun q => d.ringBase q + d.get MGMT_HPORT_CTRL.CURSOR)
  else none

/-- REG_READ: a read that finds an error which has arisen in the word read: 1 correctable, 2 uncorrectable (R8, R418). -/
def Dev.busLoadErr (d : Dev) (port a err : Nat) : Dev :=
  let d := match d.readTarget port a with
    | some m => d.eccArise m err
    | none => d
  d.busLoad port a

/-- UNDECODED_ACCESS: an access, narrower than a word where `narrow` (R375, R376). -/
def Dev.busOdd (d : Dev) (port a : Nat) (narrow : Bool) (wr : Option Word) : Dev :=
  if narrow then
    if !d.portOpen port then d else
    match wr with
    | some _ => (d.busCount port a).busErr port a 2
    | none => ((d.busCount port a).busErr port a 1).emit (.rdata port a 0)
  else
    match wr with
    | some w => d.busWrite port a w
    | none => d.busLoad port a

/-- SPI_WRITE: successive words from a word-aligned address (R360). -/
def Dev.spiWrite (d : Dev) (a : Nat) (ws : List Word) : Dev :=
  if a % 4 ≠ 0 then d else (ws.foldl (fun (acc : Nat × Dev) w => (acc.1 + 4, acc.2.busWrite 66 (acc.1 % 2 ^ 24) w)) (a, d)).2

/-- SPI_READ: `n` words begun from a word-aligned address (R360). -/
def Dev.spiRead (d : Dev) (a : Nat) : Nat → Dev
  | 0 => d
  | n + 1 => if a % 4 ≠ 0 then d else (d.spiRead a n).busLoad 66 ((a + 4 * n) % 2 ^ 24)

/-- The STANDBY applies a mirrored write as its own (R301). -/
def Dev.mirrorWrite (d : Dev) (a : Nat) (w : Word) (aux : Nat) : Dev :=
  if memShared ≤ a then
    let off := a - memShared
    ((d.busCount 68 (0x800000 + off % 0x400000)).perfEvent 0x22 1 { master := 68, addr := off }).storeWrite off w
  else
    let d := d.busCount 68 a
    match decodeReg a with
    | some (r, i, j) =>
      let d := if r == XPT_CMD_DATA then d.wr XPT_CMD_SLOT (BitVec.ofNat 32 aux) else d
      if mirrorMask r = 0 then d
      else if r == PAIR_CTRL then (if fget w 3 3 == 1 then d.pairResyncMirrored else d)
      else d.regWrite 68 r i j (maskWord r.flds (mirrorMask r) w (d.rd r i j)) (some aux)
    | none => d.busErr 68 a 2

/-- A MIRROR frame from the ACTIVE: a write, or a commit with its block (R301). -/
def Dev.mirrorCommit (d : Dev) (xpt : Bool) (b : Nat) : Dev :=
  if !d.mirrored then d
  else if xpt then d.setPair { d.pair with markX := d.pair.markX ++ [b % 2 ^ 32] }
  else d.setPair { d.pair with markT := d.pair.markT ++ [b % 2 ^ 32] }

end Sys2Proof.Machine
end

