-- ==== Sys2Proof/Machine/State.lean ====
section
/-! DEFINITION. The state of the block: the device, and the commands that wait. The content of the device stands in Dev.lean. -/

namespace Sys2Proof.Machine

/-- The block: the device, and the queue of the commands sent to it, the first to be taken first. -/
structure State where
  dev : Dev := {}
  pending : List Instr := []
deriving DecidableEq, Repr

/-- The reasons for a fault. No rule of the manual stops the device, and no meaning answers with a fault: there is none. -/
inductive Fault where
deriving DecidableEq, Repr

/-- The reasons for a refusal. -/
inductive Refusal where
  /-- A command that the model gives no meaning (safe). Nothing raises it: every row of the opcode table has its meaning. -/
  | notModelled (mnemonic : String)
deriving DecidableEq, Repr

/-- What a command answers. -/
abbrev Reply := Host.Outcome State Fault Refusal

/-- The machine right after reset: POR released, RESET_N high, every register at its reset word, memory and fuses blank, nothing
booted yet (R10, R21, R354). -/
def State.reset : State := { dev := { pwr := { por := false, step := 7 } } }

end Sys2Proof.Machine
end

