-- ==== Sys2Proof/Machine/Operands.lean ====
section
/-! DEFINITION. Operand forms: ports, addresses that an operand names; how a command is run on the device: an event that comes after a
time, an access, an issued instruction; the operations of commands that touch several blocks. -/

namespace Sys2Proof.Machine

/-! ### Operands -/

/-- The master number of a port (R322). -/
def portNum : Port → Nat
  | .core => 64
  | .pcie => 65
  | .spi => 66

/-- The address of a register whose writes are staged (R120). -/
def xptRegAddr : XptReg → Nat
  | .genCfg g => XPT_GEN_CFG.addr g 0
  | .genFreq g => XPT_GEN_FREQ.addr g 0
  | .genLevel g => XPT_GEN_LEVEL.addr g 0
  | .genSeed g => XPT_GEN_SEED.addr g 0
  | .silCfg x => XPT_SIL_CFG.addr x 0
  | .psmSil n => XPT_PSM_SIL.addr n 0

/-- The address of a rank word of a loop, or of its control register (R268). -/
def rankAddr (k : Fin 4) (x : Option (Fin 3)) : Nat :=
  match x with
  | some j => RCU_LOOP_RANK.addr k j
  | none => RCU_LOOP_CTRL.addr k 0

/-- The window address of word k of a port's page of the shared-store window (R379). -/
def sharedAddr (k : Nat) : Nat := 0x800000 + 4 * k

/-- The window address of word k of the scene store (R374). -/
def sceneAddr (k : Nat) : Nat := memScene + 4 * k

/-! ### Operations over several blocks -/

/-- CARRIER_PERIOD: the carrier period of a group, with what the pair does around it (R141, R155, R308, R313). -/
def Dev.carrierTurn (d : Dev) (g v : Nat) : Dev := (((d.pairCarrier g).dipOwn g).carrierPeriod g v).pairSendVbus g

/-- FRAME_START: a frame start at a serial port, which a capture unit may stamp on the edge that FMT and FSPOL define (R158, R169, R260,
R308). -/
def Dev.serialFrame (d : Dev) (q bclk : Nat) (ofs : Int) (ws : List Word) : Dev :=
  let d := d.captureEvent (12 + q) (!d.frameFalls q)
  let d := if (d.leaderOf q).isSome then d else
    forN 16 (fun p d => if p == q || d.leaderOf p == some q then d.pairFrame p else d) d
  d.frameStart q bclk ofs ws

/-- MIRROR_RECEIVE: a MIRROR frame acts on a STANDBY (R301). -/
def Dev.mirrorReceive (d : Dev) (x : MirrorMsg) : Dev :=
  let d := d.setPair { d.pair with link := true }
  if d.role ≠ 3 then d
  else match x with
    | .write a w aux => d.mirrorWrite a w aux
    | .commit xpt b => d.mirrorCommit xpt b

/-- WDOG_EXPIRE: the watchdog's time is over: WDEV, vector 4, MGMT.WDOG, a MGMT reset (R366, R368). -/
def Dev.wdogExpire (d : Dev) : Dev :=
  if !d.wdogDue then d else
  let d := ((d.put MGMT_STAT.WDEV 1).raiseVec 4).raise FS.MGMT_WDOG
  if d.flt.due.contains (.block 17 FS.MGMT_WDOG) then d else d.addDue (.block 17 FS.MGMT_WDOG)

/-- Is an event code one that counts (R333)? -/
def eventListed (c : Nat) : Bool :=
  c ∈ [1, 2, 3, 4, 5, 6, 7, 8, 9, 0xA, 0xB, 0xC, 0xD, 0xE, 0x10, 0x11, 0x12, 0x13, 0x18, 0x19, 0x1A, 0x1B, 0x20, 0x21, 0x22]

/-- COUNTER_WRAP: a counter at its highest count counts once more. Where it counts pace ticks that is one more pace tick, which every counter
and every busy Sprig's slot counters see; a counter that is off or whose EVENT is not listed counts nothing (R331 to R333, R338). -/
def Dev.counterWrap (d : Dev) (i : Nat) : Dev :=
  let ev := d.get PERF_CNT_CFG.EVENT i
  if !(d.cntOn i && tabGet 0 d.perf.cnt i == 2 ^ 48 - 1 && eventListed ev) then d
  else if ev == 1 || ev == 2 then
    if d.cntEveryTick i then ({ d with pace := (d.pace + 1) % 2 ^ 48 }).perfTicks 1 else d
  else d.cntAdd i 1

/-! ### Running a command -/

/-- What follows every command that may touch a clock or a block: clocks, resets that are due, pins, PSM frames, the election of the time
source, the tests that run continuously; `o` is the device before. -/
def Dev.finish (d o : Dev) : Dev := ((d.clockSync.settle.pairSendPsm o).electOnChange o).pleachCont

/-- An event `dt` TCLK ticks after the command before it. A device held in POR or by RESET_N only lets the time pass. -/
def Dev.event (d : Dev) (dt : Nat) (op : Dev → Dev) : Dev :=
  let o := d.elapse dt
  if o.heldReset then o else (op o).finish o

/-- An event at the supply, at RESET_N, at the test access port or at an input that a held reset does not mask. -/
def Dev.pinEvent (d : Dev) (dt : Nat) (op : Dev → Dev) : Dev := (op (d.elapse dt)).settle

/-- An access of software, which takes no time; none is served while a reset is held. -/
def Dev.access (d : Dev) (op : Dev → Dev) : Dev := if d.heldReset then d else (op d).finish d

/-- A Sprig goes on by one instruction, which takes no time. -/
def Dev.issued (d : Dev) (op : Dev → Dev) : Dev := if d.heldReset then d else (op d).settle

/-- A command acts on the device and leaves the queue. -/
def State.after (s : State) (f : Dev → Dev) : Reply := .next { s with dev := f s.dev }

end Sys2Proof.Machine
end

