-- ==== Sys2Proof/Machine/CmdAlignment.lean ====
section
/-! DEFINITION. The meanings of the commands of the alignment DLLs. -/

namespace Sys2Proof.Machine

/-- DLL_LOCK: The DLL span equals the MCLK period: the DLL enters ALIGNING (R286). -/
def execDllLock (dt : Nat) (x : Fin 28) (s : State) : Reply :=
  s.after (fun d => d.event dt (fun d => d.dllLock x))

/-- DLL_ANCHOR: An anchor instant: the DLL aligns and ungates, or measures ERR and steps a tap (R289). -/
def execDllAnchor (dt : Nat) (x : Fin 28) (sec frac : Nat) (err : Int) (s : State) : Reply :=
  s.after (fun d => d.event dt (fun d => d.dllAnchor x (sec * 16000000000 + frac) err))

/-- DLL_UNLOCK: The span drifts by more than 4 taps: outputs are gated and ALN.UNLOCK raised (R286). -/
def execDllUnlock (dt : Nat) (x : Fin 28) (s : State) : Reply :=
  s.after (fun d => d.event dt (fun d => d.dllUnlock x))

/-- DLL_REALIGN: REALIGN gates the DLL and realigns it at the next anchor (R290). -/
def execDllRealign (p : Port) (x : Fin 28) (w : Word) (s : State) : Reply :=
  s.after (fun d => d.access (fun d => d.busWrite (portNum p) (ALN_DLL_CTRL.addr x 0) w))

/-- OUT_OFS_WRITE: A write of ALN_OUT_OFS while RUN realigns the output (R290). -/
def execOutOfsWrite (p : Port) (o : Fin 8) (w : Word) (s : State) : Reply :=
  s.after (fun d => d.access (fun d => d.busWrite (portNum p) (ALN_OUT_OFS.addr o 0) w))

end Sys2Proof.Machine
end

