-- ==== Sys2Proof/Machine/CmdBlockCycle.lean ====
section
/-! DEFINITION. The meanings of the commands of the block cycle. -/

namespace Sys2Proof.Machine

/-- BLOCK_CYCLE_ARM: The block loop reports lock, or the servo locks with WAIT_SYNC set: the sequencer arms the block-cycle alarm (R39). -/
def execBlockCycleArm (dt : Nat) (s : State) : Reply :=
  s.after (fun d => d.event dt (fun d => d.cycleArm))

/-- SYNC_TIMEOUT: SYNC_TMO seconds pass in WAIT_SYNC: FREE is set and the cycle is armed (R39). -/
def execSyncTimeout (dt : Nat) (s : State) : Reply :=
  s.after (fun d => d.event dt (fun d => d.syncTimeout))

/-- BLOCK_BOUNDARY: Nb × MCLK/Fi MCLK periods elapse: the block counter increments and a new block begins (R40). -/
def execBlockBoundary (dt : Nat) (sub : Fin 64) (sense : List (Nat × List Int)) (s : State) : Reply :=
  s.after (fun d => d.event dt (fun d => d.boundary sub sense))

/-- BLOCK_REALIGN: REALIGN command on a RUNNING cycle: the cycle is made to fade out, stop and restart (R39). -/
def execBlockRealign (p : Port) (w : Word) (s : State) : Reply :=
  s.after (fun d => d.access (fun d => d.busWrite (portNum p) (SYS_BLK_CTRL.addr 0 0) w))

/-- REALIGN_STOP: RAMP + 2 × Tb after the fade began, the cycle stops and returns to WAIT_LOOP (R39). -/
def execRealignStop (dt : Nat) (s : State) : Reply :=
  s.after (fun d => d.event dt (fun d => d.realignStop))

/-- SEAL_COMPLETE: The seal completes: ready counters are loaded and root jobs are pushed (R86). -/
def execSealComplete (dt : Nat) (s : State) : Reply :=
  s.after (fun d => d.event dt (fun d => d.sealComplete))

/-- XPT_PASS_DONE: The crosspoint pass completes: destinations, fades, gain steps and silence detectors are updated and XIN jobs become ready (R119). -/
def execXptPassDone (dt : Nat) (s : State) : Reply :=
  s.after (fun d => d.event dt (fun d => d.passDone))

/-- DEADLINE: Deadline D of the instance: unfinished jobs are dropped or stopped and the output stage takes the outputs (R93). -/
def execDeadline (dt : Nat) (s : State) : Reply :=
  s.after (fun d => d.event dt (fun d => d.deadline))

end Sys2Proof.Machine
end

