-- ==== Sys2Proof/Machine/CmdBoot.lean ====
section
/-! DEFINITION. The meanings of the commands of the boot, image loading, staging and swaps. -/

namespace Sys2Proof.Machine

/-- BOOT_START: RESET_N rises or POR is released: the boot ROM samples BOOTSEL and chooses the boot source (R21). -/
def execBootStart (dt : Nat) (sel : Fin 4) (s : State) : Reply :=
  s.after (fun d => d.pinEvent dt (fun d => d.bootStart sel))

/-- FLASH_DIRECTORY_READ: Both flash directory copies have been read; the loader picks the valid copy with the higher SEQ and the slot to try (R22). -/
def execFlashDirectoryRead (dt : Nat) (a b : List Byte) (s : State) : Reply :=
  s.after (fun d => d.event dt (fun d => d.directoryRead a b))

/-- IMAGE_DATA_ARRIVE: Image bytes arrive from flash or host and are checked in order: header, section table, section CRCs, PORT_FP and DIGEST (R24). -/
def execImageDataArrive (dt : Nat) (bs : List Byte) (s : State) : Reply :=
  s.after (fun d => d.event dt (fun d => d.imageData bs))

/-- SIGNATURE_VERIFIED: Signature verification completes and authentication is judged under R18 or R19 (R20). -/
def execSignatureVerified (dt : Nat) (s : State) : Reply :=
  s.after (fun d => d.event dt (fun d => d.signatureVerified))

/-- SECTIONS_APPLIED: All sections have been applied to their blocks: the firmware starts and loops, time bases and links begin acquisition (R28). -/
def execSectionsApplied (dt : Nat) (s : State) : Reply :=
  s.after (fun d => d.event dt (fun d => d.sectionsApplied))

/-- FLASH_READ_ERROR: A flash read fails or the trailer lacks a valid TMAGIC: the attempt ends with reason 0x0E (R25). -/
def execFlashReadError (dt : Nat) (s : State) : Reply :=
  s.after (fun d => d.event dt (fun d => d.flashError))

/-- HOST_LOAD_TIMEOUT: The host leaves more than 1 s between chunks: the attempt ends with reason 0x0F (R25). -/
def execHostLoadTimeout (dt : Nat) (s : State) : Reply :=
  s.after (fun d => d.event dt (fun d => d.hostTimeout))

/-- CHUNK_WRITE: A write to SYS_CHUNK stores the word, or is discarded and sets ERROR while READY = 0 (R27). -/
def execChunkWrite (p : Port) (i : Fin 8192) (w : Word) (s : State) : Reply :=
  s.after (fun d => d.access (fun d => d.busWrite (portNum p) (SYS_CHUNK.addr i 0) w))

/-- LOAD_CHUNK: A write of SYS_LOAD_CTRL.LEN hands a chunk to the loader (R25). -/
def execLoadChunk (p : Port) (w : Word) (s : State) : Reply :=
  s.after (fun d => d.access (fun d => d.busWrite (portNum p) (SYS_LOAD_CTRL.addr 0 0) w))

/-- LOAD_LAST_CHUNK: A write of LEN with LAST = 1 hands the final chunk; a short image is judged when the chunk is taken (R25). -/
def execLoadLastChunk (p : Port) (w : Word) (s : State) : Reply :=
  s.after (fun d => d.access (fun d => d.busWrite (portNum p) (SYS_LOAD_CTRL.addr 0 0) w))

/-- CHUNK_TAKEN: The loader finishes taking a chunk and READY rises again (R416). -/
def execChunkTaken (dt : Nat) (s : State) : Reply :=
  s.after (fun d => d.event dt (fun d => d.chunkTaken))

/-- STAGE_START: START begins staging an image into the slot that is not RUNNING (R29). -/
def execStageStart (p : Port) (w : Word) (s : State) : Reply :=
  s.after (fun d => d.access (fun d => d.busWrite (portNum p) (SYS_STAGE_CTRL.addr 0 0) w))

/-- STAGE_ABORT: ABORT stops staging and the slot becomes EMPTY (R34). -/
def execStageAbort (p : Port) (w : Word) (s : State) : Reply :=
  s.after (fun d => d.access (fun d => d.busWrite (portNum p) (SYS_STAGE_CTRL.addr 0 0) w))

/-- STAGING_COMPLETE: Staging finishes: the slot becomes STAGED or INVALID and HITLESS_OK is evaluated (R30). -/
def execStagingComplete (dt : Nat) (s : State) : Reply :=
  s.after (fun d => d.event dt (fun d => d.stagingComplete))

/-- SWAP_ARM: ARM arms a swap for SYS_SWAP_TARGET.BLOCK, or is refused as not staged or late (R34). -/
def execSwapArm (p : Port) (w : Word) (s : State) : Reply :=
  s.after (fun d => d.access (fun d => d.busWrite (portNum p) (SYS_SWAP_CTRL.addr 0 0) w))

/-- SWAP_DISARM: DISARM cancels an armed swap before its target boundary (R34). -/
def execSwapDisarm (p : Port) (w : Word) (s : State) : Reply :=
  s.after (fun d => d.access (fun d => d.busWrite (portNum p) (SYS_SWAP_CTRL.addr 0 0) w))

/-- RESTART_SILENT: RAMP + 2 × Tb after a planned restart begins, outputs are silent and the block cycle stops (R33). -/
def execRestartSilent (dt : Nat) (s : State) : Reply :=
  s.after (fun d => d.event dt (fun d => d.restartSilent))

end Sys2Proof.Machine
end

