-- ==== Sys2Proof/Machine/CmdConverters.lean ====
section
/-! DEFINITION. The meanings of the commands of the asynchronous rate converters. -/

namespace Sys2Proof.Machine

/-- ASRC_START: Port samples arrive at an IDLE converted channel: it enters ACQUIRE (R112). -/
def execAsrcStart (dt : Nat) (c : Fin 256) (ratio : Nat) (s : State) : Reply :=
  s.after (fun d => d.event dt (fun d => d.convStart c ratio))

/-- ASRC_LOCK: The ratio error stays below 1 ppm for 50 ms: the channel enters LOCKED and fades in (R112). -/
def execAsrcLock (dt : Nat) (c : Fin 256) (ratio : Nat) (dly : Int) (s : State) : Reply :=
  s.after (fun d => d.event dt (fun d => d.convLock c ratio dly))

/-- ASRC_SLIP: The ratio error stays above 1,000 ppm for 1 ms: the channel enters RETRACK and ASRC.SLIP is raised (R112). -/
def execAsrcSlip (dt : Nat) (c : Fin 256) (ratio : Nat) (s : State) : Reply :=
  s.after (fun d => d.event dt (fun d => d.convSlip c ratio))

/-- ASRC_RANGE_CLEAR: The ratio stays within range for 100 ms: the channel returns to ACQUIRE (R112). -/
def execAsrcRangeClear (dt : Nat) (c : Fin 256) (ratio : Nat) (s : State) : Reply :=
  s.after (fun d => d.event dt (fun d => d.convRangeClear c ratio))

/-- ASRC_IDLE: No port sample for 4 expected periods: the channel returns to IDLE (R112). -/
def execAsrcIdle (dt : Nat) (c : Fin 256) (s : State) : Reply :=
  s.after (fun d => d.event dt (fun d => d.convIdle c))

end Sys2Proof.Machine
end

