-- ==== Sys2Proof/Machine/CmdCounters.lean ====
section
/-! DEFINITION. The meanings of the commands of the performance counters and sampling. -/

namespace Sys2Proof.Machine

/-- CNT_LO_READ: A read of PERF_CNT_LO returns the low word and snapshots the high bits for the port (R336). -/
def execCntLoRead (p : Port) (i : Fin 32) (s : State) : Reply :=
  s.after (fun d => d.access (fun d => d.busLoad (portNum p) (PERF_CNT_LO.addr i 0)))

/-- CNT_HI_WRITE: A write of PERF_CNT_HI stages the high bits for the port (R337). -/
def execCntHiWrite (p : Port) (i : Fin 32) (w : Word) (s : State) : Reply :=
  s.after (fun d => d.access (fun d => d.busWrite (portNum p) (PERF_CNT_HI.addr i 0) w))

/-- CNT_LO_WRITE: A write of PERF_CNT_LO replaces the count with the staged and written bits (R337). -/
def execCntLoWrite (p : Port) (i : Fin 32) (w : Word) (s : State) : Reply :=
  s.after (fun d => d.access (fun d => d.busWrite (portNum p) (PERF_CNT_LO.addr i 0) w))

/-- SLOT_CLEAR: CLR replaces every slot counter with 0 (R337). -/
def execSlotClear (p : Port) (w : Word) (s : State) : Reply :=
  s.after (fun d => d.access (fun d => d.busWrite (portNum p) (PERF_SLOT_CTRL.addr 0 0) w))

/-- SLOT_LO_READ: A read of PERF_SLOT_LO snapshots the high bits of a slot counter (R336). -/
def execSlotLoRead (p : Port) (m : Fin 64) (c : Fin 4) (s : State) : Reply :=
  s.after (fun d => d.access (fun d => d.busLoad (portNum p) (PERF_SLOT_LO.addr m c)))

/-- COUNTER_WRAP: A counter wraps: WRAP is set and the PERF interrupt is raised when enabled (R338). -/
def execCounterWrap (dt : Nat) (i : Fin 32) (s : State) : Reply :=
  s.after (fun d => d.event dt (fun d => d.counterWrap i))

/-- SAMPLE_RECORD: A sampling interval completes and the instruction is recorded to the trace ring (R339). -/
def execSampleRecord (dt : Nat) (s : State) : Reply :=
  s.after (fun d => d.event dt (fun d => d.sampleRecord))

end Sys2Proof.Machine
end

