-- ==== Sys2Proof/Machine/CmdCrosspoint.lean ====
section
/-! DEFINITION. The meanings of the commands of the crosspoint. -/

namespace Sys2Proof.Machine

/-- XPT_ROUTE_CMD: A write of XPT_CMD_DATA with OP = route stages a route command for a slot (R123). -/
def execXptRouteCmd (p : Port) (w : Word) (s : State) : Reply :=
  s.after (fun d => d.access (fun d => d.busWrite (portNum p) (XPT_CMD_DATA.addr 0 0) w))

/-- XPT_GAIN_CMD: A write of XPT_CMD_DATA with OP = gain stages a gain command for a slot (R127). -/
def execXptGainCmd (p : Port) (w : Word) (s : State) : Reply :=
  s.after (fun d => d.access (fun d => d.busWrite (portNum p) (XPT_CMD_DATA.addr 0 0) w))

/-- XPT_STAGED_WRITE: A write to a generator, silence-configuration or PSM-link register is staged for the next commit (R120). -/
def execXptStagedWrite (p : Port) (x : XptReg) (w : Word) (s : State) : Reply :=
  s.after (fun d => d.access (fun d => d.busWrite (portNum p) (xptRegAddr x) w))

/-- XPT_ARM: XPT_CTRL.ARM arms a commit of the staged crosspoint writes (R120). -/
def execXptArm (p : Port) (w : Word) (s : State) : Reply :=
  s.after (fun d => d.access (fun d => d.busWrite (portNum p) (XPT_CTRL.addr 0 0) w))

/-- FADE_COMPLETE: A fade reaches sample L − 1; deferred and held route commands start (R125). -/
def execFadeComplete (dt : Nat) (slot : Fin 32768) (lone : Bool) (s : State) : Reply :=
  s.after (fun d => d.event dt (fun d => d.fadeComplete slot lone))

/-- ZC_TIMEOUT: No crossing within T samples: the pending gain applies at sample T (R127). -/
def execZcTimeout (dt : Nat) (slot : Fin 32768) (s : State) : Reply :=
  s.after (fun d => d.event dt (fun d => d.zcTimeout slot))

/-- SILENCE_ENTER: H consecutive blocks below threshold: the destination becomes SILENT (R131). -/
def execSilenceEnter (dt : Nat) (x : Fin 4096) (s : State) : Reply :=
  s.after (fun d => d.event dt (fun d => d.silEnter x))

end Sys2Proof.Machine
end

