-- ==== Sys2Proof/Machine/CmdEthernet.lean ====
section
/-! DEFINITION. The meanings of the commands of the Ethernet ports and streams. -/

namespace Sys2Proof.Machine

/-- FRAME_RECEIVE: An Ethernet frame is filtered, stamped and delivered to its ring, or discarded (R228). -/
def execFrameReceive (dt : Nat) (e : Fin 2) (fcs : Bool) (f : List Byte) (s : State) : Reply :=
  s.after (fun d => d.event dt (fun d => d.ethReceive e fcs f))

/-- RTP_RECEIVE: An RTP packet of an enabled stream is placed by presentation instant, or counted late or early (R238). -/
def execRtpReceive (dt : Nat) (e : Fin 2) (fcs : Bool) (f : List Byte) (s : State) : Reply :=
  s.after (fun d => d.event dt (fun d => d.ethReceive e fcs f))

/-- FRAME_TRANSMIT: A frame from a transmit ring is sent, with one-step insertion or stamp capture (R231). -/
def execFrameTransmit (dt : Nat) (e : Fin 2) (s : State) : Reply :=
  s.after (fun d => d.event dt (fun d => d.frameTransmit e))

/-- TXTS_POP: A read of ETH_TXTS_INFO pops a transmit stamp and loads SEC and NS (R231). -/
def execTxtsPop (p : Port) (e : Fin 2) (s : State) : Reply :=
  s.after (fun d => d.access (fun d => d.busLoad (portNum p) (ETH_TXTS_INFO.addr e 0)))

/-- ETH_LINK_LOSS: A port link is lost and ETH.LINK is raised (R242). -/
def execEthLinkLoss (dt : Nat) (e : Fin 2) (s : State) : Reply :=
  s.after (fun d => d.event dt (fun d => d.ethLinkLoss e))

/-- STREAM_ENABLE: A write of ETH_STR_CTRL.EN starts a stream, or stops it after the packet in progress (R243). -/
def execStreamEnable (p : Port) (x : Fin 128) (w : Word) (s : State) : Reply :=
  s.after (fun d => d.access (fun d => d.busWrite (portNum p) (ETH_STR_CTRL.addr x 0) w))

/-- ETH_LINK_UP: An Ethernet port's link comes up: LINK reads 1 and streams stopped by a block reset restart at the next boundary (R243). -/
def execEthLinkUp (dt : Nat) (e : Fin 2) (s : State) : Reply :=
  s.after (fun d => d.event dt (fun d => d.ethLinkUp e))

end Sys2Proof.Machine
end

