-- ==== Sys2Proof/Machine/CmdFabric.lean ====
section
/-! DEFINITION. The meanings of the commands of the Hedgerow fabric. -/

namespace Sys2Proof.Machine

/-- HELLO_SEND: Every 1 ms a HELLO cell is sent on each ACTIVE link (R205). -/
def execHelloSend (dt : Nat) (l : Fin 8) (s : State) : Reply :=
  s.after (fun d => d.event dt (fun d => d.helloSend l))

/-- HELLO_RECEIVE: A HELLO arrives and advances the adjacency state machine (R206). -/
def execHelloReceive (dt : Nat) (l : Fin 8) (bs : List Byte) (s : State) : Reply :=
  s.after (fun d => d.event dt (fun d => d.helloReceive l bs))

/-- ADJ_DEAD_TIMEOUT: No valid HELLO for DEAD ms: the adjacency returns to NONE (R206). -/
def execAdjDeadTimeout (dt : Nat) (l : Fin 8) (s : State) : Reply :=
  s.after (fun d => d.event dt (fun d => d.adjDead l))

/-- TOPO_ORIGINATE: A TOPO record is originated after a change or every 1 s (R208). -/
def execTopoOriginate (dt : Nat) (s : State) : Reply :=
  s.after (fun d => d.event dt (fun d => d.topoOriginate))

/-- TOPO_RECEIVE: A TOPO record updates the topology database (R208). -/
def execTopoReceive (dt : Nat) (bs : List Byte) (s : State) : Reply :=
  s.after (fun d => d.event dt (fun d => d.topoReceive bs))

/-- ELECT_RECEIVE: A CLAIM or DEFEND cell arrives; a holder defends its ID (R211). -/
def execElectReceive (dt : Nat) (bs : List Byte) (s : State) : Reply :=
  s.after (fun d => d.event dt (fun d => d.electReceive bs))

/-- NODE_ID_WRITE: A write of HFB_NODE.ID is accepted or ignored by mode (R210). -/
def execNodeIdWrite (p : Port) (w : Word) (s : State) : Reply :=
  s.after (fun d => d.access (fun d => d.busWrite (portNum p) (HFB_NODE.addr 0 0) w))

/-- FWD_WRITE: FWD_CMD OP = 1 writes a forwarding entry, or is refused (R214). -/
def execFwdWrite (p : Port) (w : Word) (s : State) : Reply :=
  s.after (fun d => d.access (fun d => d.busWrite (portNum p) (HFB_FWD_CMD.addr 0 0) w))

/-- FWD_READ: FWD_CMD OP = 2 reads an entry into W0 and W1 (R214). -/
def execFwdRead (p : Port) (w : Word) (s : State) : Reply :=
  s.after (fun d => d.access (fun d => d.busWrite (portNum p) (HFB_FWD_CMD.addr 0 0) w))

/-- FWD_INVALIDATE: FWD_CMD OP = 3 invalidates an entry (R214). -/
def execFwdInvalidate (p : Port) (w : Word) (s : State) : Reply :=
  s.after (fun d => d.access (fun d => d.busWrite (portNum p) (HFB_FWD_CMD.addr 0 0) w))

/-- FLOOD_KEY_EXPIRE: A flood-cache key ages out 100 ms after entry (R207). -/
def execFloodKeyExpire (dt : Nat) (s : State) : Reply :=
  s.after (fun d => d.event dt (fun d => d.floodExpire))

/-- TOPO_EXPIRE: A record not refreshed within 3.5 s is removed (R208). -/
def execTopoExpire (dt : Nat) (uid : BitVec 64) (s : State) : Reply :=
  s.after (fun d => d.event dt (fun d => d.topoExpire uid.toNat))

/-- ELECT_WAIT_DONE: 1.5 s after the first adjacency UP, an AUTO node chooses a candidate ID (R211). -/
def execElectWaitDone (dt : Nat) (s : State) : Reply :=
  s.after (fun d => d.event dt (fun d => d.electWaitDone))

/-- CLAIM_SEND: A CLAIM of the candidate ID is sent, three times 50 ms apart (R211). -/
def execClaimSend (dt : Nat) (s : State) : Reply :=
  s.after (fun d => d.event dt (fun d => d.claimSend))

/-- CLAIM_WINDOW_END: 150 ms after the first CLAIM, the ID is assigned and stored, or the next free ID is tried (R211). -/
def execClaimWindowEnd (dt : Nat) (s : State) : Reply :=
  s.after (fun d => d.event dt (fun d => d.claimWindowEnd))

end Sys2Proof.Machine
end

