-- ==== Sys2Proof/Machine/CmdFaultCommands.lean ====
section
/-! DEFINITION. The meanings of the commands of the fault collector. -/

namespace Sys2Proof.Machine

/-- GRAVE_LOG_WRITTEN: A GRAVE log record completes in MRAM; a waiting C reaction proceeds (R327). -/
def execGraveLogWritten (dt : Nat) (s : State) : Reply :=
  s.after (fun d => d.event dt (fun d => d.graveWritten))

/-- ESCALATION_EXPIRE: The escalation timer reaches ESC: the escalation reaction is taken (R318). -/
def execEscalationExpire (dt : Nat) (n : Fin 192) (s : State) : Reply :=
  s.after (fun d => d.event dt (fun d => d.escalationExpire n))

/-- FAULT_WINDOW_EXPIRE: No counted event within WIN: a COUNTING source returns to IDLE (R318). -/
def execFaultWindowExpire (dt : Nat) (n : Fin 192) (s : State) : Reply :=
  s.after (fun d => d.event dt (fun d => d.fltWindowExpire n))

/-- SHADOW_CLOSE: SHADOW ms after the reset ends, the reset shadow closes (R324). -/
def execShadowClose (dt : Nat) (b : Fin 19) (s : State) : Reply :=
  s.after (fun d => d.event dt (fun d => d.shadowClose b))

/-- FAULT_ACK: A write of 1 to an FLT_SEV bit acknowledges the source (R318). -/
def execFaultAck (p : Port) (k : Fin 6) (w : Word) (s : State) : Reply :=
  s.after (fun d => d.access (fun d => d.busWrite (portNum p) (FLT_SEV.addr k 0) w))

/-- ERRH_CLEAR: A write of 1 to an FLT_ERRH bit releases the event-level ERR_N hold (R320). -/
def execErrhClear (p : Port) (k : Fin 6) (w : Word) (s : State) : Reply :=
  s.after (fun d => d.access (fun d => d.busWrite (portNum p) (FLT_ERRH.addr k 0) w))

/-- FAULT_INJECT: FLT_INJ.GO starts injection in factory test mode, or is refused (R328). -/
def execFaultInject (p : Port) (w : Word) (s : State) : Reply :=
  s.after (fun d => d.access (fun d => d.busWrite (portNum p) (FLT_INJ.addr 0 0) w))

/-- INJECT_NEXT: 1 µs after the previous injected event, the next one is raised (R328). -/
def execInjectNext (dt : Nat) (s : State) : Reply :=
  s.after (fun d => d.event dt (fun d => d.injectNext))

/-- GLOG_ERASE: ERASE clears the GRAVE log when no condition is active (R327). -/
def execGlogErase (p : Port) (w : Word) (s : State) : Reply :=
  s.after (fun d => d.access (fun d => d.busWrite (portNum p) (FLT_GLOG_CTRL.addr 0 0) w))

/-- PSEUDO_BLOCK: Every 100 µs while the cycle is not RUNNING, a new once-per-block period begins (R321). -/
def execPseudoBlock (dt : Nat) (s : State) : Reply :=
  s.after (fun d => d.event dt (fun d => d.pseudoBlock))

end Sys2Proof.Machine
end

