-- ==== Sys2Proof/Machine/CmdJobs.lean ====
section
/-! DEFINITION. The meanings of the commands of the jobs, AVS and the shared store. -/

namespace Sys2Proof.Machine

/-- SPRIG_TAKE_JOB: An idle Sprig pops its own deque or probes its partners to steal a job (R88). -/
def execSprigTakeJob (dt : Nat) (m : Fin 64) (s : State) : Reply :=
  s.after (fun d => d.event dt (fun d => d.takeJob m))

/-- STEAL_RETRY: The 100 ns wait after a fruitless probe round ends and the Sprig probes again (R88). -/
def execStealRetry (dt : Nat) (m : Fin 64) (s : State) : Reply :=
  s.after (fun d => d.event dt (fun d => d.stealRetry m))

/-- JOB_COMPLETE: A job's end has issued and all its stores are complete: its successors' counters are decremented (R87). -/
def execJobComplete (dt : Nat) (m : Fin 64) (s : State) : Reply :=
  s.after (fun d => d.event dt (fun d => d.jobComplete m))

/-- AVS_ENABLE: A write of 1 to THK_AVS_CFG.EN enables AVS and restarts the window (R100). -/
def execAvsEnable (p : Port) (w : Word) (s : State) : Reply :=
  s.after (fun d => d.access (fun d => d.busWrite (portNum p) (THK_AVS_CFG.addr 0 0) w))

/-- SHARED_STORE_WRITE: A write through the shared-store window is staged, applied at once, or discarded according to region kind and cycle state (R96). -/
def execSharedStoreWrite (p : Port) (k : Fin 0x100000) (w : Word) (s : State) : Reply :=
  s.after (fun d => d.access (fun d => d.busWrite (portNum p) (sharedAddr k) w))

/-- PCOMMIT_ARM: THK_PCTRL.ARM arms a commit of the staged PARAM and TABLE writes (R96). -/
def execPcommitArm (p : Port) (w : Word) (s : State) : Reply :=
  s.after (fun d => d.access (fun d => d.busWrite (portNum p) (THK_PCTRL.addr 0 0) w))

end Sys2Proof.Machine
end

