-- ==== Sys2Proof/Machine/CmdLinks.lean ====
section
/-! DEFINITION. The meanings of the commands of the Hedgerow links. -/

namespace Sys2Proof.Machine

/-- LINK_BLOCK_RECEIVE: A LINK control block arrives: it drives the INIT condition, or an RFAULT takes the link DOWN (R190). -/
def execLinkBlockReceive (dt : Nat) (l : Fin 8) (body : BitVec 56) (cls : Fin 4) (part : List Byte) (s : State) : Reply :=
  s.after (fun d => d.event dt (fun d => d.withPart l cls part (fun d => d.linkBlock l body)))

/-- CREDIT_RETURN: An IDLE or SOC control block delivers cumulative credit counters (R179). -/
def execCreditReturn (dt : Nat) (l : Fin 8) (x : ControlBlock) (s : State) : Reply :=
  s.after (fun d => d.event dt (fun d => d.creditBlock l x.ty.toNat x.body))

/-- CELL_TRANSMIT: At a cell boundary, the transmitter starts the highest-priority waiting cell that has credit (R188). -/
def execCellTransmit (t : Moment) (l : Fin 8) (s : State) : Reply :=
  s.after (fun d => d.event t.ticks (fun d => d.cellTransmit l t.sub))

/-- BLOCK_LOCK: 64 consecutive valid sync headers: the link enters INIT (R190). -/
def execBlockLock (dt : Nat) (l : Fin 8) (s : State) : Reply :=
  s.after (fun d => d.event dt (fun d => d.blockLock l))

/-- LOSS_OF_SIGNAL: Signal is lost at the receive balls: the link goes DOWN (R191). -/
def execLossOfSignal (dt : Nat) (l : Fin 8) (cls : Fin 4) (part : List Byte) (s : State) : Reply :=
  s.after (fun d => d.event dt (fun d => d.withPart l cls part (fun d => d.linkDown l 1)))

/-- HEADER_ERROR_LIMIT: An invalid-sync-header count completes: the link goes DOWN (R191). -/
def execHeaderErrorLimit (dt : Nat) (x : LinkCut) (slow : Bool) (s : State) : Reply :=
  s.after (fun d => d.event dt (fun d => d.withPart x.link x.cls x.part (fun d => d.linkDown x.link (if slow then 3 else 2))))

/-- CREDIT_TIMEOUT: A class's credit does not advance for 1 ms: the link goes DOWN with cause CREDIT (R188). -/
def execCreditTimeout (dt : Nat) (x : LinkCut) (k : Fin 4) (s : State) : Reply :=
  s.after (fun d => d.event dt (fun d => d.withPart x.link x.cls x.part (fun d => d.creditTimeout x.link k)))

/-- LINK_RETRAIN: RETRAIN takes an ACTIVE link DOWN (R190). -/
def execLinkRetrain (p : Port) (x : LinkCut) (w : Word) (s : State) : Reply :=
  s.after (fun d => d.access (fun d => d.withPart x.link x.cls x.part (fun d => d.busWrite (portNum p) (HLK_CTRL.addr x.link 0) w)))

/-- LINK_DISABLE: Writing DISABLE = 1 takes the link to DISABLED; writing it 0 lets it train (R190). -/
def execLinkDisable (p : Port) (l : Fin 8) (w : Word) (s : State) : Reply :=
  s.after (fun d => d.access (fun d => d.busWrite (portNum p) (HLK_CTRL.addr l 0) w))

/-- DREQ_SEND: The DREQ interval expires: a DREQ stamped T1 is sent (R198). -/
def execDreqSend (t : Moment) (l : Fin 8) (s : State) : Reply :=
  s.after (fun d => d.event t.ticks (fun d => d.dreqSend l t.sub))

/-- DREQ_RECEIVE: A DREQ arrives and is answered with a DRSP carrying T2 and T3 (R198). -/
def execDreqReceive (t : Moment) (l : Fin 8) (bs : List Byte) (s : State) : Reply :=
  s.after (fun d => d.event t.ticks (fun d => d.dreqReceive l t.sub bs))

/-- DRSP_RECEIVE: A DRSP arrives: a delay sample is formed and HLK_DELAY updated (R198). -/
def execDrspReceive (t : Moment) (l : Fin 8) (bs : List Byte) (s : State) : Reply :=
  s.after (fun d => d.event t.ticks (fun d => d.drspReceive l t.sub bs))

/-- SYNC_SEND: Every INT × 125 µs a SYNC cell is sent on links with TXEN = 1 (R199). -/
def execSyncSend (t : Moment) (l : Fin 8) (s : State) : Reply :=
  s.after (fun d => d.event t.ticks (fun d => d.syncSend l t.sub))

/-- SYNC_RECEIVE: A SYNC cell arrives on the time-source link and delivers an offset to the servo (R200). -/
def execSyncReceive (t : Moment) (l : Fin 8) (bs : List Byte) (s : State) : Reply :=
  s.after (fun d => d.event t.ticks (fun d => d.syncReceive l t.sub bs))

/-- ISO_CELL_RECEIVE: An ISO AUDIO cell arrives: it is checked, forwarded and/or accepted by its receive flow context (R221). -/
def execIsoCellReceive (dt : Nat) (l : Fin 8) (bs : List Byte) (s : State) : Reply :=
  s.after (fun d => d.event dt (fun d => d.cellReceive l 1 bs))

/-- RING_CELL_RECEIVE: A CTRL or BULK cell addressed to this node goes to its receive ring, or is dropped at a ring mark (R201). -/
def execRingCellReceive (dt : Nat) (l : Fin 8) (bulk : Bool) (bs : List Byte) (s : State) : Reply :=
  s.after (fun d => d.event dt (fun d => d.cellReceive l (if bulk then 3 else 2) bs))

/-- RSV_WRITE: A reservation write is accepted for the next boundary, or refused over RCAP (R196). -/
def execRsvWrite (p : Port) (l : Fin 8) (i : Fin 256) (w : Word) (s : State) : Reply :=
  s.after (fun d => d.access (fun d => d.busWrite (portNum p) (HLK_RSV.addr l i) w))

/-- TRANSIT_CELL_RECEIVE: A CTRL or BULK cell addressed to another node or to an unjoined group arrives and is checked, looked up and forwarded, or discarded (R215). -/
def execTransitCellReceive (dt : Nat) (l : Fin 8) (bulk : Bool) (bs : List Byte) (s : State) : Reply :=
  s.after (fun d => d.event dt (fun d => d.cellReceive l (if bulk then 3 else 2) bs))

/-- POLARITY_INVERT: No block lock for 50 ms: the receive polarity is inverted (R190). -/
def execPolarityInvert (dt : Nat) (l : Fin 8) (s : State) : Reply :=
  s.after (fun d => d.event dt (fun d => d.polarityInvert l))

/-- INIT_TIMEOUT: 10 ms in INIT without the entry condition: the link returns to TRAIN (R190). -/
def execInitTimeout (dt : Nat) (l : Fin 8) (s : State) : Reply :=
  s.after (fun d => d.event dt (fun d => d.initTimeout l))

/-- DOWN_TIMEOUT: 1 ms in DOWN: the link returns to TRAIN (R190). -/
def execDownTimeout (dt : Nat) (l : Fin 8) (s : State) : Reply :=
  s.after (fun d => d.event dt (fun d => d.downTimeout l))

/-- DRSP_TIMEOUT: No DRSP 1 ms after its DREQ: the exchange is abandoned (R198). -/
def execDrspTimeout (dt : Nat) (l : Fin 8) (s : State) : Reply :=
  s.after (fun d => d.event dt (fun d => d.drspTimeout l))

end Sys2Proof.Machine
end

