-- ==== Sys2Proof/Machine/CmdManagement.lean ====
section
/-! DEFINITION. The meanings of the commands of the management and host interface. -/

namespace Sys2Proof.Machine

/-- WDOG_KICK: A write of 0xC1A5 restarts the watchdog; any other value sets BADKICK (R368). -/
def execWdogKick (p : Port) (w : Word) (s : State) : Reply :=
  s.after (fun d => d.access (fun d => d.busWrite (portNum p) (MGMT_WDOG_KICK.addr 0 0) w))

/-- WDOG_EXPIRE: The watchdog expires: WDEV is set, MGMT.WDOG raised and a MGMT reset taken (R368). -/
def execWdogExpire (dt : Nat) (s : State) : Reply :=
  s.after (fun d => d.event dt (fun d => d.wdogExpire))

/-- MGMT_RESET: MRST resets the management core and its MGMT-domain registers (R368). -/
def execMgmtReset (p : Port) (w : Word) (s : State) : Reply :=
  s.after (fun d => d.access (fun d => d.busWrite (portNum p) (MGMT_CTRL.addr 0 0) w))

/-- MGMT_RESET_DONE: The boot ROM checks the MGFW copy and restarts firmware, or sets FWFAIL (R368). -/
def execMgmtResetDone (dt : Nat) (s : State) : Reply :=
  s.after (fun d => d.event dt (fun d => d.mgmtResetDone))

/-- DOORBELL: DOORBELL interrupts the core (R357). -/
def execDoorbell (p : Port) (w : Word) (s : State) : Reply :=
  s.after (fun d => d.access (fun d => d.busWrite (portNum p) (MGMT_CTRL.addr 0 0) w))

/-- VECTOR_RAISE: A write of MGMT_VEC_RAISE raises vector 24–31 (R366). -/
def execVectorRaise (p : Port) (w : Word) (s : State) : Reply :=
  s.after (fun d => d.access (fun d => d.busWrite (portNum p) (MGMT_VEC_RAISE.addr 0 0) w))

/-- RING_ENABLE: A write of MGMT_RING_CFG enables a ring, or is refused with BADCFG (R361). -/
def execRingEnable (p : Port) (q : Fin 32) (w : Word) (s : State) : Reply :=
  s.after (fun d => d.access (fun d => d.busWrite (portNum p) (MGMT_RING_CFG.addr q 0) w))

/-- RING_WR_WRITE: A software producer advances WR and notifies the consumer, or the write is ignored with OVR (R364). -/
def execRingWrWrite (p : Port) (q : Fin 32) (w : Word) (s : State) : Reply :=
  s.after (fun d => d.access (fun d => d.busWrite (portNum p) (MGMT_RING_WR.addr q 0) w))

/-- RING_RD_WRITE: A software consumer advances RD (R364). -/
def execRingRdWrite (p : Port) (q : Fin 32) (w : Word) (s : State) : Reply :=
  s.after (fun d => d.access (fun d => d.busWrite (portNum p) (MGMT_RING_RD.addr q 0) w))

/-- HPORT_SELECT: A write of MGMT_HPORT_SEL sets the host-port cursor to RD or WR of a ring (R365). -/
def execHportSelect (p : Port) (w : Word) (s : State) : Reply :=
  s.after (fun d => d.access (fun d => d.busWrite (portNum p) (MGMT_HPORT_SEL.addr 0 0) w))

/-- HPORT_READ: A read of MGMT_HPORT_DATA returns the word at the cursor and advances it (R365). -/
def execHportRead (p : Port) (s : State) : Reply :=
  s.after (fun d => d.access (fun d => d.busLoad (portNum p) (MGMT_HPORT_DATA.addr 0 0)))

/-- HPORT_WRITE: A write of MGMT_HPORT_DATA stores a word and advances the cursor, or is discarded with OVR (R365). -/
def execHportWrite (p : Port) (w : Word) (s : State) : Reply :=
  s.after (fun d => d.access (fun d => d.busWrite (portNum p) (MGMT_HPORT_DATA.addr 0 0) w))

/-- HPORT_COMMIT: COMMIT sets RD or WR to the cursor, or is refused with MISALIGN (R365). -/
def execHportCommit (p : Port) (w : Word) (s : State) : Reply :=
  s.after (fun d => d.access (fun d => d.busWrite (portNum p) (MGMT_HPORT_CTRL.addr 0 0) w))

/-- SCENE_WRITE: A scene-store word write enters the buffer, waits for room, or is discarded when protected (R371). -/
def execSceneWrite (p : Port) (k : Fin 0x100000) (w : Word) (s : State) : Reply :=
  s.after (fun d => d.access (fun d => d.busWrite (portNum p) (sceneAddr k) w))

/-- SCENE_WORD_DONE: A buffered word is written and read back, rewritten once, and raises MGMT.SCENE on a second failure (R371). -/
def execSceneWordDone (dt : Nat) (bad : Bool) (s : State) : Reply :=
  s.after (fun d => d.event dt (fun d => d.sceneWordDone bad))

/-- PCIE_RESET: A function-level, hot or link-down reset resets the endpoint only (R359). -/
def execPcieReset (dt : Nat) (s : State) : Reply :=
  s.after (fun d => d.event dt (fun d => d.pcieReset))

/-- PCIE_LINK_DOWN: The PCIe link leaves L0 other than by power management and MGMT.PCIE_DOWN is raised (R359). -/
def execPcieLinkDown (dt : Nat) (s : State) : Reply :=
  s.after (fun d => d.event dt (fun d => d.pcieLinkDown))

/-- PCIE_ERROR: The endpoint reports an uncorrectable error and MGMT.PCIE_ERR is raised (R359). -/
def execPcieError (dt : Nat) (s : State) : Reply :=
  s.after (fun d => d.event dt (fun d => d.pcieError))

/-- PERST_N_CHANGE: PERST_N going low resets the PCIe endpoint only, and its rise starts link training within 20 ms (R402). -/
def execPerstNChange (dt : Nat) (low : Bool) (s : State) : Reply :=
  s.after (fun d => d.pinEvent dt (fun d => d.perstChange low))

/-- MSIX_UNMASK: The host unmasks an MSI-X vector in the BAR2 table, and its pending message is sent (R367). -/
def execMsixUnmask (dt : Nat) (v : Fin 64) (addr : Nat) (x : MsixUse) (s : State) : Reply :=
  s.after (fun d => d.event dt (fun d => d.msixAccess v addr x))

end Sys2Proof.Machine
end

