-- ==== Sys2Proof/Machine/CmdPairCommands.lean ====
section
/-! DEFINITION. The meanings of the commands of the pair. -/

namespace Sys2Proof.Machine

/-- HEARTBEAT_RECEIVE: A partner heartbeat frame arrives and is recorded (R300). -/
def execHeartbeatReceive (dt : Nat) (bs : List Byte) (s : State) : Reply :=
  s.after (fun d => d.event dt (fun d => d.heartbeatReceive bs))

/-- PAIR_EVALUATE: At B(k) + HBWIN the heartbeat and LIVE paths are judged present or lost (R300). -/
def execPairEvaluate (dt : Nat) (s : State) : Reply :=
  s.after (fun d => d.event dt (fun d => d.pairEvaluate))

/-- LIVE_EDGE: LIVE_IN changes level; its skew is recorded (R300). -/
def execLiveEdge (dt : Nat) (level : Bool) (s : State) : Reply :=
  s.after (fun d => d.pinEvent dt (fun d => d.liveEdge level))

/-- OWN_IN_CHANGE: OWN_IN rises on an ACTIVE outside a handover: the chip yields (R312). -/
def execOwnInChange (dt : Nat) (high : Bool) (s : State) : Reply :=
  s.after (fun d => d.pinEvent dt (fun d => d.ownInChange high))

/-- YIELD: YIELD moves the ACTIVE to STANDBY (R312). -/
def execYield (p : Port) (w : Word) (s : State) : Reply :=
  s.after (fun d => d.access (fun d => d.busWrite (portNum p) (PAIR_CTRL.addr 0 0) w))

/-- RESYNC: RESYNC schedules THK and XPT resets on both chips at PAIR_RESYNC.BLOCK (R305). -/
def execResync (p : Port) (w : Word) (s : State) : Reply :=
  s.after (fun d => d.access (fun d => d.busWrite (portNum p) (PAIR_CTRL.addr 0 0) w))

/-- PAIR_CLEAR: CLEAR moves a FAILED chip to NONE (R296). -/
def execPairClear (p : Port) (w : Word) (s : State) : Reply :=
  s.after (fun d => d.access (fun d => d.busWrite (portNum p) (PAIR_CTRL.addr 0 0) w))

/-- PAIR_FAIL: FAIL puts the chip in FAILED and releases its outputs (R296). -/
def execPairFail (p : Port) (w : Word) (s : State) : Reply :=
  s.after (fun d => d.access (fun d => d.busWrite (portNum p) (PAIR_CTRL.addr 0 0) w))

/-- HANDOVER: HANDOVER proposes a planned handover at PAIR_HO_BLK, or is refused (R309). -/
def execHandover (p : Port) (w : Word) (s : State) : Reply :=
  s.after (fun d => d.access (fun d => d.busWrite (portNum p) (PAIR_CTRL.addr 0 0) w))

/-- PAIR_VBUS_RECEIVE: A VBUS frame delivers the ACTIVE's bus reading and dip state to the STANDBY (R155). -/
def execPairVbusReceive (dt : Nat) (g : Fin 4) (v val : Nat) (st : Fin 3) (ceil : Bool) (s : State) : Reply :=
  s.after (fun d => d.event dt (fun d => d.pairVbus g v val st ceil))

/-- PAIR_ASRC_RECEIVE: An ASRC frame delivers ratio words and states for the block (R114). -/
def execPairAsrcReceive (dt : Nat) (b : Nat) (ws : List (Nat × Nat × Nat × Nat)) (s : State) : Reply :=
  s.after (fun d => d.event dt (fun d => d.pairAsrc b ws))

/-- MIRROR_RECEIVE: A MIRROR frame applies a mirrored write or commit on the STANDBY (R301). -/
def execMirrorReceive (dt : Nat) (x : MirrorMsg) (s : State) : Reply :=
  s.after (fun d => d.event dt (fun d => d.mirrorReceive x))

/-- PAIR_PSM_RECEIVE: A PSM frame gives the STANDBY the ACTIVE's diagnosis, group and latch states (R302). -/
def execPairPsmReceive (dt : Nat) (g : Fin 4) (state : Nat) (chans : List (Nat × Nat × Nat × Nat)) (s : State) : Reply :=
  s.after (fun d => d.event dt (fun d => d.pairPsm ⟨g, state, chans⟩))

/-- HEALTH_RECEIVE: A partner health record arrives over the pair link (R307). -/
def execHealthReceive (dt : Nat) (bs : List Byte) (s : State) : Reply :=
  s.after (fun d => d.event dt (fun d => d.healthReceive bs))

/-- PAIR_LINK_DOWN: The pair link leaves ACTIVE: UNMIRRORED is set and PAIR.LINK raised (R302). -/
def execPairLinkDown (dt : Nat) (s : State) : Reply :=
  s.after (fun d => d.event dt (fun d => d.pairLinkDown))

/-- BOUNDARY_MISSED: No boundary within HBWIN of Tb after the previous one: the chip enters FAILED (R302). -/
def execBoundaryMissed (dt : Nat) (s : State) : Reply :=
  s.after (fun d => d.event dt (fun d => d.boundaryMissed))

/-- HEALTH_RECORD: Every INT blocks a health record is written to the ring and sent (R307). -/
def execHealthRecord (dt : Nat) (s : State) : Reply :=
  s.after (fun d => d.event dt (fun d => d.healthRecord))

/-- SCRUB: The scrub engine visits a word, rewrites a correctable error and reports errors (R418). -/
def execScrub (dt : Nat) (a : Nat) (err : Fin 3) (s : State) : Reply :=
  s.after (fun d => d.event dt (fun d => d.scrub a err))

/-- PLEACH_KERNEL: An idle Sprig runs its known-answer kernel and sets the SPRIG test result (R306). -/
def execPleachKernel (dt : Nat) (m : Fin 64) (good : Bool) (s : State) : Reply :=
  s.after (fun d => d.event dt (fun d => d.pleachKernel m good))

/-- STARTUP_BACKOFF_EXPIRE: The 16 + U_k block wait after a start-up yield ends and the chip may take over (R297). -/
def execStartupBackoffExpire (dt : Nat) (s : State) : Reply :=
  s.after (fun d => d.event dt (fun d => d.backoffExpire))

end Sys2Proof.Machine
end

