-- ==== Sys2Proof/Machine/CmdPower.lean ====
section
/-! DEFINITION. The meanings of the commands of the power-up, POR and CHIP reset. -/

namespace Sys2Proof.Machine

/-- POWER_UP: VBUS rises through 35 V: the converter soft-starts and the rails ramp in sequence while POR is held (R354). -/
def execPowerUp (dt : Nat) (mv : Nat) (s : State) : Reply :=
  s.after (fun d => d.pinEvent dt (fun d => d.powerUp mv))

/-- POR_RELEASE: All rails are good and the TCLK PLL is locked: POR is released, TESTEN is sampled and boot starts (R354). -/
def execPorRelease (dt : Nat) (testen : Bool) (s : State) : Reply :=
  s.after (fun d => d.pinEvent dt (fun d => d.porRelease testen))

/-- POR: VBUS falls below 32 V: POR is asserted, outputs go low and every POR-domain register resets (R346). -/
def execPor (dt : Nat) (mv : Nat) (s : State) : Reply :=
  s.after (fun d => d.pinEvent dt (fun d => d.porAssert mv))

/-- CHIP_RESET: RESET_N goes low: the CHIP, BLOCK and MGMT domains reset and the outputs go safe (R10). -/
def execChipReset (dt : Nat) (ns : Nat) (s : State) : Reply :=
  s.after (fun d => d.pinEvent dt (fun d => d.resetPin ns))

/-- RAIL_TIMEOUT: A rail fails to reach regulation within 10 ms of its ramp; POR stays asserted (R354). -/
def execRailTimeout (dt : Nat) (s : State) : Reply :=
  s.after (fun d => d.pinEvent dt (fun d => d.railTimeout))

/-- POWER_UP_RETRY: 100 ms after a failed rail, the whole power-up sequence is retried (R354). -/
def execPowerUpRetry (dt : Nat) (s : State) : Reply :=
  s.after (fun d => d.pinEvent dt (fun d => d.powerUpRetry))

end Sys2Proof.Machine
end

