-- ==== Sys2Proof/Machine/CmdPowerStage.lean ====
section
/-! DEFINITION. The meanings of the commands of the modulators and power stages. -/

namespace Sys2Proof.Machine

/-- CARRIER_PERIOD: Each carrier period, a channel computes m, limits it, runs the noise shaper and places the leg edges (R141). -/
def execCarrierPeriod (dt : Nat) (g : Fin 4) (uv : Nat) (s : State) : Reply :=
  s.after (fun d => d.event dt (fun d => d.carrierTurn g uv))

/-- DEEP_SLEEP: All eight channels have been idle for DEEP ms: PSEN_Gx is driven low (R151). -/
def execDeepSleep (dt : Nat) (g : Fin 4) (s : State) : Reply :=
  s.after (fun d => d.event dt (fun d => d.deepSleep g))

/-- PSM_START: START begins diagnosis and start-up of a group (R146). -/
def execPsmStart (p : Port) (g : Fin 4) (w : Word) (s : State) : Reply :=
  s.after (fun d => d.access (fun d => d.busWrite (portNum p) (PSM_PG_CTRL.addr g 0) w))

/-- PSM_STOP: STOP ramps the group to zero and turns it off (R146). -/
def execPsmStop (p : Port) (g : Fin 4) (w : Word) (s : State) : Reply :=
  s.after (fun d => d.access (fun d => d.busWrite (portNum p) (PSM_PG_CTRL.addr g 0) w))

/-- LEGTEST_DONE: The leg test completes; the group goes to ENABLING or FAULT (R147). -/
def execLegtestDone (dt : Nat) (g : Fin 4) (legs : List (Nat × Nat)) (s : State) : Reply :=
  s.after (fun d => d.event dt (fun d => d.legtestDone g legs))

/-- ENABLE_TIME_DONE: TEN elapses after PSEN_Gx rises; the load test begins (R146). -/
def execEnableTimeDone (dt : Nat) (g : Fin 4) (s : State) : Reply :=
  s.after (fun d => d.event dt (fun d => d.enableDone g))

/-- LOADTEST_DONE: The load test completes; channels are classified and the group enters RUN (R147). -/
def execLoadtestDone (dt : Nat) (g : Fin 4) (meas : List (Int × Int)) (s : State) : Reply :=
  s.after (fun d => d.event dt (fun d => d.loadtestDone g meas))

/-- STOP_RAMP_DONE: The stop ramp completes: the zero state is held for one period, then PSEN_Gx goes low (R146). -/
def execStopRampDone (dt : Nat) (g : Fin 4) (s : State) : Reply :=
  s.after (fun d => d.event dt (fun d => d.stopDone g))

/-- PSFLT_ASSERT: PSFLT_N_Gx is low for at least 200 ns: the group enters FAULT (R146). -/
def execPsfltAssert (dt : Nat) (x : FltPin) (s : State) : Reply :=
  s.after (fun d => d.event dt (fun d => d.psfltAssert x.grp x.low))

/-- ILIM_TRIP: The current comparator trips: the legs go to the zero state for the rest of the carrier period (R152). -/
def execIlimTrip (dt : Nat) (n : Fin 32) (isns : Int) (va vb : Nat) (s : State) : Reply :=
  s.after (fun d => d.event dt (fun d => d.ilimTrip n isns va vb))

/-- LATCH_CLEAR: Writing 1 to LATCH moves the channel to OFF (R153). -/
def execLatchClear (p : Port) (n : Fin 32) (w : Word) (s : State) : Reply :=
  s.after (fun d => d.access (fun d => d.busWrite (portNum p) (PSM_CH_STAT.addr n 0) w))

/-- LOADTEST_ABORT: The load-test current exceeds VTEST/1 Ω: the channel's test ends and it is classified SHORTED (R147). -/
def execLoadtestAbort (dt : Nat) (x : IsnsMean) (s : State) : Reply :=
  s.after (fun d => d.event dt (fun d => d.loadtestAbort x.chan x.uv))

end Sys2Proof.Machine
end

