-- ==== Sys2Proof/Machine/CmdReferences.lean ====
section
/-! DEFINITION. The meanings of the commands of the reference candidates and clean-up loops. -/

namespace Sys2Proof.Machine

/-- CAND_GLITCH: An edge interval shorter than 0.75 T disqualifies a candidate (R265). -/
def execCandGlitch (dt : Nat) (x : EdgeGap) (s : State) : Reply :=
  s.after (fun d => d.event dt (fun d => d.candGlitch x.cand x.falling x.ps))

/-- CAND_ACTIVITY_TIMEOUT: No edge for 3.5 T disqualifies a candidate (R265). -/
def execCandActivityTimeout (dt : Nat) (x : EdgeGap) (s : State) : Reply :=
  s.after (fun d => d.event dt (fun d => d.candSilence x.cand x.falling x.ps))

/-- QUAL_GATE_END: A frequency gate ends: OFS is reported and qualification is advanced (R267). -/
def execQualGateEnd (dt : Nat) (c : Fin 17) (ofs : Int) (s : State) : Reply :=
  s.after (fun d => d.event dt (fun d => d.gateEnd c ofs))

/-- HOLDOFF_EXPIRE: The hold-off timer ends: the candidate becomes QUAL (R267). -/
def execHoldoffExpire (dt : Nat) (c : Fin 17) (s : State) : Reply :=
  s.after (fun d => d.event dt (fun d => d.holdoffEnd c))

/-- LOOP_RANK_WRITE: A write to RCU_LOOP_RANK or RCU_LOOP_CTRL re-evaluates the selection within 10 µs (R268). -/
def execLoopRankWrite (p : Port) (k : Fin 4) (x : Option (Fin 3)) (w : Word) (s : State) : Reply :=
  s.after (fun d => d.access (fun d => d.busWrite (portNum p) (rankAddr k x) w))

/-- BAND_TRIAL_DONE: A band trial ends, and the search succeeds, tries the next entry or fails (R271). -/
def execBandTrialDone (dt : Nat) (k : Fin 4) (f fine : Nat) (s : State) : Reply :=
  s.after (fun d => d.event dt (fun d => d.bandTrial k f fine))

/-- COMPARISON_EDGE: A comparison edge gives a phase error e to the loop (R272). -/
def execComparisonEdge (dt : Nat) (k : Fin 4) (x : EdgeMeas) (s : State) : Reply :=
  s.after (fun d => d.event dt (fun d => d.compEdge k x.n x.late x.ratio))

/-- NARROW_STEP: A dwell ends and the bandwidth narrows, reaching TRACK at TRK (R274). -/
def execNarrowStep (dt : Nat) (k : Fin 4) (s : State) : Reply :=
  s.after (fun d => d.event dt (fun d => d.narrowStep k))

/-- PULL_COMPLETE: The pull offset reaches 0 and the loop enters TRACK (R275). -/
def execPullComplete (dt : Nat) (k : Fin 4) (s : State) : Reply :=
  s.after (fun d => d.event dt (fun d => d.pullDone k))

/-- RETUNE: RETUNE applies FOUT and MDIV and enters SEARCH, or is refused (R279). -/
def execRetune (p : Port) (k : Fin 4) (w : Word) (s : State) : Reply :=
  s.after (fun d => d.access (fun d => d.busWrite (portNum p) (RCU_LOOP_CTRL.addr k 0) w))

/-- QS_HOP: GO hops the loop to a Quickset entry, or is ignored (R281). -/
def execQsHop (p : Port) (k : Fin 2) (w : Word) (s : State) : Reply :=
  s.after (fun d => d.access (fun d => d.busWrite (portNum p) (RCU_QS_HOP.addr k 0) w))

/-- DITHER_SEED_WRITE: A write of SEED loads the dither LFSR (R282). -/
def execDitherSeedWrite (p : Port) (k : Fin 4) (w : Word) (s : State) : Reply :=
  s.after (fun d => d.access (fun d => d.busWrite (portNum p) (RCU_DITHER.addr k 0) w))

/-- BAND_SEARCH_RETRY: 1 s after a failed search, the search starts again (R271). -/
def execBandSearchRetry (dt : Nat) (k : Fin 4) (s : State) : Reply :=
  s.after (fun d => d.event dt (fun d => d.searchRetry k))

/-- HOP_SETTLED: The DCO settles and the divider phase is set at the first comparison edge (R281). -/
def execHopSettled (dt : Nat) (k : Fin 4) (s : State) : Reply :=
  s.after (fun d => d.event dt (fun d => d.hopSettled k))

/-- HOP_CHECK_DONE: The hop check ends: the loop enters NARROW, or ACQUIRE with HOPFAIL (R281). -/
def execHopCheckDone (dt : Nat) (k : Fin 4) (s : State) : Reply :=
  s.after (fun d => d.event dt (fun d => d.hopCheckDone k))

end Sys2Proof.Machine
end

