-- ==== Sys2Proof/Machine/CmdSerialPorts.lean ====
section
/-! DEFINITION. The meanings of the commands of the serial ports. -/

namespace Sys2Proof.Machine

/-- FRAME_START: A frame start arrives at a serial port and is placed in a block sample position (R169). -/
def execFrameStart (dt : Nat) (q : Fin 16) (bclk : Nat) (ofs : Int) (ws : List Word) (s : State) : Reply :=
  s.after (fun d => d.event dt (fun d => d.serialFrame q bclk ofs ws))

/-- RATE_GATE_END: A 1,024-frame gate ends: RATE is updated and a rate change is judged (R164). -/
def execRateGateEnd (dt : Nat) (q : Fin 16) (rate : Nat) (s : State) : Reply :=
  s.after (fun d => d.event dt (fun d => d.gateDone q rate))

/-- CLOCK_STOP: No frame start for 4 expected frame periods: CLKLOSS is set and a rate change is declared (R165). -/
def execClockStop (dt : Nat) (q : Fin 16) (s : State) : Reply :=
  s.after (fun d => d.event dt (fun d => d.clockStop q))

/-- SAP_GROUP_START: Group START: the group starts at the first rejoin instant at least 2 blocks ahead (R166). -/
def execSapGroupStart (p : Port) (k : Fin 16) (w : Word) (s : State) : Reply :=
  s.after (fun d => d.access (fun d => d.busWrite (portNum p) (SAP_GRP_CTRL.addr k 0) w))

/-- SAP_GROUP_STOP: Group STOP: all member ports go to OFF (R168). -/
def execSapGroupStop (p : Port) (k : Fin 16) (w : Word) (s : State) : Reply :=
  s.after (fun d => d.access (fun d => d.busWrite (portNum p) (SAP_GRP_CTRL.addr k 0) w))

/-- SAP_RESTART: RESTART moves a port to PENDING (R168). -/
def execSapRestart (p : Port) (q : Fin 16) (w : Word) (s : State) : Reply :=
  s.after (fun d => d.access (fun d => d.busWrite (portNum p) (SAP_PCTRL.addr q 0) w))

end Sys2Proof.Machine
end

