-- ==== Sys2Proof/Machine/CmdSprigMemory.lean ====
section
/-! DEFINITION. The meanings of the commands of the memory and circular-address instructions of the Sprig. -/

namespace Sys2Proof.Machine

/-- LDW: Load a word (R70). -/
def execLdw (m : Fin 64) (f : IForm) (s : State) : Reply :=
  s.after (fun d => d.issued (fun d => d.spLdw m f))

/-- STW: Store a word (R70). -/
def execStw (m : Fin 64) (f : IForm) (s : State) : Reply :=
  s.after (fun d => d.issued (fun d => d.spStw m f))

/-- VLD: Load a 16-byte vector (R70). -/
def execVld (m : Fin 64) (f : IForm) (s : State) : Reply :=
  s.after (fun d => d.issued (fun d => d.spVld m f))

/-- VST: Store a 16-byte vector (R70). -/
def execVst (m : Fin 64) (f : IForm) (s : State) : Reply :=
  s.after (fun d => d.issued (fun d => d.spVst m f))

/-- VLDC: Circular vector load, then advance OFF (R70). -/
def execVldc (m : Fin 64) (f : MForm) (s : State) : Reply :=
  s.after (fun d => d.issued (fun d => d.spVldc m f))

/-- VSTC: Circular vector store, then advance OFF (R70). -/
def execVstc (m : Fin 64) (f : MForm) (s : State) : Reply :=
  s.after (fun d => d.issued (fun d => d.spVstc m f))

/-- VLDS: Load one word into every lane (R70). -/
def execVlds (m : Fin 64) (f : IForm) (s : State) : Reply :=
  s.after (fun d => d.issued (fun d => d.spVlds m f))

/-- SETCA: Set a circular-address register (R70). -/
def execSetca (m : Fin 64) (f : RForm) (s : State) : Reply :=
  s.after (fun d => d.issued (fun d => d.spSetca m f))

/-- CAOFF: Read the OFF field of a circular-address register (R70). -/
def execCaoff (m : Fin 64) (f : RForm) (s : State) : Reply :=
  s.after (fun d => d.issued (fun d => d.spCaoff m f))

/-- CAOFF_W: Write OFF modulo LEN (R70). -/
def execCaoffW (m : Fin 64) (f : RForm) (s : State) : Reply :=
  s.after (fun d => d.issued (fun d => d.spCaoffW m f))

end Sys2Proof.Machine
end

