-- ==== Sys2Proof/Machine/CmdSprigScalar.lean ====
section
/-! DEFINITION. The meanings of the commands of the scalar and control instructions of the Sprig. -/

namespace Sys2Proof.Machine

/-- LOOP_ITERATE: After the last body instruction, control returns to the body start, or the loop count is used up and the counter deactivates (R73). -/
def execLoopIterate (m : Fin 64) (s : State) : Reply :=
  s.after (fun d => d.issued (fun d => d.loopIterate m))

/-- ADD: Scalar add modulo 2^32 (R69). -/
def execAdd (m : Fin 64) (f : RForm) (s : State) : Reply :=
  s.after (fun d => d.issued (fun d => d.spAlu m 0x01 f (fun a b => a + b)))

/-- SUB: Scalar subtract modulo 2^32 (R69). -/
def execSub (m : Fin 64) (f : RForm) (s : State) : Reply :=
  s.after (fun d => d.issued (fun d => d.spAlu m 0x02 f (fun a b => a - b)))

/-- AND: Bitwise and (R69). -/
def execAnd (m : Fin 64) (f : RForm) (s : State) : Reply :=
  s.after (fun d => d.issued (fun d => d.spAlu m 0x03 f (fun a b => a &&& b)))

/-- OR: Bitwise or (R69). -/
def execOr (m : Fin 64) (f : RForm) (s : State) : Reply :=
  s.after (fun d => d.issued (fun d => d.spAlu m 0x04 f (fun a b => a ||| b)))

/-- XOR: Bitwise exclusive or (R69). -/
def execXor (m : Fin 64) (f : RForm) (s : State) : Reply :=
  s.after (fun d => d.issued (fun d => d.spAlu m 0x05 f (fun a b => a ^^^ b)))

/-- SLL: Logical shift left (R69). -/
def execSll (m : Fin 64) (f : RForm) (s : State) : Reply :=
  s.after (fun d => d.issued (fun d => d.spAlu m 0x06 f (fun a b => a <<< (b.toNat % 32))))

/-- SRL: Logical shift right (R69). -/
def execSrl (m : Fin 64) (f : RForm) (s : State) : Reply :=
  s.after (fun d => d.issued (fun d => d.spAlu m 0x07 f (fun a b => a >>> (b.toNat % 32))))

/-- SRA: Arithmetic shift right (R69). -/
def execSra (m : Fin 64) (f : RForm) (s : State) : Reply :=
  s.after (fun d => d.issued (fun d => d.spAlu m 0x08 f (fun a b => a.sshiftRight (b.toNat % 32))))

/-- MUL: Low 32 bits of a scalar product (R69). -/
def execMul (m : Fin 64) (f : RForm) (s : State) : Reply :=
  s.after (fun d => d.issued (fun d => d.spAlu m 0x09 f (fun a b => a * b)))

/-- ADDI: Add a sign-extended immediate (R69). -/
def execAddi (m : Fin 64) (f : IForm) (s : State) : Reply :=
  s.after (fun d => d.issued (fun d => d.spAddi m f))

/-- LUI: Load an upper immediate (R69). -/
def execLui (m : Fin 64) (f : IForm) (s : State) : Reply :=
  s.after (fun d => d.issued (fun d => d.spLui m f))

/-- BEQ: Branch if equal (R69). -/
def execBeq (m : Fin 64) (f : BForm) (s : State) : Reply :=
  s.after (fun d => d.issued (fun d => d.spBranch m 0x10 f (fun a b => a == b)))

/-- BNE: Branch if not equal (R69). -/
def execBne (m : Fin 64) (f : BForm) (s : State) : Reply :=
  s.after (fun d => d.issued (fun d => d.spBranch m 0x11 f (fun a b => a != b)))

/-- BLT: Branch if less than, signed (R69). -/
def execBlt (m : Fin 64) (f : BForm) (s : State) : Reply :=
  s.after (fun d => d.issued (fun d => d.spBranch m 0x12 f (fun a b => a.slt b)))

/-- BGE: Branch if greater or equal, signed (R69). -/
def execBge (m : Fin 64) (f : BForm) (s : State) : Reply :=
  s.after (fun d => d.issued (fun d => d.spBranch m 0x13 f (fun a b => !a.slt b)))

/-- JAL: Jump and link (R69). -/
def execJal (m : Fin 64) (f : JForm) (s : State) : Reply :=
  s.after (fun d => d.issued (fun d => d.spJal m f))

/-- JR: Jump to the address in a register (R69). -/
def execJr (m : Fin 64) (f : RForm) (s : State) : Reply :=
  s.after (fun d => d.issued (fun d => d.spJr m f))

/-- LOOP: Activate a hardware loop counter over the LEN following instructions (R73). -/
def execLoop (m : Fin 64) (f : LForm) (s : State) : Reply :=
  s.after (fun d => d.issued (fun d => d.spLoop m f))

end Sys2Proof.Machine
end

