-- ==== Sys2Proof/Machine/CmdSprigSystem.lean ====
section
/-! DEFINITION. The meanings of the commands of the system instructions of the Sprig. -/

namespace Sys2Proof.Machine

/-- RDPACE: Read the pace counter; this is a non-deterministic instruction (R72). -/
def execRdpace (m : Fin 64) (f : RForm) (s : State) : Reply :=
  s.after (fun d => d.issued (fun d => d.spRdpace m f))

/-- CSRR: Read a CSR (R74). -/
def execCsrr (m : Fin 64) (f : CForm) (s : State) : Reply :=
  s.after (fun d => d.issued (fun d => d.spCsrr m f))

/-- CSRW: Write a CSR (R74). -/
def execCsrw (m : Fin 64) (f : CForm) (s : State) : Reply :=
  s.after (fun d => d.issued (fun d => d.spCsrw m f))

/-- FENCE: Complete earlier stores before later accesses (R72). -/
def execFence (m : Fin 64) (f : RForm) (s : State) : Reply :=
  s.after (fun d => d.issued (fun d => d.spFence m f))

/-- BRK: Raise BREAK (R72). -/
def execBrk (m : Fin 64) (f : RForm) (s : State) : Reply :=
  s.after (fun d => d.issued (fun d => d.spBrk m f))

/-- END: Complete the job once its stores are complete (R72). -/
def execEndJob (m : Fin 64) (f : RForm) (s : State) : Reply :=
  s.after (fun d => d.issued (fun d => d.spEnd m f))

/-- UNASSIGNED_OPCODE: A Sprig issues a word with an unassigned opcode, such as an unwritten all-zero word, and raises ILLEGAL (R67). -/
def execUnassignedOpcode (m : Fin 64) (w : Word) (s : State) : Reply :=
  s.after (fun d => d.issued (fun d => d.spUnassigned m w))

end Sys2Proof.Machine
end

