-- ==== Sys2Proof/Machine/CmdSprigVector.lean ====
section
/-! DEFINITION. The meanings of the commands of the vector and accumulator instructions of the Sprig. -/

namespace Sys2Proof.Machine

/-- VADD: Lane-wise add or subtract (R71). -/
def execVadd (m : Fin 64) (f : RForm) (s : State) : Reply :=
  s.after (fun d => d.issued (fun d => d.spLanes m 0x21 f true true (lane2 (if f.neg = 1 then .sub else .add))))

/-- VMUL: Lane-wise multiply (R71). -/
def execVmul (m : Fin 64) (f : RForm) (s : State) : Reply :=
  s.after (fun d => d.issued (fun d => d.spLanes m 0x22 f false true (lane2 .mul)))

/-- VMAC: Lane-wise multiply-accumulate (R71). -/
def execVmac (m : Fin 64) (f : RForm) (s : State) : Reply :=
  s.after (fun d => d.issued (fun d => d.spMac m 0x23 false f))

/-- VMACS: Multiply-accumulate by a scalar (R71). -/
def execVmacs (m : Fin 64) (f : RForm) (s : State) : Reply :=
  s.after (fun d => d.issued (fun d => d.spMac m 0x24 true f))

/-- VMIN: Lane-wise minimum (R71). -/
def execVmin (m : Fin 64) (f : RForm) (s : State) : Reply :=
  s.after (fun d => d.issued (fun d => d.spLanes m 0x25 f false true (lane2 .min)))

/-- VMAX: Lane-wise maximum (R71). -/
def execVmax (m : Fin 64) (f : RForm) (s : State) : Reply :=
  s.after (fun d => d.issued (fun d => d.spLanes m 0x26 f false true (lane2 .max)))

/-- VABS: Lane-wise absolute value (R71). -/
def execVabs (m : Fin 64) (f : RForm) (s : State) : Reply :=
  s.after (fun d => d.issued (fun d => d.spVabs m f))

/-- VDIV: Lane-wise correctly rounded divide (R71). -/
def execVdiv (m : Fin 64) (f : RForm) (s : State) : Reply :=
  s.after (fun d => d.issued (fun d => d.spLanes m 0x28 f false false (lane2 .div)))

/-- VSHF: Lane shuffle (R71). -/
def execVshf (m : Fin 64) (f : RForm) (s : State) : Reply :=
  s.after (fun d => d.issued (fun d => d.spVshf m f))

/-- VCVT: Format conversion (R71). -/
def execVcvt (m : Fin 64) (f : RForm) (s : State) : Reply :=
  s.after (fun d => d.issued (fun d => d.spVcvt m f))

/-- VINS: Insert a scalar into a lane (R71). -/
def execVins (m : Fin 64) (f : RForm) (s : State) : Reply :=
  s.after (fun d => d.issued (fun d => d.spVins m f))

/-- VEXT: Extract a lane to a scalar (R71). -/
def execVext (m : Fin 64) (f : RForm) (s : State) : Reply :=
  s.after (fun d => d.issued (fun d => d.spVext m f))

/-- ACCZ: Zero an accumulator and set its tag (R71). -/
def execAccz (m : Fin 64) (f : RForm) (s : State) : Reply :=
  s.after (fun d => d.issued (fun d => d.spAccz m f))

/-- ACCRD: Scale, round and read an accumulator (R71). -/
def execAccrd (m : Fin 64) (f : RForm) (s : State) : Reply :=
  s.after (fun d => d.issued (fun d => d.spAccrd m f))

/-- ACCRED: Reduce accumulator lanes into lane 0 (R71). -/
def execAccred (m : Fin 64) (f : RForm) (s : State) : Reply :=
  s.after (fun d => d.issued (fun d => d.spAccred m f))

end Sys2Proof.Machine
end

