-- ==== Sys2Proof/Machine/CmdSupply.lean ====
section
/-! DEFINITION. The meanings of the commands of the supply supervision and VCORE. -/

namespace Sys2Proof.Machine

/-- VBUS_WARN: VBUS falls below LEVEL: PWR.VBUS_WARN is raised and the dip policy applied (R347). -/
def execVbusWarn (dt : Nat) (mv : Nat) (s : State) : Reply :=
  s.after (fun d => d.event dt (fun d => d.vbusWarn mv))

/-- VBUS_RECOVER: VBUS rises above LEVEL + 1 V: the warning clears and the restore ramp begins (R348). -/
def execVbusRecover (dt : Nat) (mv : Nat) (s : State) : Reply :=
  s.after (fun d => d.event dt (fun d => d.vbusRecover mv))

/-- SUPERVISOR_TRIP: A rail, bus or temperature supervisor trips and raises its source (R345). -/
def execSupervisorTrip (dt : Nat) (x : Sup) (v : Int) (s : State) : Reply :=
  s.after (fun d => d.event dt (fun d => d.supervisorTrip x v))

/-- VCORE_SET_WRITE: A write of PWR_VCORE.SET with AVS off sets a new target (R353). -/
def execVcoreSetWrite (p : Port) (w : Word) (s : State) : Reply :=
  s.after (fun d => d.access (fun d => d.busWrite (portNum p) (PWR_VCORE.addr 0 0) w))

/-- VCORE_SET_STEP: Every 10 µs VCORE moves 5 mV toward SET (R353). -/
def execVcoreSetStep (dt : Nat) (s : State) : Reply :=
  s.after (fun d => d.event dt (fun d => d.vcoreStep))

/-- DIP_RESTORE_DONE: The restore ramp reaches 1 (R348). -/
def execDipRestoreDone (dt : Nat) (s : State) : Reply :=
  s.after (fun d => d.event dt (fun d => d.dipRestoreDone))

/-- SUPERVISOR_CLEAR: A supervised quantity returns past its clear threshold (R345). -/
def execSupervisorClear (dt : Nat) (x : Sup) (v : Int) (s : State) : Reply :=
  s.after (fun d => d.event dt (fun d => d.supervisorClear x v))

end Sys2Proof.Machine
end

