-- ==== Sys2Proof/Machine/CmdTestPort.lean ====
section
/-! DEFINITION. The meanings of the commands of the test access. -/

namespace Sys2Proof.Machine

/-- FTM_KEY: A key write to TEST_FTM advances, restarts or discards the factory-test-mode sequence (R413). -/
def execFtmKey (p : Port) (w : Word) (s : State) : Reply :=
  s.after (fun d => d.access (fun d => d.busWrite (portNum p) (TEST_FTM.addr 0 0) w))

/-- TAP_RESET: TRST_N low or POR puts the TAP in Test-Logic-Reset (R412). -/
def execTapReset (dt : Nat) (s : State) : Reply :=
  s.after (fun d => d.pinEvent dt (fun d => d.tapReset))

/-- EXTEST: EXTEST drives the boundary cells onto the balls when permitted (R408). -/
def execExtest (dt : Nat) (pins : Nat) (shifted : Option Nat) (s : State) : Reply :=
  s.after (fun d => d.pinEvent dt (fun d => d.tapExtest 0 pins shifted))

/-- IDCODE: IDCODE selects the identification register (R409). -/
def execIdcode (dt : Nat) (s : State) : Reply :=
  s.after (fun d => d.pinEvent dt (fun d => d.tapIdcode))

/-- SAMPLE_PRELOAD: SAMPLE/PRELOAD samples or preloads the boundary register (R408). -/
def execSamplePreload (dt : Nat) (pins shifted : Nat) (s : State) : Reply :=
  s.after (fun d => d.pinEvent dt (fun d => d.tapSample pins shifted))

/-- EXTEST_PULSE: EXTEST_PULSE drives pulses on AC-coupled differential balls (R408). -/
def execExtestPulse (dt : Nat) (pins : Nat) (shifted : Option Nat) (s : State) : Reply :=
  s.after (fun d => d.pinEvent dt (fun d => d.tapExtest 3 pins shifted))

/-- EXTEST_TRAIN: EXTEST_TRAIN drives pulse trains on AC-coupled differential balls (R408). -/
def execExtestTrain (dt : Nat) (pins : Nat) (shifted : Option Nat) (s : State) : Reply :=
  s.after (fun d => d.pinEvent dt (fun d => d.tapExtest 4 pins shifted))

/-- HIGHZ: HIGHZ sets the outputs to high impedance (R408). -/
def execHighz (dt : Nat) (s : State) : Reply :=
  s.after (fun d => d.pinEvent dt (fun d => d.tapHold 5))

/-- CLAMP: CLAMP holds the outputs at preloaded values with bypass selected (R408). -/
def execClamp (dt : Nat) (s : State) : Reply :=
  s.after (fun d => d.pinEvent dt (fun d => d.tapHold 6))

/-- BYPASS: BYPASS selects the one-bit bypass register (R408). -/
def execBypass (dt : Nat) (code : Fin 256) (s : State) : Reply :=
  s.after (fun d => d.pinEvent dt (fun d => d.tapBypass code))

/-- ATB_SELECT: A write of TEST_ATB_CFG connects a bus to a node for sensing (R406). -/
def execAtbSelect (p : Port) (x : Fin 2) (w : Word) (s : State) : Reply :=
  s.after (fun d => d.access (fun d => d.busWrite (portNum p) (TEST_ATB_CFG.addr x 0) w))

/-- ATB_FORCE: FORCE = 1 forces the node from the ball in factory test mode, or sets FREF (R407). -/
def execAtbForce (p : Port) (x : Fin 2) (w : Word) (s : State) : Reply :=
  s.after (fun d => d.access (fun d => d.busWrite (portNum p) (TEST_ATB_CFG.addr x 0) w))

end Sys2Proof.Machine
end

