-- ==== Sys2Proof/Machine/CmdTimeBases.lean ====
section
/-! DEFINITION. The meanings of the commands of the time bases, selector, alarms and captures. -/

namespace Sys2Proof.Machine

/-- TB_SET: SET loads the time base from TIME_OFS_MSEC and TIME_OFS_MNS (R246). -/
def execTbSet (p : Port) (t : Fin 4) (w : Word) (s : State) : Reply :=
  s.after (fun d => d.access (fun d => d.busWrite (portNum p) (TIME_TB_CTRL.addr t 0) w))

/-- TB_READ: A read of TIME_TB_T0 captures the whole value for T1 and T2 (R246). -/
def execTbRead (p : Port) (t : Fin 4) (s : State) : Reply :=
  s.after (fun d => d.access (fun d => d.busLoad (portNum p) (TIME_TB_T0.addr t 0)))

/-- RATE_COMMIT: A write to TIME_TB_RATE_HI in FREE commits ADJ (R247). -/
def execRateCommit (p : Port) (t : Fin 4) (w : Word) (s : State) : Reply :=
  s.after (fun d => d.access (fun d => d.busWrite (portNum p) (TIME_TB_RATE_HI.addr t 0) w))

/-- OFFSET_SUBMIT: A write of TIME_OFS_VAL submits a firmware offset, judged timely or late (R248). -/
def execOffsetSubmit (p : Port) (t : Fin 4) (w : Word) (s : State) : Reply :=
  s.after (fun d => d.access (fun d => d.busWrite (portNum p) (TIME_OFS_VAL.addr t 0) w))

/-- SERVO_HOLD_TIMEOUT: No accepted offset for HOLD_TMO ms: the servo enters HOLD (R250). -/
def execServoHoldTimeout (dt : Nat) (t : Fin 4) (s : State) : Reply :=
  s.after (fun d => d.event dt (fun d => d.holdTimeout t))

/-- SERVO_FREE: Writing FREE = 1 takes the servo to FREE (R250). -/
def execServoFree (p : Port) (t : Fin 4) (w : Word) (s : State) : Reply :=
  s.after (fun d => d.access (fun d => d.busWrite (portNum p) (TIME_TB_CTRL.addr t 0) w))

/-- SELECTOR_TICK: Every 1 ms the selector delivers an offset to the media time base (R252). -/
def execSelectorTick (dt : Nat) (s : State) : Reply :=
  s.after (fun d => d.event dt (fun d => d.selTick))

/-- SELECTOR_SWITCH: A SWITCH command switches to the other time base, or is refused (R254). -/
def execSelectorSwitch (p : Port) (w : Word) (s : State) : Reply :=
  s.after (fun d => d.access (fun d => d.busWrite (portNum p) (TIME_SEL_CTRL.addr 0 0) w))

/-- SELECTOR_REVERT: TB_A has been LOCKED for RVT s: the selector reverts to it (R254). -/
def execSelectorRevert (dt : Nat) (s : State) : Reply :=
  s.after (fun d => d.event dt (fun d => d.selRevert))

/-- ALARM_ARM: A write of TIME_ALM_NS with EN = 1 arms the alarm, or fires it late (R258). -/
def execAlarmArm (p : Port) (a : Fin 32) (w : Word) (s : State) : Reply :=
  s.after (fun d => d.access (fun d => d.busWrite (portNum p) (TIME_ALM_NS.addr a 0) w))

/-- ALARM_DISARM: Writing EN = 0 disarms an armed alarm (R258). -/
def execAlarmDisarm (p : Port) (a : Fin 32) (w : Word) (s : State) : Reply :=
  s.after (fun d => d.access (fun d => d.busWrite (portNum p) (TIME_ALM_CFG.addr a 0) w))

/-- ALARM_FIRE: The time base reaches the alarm target: the alarm fires, acts on its TIO pin and advances (R257). -/
def execAlarmFire (dt : Nat) (a : Fin 32) (sub : Fin 64) (s : State) : Reply :=
  s.after (fun d => d.event dt (fun d => d.alarmFire a sub))

/-- CAPTURE_EVENT: An event of a capture unit's source records the time-base value (R261). -/
def execCaptureEvent (dt : Nat) (pin : Fin 12) (rising : Bool) (sub : Fin 64) (s : State) : Reply :=
  s.after (fun d => d.event dt (fun d => d.pinEdge pin rising sub))

/-- CAPTURE_READ: A read of TIME_CAP_T0 captures T1 and T2 of the record (R261). -/
def execCaptureRead (p : Port) (c : Fin 16) (s : State) : Reply :=
  s.after (fun d => d.access (fun d => d.busLoad (portNum p) (TIME_CAP_T0.addr c 0)))

end Sys2Proof.Machine
end

