-- ==== Sys2Proof/Machine/CmdWindow.lean ====
section
/-! DEFINITION. The meanings of the commands of the register window, SPI, block reset commands. -/

namespace Sys2Proof.Machine

/-- REG_WRITE: A write to a register that has no row of its own: typed field effects, reserved and image fields ignored, and mirrored-write rejection on a STANDBY (R377). -/
def execRegWrite (p : Port) (a : Nat) (w : Word) (s : State) : Reply :=
  s.after (fun d => d.access (fun d => d.busWrite (portNum p) a w))

/-- UNDECODED_ACCESS: An access that decodes to no register, is narrower than a word, or reads an image field before an image has set it; it raises SYS.BUS_ERR (R376). -/
def execUndecodedAccess (p : Port) (a : Nat) (narrow : Bool) (wr : Option Word) (s : State) : Reply :=
  s.after (fun d => d.access (fun d => d.busOdd (portNum p) a narrow wr))

/-- SPI_WRITE: SPI command 0x02 writes successive register words (R360). -/
def execSpiWrite (a : Fin 0x1000000) (ws : List Word) (s : State) : Reply :=
  s.after (fun d => d.access (fun d => d.spiWrite a ws))

/-- SPI_READ: SPI command 0x0B reads successive register words (R360). -/
def execSpiRead (a : Fin 0x1000000) (n : Nat) (s : State) : Reply :=
  s.after (fun d => d.access (fun d => d.spiRead a n))

/-- BLOCK_RESET_CMD: A write of SYS_BLKRST asserts a BLOCK reset and opens its shadow, or is refused (R382). -/
def execBlockResetCmd (p : Port) (w : Word) (s : State) : Reply :=
  s.after (fun d => d.access (fun d => d.busWrite (portNum p) (SYS_BLKRST.addr 0 0) w))

/-- BLOCK_RESET_END: A block reset ends and the shadow timer starts (R324). -/
def execBlockResetEnd (dt : Nat) (b : Fin 19) (s : State) : Reply :=
  s.after (fun d => d.event dt (fun d => d.blockResetEnd b))

/-- REG_READ: A register-window read with an effect of its own: an RC field returns its value and clears, or an ECC error in the word read raises its fault source (R8). -/
def execRegRead (p : Port) (a : Nat) (err : Fin 3) (s : State) : Reply :=
  s.after (fun d => d.access (fun d => d.busLoadErr (portNum p) a err))

end Sys2Proof.Machine
end

