-- ==== Sys2Proof/Machine/Dispatch.lean ====
section
/-! DEFINITION. From a command to its meaning. -/

namespace Sys2Proof.Machine

def exec (i : Instr) (s : State) : Host.Outcome State Fault Refusal :=
  match i with
  | .regWrite p a w => Sys2Proof.Machine.execRegWrite p a w s
  | .undecodedAccess p a narrow wr => Sys2Proof.Machine.execUndecodedAccess p a narrow wr s
  | .powerUp dt mv => Sys2Proof.Machine.execPowerUp dt mv s
  | .porRelease dt testen => Sys2Proof.Machine.execPorRelease dt testen s
  | .por dt mv => Sys2Proof.Machine.execPor dt mv s
  | .chipReset dt ns => Sys2Proof.Machine.execChipReset dt ns s
  | .bootStart dt sel => Sys2Proof.Machine.execBootStart dt sel s
  | .flashDirectoryRead dt a b => Sys2Proof.Machine.execFlashDirectoryRead dt a b s
  | .imageDataArrive dt bs => Sys2Proof.Machine.execImageDataArrive dt bs s
  | .signatureVerified dt => Sys2Proof.Machine.execSignatureVerified dt s
  | .sectionsApplied dt => Sys2Proof.Machine.execSectionsApplied dt s
  | .flashReadError dt => Sys2Proof.Machine.execFlashReadError dt s
  | .hostLoadTimeout dt => Sys2Proof.Machine.execHostLoadTimeout dt s
  | .chunkWrite p ix w => Sys2Proof.Machine.execChunkWrite p ix w s
  | .loadChunk p w => Sys2Proof.Machine.execLoadChunk p w s
  | .loadLastChunk p w => Sys2Proof.Machine.execLoadLastChunk p w s
  | .chunkTaken dt => Sys2Proof.Machine.execChunkTaken dt s
  | .stageStart p w => Sys2Proof.Machine.execStageStart p w s
  | .stageAbort p w => Sys2Proof.Machine.execStageAbort p w s
  | .stagingComplete dt => Sys2Proof.Machine.execStagingComplete dt s
  | .swapArm p w => Sys2Proof.Machine.execSwapArm p w s
  | .swapDisarm p w => Sys2Proof.Machine.execSwapDisarm p w s
  | .restartSilent dt => Sys2Proof.Machine.execRestartSilent dt s
  | .blockCycleArm dt => Sys2Proof.Machine.execBlockCycleArm dt s
  | .syncTimeout dt => Sys2Proof.Machine.execSyncTimeout dt s
  | .blockBoundary dt sub sense => Sys2Proof.Machine.execBlockBoundary dt sub sense s
  | .blockRealign p w => Sys2Proof.Machine.execBlockRealign p w s
  | .realignStop dt => Sys2Proof.Machine.execRealignStop dt s
  | .sealComplete dt => Sys2Proof.Machine.execSealComplete dt s
  | .xptPassDone dt => Sys2Proof.Machine.execXptPassDone dt s
  | .deadline dt => Sys2Proof.Machine.execDeadline dt s
  | .sprigTakeJob dt m => Sys2Proof.Machine.execSprigTakeJob dt m s
  | .stealRetry dt m => Sys2Proof.Machine.execStealRetry dt m s
  | .jobComplete dt m => Sys2Proof.Machine.execJobComplete dt m s
  | .avsEnable p w => Sys2Proof.Machine.execAvsEnable p w s
  | .sharedStoreWrite p k w => Sys2Proof.Machine.execSharedStoreWrite p k w s
  | .pcommitArm p w => Sys2Proof.Machine.execPcommitArm p w s
  | .loopIterate m => Sys2Proof.Machine.execLoopIterate m s
  | .add m f => Sys2Proof.Machine.execAdd m f s
  | .sub m f => Sys2Proof.Machine.execSub m f s
  | .and m f => Sys2Proof.Machine.execAnd m f s
  | .or m f => Sys2Proof.Machine.execOr m f s
  | .xor m f => Sys2Proof.Machine.execXor m f s
  | .sll m f => Sys2Proof.Machine.execSll m f s
  | .srl m f => Sys2Proof.Machine.execSrl m f s
  | .sra m f => Sys2Proof.Machine.execSra m f s
  | .mul m f => Sys2Proof.Machine.execMul m f s
  | .addi m f => Sys2Proof.Machine.execAddi m f s
  | .lui m f => Sys2Proof.Machine.execLui m f s
  | .beq m f => Sys2Proof.Machine.execBeq m f s
  | .bne m f => Sys2Proof.Machine.execBne m f s
  | .blt m f => Sys2Proof.Machine.execBlt m f s
  | .bge m f => Sys2Proof.Machine.execBge m f s
  | .jal m f => Sys2Proof.Machine.execJal m f s
  | .jr m f => Sys2Proof.Machine.execJr m f s
  | .loop m f => Sys2Proof.Machine.execLoop m f s
  | .ldw m f => Sys2Proof.Machine.execLdw m f s
  | .stw m f => Sys2Proof.Machine.execStw m f s
  | .vld m f => Sys2Proof.Machine.execVld m f s
  | .vst m f => Sys2Proof.Machine.execVst m f s
  | .vldc m f => Sys2Proof.Machine.execVldc m f s
  | .vstc m f => Sys2Proof.Machine.execVstc m f s
  | .vlds m f => Sys2Proof.Machine.execVlds m f s
  | .vadd m f => Sys2Proof.Machine.execVadd m f s
  | .vmul m f => Sys2Proof.Machine.execVmul m f s
  | .vmac m f => Sys2Proof.Machine.execVmac m f s
  | .vmacs m f => Sys2Proof.Machine.execVmacs m f s
  | .vmin m f => Sys2Proof.Machine.execVmin m f s
  | .vmax m f => Sys2Proof.Machine.execVmax m f s
  | .vabs m f => Sys2Proof.Machine.execVabs m f s
  | .vdiv m f => Sys2Proof.Machine.execVdiv m f s
  | .vshf m f => Sys2Proof.Machine.execVshf m f s
  | .vcvt m f => Sys2Proof.Machine.execVcvt m f s
  | .vins m f => Sys2Proof.Machine.execVins m f s
  | .vext m f => Sys2Proof.Machine.execVext m f s
  | .accz m f => Sys2Proof.Machine.execAccz m f s
  | .accrd m f => Sys2Proof.Machine.execAccrd m f s
  | .accred m f => Sys2Proof.Machine.execAccred m f s
  | .setca m f => Sys2Proof.Machine.execSetca m f s
  | .caoff m f => Sys2Proof.Machine.execCaoff m f s
  | .caoffW m f => Sys2Proof.Machine.execCaoffW m f s
  | .rdpace m f => Sys2Proof.Machine.execRdpace m f s
  | .csrr m f => Sys2Proof.Machine.execCsrr m f s
  | .csrw m f => Sys2Proof.Machine.execCsrw m f s
  | .fence m f => Sys2Proof.Machine.execFence m f s
  | .brk m f => Sys2Proof.Machine.execBrk m f s
  | .endJob m f => Sys2Proof.Machine.execEndJob m f s
  | .xptRouteCmd p w => Sys2Proof.Machine.execXptRouteCmd p w s
  | .xptGainCmd p w => Sys2Proof.Machine.execXptGainCmd p w s
  | .xptStagedWrite p x w => Sys2Proof.Machine.execXptStagedWrite p x w s
  | .xptArm p w => Sys2Proof.Machine.execXptArm p w s
  | .fadeComplete dt slot lone => Sys2Proof.Machine.execFadeComplete dt slot lone s
  | .zcTimeout dt slot => Sys2Proof.Machine.execZcTimeout dt slot s
  | .silenceEnter dt x => Sys2Proof.Machine.execSilenceEnter dt x s
  | .asrcStart dt c ratio => Sys2Proof.Machine.execAsrcStart dt c ratio s
  | .asrcLock dt c ratio dly => Sys2Proof.Machine.execAsrcLock dt c ratio dly s
  | .asrcSlip dt c ratio => Sys2Proof.Machine.execAsrcSlip dt c ratio s
  | .asrcRangeClear dt c ratio => Sys2Proof.Machine.execAsrcRangeClear dt c ratio s
  | .asrcIdle dt c => Sys2Proof.Machine.execAsrcIdle dt c s
  | .carrierPeriod dt g uv => Sys2Proof.Machine.execCarrierPeriod dt g uv s
  | .deepSleep dt g => Sys2Proof.Machine.execDeepSleep dt g s
  | .psmStart p g w => Sys2Proof.Machine.execPsmStart p g w s
  | .psmStop p g w => Sys2Proof.Machine.execPsmStop p g w s
  | .legtestDone dt g legs => Sys2Proof.Machine.execLegtestDone dt g legs s
  | .enableTimeDone dt g => Sys2Proof.Machine.execEnableTimeDone dt g s
  | .loadtestDone dt g meas => Sys2Proof.Machine.execLoadtestDone dt g meas s
  | .stopRampDone dt g => Sys2Proof.Machine.execStopRampDone dt g s
  | .psfltAssert dt x => Sys2Proof.Machine.execPsfltAssert dt x s
  | .ilimTrip dt n isns va vb => Sys2Proof.Machine.execIlimTrip dt n isns va vb s
  | .latchClear p n w => Sys2Proof.Machine.execLatchClear p n w s
  | .frameStart dt q bclk ofs ws => Sys2Proof.Machine.execFrameStart dt q bclk ofs ws s
  | .rateGateEnd dt q rate => Sys2Proof.Machine.execRateGateEnd dt q rate s
  | .clockStop dt q => Sys2Proof.Machine.execClockStop dt q s
  | .sapGroupStart p k w => Sys2Proof.Machine.execSapGroupStart p k w s
  | .sapGroupStop p k w => Sys2Proof.Machine.execSapGroupStop p k w s
  | .sapRestart p q w => Sys2Proof.Machine.execSapRestart p q w s
  | .linkBlockReceive dt l body cls part => Sys2Proof.Machine.execLinkBlockReceive dt l body cls part s
  | .creditReturn dt l x => Sys2Proof.Machine.execCreditReturn dt l x s
  | .cellTransmit t l => Sys2Proof.Machine.execCellTransmit t l s
  | .blockLock dt l => Sys2Proof.Machine.execBlockLock dt l s
  | .lossOfSignal dt l cls part => Sys2Proof.Machine.execLossOfSignal dt l cls part s
  | .headerErrorLimit dt x slow => Sys2Proof.Machine.execHeaderErrorLimit dt x slow s
  | .creditTimeout dt x k => Sys2Proof.Machine.execCreditTimeout dt x k s
  | .linkRetrain p x w => Sys2Proof.Machine.execLinkRetrain p x w s
  | .linkDisable p l w => Sys2Proof.Machine.execLinkDisable p l w s
  | .dreqSend t l => Sys2Proof.Machine.execDreqSend t l s
  | .dreqReceive t l bs => Sys2Proof.Machine.execDreqReceive t l bs s
  | .drspReceive t l bs => Sys2Proof.Machine.execDrspReceive t l bs s
  | .syncSend t l => Sys2Proof.Machine.execSyncSend t l s
  | .syncReceive t l bs => Sys2Proof.Machine.execSyncReceive t l bs s
  | .isoCellReceive dt l bs => Sys2Proof.Machine.execIsoCellReceive dt l bs s
  | .ringCellReceive dt l bulk bs => Sys2Proof.Machine.execRingCellReceive dt l bulk bs s
  | .rsvWrite p l ix w => Sys2Proof.Machine.execRsvWrite p l ix w s
  | .helloSend dt l => Sys2Proof.Machine.execHelloSend dt l s
  | .helloReceive dt l bs => Sys2Proof.Machine.execHelloReceive dt l bs s
  | .adjDeadTimeout dt l => Sys2Proof.Machine.execAdjDeadTimeout dt l s
  | .topoOriginate dt => Sys2Proof.Machine.execTopoOriginate dt s
  | .topoReceive dt bs => Sys2Proof.Machine.execTopoReceive dt bs s
  | .electReceive dt bs => Sys2Proof.Machine.execElectReceive dt bs s
  | .nodeIdWrite p w => Sys2Proof.Machine.execNodeIdWrite p w s
  | .fwdWrite p w => Sys2Proof.Machine.execFwdWrite p w s
  | .fwdRead p w => Sys2Proof.Machine.execFwdRead p w s
  | .fwdInvalidate p w => Sys2Proof.Machine.execFwdInvalidate p w s
  | .frameReceive dt e fcs f => Sys2Proof.Machine.execFrameReceive dt e fcs f s
  | .rtpReceive dt e fcs f => Sys2Proof.Machine.execRtpReceive dt e fcs f s
  | .frameTransmit dt e => Sys2Proof.Machine.execFrameTransmit dt e s
  | .txtsPop p e => Sys2Proof.Machine.execTxtsPop p e s
  | .ethLinkLoss dt e => Sys2Proof.Machine.execEthLinkLoss dt e s
  | .streamEnable p x w => Sys2Proof.Machine.execStreamEnable p x w s
  | .tbSet p t w => Sys2Proof.Machine.execTbSet p t w s
  | .tbRead p t => Sys2Proof.Machine.execTbRead p t s
  | .rateCommit p t w => Sys2Proof.Machine.execRateCommit p t w s
  | .offsetSubmit p t w => Sys2Proof.Machine.execOffsetSubmit p t w s
  | .servoHoldTimeout dt t => Sys2Proof.Machine.execServoHoldTimeout dt t s
  | .servoFree p t w => Sys2Proof.Machine.execServoFree p t w s
  | .selectorTick dt => Sys2Proof.Machine.execSelectorTick dt s
  | .selectorSwitch p w => Sys2Proof.Machine.execSelectorSwitch p w s
  | .selectorRevert dt => Sys2Proof.Machine.execSelectorRevert dt s
  | .alarmArm p a w => Sys2Proof.Machine.execAlarmArm p a w s
  | .alarmDisarm p a w => Sys2Proof.Machine.execAlarmDisarm p a w s
  | .alarmFire dt a sub => Sys2Proof.Machine.execAlarmFire dt a sub s
  | .captureEvent dt pin rising sub => Sys2Proof.Machine.execCaptureEvent dt pin rising sub s
  | .captureRead p c => Sys2Proof.Machine.execCaptureRead p c s
  | .candGlitch dt x => Sys2Proof.Machine.execCandGlitch dt x s
  | .candActivityTimeout dt x => Sys2Proof.Machine.execCandActivityTimeout dt x s
  | .qualGateEnd dt c ofs => Sys2Proof.Machine.execQualGateEnd dt c ofs s
  | .holdoffExpire dt c => Sys2Proof.Machine.execHoldoffExpire dt c s
  | .loopRankWrite p k x w => Sys2Proof.Machine.execLoopRankWrite p k x w s
  | .bandTrialDone dt k f fine => Sys2Proof.Machine.execBandTrialDone dt k f fine s
  | .comparisonEdge dt k x => Sys2Proof.Machine.execComparisonEdge dt k x s
  | .narrowStep dt k => Sys2Proof.Machine.execNarrowStep dt k s
  | .pullComplete dt k => Sys2Proof.Machine.execPullComplete dt k s
  | .retune p k w => Sys2Proof.Machine.execRetune p k w s
  | .qsHop p k w => Sys2Proof.Machine.execQsHop p k w s
  | .ditherSeedWrite p k w => Sys2Proof.Machine.execDitherSeedWrite p k w s
  | .dllLock dt x => Sys2Proof.Machine.execDllLock dt x s
  | .dllAnchor dt x sec frac err => Sys2Proof.Machine.execDllAnchor dt x sec frac err s
  | .dllUnlock dt x => Sys2Proof.Machine.execDllUnlock dt x s
  | .dllRealign p x w => Sys2Proof.Machine.execDllRealign p x w s
  | .outOfsWrite p o w => Sys2Proof.Machine.execOutOfsWrite p o w s
  | .heartbeatReceive dt bs => Sys2Proof.Machine.execHeartbeatReceive dt bs s
  | .pairEvaluate dt => Sys2Proof.Machine.execPairEvaluate dt s
  | .liveEdge dt level => Sys2Proof.Machine.execLiveEdge dt level s
  | .ownInChange dt high => Sys2Proof.Machine.execOwnInChange dt high s
  | .yield p w => Sys2Proof.Machine.execYield p w s
  | .resync p w => Sys2Proof.Machine.execResync p w s
  | .pairClear p w => Sys2Proof.Machine.execPairClear p w s
  | .pairFail p w => Sys2Proof.Machine.execPairFail p w s
  | .handover p w => Sys2Proof.Machine.execHandover p w s
  | .pairVbusReceive dt g v val st ceil => Sys2Proof.Machine.execPairVbusReceive dt g v val st ceil s
  | .pairAsrcReceive dt b ws => Sys2Proof.Machine.execPairAsrcReceive dt b ws s
  | .mirrorReceive dt x => Sys2Proof.Machine.execMirrorReceive dt x s
  | .pairPsmReceive dt g state chans => Sys2Proof.Machine.execPairPsmReceive dt g state chans s
  | .healthReceive dt bs => Sys2Proof.Machine.execHealthReceive dt bs s
  | .pairLinkDown dt => Sys2Proof.Machine.execPairLinkDown dt s
  | .boundaryMissed dt => Sys2Proof.Machine.execBoundaryMissed dt s
  | .healthRecord dt => Sys2Proof.Machine.execHealthRecord dt s
  | .scrub dt a err => Sys2Proof.Machine.execScrub dt a err s
  | .graveLogWritten dt => Sys2Proof.Machine.execGraveLogWritten dt s
  | .escalationExpire dt n => Sys2Proof.Machine.execEscalationExpire dt n s
  | .faultWindowExpire dt n => Sys2Proof.Machine.execFaultWindowExpire dt n s
  | .shadowClose dt b => Sys2Proof.Machine.execShadowClose dt b s
  | .faultAck p k w => Sys2Proof.Machine.execFaultAck p k w s
  | .errhClear p k w => Sys2Proof.Machine.execErrhClear p k w s
  | .faultInject p w => Sys2Proof.Machine.execFaultInject p w s
  | .injectNext dt => Sys2Proof.Machine.execInjectNext dt s
  | .glogErase p w => Sys2Proof.Machine.execGlogErase p w s
  | .pseudoBlock dt => Sys2Proof.Machine.execPseudoBlock dt s
  | .cntLoRead p ix => Sys2Proof.Machine.execCntLoRead p ix s
  | .cntHiWrite p ix w => Sys2Proof.Machine.execCntHiWrite p ix w s
  | .cntLoWrite p ix w => Sys2Proof.Machine.execCntLoWrite p ix w s
  | .slotClear p w => Sys2Proof.Machine.execSlotClear p w s
  | .slotLoRead p m c => Sys2Proof.Machine.execSlotLoRead p m c s
  | .counterWrap dt ix => Sys2Proof.Machine.execCounterWrap dt ix s
  | .sampleRecord dt => Sys2Proof.Machine.execSampleRecord dt s
  | .vbusWarn dt mv => Sys2Proof.Machine.execVbusWarn dt mv s
  | .vbusRecover dt mv => Sys2Proof.Machine.execVbusRecover dt mv s
  | .supervisorTrip dt x v => Sys2Proof.Machine.execSupervisorTrip dt x v s
  | .vcoreSetWrite p w => Sys2Proof.Machine.execVcoreSetWrite p w s
  | .vcoreSetStep dt => Sys2Proof.Machine.execVcoreSetStep dt s
  | .wdogKick p w => Sys2Proof.Machine.execWdogKick p w s
  | .wdogExpire dt => Sys2Proof.Machine.execWdogExpire dt s
  | .mgmtReset p w => Sys2Proof.Machine.execMgmtReset p w s
  | .mgmtResetDone dt => Sys2Proof.Machine.execMgmtResetDone dt s
  | .doorbell p w => Sys2Proof.Machine.execDoorbell p w s
  | .vectorRaise p w => Sys2Proof.Machine.execVectorRaise p w s
  | .ringEnable p q w => Sys2Proof.Machine.execRingEnable p q w s
  | .ringWrWrite p q w => Sys2Proof.Machine.execRingWrWrite p q w s
  | .ringRdWrite p q w => Sys2Proof.Machine.execRingRdWrite p q w s
  | .hportSelect p w => Sys2Proof.Machine.execHportSelect p w s
  | .hportRead p => Sys2Proof.Machine.execHportRead p s
  | .hportWrite p w => Sys2Proof.Machine.execHportWrite p w s
  | .hportCommit p w => Sys2Proof.Machine.execHportCommit p w s
  | .sceneWrite p k w => Sys2Proof.Machine.execSceneWrite p k w s
  | .sceneWordDone dt bad => Sys2Proof.Machine.execSceneWordDone dt bad s
  | .spiWrite a ws => Sys2Proof.Machine.execSpiWrite a ws s
  | .spiRead a n => Sys2Proof.Machine.execSpiRead a n s
  | .blockResetCmd p w => Sys2Proof.Machine.execBlockResetCmd p w s
  | .blockResetEnd dt b => Sys2Proof.Machine.execBlockResetEnd dt b s
  | .ftmKey p w => Sys2Proof.Machine.execFtmKey p w s
  | .regRead p a err => Sys2Proof.Machine.execRegRead p a err s
  | .ethLinkUp dt e => Sys2Proof.Machine.execEthLinkUp dt e s
  | .unassignedOpcode m w => Sys2Proof.Machine.execUnassignedOpcode m w s
  | .transitCellReceive dt l bulk bs => Sys2Proof.Machine.execTransitCellReceive dt l bulk bs s
  | .tapReset dt => Sys2Proof.Machine.execTapReset dt s
  | .extest dt pins shifted => Sys2Proof.Machine.execExtest dt pins shifted s
  | .idcode dt => Sys2Proof.Machine.execIdcode dt s
  | .samplePreload dt pins shifted => Sys2Proof.Machine.execSamplePreload dt pins shifted s
  | .extestPulse dt pins shifted => Sys2Proof.Machine.execExtestPulse dt pins shifted s
  | .extestTrain dt pins shifted => Sys2Proof.Machine.execExtestTrain dt pins shifted s
  | .highz dt => Sys2Proof.Machine.execHighz dt s
  | .clamp dt => Sys2Proof.Machine.execClamp dt s
  | .bypass dt code => Sys2Proof.Machine.execBypass dt code s
  | .atbSelect p x w => Sys2Proof.Machine.execAtbSelect p x w s
  | .atbForce p x w => Sys2Proof.Machine.execAtbForce p x w s
  | .railTimeout dt => Sys2Proof.Machine.execRailTimeout dt s
  | .powerUpRetry dt => Sys2Proof.Machine.execPowerUpRetry dt s
  | .bandSearchRetry dt k => Sys2Proof.Machine.execBandSearchRetry dt k s
  | .hopSettled dt k => Sys2Proof.Machine.execHopSettled dt k s
  | .hopCheckDone dt k => Sys2Proof.Machine.execHopCheckDone dt k s
  | .polarityInvert dt l => Sys2Proof.Machine.execPolarityInvert dt l s
  | .initTimeout dt l => Sys2Proof.Machine.execInitTimeout dt l s
  | .downTimeout dt l => Sys2Proof.Machine.execDownTimeout dt l s
  | .drspTimeout dt l => Sys2Proof.Machine.execDrspTimeout dt l s
  | .floodKeyExpire dt => Sys2Proof.Machine.execFloodKeyExpire dt s
  | .topoExpire dt uid => Sys2Proof.Machine.execTopoExpire dt uid s
  | .electWaitDone dt => Sys2Proof.Machine.execElectWaitDone dt s
  | .claimSend dt => Sys2Proof.Machine.execClaimSend dt s
  | .claimWindowEnd dt => Sys2Proof.Machine.execClaimWindowEnd dt s
  | .dipRestoreDone dt => Sys2Proof.Machine.execDipRestoreDone dt s
  | .supervisorClear dt x v => Sys2Proof.Machine.execSupervisorClear dt x v s
  | .pcieReset dt => Sys2Proof.Machine.execPcieReset dt s
  | .pcieLinkDown dt => Sys2Proof.Machine.execPcieLinkDown dt s
  | .pcieError dt => Sys2Proof.Machine.execPcieError dt s
  | .perstNChange dt low => Sys2Proof.Machine.execPerstNChange dt low s
  | .msixUnmask dt v addr x => Sys2Proof.Machine.execMsixUnmask dt v addr x s
  | .pleachKernel dt m good => Sys2Proof.Machine.execPleachKernel dt m good s
  | .startupBackoffExpire dt => Sys2Proof.Machine.execStartupBackoffExpire dt s
  | .loadtestAbort dt x => Sys2Proof.Machine.execLoadtestAbort dt x s

end Sys2Proof.Machine
end

