-- ==== Sys2Proof/Machine/Pins.lean ====
section
/-! DEFINITION. The output balls, as functions of the state: what each drives, and what it does until the image configures it (R26, R155,
R160, R163, R173, R175, R256, R290 to R293, R299, R320, R355, R392, R406, R408, R410, R411). A ball that a driving scan instruction holds is
the scan's. -/

namespace Sys2Proof.Machine

/-- What a ball does. A clock has the frequency of an MCLK of `f` (1/64 Hz) divided by `div`, 50 % duty, with a rising edge at TCLK time `edge`
(ps) moved by `moves` taps since. `frameSync`: from each edge of such a clock, which is a frame start, the ball keeps `level`
for `len` BCLK periods and the other level up to the next. `ending`: a high pulse in progress completes, then the ball is low; `endingInverse` is its complement. `pulse`: high for t of p taps, centred
in the carrier period and moved by `trim` taps. `frames`: the bits of the frames that the port sends. `blocks`: a serial link that sends.
`transfer`: the clock or the bits of a read of the flash. `analog`: a buffer with the voltage of a node, scaled, in µV where the manual gives
it; `force`: the node itself. `acPulse` and `acTrain`: the pulse and the pulse train of 1149.6 for a cell's level. -/
inductive Drive where
  | hiZ | low | high | ending | endingInverse | electricalIdle | blocks | frames | transfer
  | clock (f div edge : Nat) (moves : Int)
  | inverse (f div edge : Nat) (moves : Int)
  | frameSync (f div edge : Nat) (moves : Int) (level : Bool) (len : Nat)
  | pulse (t p : Nat) (trim : Int)
  | analog (node : Nat) (uv : Option Nat)
  | force (node : Nat)
  | acPulse (level : Bool)
  | acTrain (level : Bool)
deriving DecidableEq, Repr

/-- The balls of the boundary register: every LVCMOS signal ball, PERST_N, and the differential balls of HL0 to HL7, the pair link, ETH0 and
ETH1, PCIe and PE_REFCLK; no analog ball, XOIN, ATB, TESTEN or TAP ball (R392, R410). -/
inductive Ball where
  | mod (n : Nat) (b : Bool) | psen (g : Nat) | psflt (g : Nat) | bclk (p : Nat) | fsync (p : Nat) | din (p : Nat) | dout (p : Nat)
  | mclkout (k : Nat) | tio (x : Nat) | refin (k : Nat) | clkoutP (o : Nat) | clkoutN (o : Nat) | ownOut | liveOut | ownIn | liveIn
  | resetN | perstN | errN | irqN | bootsel (i : Nat) | qspiSck | qspiCsN | qspiIo (i : Nat) | spiSck | spiCsN | spiMosi | spiMiso
  | linkTx (l : Nat) | linkRx (l : Nat) | pairTx | pairRx | ethTx (p : Nat) | ethRx (p : Nat) | pcieTx | pcieRx | peRefclk
deriving DecidableEq, Repr

/-- The index of a ball within its kind. -/
def Ball.index : Ball → Nat
  | .mod n b => 2 * n + b2n b
  | .psen i | .psflt i | .bclk i | .fsync i | .din i | .dout i | .mclkout i | .tio i | .refin i | .clkoutP i | .clkoutN i | .bootsel i
  | .qspiIo i | .linkTx i | .linkRx i | .ethTx i | .ethRx i => i
  | _ => 0

/-- A number for each ball. -/
def Ball.num (x : Ball) : Nat := 64 * x.ctorIdx + x.index

/-- Is it a differential ball under 1149.6 (R410)? -/
def Ball.differential : Ball → Bool
  | .linkTx _ | .linkRx _ | .pairTx | .pairRx | .ethTx _ | .ethRx _ | .pcieTx | .pcieRx | .peRefclk => true
  | _ => false

/-- Is it open-drain (R392)? -/
def Ball.openDrain : Ball → Bool
  | .errN | .irqN => true
  | _ => false

/-- The level opposite to that of the true ball of a differential pair. -/
def Drive.complement : Drive → Drive
  | .low => .high
  | .high => .low
  | .clock f div e m => .inverse f div e m
  | .ending => .endingInverse
  | x => x

/-- What a ball does while a driving instruction holds it: HIGHZ turns every output off; the others give the level of the ball's cell unless
its control cell turns the driver off, at a differential ball as the pulse or the pulse train of EXTEST_PULSE and EXTEST_TRAIN (R408). -/
def Dev.scanDrive (d : Dev) (x : Ball) : Drive :=
  let cell (k : Nat) : Bool := bitOf d.test.latch (k % bsrCells) == 1
  let v := cell (Config.bsrCell x.num)
  let off := match Config.bsrControl x.num with
    | some (k, dis) => cell k == dis
    | none => false
  if d.test.ir = 5 || off then .hiZ
  else if x.differential && d.test.ir == 3 then .acPulse v
  else if x.differential && d.test.ir == 4 then .acTrain v
  else if v then (if x.openDrain then .hiZ else .high) else .low

/-- Balls that a driving instruction of the test access port holds are the scan's (R411). -/
def Dev.unlessScan (d : Dev) (x : Ball) (y : Drive) : Drive := if d.test.drive then d.scanDrive x else y

/-- The output of a divider of `div` MCLK periods behind a DLL: it runs in RUN; gated it completes its high pulse within one output period
and then stays low (R288, R290, R293). -/
def Dev.divided (d : Dev) (x div : Nat) : Drive :=
  let f := (d.loop (d.dllLoop x)).fout
  if d.dllGated x then
    match d.elapsed .gating x with
    | some n => if n * f < 64000000000 * div then .ending else .low
    | none => .low
  else
    let s := tabGet {} d.dll x
    .clock f div s.edge s.moves

/-! ### Clock outputs (R290 to R293) -/

/-- The true signal of output o: high-impedance before an image has set the formats, and with the format off (R292). -/
def Dev.clkout (d : Dev) (o : Nat) : Drive :=
  if !d.imageApplied || d.get ALN_OUT_CFG.FMT o == 0 then .hiZ else d.divided o (d.get ALN_OUT_CFG.DIVM1 o + 1)

/-- CLKOUTo_P. -/
def Dev.clkoutP (d : Dev) (o : Nat) : Drive := d.unlessScan (.clkoutP o) (d.clkout o)

/-- CLKOUTo_N: the complement in LVDS, driven low in LVCMOS (R292). -/
def Dev.clkoutN (d : Dev) (o : Nat) : Drive :=
  d.unlessScan (.clkoutN o)
    (if d.get ALN_OUT_CFG.FMT o = 1 then (d.clkout o).complement else if d.clkout o = .hiZ then .hiZ else .low)

/-- The drive of an LVCMOS clock output in mA; LVDS ignores DRV (R292). -/
def Dev.clkoutMa (d : Dev) (o : Nat) : Option Nat :=
  if d.get ALN_OUT_CFG.FMT o < 2 then none else some (4 * (d.get ALN_OUT_CFG.DRV o + 1))

/-- The supply of a clock output's level in 0.1 V: LVCMOS 1.8 V or 3.3 V (R292). -/
def Dev.clkoutLevel (d : Dev) (o : Nat) : Option Nat :=
  match d.get ALN_OUT_CFG.FMT o with
  | 2 => some 18
  | 3 => some 33
  | _ => none

/-- MCLKOUTk: low before an image and while it is not enabled (R163, R292). -/
def Dev.mclkout (d : Dev) (k : Nat) : Drive :=
  d.unlessScan (.mclkout k) (if !d.imageApplied || !d.is SAP_MCLK_CFG.EN k then .low else d.divided (8 + 4 * k) (2 ^ d.get SAP_MCLK_CFG.DIV k))

/-- MCLKOUTk's drive in mA and level in 0.1 V (R292). -/
def Dev.mclkoutMa (d : Dev) (k : Nat) : Nat × Nat := (4 * (d.get ALN_MCLK_FMT.DRV k + 1), if d.is ALN_MCLK_FMT.FMT k then 33 else 18)

/-! ### Serial ports (R160, R168, R173, R175) -/

/-- Does the chip drive a port's balls: an unpaired port's always, a paired one's while it owns the outputs (R173)? -/
def Dev.portDriven (d : Dev) (p : Nat) : Bool := !d.is SAP_PCFG.PAIRED p || bitOf d.pair.ownS p == 1

/-- Do a master's clocks run: in every state but OFF, and in OFF until the end of the frame in which it was entered (R168)? -/
def Dev.clocksRun (d : Dev) (p : Nat) : Bool :=
  let c := (d.port p).closing
  d.pState p != 0 || (c != 0 && decide (4 * (d.tclk - (c - 1)) * d.fi < 1000000000))

/-- A clock of a port, of `div` MCLK periods: an input of a slave; a master's output (R160, R168, R173, R290). -/
def Dev.portClock (d : Dev) (p div : Nat) : Drive :=
  if !d.imageApplied || !d.pOn p || !d.is SAP_PCFG.MASTER p || !d.portDriven p then .hiZ
  else if d.clocksRun p then d.divided (8 + p) div else .low

/-- SAPp_BCLK. -/
def Dev.bclk (d : Dev) (p : Nat) : Drive := d.unlessScan (.bclk p) (d.portClock p (d.get SAP_PCFG.BDIV p))

/-- SAPp_FSYNC: a master's has the level and length of the port's format from each frame start on; an input at every member of a shared-frame
group but its leader (R158, R167). -/
def Dev.fsync (d : Dev) (p : Nat) : Drive :=
  d.unlessScan (.fsync p)
    (if (d.leaderOf p).isSome then .hiZ
     else match d.portClock p (d.get SAP_PCFG.BDIV p * 32 * d.get SAP_PCFG.SLOTS p) with
       | .clock f div e m => .frameSync f div e m (nth 0 (d.frameShape p) 1 == 1) (nth 0 (d.frameShape p) 2)
       | x => x)

/-- SAPp_DOUT: low until the image configures it; high-impedance on a paired port that the chip does not own (R173, R392). -/
def Dev.dout (d : Dev) (p : Nat) : Drive :=
  d.unlessScan (.dout p)
    (if !d.imageApplied || !d.pOn p then .low
     else if !d.portDriven p then .hiZ
     else if d.pLive p then .frames else .low)

/-! ### Modulators (R154, R155) -/

/-- A leg of channel n: low until configured and in OFF, LEGTEST and FAULT; high-impedance on a paired group that the chip does not own; else
the width of the present carrier period, with the trim of a pair (R141, R146, R155, R308). PSM_PG_STAT.STATE is 0 OFF, 1 LEGTEST and 6 FAULT. -/
def Dev.mod (d : Dev) (n : Nat) (b : Bool) : Drive :=
  let g := n / 8
  let st := d.gState g
  d.unlessScan (.mod n b)
    (if !d.imageApplied || !d.is PSM_PG_CFG.EN g then .low
     else if !d.grpDriven g then .hiZ
     else if st == 0 || st == 1 || st == 6 then .low
     else .pulse (if b then (d.pch n).tB else (d.pch n).tA) (carP (d.get PSM_PG_CFG.CAR g)) (d.psmTrim g))

/-- PSEN_Gx (R146, R151, R155). -/
def Dev.psenBall (d : Dev) (g : Nat) : Drive :=
  d.unlessScan (.psen g)
    (if !d.imageApplied || !d.is PSM_PG_CFG.EN g then .low
     else if !d.grpDriven g then .hiZ
     else if (d.pgrp g).psen then .high else .low)

/-! ### Pair, time, control, links -/

/-- OWN_OUT and LIVE_OUT (R299). -/
def Dev.ownOutBall (d : Dev) : Drive := d.unlessScan .ownOut (if d.pair.ownOut then .high else .low)
/-- LIVE_OUT (R299). -/
def Dev.liveOutBall (d : Dev) : Drive := d.unlessScan .liveOut (if d.pair.liveOut then .high else .low)

/-- TIOx: an input until the image makes it an output, which then drives LEVEL (R256, R392). -/
def Dev.tioBall (d : Dev) (x : Nat) : Drive :=
  d.unlessScan (.tio x)
    (if !d.imageApplied || !d.bit TIME_TIO_CFG.DIR x then .hiZ else if d.bit TIME_TIO_CFG.LEVEL x then .high else .low)

/-- ERR_N and IRQ_N are open-drain: low or released (R320, R367). -/
def Dev.errBall (d : Dev) : Drive := d.unlessScan .errN (if d.errN then .hiZ else .low)
/-- IRQ_N. -/
def Dev.irqBall (d : Dev) : Drive := d.unlessScan .irqN (if d.irqN then .hiZ else .low)

/-- How a node's quantity appears at the ball: its voltage divided, or 50 mV for each ampere (R407). -/
inductive AtbScale where
  | divide (n : Nat)
  | perAmp (mv : Nat)
deriving DecidableEq, Repr

/-- The scaling of a node (R407). -/
def atbScale (node : Nat) : AtbScale :=
  match node with
  | 0 => .divide 100
  | 1 => .divide 10
  | 3 => .divide 2
  | 4 => .divide 3
  | 5 => .divide 2
  | 9 | 10 | 11 | 12 => .perAmp 50
  | _ => .divide 1

/-- The voltage of a node in µV where the manual gives it: VBUS by its latest reading, the rails as R344 and PWR set them, the two references
(R344, R351, R352, R407). -/
def Dev.atbNode (d : Dev) (node : Nat) : Option Nat :=
  match node with
  | 0 => if d.isDue .vbusRead 10000 then none else some (10000 * d.get PWR_VBUS.V)
  | 1 => some 9000000
  | 2 => some (1000 * d.pwr.vcore)
  | 3 => some 1800000
  | 4 => some 3300000
  | 5 => some 1200000
  | 6 => some 900000
  | 7 => some 1000000
  | 63 => some 500000
  | _ => none

/-- The level at the ball of a sensed node in µV, within the ±0.5 % and ±2 mV of the buffer (R406). -/
def Dev.atbLevel (d : Dev) (node : Nat) : Option Nat :=
  match atbScale node with
  | .divide n => (d.atbNode node).map (· / n)
  | .perAmp _ => none

/-- ATBb: high-impedance while EN = 0, else the node, sensed or forced (R406, R407). -/
def Dev.atbBall (d : Dev) (b : Nat) : Drive :=
  let n := d.get TEST_ATB_CFG.NODE b
  if !d.is TEST_ATB_CFG.EN b then .hiZ else if d.is TEST_ATB_CFG.FORCE b then .force n else .analog n (d.atbLevel n)

/-- The transmitter of Hedgerow link l: electrical idle in DISABLED, until an image has been applied, and while its block is held in reset
(R190, R203, R392). -/
def Dev.linkBall (d : Dev) (l : Nat) : Drive :=
  d.unlessScan (.linkTx l) (if d.lineSends l 0 = .electricalIdle then .electricalIdle else .blocks)

/-- The transmitter of the pair link: electrical idle until an image has been applied, and while PAIR is held in reset (R314, R392). -/
def Dev.pairTxBall (d : Dev) : Drive := d.unlessScan .pairTx (if !d.imageApplied || d.inReset 14 then .electricalIdle else .blocks)

/-- The transmitter of Ethernet port p: electrical idle until an image has been applied, and with the port disabled (R226, R243, R392). -/
def Dev.ethTxBall (d : Dev) (p : Nat) : Drive := d.unlessScan (.ethTx p) (if !d.imageApplied || !d.ethOn p then .electricalIdle else .blocks)

/-- The transmitter of the PCIe endpoint: electrical idle in a reset, with PERST_N low, and where the host interface is SPI. It trains in
NO_IMAGE too, when the host loads an image over it (DESIGN CHOICE, log entry 97) (R26, R358, R359, R402). -/
def Dev.pcieTxBall (d : Dev) : Drive :=
  d.unlessScan .pcieTx (if d.heldReset || !d.pcie || d.mgmt.perstLow then .electricalIdle else .blocks)

/-! ### Flash, SPI and test access (R22, R392) -/

/-- Is a read of the flash in progress? -/
def Dev.flashBusy (d : Dev) : Bool := d.boot.step == 1 || (d.boot.step == 2 && !d.boot.host)

/-- QSPI_SCK: low between reads. -/
def Dev.qspiSckBall (d : Dev) : Drive := d.unlessScan .qspiSck (if d.flashBusy then .transfer else .low)

/-- QSPI_CS_N: high between reads. -/
def Dev.qspiCsBall (d : Dev) : Drive := d.unlessScan .qspiCsN (if d.flashBusy then .low else .high)

/-- QSPI_IOi: high-impedance between reads. -/
def Dev.qspiIoBall (d : Dev) (i : Nat) : Drive := d.unlessScan (.qspiIo i) (if d.flashBusy then .transfer else .hiZ)

/-- SPI_MISO: high-impedance while SPI_CS_N is high, as it is between the accesses, each of which is one command. -/
def Dev.spiMisoBall (d : Dev) : Drive := d.unlessScan .spiMiso .hiZ

/-- TDO: high-impedance outside Shift-DR and Shift-IR, which the TAP has left when a command has ended; what it shifted out is emitted. -/
def tdoBall : Drive := .hiZ

end Sys2Proof.Machine
end

