-- ==== Sys2Proof/Safety.lean ====
section
/-! DEFINITION. The words in which statements about the block are made: when a command finds the device, what answers it, which states
are canonical. -/

namespace Sys2Proof.Machine

/-- The device as an event finds it that arrives `dt` ticks after the command before it. -/
def State.came (s : State) (dt : Nat) : Dev := s.dev.elapse dt

/-- Neither POR nor RESET_N holds the device when the event arrives. -/
def State.awake (s : State) (dt : Nat) : Prop := (s.came dt).heldReset = false

/-- No reset holds the device, and the port reaches the window. -/
def State.served (s : State) (p : Port) : Prop := s.dev.heldReset = false ∧ s.dev.portOpen (portNum p) = true

/-- The device once an access at an address has been counted. -/
def State.counted (s : State) (p : Port) (a : Nat) : Dev := s.dev.busCount (portNum p) a

/-- The answer of a command that found the device as `o` and whose own effect leaves it as `d`: clocks, resets that are due and pins
follow, and the queue stays. -/
def State.ends (s : State) (o d : Dev) : Reply := .next { s with dev := d.finish o }

/-- The answer of a command whose own effect leaves the device as `d`, where only resets that are due and pins follow. -/
def State.settles (s : State) (d : Dev) : Reply := .next { s with dev := d.settle }

/-- The chip does not send its mirrored writes to a partner, nor takes them from one: no mirrored STANDBY, and no ACTIVE with a link. -/
def Dev.solo (d : Dev) : Prop := d.mirrored = false ∧ (d.role = 2 → d.pair.link = false)

/-- SPRIGm is about to issue, its pc lies inside the CODE section, and the code store holds the word there without an uncorrectable
error. -/
def Dev.fetches (d : Dev) (m : Nat) (w : Word) : Prop :=
  d.spReady m = true ∧ (d.sprig m).pc < d.thk.codeLen ∧
    d.eccBad.contains (memCode + d.thk.codeBase + (d.sprig m).pc / 4 * 4) = false ∧ d.codeWord (d.sprig m).pc = w

/-- The device once SPRIGm has fetched: a corrected error of the code word is reported, and a free number of its stores has completed. -/
def Dev.fetched (d : Dev) (m : Nat) : Dev :=
  let k := memCode + d.thk.codeBase + (d.sprig m).pc / 4 * 4
  (if d.eccCor.contains k then d.corrected FS.THK_ECC_CORR { addr := k, master := m, ty := 3 } else d).spTick m

/-- The device once an instruction's own effect has left it as `d`: SPRIGm goes to `npc`, or waits for the loop whose body ends with the
instruction; the loads that may still be pending follow, and the instruction at `pc` retires with the word that `t` holds there. -/
def Dev.goesOn (d t : Dev) (m pc npc : Nat) (mem : Option (Nat × Nat)) (load store : Bool) : Dev :=
  let x := d.sprig m
  let w := t.codeWord pc
  (d.setSprig m { x with pc := npc % 2 ^ 32, iter := x.order.any (fun i => (tabGet ⟨0, 0, 0⟩ x.lc i).last == pc),
                         fresh := false, loads := d.loadsAfter m w mem }).retire
    { m := m, instr := w.toNat, pc := pc, mem := mem, waits := !(t.loadsAwaited m w).isEmpty } load store

/-- A step that changes only SPRIGm, and goes to the instruction after `pc`. -/
def Dev.goesNext (t : Dev) (m pc : Nat) (x : SprigSt) : Dev := (t.setSprig m x).goesOn t m pc (x.pc + 4) none false false

/-- Keys of a table rise strictly. -/
def Rising {α : Type} : Tab α → Prop
  | [] => True
  | (k, _) :: t => (∀ x ∈ t, k < x.1) ∧ Rising t

/-- The canonical device: the memory holds rising addresses and no zero byte, and no register stands twice in the register table. -/
def Dev.Canon (d : Dev) : Prop := Memory.wf d.mem = true ∧ Rising d.regs

/-- The canonical state. -/
def State.Canon (s : State) : Prop := s.dev.Canon

/-- The state that stands `n` steps later (every step answers a next state). -/
def State.later : Nat → State → State
  | 0, s => s
  | n + 1, s => match step s with
    | .next t => State.later n t
    | _ => s

end Sys2Proof.Machine

namespace Sys2Proof

/-- The commands of the supply, of the reset and test pins, and of the inputs that a held reset does not mask. -/
def Instr.ofPins : Instr → Bool
  | .powerUp .. | .porRelease .. | .por .. | .chipReset .. | .railTimeout .. | .powerUpRetry .. | .bootStart .. | .perstNChange ..
  | .liveEdge .. | .ownInChange .. | .tapReset .. | .extest .. | .idcode .. | .samplePreload .. | .extestPulse .. | .extestTrain ..
  | .highz .. | .clamp .. | .bypass .. => true
  | _ => false

end Sys2Proof
end

