-- ==== Sys2Proof/Certificates/Slice0/Obligations.lean ====
section
/-! DEFINITION. The statements about the block, family by family, from the rules of the manual. -/

open Sys2Proof Sys2Proof.Machine

/-! ### The queue and the step -/

/-- A step takes the command at the front of the queue and answers what the command answers on the queue's rest. -/
def Obligations.StepRunsFrontCommand : Prop :=
  ∀ (c : Instr) (s : State), step { s with pending := c :: s.pending } = exec c s

/-- On an empty queue one TCLK tick passes: the model's choice (log entry 2). -/
def Obligations.IdleStepLetsOneTickPass : Prop :=
  ∀ s : State, s.pending = [] → step s = .next { s with dev := s.dev.elapse 1 } ∧ (s.dev.elapse 1).tclk = s.dev.tclk + 1

/-- Every command answers a next state, which keeps the queue: no command stops the block. -/
def Obligations.EveryCommandAnswersNext : Prop :=
  ∀ (c : Instr) (s : State), ∃ d : Dev, exec c s = .next { s with dev := d }

/-- The queue is served first in, first out: `n` steps take the first `n` commands, and what waits behind them has no effect. -/
def Obligations.QueueIsFirstInFirstOut : Prop :=
  ∀ (n : Nat) (s : State), n ≤ s.pending.length →
    (State.later n s).pending = s.pending.drop n
      ∧ (State.later n s).dev = (State.later n { s with pending := s.pending.take n }).dev

/-! ### Reset -/

/-- Right after reset every element of every register holds its reset word, no command waits, and every byte of memory
reads 0, which is the model's choice (log entry 5). -/
def Obligations.ResetHoldsEveryResetWord : Prop :=
  (∀ r ∈ allRegs, ∀ i j : Nat, i < r.n1 → j < r.n2 → State.reset.dev.rd r i j = r.rstAt i j)
    ∧ (∀ a, memByte State.reset.dev.mem a = 0) ∧ State.reset.pending = []

/-- While POR or RESET_N holds the device, a command other than those of the supply, of the reset and test pins and of the inputs that
a held reset does not mask only lets its time pass. Which commands a held reset masks and which it lets through is the model's choice (log
entry 12); the time that an event takes is the model's operand (log entry 3). -/
def Obligations.HeldResetOnlyLetsTimePass : Prop :=
  ∀ (c : Instr) (s : State), c.ofPins = false → s.dev.heldReset = true → ∃ n : Nat, exec c s = .next { s with dev := s.dev.elapse n }

/-! ### Canonical form -/

/-- The reset state is canonical. -/
def Obligations.ResetStateIsCanonical : Prop := State.reset.Canon

/-- Every step keeps the canonical form: memory addresses rise and hold no zero byte, no register is listed twice. -/
def Obligations.EveryStepKeepsCanonicalForm : Prop :=
  ∀ s t : State, s.Canon → step s = .next t → t.Canon

/-! ### Alignment DLLs (R285 to R293) -/

/-- The commands of the alignment DLLs. DLL_LOCK moves LOCKING to ALIGNING and reports the tap size 1 ÷ (1,024 × MCLK); DLL_ANCHOR
in ALIGNING, at an anchor at least 2 µs after a measured MCLK edge, takes the tap nearest to the distance between anchor and edge and
moves to RUN; in RUN it reports an error within LIMIT; DLL_UNLOCK returns to LOCKING with UNLKEV
and ALN.UNLOCK; REALIGN (DLLs 0 to 23), and a write of ALN_OUT_OFS, move a DLL in RUN to ALIGNING. Frequencies are in 1/64 Hz, an anchor in
ps times the frequency, an edge in 1/16 ns, an error in ps. -/
def Obligations.AlignmentCommandsComplete : Prop :=
  (∀ (s : State) (dt : Nat) (x : Fin 28) (d : Dev), d = s.came dt → s.awake dt → d.dllState x = 2 → (d.dllTo x 3).mclkNow (d.dllLoop x) ≠ 0 →
    exec (.dllLock dt x) s = s.ends d
      ((d.dllTo x 3).put ALN_DLL_TSZ.TSZ (rhe 6400000000000000 ((d.dllTo x 3).mclkNow (d.dllLoop x) * 1024)).toNat x))
  ∧ (∀ (s : State) (dt : Nat) (x : Fin 28) (sec frac edge a f : Nat) (err : Int) (d e : Dev), edge = sec * 16000000000 + frac → d = s.came dt →
      s.awake dt → d.dllState x = 3 →
      d.hasAnchors x = true → d.anchorHere x = some a → f = (d.loop (d.dllLoop x)).fout → (125 * edge + 4000000) * f ≤ 2 * a →
      d.ranFor .align 2000 x = true →
      e = (d.put ALN_DLL_STAT.TAP (rhe ((2 * a - 125 * edge * f) % 128000000000000 * 1024 : Nat) 128000000000000 % 1024).toNat x).dllTo x 4 →
      exec (.dllAnchor dt x sec frac err) s = s.ends d
        { e with dll := tabPut {} e.dll x { edge := 4000 * e.tclk + (a - (e.tb (e.anchorTb x)).val * 1000 * f / 2 ^ 46) / max 1 f } })
  ∧ (∀ (s : State) (dt : Nat) (x : Fin 28) (sec frac a : Nat) (err : Int) (d e : Dev), d = s.came dt → s.awake dt → d.dllState x = 4 →
      d.hasAnchors x = true → d.anchorHere x = some a → d.is ALN_DLL_CTRL.TRACK x = false → err.natAbs ≤ max 100 (d.get ALN_CFG.LIMIT) →
      e = d.put ALN_DLL_ERR.ERR (unsW 16 (clampI (-32768) 32767 err)) x →
      exec (.dllAnchor dt x sec frac err) s = s.ends d { e with dll := tabPut {} e.dll x { tabGet {} e.dll x with beyond := false } })
  ∧ (∀ (s : State) (dt : Nat) (x : Fin 28) (d : Dev), d = s.came dt → s.awake dt → d.dllState x = 3 ∨ d.dllState x = 4 →
      exec (.dllUnlock dt x) s = s.ends d (((d.dllTo x 2).put ALN_DLL_STAT.UNLKEV 1 x).raise FS.ALN_UNLOCK))
  ∧ (∀ (s : State) (p : Port) (x : Fin 28) (w : Word) (d : Dev), d = s.counted p (ALN_DLL_CTRL.addr x 0) → s.served p →
      fget w 0 0 = 1 → d.dllState x = 4 → x.val < 24 →
      exec (.dllRealign p x w) s = s.ends s.dev ((d.store ALN_DLL_CTRL w x).dllTo x 3))
  ∧ (∀ (s : State) (p : Port) (o : Fin 8) (w : Word) (d : Dev), d = s.counted p (ALN_OUT_OFS.addr o 0) → s.served p → d.dllState o = 4 →
      exec (.outOfsWrite p o w) s = s.ends s.dev ((d.store ALN_OUT_OFS w o).dllTo o 3))

/-! ### Time bases, selector, alarms, captures (R244 to R263) -/

/-- The time-base commands complete. TB_SET loads seconds and nanoseconds with a fraction of 0, sets STEPEV, raises
TIME.STEP and fires the alarms passed, and a LOCKED or HOLD servo returns to ACQUIRE. TB_READ, a read of T0, loads T1 and T2 of the same
instant and returns T0. RATE_COMMIT, a write of RATE_HI in FREE, applies ADJ with the held low half. SERVO_FREE, FREE = 1, takes a servo to
FREE. OFFSET_SUBMIT of a time base with SRC = 1 in LOCKED, of age 0, without FSTEP and within both eight lock thresholds and the step
threshold: it is counted in ACC, stands in THETA, moves the integrator by KI and sets ADJ to the integrator plus its KP part.
SERVO_HOLD_TIMEOUT: no accepted offset for HOLD_TMO takes ACQUIRE and LOCKED to HOLD. -/
def Obligations.TimeBaseCommandsComplete : Prop :=
  (∀ (s : State) (p : Port) (t : Fin 4) (w : Word) (c d e : Dev), c = s.counted p (TIME_TB_CTRL.addr t 0) → s.served p →
    fget w 1 1 = 0 → fget w 0 0 = 1 → c.get TIME_OFS_MNS.NS t < 1000000000 →
    d = ((c.store TIME_TB_CTRL w t).setTb t
      { c.tb t with sec := c.get TIME_OFS_MSEC.SEC t, ns := c.get TIME_OFS_MNS.NS t, frac := 0, hid := 0 }).noteStep t →
    e = ((({ d with time := { d.time with setAt := tabPut 0 d.time.setAt t (d.tclk + 1) } }).put TIME_TB_STAT.STEPEV 1 t).raise
      (FS.TIME_STEP + t)).almAfterStep t →
    exec (.tbSet p t w) s = s.ends s.dev (if e.servo t = 2 ∨ e.servo t = 3 then e.servoTo t 1 else e))
  ∧ (∀ (s : State) (p : Port) (t : Fin 4) (c d : Dev), c = s.counted p (TIME_TB_T0.addr t 0) → s.served p →
      c.inReset 4 = false →
      d = (((c.put TIME_TB_T0.SEC_HI ((c.tb t).sec / 2 ^ 32) t).put TIME_TB_T0.FRAC (c.tb t).frac t).put TIME_TB_T1.SEC_LO
        ((c.tb t).sec % 2 ^ 32) t).put TIME_TB_T2.NS (c.tb t).ns t →
      exec (.tbRead p t) s = s.ends s.dev (d.emit (.rdata (portNum p) (TIME_TB_T0.addr t 0)
        (regLoad (c.imgSet TIME_TB_T0 t) TIME_TB_T0.flds (d.rd TIME_TB_T0 t)))))
  ∧ (∀ (s : State) (p : Port) (t : Fin 4) (w : Word) (c : Dev) (lo : Nat), c = s.counted p (TIME_TB_RATE_HI.addr t 0) → s.served p →
      c.servo t = 0 → tabGet 0 c.time.rateLo t = lo + 1 →
      exec (.rateCommit p t w) s = s.ends s.dev (({ c with time := { c.time with rateLo := tabDel c.time.rateLo t } }).setAdj t
        (sgnW 40 (w.toNat % 256 * 2 ^ 32 + lo))))
  ∧ (∀ (s : State) (p : Port) (t : Fin 4) (w : Word) (c : Dev), c = s.counted p (TIME_TB_CTRL.addr t 0) → s.served p →
      fget w 1 1 = 1 → fget w 0 0 = 0 → exec (.servoFree p t w) s = s.ends s.dev ((c.store TIME_TB_CTRL w t).servoTo t 0))
  ∧ (∀ (s : State) (p : Port) (t : Fin 4) (w : Word) (c d : Dev) (i : Int), c = s.counted p (TIME_OFS_VAL.addr t 0) → s.served p →
    c.get TIME_TB_CFG.SRC t = 1 → c.is TIME_TB_CTRL.FREE t = false → c.servo t = 2 → c.is TIME_OFS_MNS.FSTEP t = false →
    tabGet 0 c.time.setAt t ≠ c.tclk + 1 →
    c.get TIME_OFS_MSEC.SEC t = (c.tb t).sec % 2 ^ 32 → (c.tb t).val % tbSecond = c.get TIME_OFS_MNS.NS t * 2 ^ 46 →
    w.toInt.natAbs ≤ 8 * c.lockThr t → w.toInt.natAbs ≤ 16000 * max 1 (c.get TIME_SRV_THR.STEP_THR t) →
    d = ((c.inc TIME_TB_STAT.ACC t).put TIME_SRV_LAST.THETA (unsW 32 (sat31 w.toInt)) t).startTimer .offset t →
    i = clampAdj ((c.tb t).integ + rhe (c.get TIME_SRV_KI.K t * w.toInt) 4096) →
    exec (.offsetSubmit p t w) s = s.ends s.dev
      ((d.setTb t { c.tb t with integ := i, lockCnt := (c.tb t).lockCnt }).setAdj t (i + rhe (c.get TIME_SRV_KP.K t * w.toInt) 4096)))
  ∧ (∀ (s : State) (dt : Nat) (t : Fin 4) (d : Dev), d = s.came dt → s.awake dt → d.servo t = 1 ∨ d.servo t = 2 →
      d.isDue .offset (max 1 (d.get TIME_SRV_CFG.HOLD_TMO t) * 1000000) t = true →
      exec (.servoHoldTimeout dt t) s = s.ends d (d.servoTo t 3))

/-- The selector's commands. While time passes the build-out moves toward 0 by SLEW ns per second, in whole 1/16 ns with the rest kept; a
tick gives the media time base the offset of the selected one; SWITCH
to a LOCKED time base no more than 100 ms away takes the difference into the build-out, changes CUR, sets SWEV and raises TIME.SELSW;
with REVERT set and TB_A LOCKED for RVT seconds the selector switches back. -/
def Obligations.SelectorCommandsComplete : Prop :=
  (∀ (d : Dev) (n mv : Nat), 0 < n → d.selOn = true → d.selBo ≠ 0 → 0 < d.get TIME_SEL_CTRL.SLEW →
    mv = min ((d.time.bleedRem + 64 * d.get TIME_SEL_CTRL.SLEW * n) / 1000000000) d.selBo.natAbs →
    (d.pass n).selBo = (if d.selBo < 0 then d.selBo + mv else d.selBo - mv) ∧ (d.pass n).time.bleedRem =
      (if mv = d.selBo.natAbs then 0 else (d.time.bleedRem + 64 * d.get TIME_SEL_CTRL.SLEW * n) % 1000000000))
  ∧ (∀ (s : State) (dt : Nat) (o e : Dev), o = s.came dt → s.awake dt → o.selOn = true →
    o.isDue .selTick 1000000 = true → e = o.startTimer .selTick → e.servo e.selCur ≠ 0 →
    exec (.selectorTick dt) s = s.ends o (e.offset (e.get TIME_SEL_CFG.M) 3
      (e.tb16 e.selCur + e.selBo - e.tb16 (e.get TIME_SEL_CFG.M)) true false))
  ∧ (∀ (s : State) (p : Port) (w : Word) (c e : Dev) (diff : Int), c = s.counted p (TIME_SEL_CTRL.addr 0 0) → s.served p → fget w 0 0 = 1 →
      e = (c.store TIME_SEL_CTRL w).setBo (c.store TIME_SEL_CTRL w).selBo → e.selOn = true → e.servo e.selOther = 2 →
      diff = e.tb16 e.selCur - e.tb16 e.selOther → diff.natAbs ≤ 1600000000 →
      exec (.selectorSwitch p w) s = s.ends s.dev
        ((((e.setBo (e.selBo + diff)).put TIME_SEL_STAT.CUR (1 - (e.setBo (e.selBo + diff)).get TIME_SEL_STAT.CUR)).put
          TIME_SEL_STAT.SWEV 1).raise FS.TIME_SELSW))
  ∧ (∀ (s : State) (dt : Nat) (d : Dev) (diff : Int), d = s.came dt → s.awake dt → d.selOn = true → d.is TIME_SEL_CTRL.REVERT = true →
      d.is TIME_SEL_STAT.CUR = true → d.servo (d.get TIME_SEL_CFG.A) = 2 →
      d.ranFor .locked (max 1 (d.get TIME_SEL_CTRL.RVT) * 1000000000) (d.get TIME_SEL_CFG.A) = true → diff = d.tb16 d.selCur - d.tb16 d.selOther →
      diff.natAbs ≤ 1600000000 →
      exec (.selectorRevert dt) s = s.ends d
        ((((d.setBo (d.selBo + diff)).put TIME_SEL_STAT.CUR (1 - (d.setBo (d.selBo + diff)).get TIME_SEL_STAT.CUR)).put
          TIME_SEL_STAT.SWEV 1).raise FS.TIME_SELSW))

/-- The commands of the alarms and captures, of a firmware alarm and of a capture unit out of block reset. TIME_ALM_NS with EN = 1 arms
the alarm at the registers' target; EN = 0 disarms; an armed alarm whose time base has reached its target fires: its status bit and vector,
toggle, set or clear of its pin where that is an output, the capture event, then a one-shot is disarmed and a periodic one armed a period
later; an edge on a pin makes every enabled unit on it record; a read of T0 loads T1 and T2 of the record. That an edge at an output's own
pin is no event (log entry 107), and that a record adds the position within the tick in 1/16 ns (log entry 49), is the model's choice. -/
def Obligations.AlarmAndCaptureCommandsComplete : Prop :=
  (∀ (s : State) (p : Port) (a : Fin 32) (w : Word) (c e : Dev), c = s.counted p (TIME_ALM_NS.addr a 0) → s.served p →
    c.almFw a = true → c.is TIME_ALM_CFG.EN a = true →
    e = (c.store TIME_ALM_NS w a).almArm a (c.get TIME_ALM_SEC.SEC a) ((c.store TIME_ALM_NS w a).get TIME_ALM_NS.NS a) →
    e.almReached a = false → exec (.alarmArm p a w) s = s.ends s.dev e)
  ∧ (∀ (s : State) (p : Port) (a : Fin 32) (w : Word) (c : Dev), c = s.counted p (TIME_ALM_CFG.addr a 0) → s.served p →
      c.almFw a = true → fget w 31 31 = 0 →
      exec (.alarmDisarm p a w) s = s.ends s.dev ((c.store TIME_ALM_CFG w a).put TIME_ALM_CFG.ARMED 0 a))
  ∧ (∀ (s : State) (dt p act : Nat) (a : Fin 32) (sub : Fin 64) (d f g u : Dev) (t : AlmSt), d = s.came dt → s.awake dt → d.armed a = true →
      d.almReached a = true → d.almFw a = true → (d.almPer a = 0 ∨ d.almSkip a = 1) →
      f = (if d.is TIME_ALM_CFG.IRQ a = true then (d.setBit TIME_ALM_STAT.F a).raiseVec (32 + a) else d.setBit TIME_ALM_STAT.F a) →
      p = f.get TIME_ALM_CFG.TIO a → act = f.get TIME_ALM_CFG.TIOACT a →
      g = (if f.bit TIME_TIO_CFG.DIR p = true ∧ (act = 2 ∨ (act = 1 ∧ f.bit TIME_TIO_CFG.LEVEL p = false)) then f.setBit TIME_TIO_CFG.LEVEL p
        else if f.bit TIME_TIO_CFG.DIR p = true ∧ (act = 3 ∨ act = 1) then f.clrBit TIME_TIO_CFG.LEVEL p else f) →
      u = g.captureEvent (32 + a) → t = tabGet {} u.time.alarms a →
      exec (.alarmFire dt a sub) s = s.ends d (if d.almPer a = 0 then u.put TIME_ALM_CFG.ARMED 0 a
        else { u.put TIME_ALM_CFG.ARMED 1 a with time := { u.time with
                 alarms := tabPut {} u.time.alarms a ⟨(t.sec + (t.ns + d.almPer a) / 1000000000) % 2 ^ 32, (t.ns + d.almPer a) % 1000000000, 0⟩ } }))
  ∧ (∀ (s : State) (dt : Nat) (pin : Fin 12) (rising : Bool) (sub : Fin 64) (d : Dev), d = s.came dt → s.awake dt → pin.val < 8 →
      d.bit TIME_TIO_CFG.DIR pin = true → exec (.captureEvent dt pin rising sub) s = s.ends d d)
  ∧ (∀ (s : State) (dt : Nat) (pin : Fin 12) (rising : Bool) (sub : Fin 64) (d e : Dev), d = s.came dt → s.awake dt →
      (pin.val < 8 → d.bit TIME_TIO_CFG.DIR pin = false) →
      e = (if 8 ≤ pin.val then d else if rising then d.setBit TIME_TIO_CFG.LEVEL pin else d.clrBit TIME_TIO_CFG.LEVEL pin) →
      exec (.captureEvent dt pin rising sub) s = s.ends d (forN 16 (fun k d =>
        if d.is TIME_CAP_CFG.EN k = true ∧ d.get TIME_CAP_CFG.SRC k = pin ∧
            (d.get TIME_CAP_CFG.EDGE k = 2 ∨ (d.get TIME_CAP_CFG.EDGE k = 1 ∧ rising = false) ∨
              (d.get TIME_CAP_CFG.EDGE k ≠ 1 ∧ d.get TIME_CAP_CFG.EDGE k ≠ 2 ∧ rising = true))
        then d.capRecord k sub else d) e))
  ∧ (∀ (s : State) (p : Port) (k : Fin 16) (c d : Dev) (r : CapSt), c = s.counted p (TIME_CAP_T0.addr k 0) → s.served p →
      c.inReset 4 = false → r = tabGet {} c.time.caps k →
      d = (c.put TIME_CAP_T1.SEC_LO (r.sec % 2 ^ 32) k).put TIME_CAP_T2.NS r.ns k →
      exec (.captureRead p k) s = s.ends s.dev (d.emit (.rdata (portNum p) (TIME_CAP_T0.addr k 0)
        (regLoad (c.imgSet TIME_CAP_T0 k) TIME_CAP_T0.flds (d.rd TIME_CAP_T0 k)))))

/-! ### Block cycle (R36 to R43) -/

/-- The commands that start and stop the cycle. With WAIT_SYNC = 0 the loop's lock arms the block-cycle alarm; SYNC_TMO seconds in WAIT_SYNC
set FREE and arm it; REALIGN takes a RUNNING cycle without an armed swap out of RUNNING, its fade to begin at the next boundary; at
REALIGN_STOP, RAMP + 2 × Tb after the fade began, the cycle stops. That the state and the role in a pair change at the REALIGN write itself
is the model's choice (log entry 19), and so is the start of the periods that stand for blocks there (R321: from the end of RUNNING). -/
def Obligations.CycleCommandsComplete : Prop :=
  (∀ (s : State) (dt : Nat) (d : Dev), d = s.came dt → s.awake dt → d.get SYS_BLK_STATUS.STATE = 1 →
    d.is RCU_LOOP_STAT.LOCK (d.get SYS_BLK_CFG.LOOP) = true → d.is SYS_BLK_CTRL.WAIT_SYNC = false →
    exec (.blockCycleArm dt) s = s.ends d d.armCycle)
  ∧ (∀ (s : State) (dt : Nat) (d : Dev), d = s.came dt → s.awake dt → d.get SYS_BLK_STATUS.STATE = 2 →
      d.get SYS_BLK_CTRL.SYNC_TMO ≠ 0 → d.ranFor .waitSync (d.get SYS_BLK_CTRL.SYNC_TMO * 1000000000) = true →
      exec (.syncTimeout dt) s = s.ends d (d.put SYS_BLK_STATUS.FREE 1).armCycle)
  ∧ (∀ (s : State) (p : Port) (w : Word) (c : Dev), c = s.counted p (SYS_BLK_CTRL.addr 0 0) → s.served p → fget w 0 0 = 1 →
      c.get SYS_BLK_STATUS.STATE = 4 → c.is SYS_SWAP_CTRL.ARM = false → c.is SYS_SWAP_STATUS.RESTARTING = false →
      exec (.blockRealign p w) s = s.ends s.dev
        ({ ((c.store SYS_BLK_CTRL w).put SYS_BLK_STATUS.STATE 5).pseudoFrom with cyc := { c.cyc with realign := true } }).pairCycleStop.perfBoundary)
  ∧ (∀ (s : State) (dt : Nat) (d : Dev), d = s.came dt → s.awake dt → d.get SYS_BLK_STATUS.STATE = 5 → d.cyc.realign = false →
      d.ranFor .fadeDown d.fadedNs = true → exec (.realignStop dt) s = s.ends d d.cycleStop)

/-- What happens within a block of a RUNNING cycle, in the order of the manual: at the boundary the counter advances and the input block
is sealed before the swap, the commits, the role changes and what is sent; at the seal's end the ready counters load and the root jobs
are pushed; the crosspoint pass computes the destinations and releases the jobs that wait for it; at the deadline the output stage
takes the outputs. The boundary is one within HBWIN of Tb after the one before; the least time that a block takes is log entry 139. -/
def Obligations.BlockStagesComplete : Prop :=
  (∀ (s : State) (dt : Nat) (sub : Fin 64) (sense : List (Nat × List Int)) (d o a b c e : Dev), d = s.came dt → s.awake dt →
    d.get SYS_BLK_STATUS.STATE = 4 → d.tooSoon = false → d.offTb = false →
    o = d.newPeriod.put SYS_BLK_COUNT.COUNT ((d.cyc.k + 1) % 2 ^ 32) →
    a = ({ o with cyc := { o.cyc with k := d.cyc.k + 1, at16 := o.now16 + sub, mclk := d.cyc.mclk + o.blockMclk, tick := o.tclk, fresh := false } }).captureEvent
      28 true sub →
    b = ((a.seal d.cyc.k sense).paceRate).phaseCheck (d.cyc.k + 1) (a.now16 + sub) →
    c = ((((b.swapBoundary ((d.cyc.k + 1) % 2 ^ 32)).realignFade).resyncTurn ((d.cyc.k + 1) % 2 ^ 32)).pcommitTurn ((d.cyc.k + 1) % 2 ^ 32)) →
    e = ((((((c.xptTurn ((d.cyc.k + 1) % 2 ^ 32)).psmAdoptAll).psmBoundary false).rsvApply).revert.pairBoundaryRole ((d.cyc.k + 1) % 2 ^ 32)).sendTurn
      (d.cyc.k + 1)).perfBoundary →
    exec (.blockBoundary dt sub sense) s = s.ends d ((if e.running = true then e.loadLatch else e).perfEvent 0x10 1))
  ∧ (∀ (s : State) (dt n : Nat) (d e : Dev), d = s.came dt → s.awake dt → d.thk.stage = 1 → d.inReset 12 = false → d.thk.jobs ≠ [] →
      n = (d.get SYS_BLK_COUNT.COUNT + 2 ^ 32 - 1) % 2 ^ 32 →
      e = { d with
            thk := { d.thk with
              inst := some n, stage := 2, killed := false,
              cnt := (d.thk.jobs.mapIdx (fun i j => (i, j.preds + b2n j.xin))).filter (fun kv => kv.2 != 0),
              fate := [], doneAt := [], taint := [], fin := none, owner := [], deque := [] },
            aud := { d.aud with build := [] } } →
      exec (.sealComplete dt) s = s.ends d ((List.range d.thk.jobs.length).foldl (fun d j => if tabGet 0 d.thk.cnt j = 0 then d.pushJob j else d) e))
  ∧ (∀ (s : State) (dt : Nat) (d : Dev), d = s.came dt → s.awake dt → d.thk.stage = 2 →
      exec (.xptPassDone dt) s = s.ends d (d.xptPass.xinReady.psmWake).restartDone)
  ∧ (∀ (s : State) (dt : Nat) (d e : Dev), d = s.came dt → s.awake dt → d.thk.inst ≠ none → e = d.thkDeadline.2 →
      d.thkDeadline.1 = none → (List.range d.thk.jobs.length).all (fun j => !decide (3 ≤ e.fate j) && !e.thk.taint.contains j) = true →
      e.is THK_SLACK.OVR = false → e.pair.resyncing = false → exec (.deadline dt) s = s.ends d e.pairStaged)

/-! ### Counters and sampling (R333 to R342) -/

/-- The accesses of the counters, each port with its own snapshot and staging register, with PERF out of block reset. A read of LO returns
the low word and snapshots the high 16 bits, before the access itself is counted; a write of HI stages 16 bits; a write of LO replaces the
count by the staged bits above the written word, here of a counter that counts no event; CLR sets every slot counter to 0, at once where
ALIGN = 0. COUNTER_WRAP and SAMPLE_RECORD. A counter of a listed event other than pace ticks that counts and stands at 2^48 − 1 passes to 0
and sets WRAP, with the PERF interrupt where IRQ = 1; one that counts PACE or IDLE ticks passes on by a pace tick, which every busy Sprig's
slot counters see too; the oldest buffered record goes to the trace ring that RING names and REC counts it. -/
def Obligations.CounterCommandsComplete : Prop :=
  (∀ (s : State) (p : Port) (i : Fin 32) (c : Dev) (x y : CntPort) (n : Nat), c = s.dev → s.served p →
    c.inReset 16 = false → n = tabGet 0 c.perf.cnt i → x = tabGet {} c.perf.cntPort i →
    y = (if p = Port.core then { x with snapCore := n / 2 ^ 32 } else { x with snapHost := n / 2 ^ 32 }) →
    exec (.cntLoRead p i) s = s.ends s.dev
      (((c.setCntPort i y).busCount (portNum p) (PERF_CNT_LO.addr i 0)).emit (.rdata (portNum p) (PERF_CNT_LO.addr i 0) (BitVec.ofNat 32 n))))
  ∧ (∀ (s : State) (p : Port) (i : Fin 32) (w : Word) (c : Dev) (x : CntPort), c = s.counted p (PERF_CNT_HI.addr i 0) → s.served p →
      c.inReset 16 = false → x = tabGet {} c.perf.cntPort i →
      exec (.cntHiWrite p i w) s = s.ends s.dev
        (c.setCntPort i (if p = Port.core then { x with stageCore := w.toNat % 65536 } else { x with stageHost := w.toNat % 65536 })))
  ∧ (∀ (s : State) (p : Port) (i : Fin 32) (w : Word) (c e : Dev) (x : CntPort) (hi : Nat),
      c = s.dev.busCountBut (portNum p) (PERF_CNT_LO.addr i 0) i → s.dev.get PERF_CNT_CFG.EVENT i = 0 → s.served p → c.inReset 16 = false →
      c.get PERF_CNT_CFG.EVENT i = 0 → x = tabGet {} c.perf.cntPort i →
      hi = (if p = Port.core then x.stageCore else x.stageHost) →
      e = { c with perf := { c.perf with cnt := tabPut 0 c.perf.cnt i (hi * 2 ^ 32 + w.toNat) } } →
      exec (.cntLoWrite p i w) s = s.ends s.dev
        (e.setCntPort i (if p = Port.core then { x with stageCore := 0 } else { x with stageHost := 0 })))
  ∧ (∀ (s : State) (p : Port) (w : Word) (c : Dev), c = s.counted p (PERF_SLOT_CTRL.addr 0 0) → s.served p → c.inReset 16 = false →
      bitOf w.toNat 0 = 1 → c.is PERF_CTRL.ALIGN = false → exec (.slotClear p w) s = s.ends s.dev (c.store PERF_SLOT_CTRL w).slotClear)
  ∧ (∀ (s : State) (p : Port) (m : Fin 64) (k : Fin 4) (c : Dev) (n : Nat), c = s.counted p (PERF_SLOT_LO.addr m k) → s.served p →
      c.inReset 16 = false → n = tabGet 0 c.perf.slot (4 * m + k) →
      exec (.slotLoRead p m k) s = s.ends s.dev
        (({ c with perf := if p = Port.core
              then { c.perf with slotSnapCore := tabPut 0 c.perf.slotSnapCore (4 * m + k) (n / 2 ^ 32) }
              else { c.perf with slotSnapHost := tabPut 0 c.perf.slotSnapHost (4 * m + k) (n / 2 ^ 32) } }).emit
          (.rdata (portNum p) (PERF_SLOT_LO.addr m k) (BitVec.ofNat 32 n))))
  ∧ (∀ (s : State) (dt : Nat) (i : Fin 32) (d e : Dev), d = s.came dt → s.awake dt → d.cntOn i = true →
    tabGet 0 d.perf.cnt i = 2 ^ 48 - 1 → eventListed (d.get PERF_CNT_CFG.EVENT i) = true → 3 ≤ d.get PERF_CNT_CFG.EVENT i →
    e = ({ d with perf := { d.perf with cnt := tabDel d.perf.cnt i, incAt := tabPut 0 d.perf.incAt i (d.pace + 1) } }).put PERF_CNT_AUX.WRAP 1 i →
    exec (.counterWrap dt i) s = s.ends d (if e.is PERF_CNT_CFG.IRQ i = true then e.raiseVec 3 else e))
  ∧ (∀ (s : State) (dt : Nat) (i : Fin 32) (d : Dev), d = s.came dt → s.awake dt → d.cntOn i = true →
    tabGet 0 d.perf.cnt i = 2 ^ 48 - 1 → d.get PERF_CNT_CFG.EVENT i = 1 ∨ d.get PERF_CNT_CFG.EVENT i = 2 → d.cntEveryTick i = true →
    exec (.counterWrap dt i) s = s.ends d (({ d with pace := (d.pace + 1) % 2 ^ 48 }).perfTicks 1))
  ∧ (∀ (s : State) (dt : Nat) (r : List Byte) (rs : List (List Byte)) (d f e : Dev), d = s.came dt → s.awake dt → d.perf.buf = r :: rs →
      f = { d with perf := { d.perf with buf := rs } } → f.ringPush (92 + f.get PERF_SMP_CFG.RING) 5 0 0 0 r = (true, e) →
      exec (.sampleRecord dt) s = s.ends d (e.inc PERF_SMP_STAT.REC))

/-! ### Jobs (R86 to R100) -/

/-- The commands of the jobs. An idle Sprig takes the head of its own deque; 100 ns after a fruitless round it probes its partners again; a job
whose `end` has issued completes once its stores have; EN = 1 enables AVS and restarts the window; a write of the shared-store window
reaches a region at once while the cycle is not RUNNING; ARM arms the staged writes, late where a tagged commit names a block that is not
later than the current one. -/
def Obligations.JobCommandsComplete : Prop :=
  (∀ (s : State) (dt j : Nat) (m : Fin 64) (q : List Nat) (d : Dev), d = s.came dt → s.awake dt → (d.sprig m).busy = false →
    d.inReset 12 = false → d.deque m = j :: q → exec (.sprigTakeJob dt m) s = s.ends d ((d.setDeque m q).startJob m j false))
  ∧ (∀ (s : State) (dt k j : Nat) (m : Fin 64) (d : Dev), d = s.came dt → s.awake dt → (d.sprig m).wait = true →
      (d.sprig m).busy = false → d.inReset 12 = false → d.stealInh m = false →
      (probePartners m).findSome? (fun q => (d.stealable (d.deque q)).map (fun j => (q, j))) = some (k, j) →
      d.isDue .steal 100 m = true →
      exec (.stealRetry dt m) s = s.ends d ((d.setDeque k ((d.deque k).filter (· != j))).startJob m j true))
  ∧ (∀ (s : State) (dt : Nat) (m : Fin 64) (d : Dev), d = s.came dt → s.awake dt → (d.sprig m).busy = true → (d.sprig m).ended = true →
      d.thk.inst ≠ none → exec (.jobComplete dt m) s = s.ends d (({ (d.spFlush m).setSprig m {} with
        thk := { ((d.spFlush m).setSprig m {}).thk with
          doneAt := tabPut 0 ((d.spFlush m).setSprig m {}).thk.doneAt (d.sprig m).job (((d.spFlush m).setSprig m {}).tclk + 1) } }).jobOver
        (d.sprig m).job 2))
  ∧ (∀ (s : State) (p : Port) (w : Word) (c : Dev), c = s.counted p (THK_AVS_CFG.addr 0 0) → s.served p → bitOf w.toNat 31 = 1 →
      exec (.avsEnable p w) s = s.ends s.dev (c.store THK_AVS_CFG w).avsRestart)
  ∧ (∀ (s : State) (p : Port) (k : Fin 0x100000) (w : Word) (c : Dev) (off : Nat) (r : Region), c = s.counted p (sharedAddr k) →
      s.served p → off = c.ssPage (portNum p) * 0x400000 + 4 * k → (c.perfEvent 0x22 1 { master := portNum p, addr := off }).solo →
      (c.perfEvent 0x22 1 { master := portNum p, addr := off }).regionAt off = some r →
      (c.perfEvent 0x22 1 { master := portNum p, addr := off }).running = false →
      exec (.sharedStoreWrite p k w) s =
        s.ends s.dev ((c.perfEvent 0x22 1 { master := portNum p, addr := off }).setMemW (memShared + off) w))
  ∧ (∀ (s : State) (p : Port) (w : Word) (c e : Dev), c = s.counted p (THK_PCTRL.addr 0 0) → s.served p → c.solo →
      bitOf w.toNat 0 = 1 → e = c.store THK_PCTRL w →
      exec (.pcommitArm p w) s = s.ends s.dev
        (if bitOf w.toNat 1 = 1 ∧ later32 (e.get THK_PCOMMIT.BLOCK) (e.get SYS_BLK_COUNT.COUNT) = false then
          { e with thk := { e.thk with late := true } }
        else e))

/-! ### Supply (R344 to R356) -/

/-- The commands of the supply. VBUS below LEVEL with no dip policy active sets WARN, counts the dip and raises PWR.VBUS_WARN; above LEVEL +
1 V WARN clears and a restore ramp of the groups selected begins; a reading past its threshold trips a supervisor and raises its source,
and one past the clear threshold ends the trip; SET is taken while AVS is off; each step, 10 µs after the one before, moves VCORE 5 mV toward
its target; once every selected group is back at 1 none is selected any more. -/
def Obligations.SupplyCommandsComplete : Prop :=
  (∀ (s : State) (dt mv : Nat) (d e : Dev), d = s.came dt → s.awake dt → d.is PWR_STAT.WARN = false → mv < d.warnMv →
    e = (((d.putVbus mv).put PWR_STAT.WARN 1).inc PWR_DIP_STAT.DIPS).raise FS.PWR_VBUS_WARN → e.dipActive = false →
    exec (.vbusWarn dt mv) s = s.ends d e)
  ∧ (∀ (s : State) (dt mv : Nat) (d e : Dev), d = s.came dt → s.awake dt → d.is PWR_STAT.WARN = true → d.warnMv + 1000 < mv →
      e = (d.putVbus mv).put PWR_STAT.WARN 0 → e.pwr.dip = 1 →
      exec (.vbusRecover dt mv) s = s.ends d ((e.dipGroups e.pwr.selected (fun g d => d.dipRestore g)).dipPut 2))
  ∧ (∀ (s : State) (dt : Nat) (x : Sup) (v : Int) (d : Dev), d = s.came dt → s.awake dt → supNum x ∉ d.pwr.tripped →
      d.supTrips x v = true →
      exec (.supervisorTrip dt x v) s = s.ends d
        ((({ d with pwr := { d.pwr with tripped := supNum x :: d.pwr.tripped,
                                        mustRaise := d.pwr.mustRaise || (x == Sup.vcoreUv && d.lowering) } }).supShow x v true).raise (supSource x)))
  ∧ (∀ (s : State) (p : Port) (w : Word) (c : Dev), c = s.counted p (PWR_VCORE.addr 0 0) → s.served p →
      c.is THK_AVS_CFG.EN = false → exec (.vcoreSetWrite p w) s = s.ends s.dev (c.store PWR_VCORE w))
  ∧ (∀ (s : State) (dt : Nat) (d : Dev), d = s.came dt → s.awake dt → d.pwr.vcore + 5 < d.vcoreTarget →
      d.isDue .vcore 10000 = true →
      exec (.vcoreSetStep dt) s = s.ends d
        ((({ d with pwr := { d.pwr with vcore := d.pwr.vcore + 5 } }).put PWR_VCORE.MEAS (d.pwr.vcore + 5)).startTimer .vcore))
  ∧ (∀ (s : State) (dt : Nat) (d : Dev), d = s.came dt → s.awake dt → d.pwr.dip = 2 → d.dipBack = true →
      exec (.dipRestoreDone dt) s = s.ends d (({ d.dipGroups d.pwr.selected (fun g d => d.setDip g {}) with
        pwr := { (d.dipGroups d.pwr.selected (fun g d => d.setDip g {})).pwr with selected := 0 } }).dipPut 0))
  ∧ (∀ (s : State) (dt : Nat) (x : Sup) (v : Int) (d : Dev), d = s.came dt → s.awake dt → supNum x ∈ d.pwr.tripped →
      d.supClears x v = true →
      exec (.supervisorClear dt x v) s = s.ends d
        (({ d with pwr := { d.pwr with tripped := d.pwr.tripped.filter (· != supNum x) } }).supShow x v false))

/-! ### Power-up, POR and CHIP reset (R10, R346, R354, R397) -/

/-- The power-up sequence, POR and RESET_N. VBUS above 35 V starts the rails with POR held; a rail that fails for 10 ms is counted and the
sequence waits 100 ms, then starts again; with the rails good POR is released, TESTEN sampled, and SYS.FUSE raised where the fuse array fails
its check; VBUS below 32 V asserts POR, which leaves the
registers that fuses and MRAM do not set at their reset words, clears every memory but the MRAM and counts itself there; with POR held it
ends the sequence, which then waits for VBUS above 35 V anew; a pulse of 10 µs or more on RESET_N is a CHIP reset, and one of 1 µs or less
has no effect. That every memory but the MRAM reads 0 after POR is the model's choice (log entries 14 and 5), and so is a free answer to a
pulse between the two widths (log entry 7). -/
def Obligations.PowerCommandsComplete : Prop :=
  (∀ (s : State) (dt mv : Nat) (d : Dev), d = s.came dt → d.pwr.por = true → d.pwr.step = 0 → 35000 < mv →
    exec (.powerUp dt mv) s = s.settles (({ d with pwr := { d.pwr with step := 1 } }).startTimer .power))
  ∧ (∀ (s : State) (dt : Nat) (d : Dev), d = s.came dt → d.pwr.por = true → d.pwr.step = 1 → d.ranFor .power 10000000 = true →
      exec (.railTimeout dt) s = s.settles ((({ d with pwr := { d.pwr with step := 2 } }).startTimer .power).inc PWR_POR_CNT.RETRY))
  ∧ (∀ (s : State) (dt : Nat) (d : Dev), d = s.came dt → d.pwr.por = true → d.pwr.step = 2 → d.ranFor .power 100000000 = true →
      exec (.powerUpRetry dt) s = s.settles (({ d with pwr := { d.pwr with step := 1 } }).startTimer .power))
  ∧ (∀ (s : State) (dt : Nat) (testen : Bool) (d e : Dev), d = s.came dt → d.pwr.por = true → d.pwr.step = 1 →
      e = (({ d with
        pwr := { d.pwr with por := false, step := 7 }, mgmt := { d.mgmt with wdogAt := d.tclk, wdogWas := d.tclk } }).pseudoFrom).put
          TEST_STAT.TESTEN (b2n testen) →
      exec (.porRelease dt testen) s = s.settles (if d.fuse.bad = true then e.raise FS.SYS_FUSE else e))
  ∧ (∀ (s : State) (dt mv : Nat) (d e n : Dev), d = s.came dt → d.pwr.por = false → mv < 32000 →
      e = (d.scenePor.graveTorn).setMemLe (graveHead + 4) 4 (d.scenePor.graveTorn.porCount + 1) →
      n = { mem := e.mem.filter (fun c => isMram c.1), eccCor := e.eccCor.filter isMram, eccBad := e.eccBad.filter isMram,
            fuse := e.fuse, tclk := e.tclk, free := e.free, period := e.period + 1, out := e.out, rcu := e.rcuChipReset.rcu,
            resetN := e.resetN, pwr := {}, pair := { ownIn := e.pair.ownIn, liveIn := e.pair.liveIn },
            mgmt := { perstLow := e.mgmt.perstLow }, perf := { free := e.perf.free } } →
      exec (.por dt mv) s = s.settles ((n.loadFixed.put PAIR_STAT.OWNIN (b2n e.pair.ownIn)).psfltKeep e))
  ∧ (∀ (s : State) (dt mv : Nat) (d : Dev), d = s.came dt → d.pwr.por = true → mv < 32000 →
      exec (.por dt mv) s = s.settles { d with pwr := { d.pwr with step := 0 } })
  ∧ (∀ (s : State) (dt ns : Nat) (d : Dev), d = s.came dt → 10000 ≤ ns →
      exec (.chipReset dt ns) s = s.settles { d.draw.2.chipReset none with resetN := false })
  ∧ (∀ (s : State) (dt ns : Nat) (d : Dev), d = s.came dt → ns ≤ 1000 → exec (.chipReset dt ns) s = s.settles d)

/-! ### Management and host interface (R357 to R373) -/

/-- Watchdog, MGMT reset, doorbell, vectors and the PCIe endpoint. 0xC1A5 restarts the watchdog; when it expires WDEV is set, vector 4 and
MGMT.WDOG are raised and a MGMT reset is due; MRST calls for a MGMT reset; at its end the boot ROM restarts sound firmware and raises
vector 4; DOORBELL interrupts the core; VEC_RAISE raises a vector of 24 to 31; a reset of the endpoint resets its state, a link down and an
error raise their sources; a
table entry that the host unmasks sends its pending message, one that it masks holds its messages back, and a look returns the entry's four
words and the two of the pending-bit array. -/
def Obligations.ManagementEventsComplete : Prop :=
  (∀ (s : State) (p : Port) (w : Word) (c : Dev), c = s.counted p (MGMT_WDOG_KICK.addr 0 0) → s.served p → fget w 15 0 = 0xC1A5 →
    exec (.wdogKick p w) s = s.ends s.dev { c with mgmt := { c.mgmt with
      wdogAt := c.tclk, wdogWas := if c.mgmt.wdogAt = c.tclk then c.mgmt.wdogWas else c.mgmt.wdogAt } })
  ∧ (∀ (s : State) (dt : Nat) (d e : Dev), d = s.came dt → s.awake dt → d.wdogDue = true →
      e = ((d.put MGMT_STAT.WDEV 1).raiseVec 4).raise FS.MGMT_WDOG →
      exec (.wdogExpire dt) s = s.ends d (if Due.block 17 FS.MGMT_WDOG ∈ e.flt.due then e else e.addDue (.block 17 FS.MGMT_WDOG)))
  ∧ (∀ (s : State) (p : Port) (w : Word) (c : Dev), c = s.counted p (MGMT_CTRL.addr 0 0) → s.served p → fget w 0 0 = 0 → fget w 1 1 = 1 →
      exec (.mgmtReset p w) s = s.ends s.dev (c.addDue (.block 17 0xFE)))
  ∧ (∀ (s : State) (dt : Nat) (d e : Dev), d = s.came dt → s.awake dt → d.mgmt.resetting = true →
      crc32 (d.bytes memSram d.mgmt.fwLen) = d.mgmt.fwCrc → e = d.sramScan memSram d.mgmt.fwLen 64 → e.imageApplied = true →
      exec (.mgmtResetDone dt) s = s.ends d
        (((({ e with mgmt := { e.mgmt with resetting := false, fwRunning := true, wdogAt := e.tclk, wdogWas := e.tclk } }).put MGMT_STAT.FWFAIL 0).put
          MGMT_STAT.MRSTEV 1).raiseVec 4))
  ∧ (∀ (s : State) (p : Port) (w : Word) (c : Dev), c = s.counted p (MGMT_CTRL.addr 0 0) → s.served p → fget w 0 0 = 1 → fget w 1 1 = 0 →
      exec (.doorbell p w) s = s.ends s.dev (c.emit .doorbell))
  ∧ (∀ (s : State) (p : Port) (w : Word) (c : Dev), c = s.counted p (MGMT_VEC_RAISE.addr 0 0) → s.served p → 24 ≤ fget w 5 0 →
      fget w 5 0 ≤ 31 → exec (.vectorRaise p w) s = s.ends s.dev (c.raiseVec (fget w 5 0)))
  ∧ (∀ (s : State) (dt : Nat) (d : Dev), d = s.came dt → s.awake dt → d.pcie = true →
      exec (.pcieReset dt) s = s.ends d d.endpointReset
        ∧ exec (.pcieLinkDown dt) s = s.ends d (d.raise FS.MGMT_PCIE_DOWN)
        ∧ exec (.pcieError dt) s = s.ends d (d.raise FS.MGMT_PCIE_ERR))
  ∧ (∀ (s : State) (dt : Nat) (d : Dev), d = s.came dt → d.pcie = true →
      exec (.perstNChange dt true) s = s.settles ({ d with mgmt := { d.mgmt with perstLow := true } }).endpointReset
        ∧ exec (.perstNChange dt false) s = s.settles { d with mgmt := { d.mgmt with perstLow := false } })
  ∧ (∀ (s : State) (dt addr data : Nat) (v : Fin 64) (d : Dev), d = s.came dt → s.awake dt → d.pcie = true →
      d.mgmt.perstLow = false →
      exec (.msixUnmask dt v addr (.unmask data)) s =
        s.ends d (({ d with mgmt := { d.mgmt with msix := tabPut {} d.mgmt.msix v ⟨addr, data, false⟩ } }).msixTry v)
      ∧ exec (.msixUnmask dt v addr (.mask data)) s =
        s.ends d { d with mgmt := { d.mgmt with msix := tabPut {} d.mgmt.msix v ⟨addr, data, true⟩ } })
  ∧ (∀ (s : State) (dt addr : Nat) (v : Fin 64) (d : Dev) (x : MsixEntry), d = s.came dt → s.awake dt → d.pcie = true →
      d.mgmt.perstLow = false → x = tabGet {} d.mgmt.msix v →
      exec (.msixUnmask dt v addr .look) s = s.ends d ([(16 * v.val, x.addr % 2 ^ 32), (16 * v + 4, x.addr / 2 ^ 32), (16 * v + 8, x.data),
        (16 * v + 12, b2n x.masked), (0x800, d.pbaWord 0), (0x804, d.pbaWord 1)].foldl
        (fun d e => d.emit (.bar2 e.1 (BitVec.ofNat 32 e.2))) d))

/-- The rings and the host port. A ring written with EN = 1 that is large enough, lies in the SRAM and overlaps no enabled ring is
enabled; a software producer advances WR unless it would pass RD, and a software consumer sets RD; SEL puts the cursor on RD for a
ring that the host consumes and on WR for one that it produces; a read of DATA returns the word at the cursor and advances it, a
write stores one; COMMIT sets RD of a ring that the host consumes to a cursor on an entry boundary. The scene store. A word that the
core writes, or the host on a page without protection, enters the buffer behind those that wait; the oldest buffered word reaches the
MRAM, and one that twice reads back wrong sets MISEV and raises MGMT.SCENE, its content free. -/
def Obligations.RingAndSceneCommandsComplete : Prop :=
  (∀ (s : State) (p : Port) (i : Fin 32) (w : Word) (c e : Dev), c = s.counted p (MGMT_RING_CFG.addr i 0) → s.served p →
    c.is MGMT_RING_CFG.EN i = false → e = c.store MGMT_RING_CFG w i → ¬(80 ≤ 64 + i.val ∧ 64 + i.val ≤ 83) → e.is MGMT_RING_CFG.EN i = true →
    ringMin (64 + i) ≤ e.ringSize (64 + i) → e.ringBase (64 + i) + e.ringSize (64 + i) ≤ memSram + 0x80000 →
    e.ringOverlap (64 + i) = false → exec (.ringEnable p i w) s = s.ends s.dev (e.putFill (64 + i)))
  ∧ (∀ (s : State) (p : Port) (i : Fin 32) (w : Word) (c : Dev) (v sz : Nat), c = s.counted p (MGMT_RING_WR.addr i 0) → s.served p →
      ringSoftProd (64 + i) = true → v = fget w 15 0 → sz = c.ringSize (64 + i) → v < sz →
      (v + sz - c.ringWr (64 + i) % sz) % sz ≠ 0 → c.ringFill (64 + i) + (v + sz - c.ringWr (64 + i) % sz) % sz < sz →
      exec (.ringWrWrite p i w) s = s.ends s.dev ((c.ringSet (64 + i) v (c.ringRd (64 + i))).softAdvance (64 + i)))
  ∧ (∀ (s : State) (p : Port) (i : Fin 32) (w : Word) (c : Dev), c = s.counted p (MGMT_RING_RD.addr i 0) → s.served p →
      ringSoftCons (64 + i) = true →
      exec (.ringRdWrite p i w) s = s.ends s.dev (c.ringSet (64 + i) (c.ringWr (64 + i)) (fget w 15 0)))
  ∧ (∀ (s : State) (p : Port) (w : Word) (c e : Dev) (q : Nat), c = s.counted p (MGMT_HPORT_SEL.addr 0 0) → s.served p →
      e = c.store MGMT_HPORT_SEL w → e.hportRing = some q →
      exec (.hportSelect p w) s = s.ends s.dev (e.put MGMT_HPORT_CTRL.CURSOR (if e.hostCons q = true then e.ringRd q else e.ringWr q)))
  ∧ (∀ (s : State) (p : Port) (c : Dev) (q a : Nat), c = s.counted p (MGMT_HPORT_DATA.addr 0 0) → s.served p → c.hportRing = some q →
      a = c.ringBase q + c.get MGMT_HPORT_CTRL.CURSOR → a ∉ c.eccBad → a ∉ c.eccCor →
      exec (.hportRead p) s = s.ends s.dev ((c.hportStep q).emit (.rdata (portNum p) (MGMT_HPORT_DATA.addr 0 0) (c.memW a))))
  ∧ (∀ (s : State) (p : Port) (w : Word) (c : Dev) (q x sz : Nat), c = s.counted p (MGMT_HPORT_DATA.addr 0 0) → s.served p →
      c.hportRing = some q → c.hostProd q = true → x = c.get MGMT_HPORT_CTRL.CURSOR → sz = c.ringSize q →
      (x + sz - c.ringRd q % sz) % sz + 4 < sz →
      exec (.hportWrite p w) s = s.ends s.dev ((c.setMemW (c.ringBase q + x) w).hportStep q))
  ∧ (∀ (s : State) (p : Port) (w : Word) (c e : Dev) (q : Nat), c = s.counted p (MGMT_HPORT_CTRL.addr 0 0) → s.served p →
      fget w 16 16 = 1 → e = c.store MGMT_HPORT_CTRL w → e.hportRing = some q → e.hostCons q = true →
      e.onBoundary q (e.get MGMT_HPORT_CTRL.CURSOR) 4096 (e.ringRd q) = true →
      exec (.hportCommit p w) s = s.ends s.dev (e.ringSet q (e.ringWr q) (e.get MGMT_HPORT_CTRL.CURSOR)))
  ∧ (∀ (s : State) (p : Port) (k : Fin 0x100000) (w : Word) (c : Dev), c = s.counted p (sceneAddr k) → s.served p →
    p = Port.core ∨ c.scnProtected (sceneAddr k) = false →
    exec (.sceneWrite p k w) s =
      s.ends s.dev ({ c with mgmt := { c.mgmt with sceneBuf := c.mgmt.sceneBuf ++ [(sceneAddr k, w)] } }).putPend)
  ∧ (∀ (s : State) (dt a : Nat) (w : Word) (rest : List (Nat × Word)) (d e : Dev), d = s.came dt → s.awake dt →
      d.mgmt.sceneBuf = (a, w) :: rest → e = ({ d with mgmt := { d.mgmt with sceneBuf := rest } }).putPend →
      exec (.sceneWordDone dt false) s = s.ends d (e.setMemW a w)
        ∧ exec (.sceneWordDone dt true) s =
          s.ends d (((e.draw.2.setMemW a (Config.freeWord e.free)).put MGMT_SCN_STAT.MISEV 1).raise FS.MGMT_SCENE))

/-! ### Faults (R317 to R329) -/

/-- The commands of the fault collector. A GRAVE log record reaches the MRAM slot that NEXT names and NEXT advances; a source in SEVERE whose
escalation time is over is ESCALATED; a COUNTING source without an event in its window returns to IDLE; a shadow closes SHADOW ms after its
reset has ended; a 1 in FLT_SEV acknowledges its source and one in FLT_ERRH clears its bit; GO injects in factory test mode, one event now and the
others 1 µs apart; ERASE clears the log while no condition is active; a new period begins while the cycle is not RUNNING. -/
def Obligations.FaultCommandsComplete : Prop :=
  (∀ (s : State) (dt n : Nat) (r x : List Byte) (rest : List (List Byte)) (d e : Dev), d = s.came dt → s.awake dt →
    d.flt.log = r :: x :: rest → n = d.get FLT_GLOG_HEAD.NEXT → n < 255 → d.is FLT_GLOG_HEAD.WRAP = false →
    e = (({ d with flt := { d.flt with log := x :: rest } }).setBytes (graveLog + 32 * n) r).put FLT_GLOG_HEAD.NEXT (n + 1) →
    exec (.graveLogWritten dt) s =
      s.ends d ((e.setMemLe graveHead 2 (e.get FLT_GLOG_HEAD.NEXT)).setMemLe (graveHead + 2) 2 (e.get FLT_GLOG_HEAD.WRAP)))
  ∧ (∀ (s : State) (dt : Nat) (n : Fin 192) (d f e : Dev), d = s.came dt → s.awake dt → d.flt.esc.any (fun kv => kv.1 == n.val) = true →
      d.fltEsc n ≠ 0 → 99 * 250000 * d.fltEsc n ≤ 100 * (d.tclk - tabGet 0 d.flt.esc n) → d.get FLT_SRC_STAT.STATE n = 2 →
      f = (d.fltSetState n 3).put FLT_SRC_STAT.ESCEV 1 n →
      ({ f with flt := { f.flt with esc := tabDel f.flt.esc n } }).fltPush n 8 0xFF = (true, e) →
      e.get FLT_SRC_CFG.ESCR n = 0 → exec (.escalationExpire dt n) s = s.ends d e)
  ∧ (∀ (s : State) (dt : Nat) (n : Fin 192) (d : Dev), d = s.came dt → s.awake dt → d.get FLT_SRC_STAT.STATE n = 1 →
      inWindow d.tclk (d.fltWin n) (tabGet [] d.flt.events n) = 0 →
      exec (.faultWindowExpire dt n) s = s.ends d ((d.fltSetState n 0).put FLT_SRC_STAT.INWIN 0 n))
  ∧ (∀ (s : State) (dt : Nat) (b : Fin 19) (d : Dev), d = s.came dt → s.awake dt → (tabGet {} d.flt.shadows b).open_ = true →
      (tabGet {} d.flt.shadows b).inReset = false → d.isDue .shadow (min 1000 (max 1 (d.get FLT_CFG.SHADOW)) * 1000000) b = true →
      exec (.shadowClose dt b) s =
        s.ends d (({ d with flt := { d.flt with shadows := tabDel d.flt.shadows b } }).clrBit FLT_STAT.SHADOW b))
  ∧ (∀ (s : State) (p : Port) (k : Fin 6) (w : Word) (c : Dev), c = s.counted p (FLT_SEV.addr k 0) → s.served p →
      exec (.faultAck p k w) s = s.ends s.dev (forN 32 (fun j d => if w.getLsbD j = true then d.fltAck (32 * k + j) else d) c))
  ∧ (∀ (s : State) (p : Port) (k : Fin 6) (w : Word) (c : Dev), c = s.counted p (FLT_ERRH.addr k 0) → s.served p →
      exec (.errhClear p k w) s = s.ends s.dev (c.wr FLT_ERRH (c.rd FLT_ERRH k &&& ~~~w) k))
  ∧ (∀ (s : State) (p : Port) (w : Word) (c e : Dev), c = s.counted p (FLT_INJ.addr 0 0) → s.served p → fget w 31 31 = 1 →
      e = c.store FLT_INJ w → e.ftm = true → e.get FLT_INJ.SRC < 169 →
      exec (.faultInject p w) s = s.ends s.dev ((({ e with flt := { e.flt with
        injLeft := max 1 (e.get FLT_INJ.COUNT) - 1, injSrc := e.get FLT_INJ.SRC } }).startTimer .inject).inject1 (e.get FLT_INJ.SRC)))
  ∧ (∀ (s : State) (dt n : Nat) (d : Dev), d = s.came dt → s.awake dt → d.flt.injLeft = n + 1 →
      d.isDue .inject 1000 = true →
      exec (.injectNext dt) s = s.ends d ((({ d with flt := { d.flt with injLeft := n } }).startTimer .inject).inject1 d.flt.injSrc))
  ∧ (∀ (s : State) (p : Port) (w : Word) (c e : Dev), c = s.counted p (FLT_GLOG_CTRL.addr 0 0) → s.served p → fget w 31 31 = 1 →
      e = c.store FLT_GLOG_CTRL w → e.is FLT_GRAVE.ACTIVE = false →
      exec (.glogErase p w) s = s.ends s.dev
        ((((e.clearRange graveLog (graveLog + 0x2000)).setMemLe graveHead 4 0).put FLT_GLOG_HEAD.NEXT 0).put FLT_GLOG_HEAD.WRAP 0))
  ∧ (∀ (s : State) (dt : Nat) (d : Dev), d = s.came dt → s.awake dt → d.running = false →
      100000 ≤ (d.elapsed .pseudo).getD (4 * d.tclk) →
      exec (.pseudoBlock dt) s = s.ends d ((({ d with once := [], period := d.period + 1 }).startTimer .pseudo).loadLatch))

/-! ### References and clean-up loops (R264 to R284) -/

/-- The commands of the candidates. An interval shorter than 0.75 T, or a silence of 3.5 T, between the edges that one of candidates 0 to 4
counts faults the running gate and disqualifies it where it is not DISQ; where it is DISQ the gate's fault is all there is, unless a gate
disqualified it at this same instant: then ACTF is set and FRQF is as it stood before that gate (R284). Candidates 5 to 16 have no activity
monitor: nothing happens. A gate end without a fault and within the acceptance limit takes an admitted DISQ candidate to HOLDOFF and reports
OFS; the hold-off's end takes HOLDOFF to QUAL; a rank write selects anew. -/
def Obligations.CandidateCommandsComplete : Prop :=
  (∀ (s : State) (dt : Nat) (k : Fin 17) (falling : Bool) (short long : Nat) (d e : Dev), d = s.came dt → s.awake dt →
    d.candEdges k falling = true → short * d.get RCU_CAND_FNOM.FNOM k < 48000000000000 →
    224000000000000 ≤ long * d.get RCU_CAND_FNOM.FNOM k →
    e = { d with rcu := { d.rcu with gateFault := tabPut false d.rcu.gateFault k true } } →
    (k.val < 5 → e.cand k ≠ 0 →
      exec (.candGlitch dt ⟨k, falling, short⟩) s = s.ends d (e.candDisq k false)
        ∧ exec (.candActivityTimeout dt ⟨k, falling, long⟩) s = s.ends d (e.candDisq k false))
    ∧ (k.val < 5 → e.cand k = 0 → tabGet 0 d.rcu.gateAt k / 2 ≠ d.tclk + 1 →
      exec (.candGlitch dt ⟨k, falling, short⟩) s = s.ends d e ∧ exec (.candActivityTimeout dt ⟨k, falling, long⟩) s = s.ends d e)
    ∧ (k.val < 5 → e.cand k = 0 → tabGet 0 d.rcu.gateAt k / 2 = d.tclk + 1 →
      exec (.candGlitch dt ⟨k, falling, short⟩) s =
          s.ends d ((e.put RCU_CAND_STAT.ACTF 1 k).put RCU_CAND_STAT.FRQF (tabGet 0 d.rcu.gateAt k % 2) k)
        ∧ exec (.candActivityTimeout dt ⟨k, falling, long⟩) s =
          s.ends d ((e.put RCU_CAND_STAT.ACTF 1 k).put RCU_CAND_STAT.FRQF (tabGet 0 d.rcu.gateAt k % 2) k))
    ∧ (5 ≤ k.val →
      exec (.candGlitch dt ⟨k, falling, short⟩) s = s.ends d d ∧ exec (.candActivityTimeout dt ⟨k, falling, long⟩) s = s.ends d d))
  ∧ (∀ (s : State) (dt : Nat) (k : Fin 17) (ofs : Int) (d f e : Dev), d = s.came dt → s.awake dt → k ≠ 0 → d.is RCU_CAND_CFG.EN k = true →
      d.xoQual = true → d.isDue .qualGate (d.gateNs k) k = true → f = d.startTimer .qualGate k → tabGet false f.rcu.gateFault k = false →
      e = ({ f with rcu := { f.rcu with gateFault := tabDel f.rcu.gateFault k } }).put RCU_CAND_OFS.OFS (unsW 32 ofs) k →
      e.cand k = 0 → ofs.natAbs ≤ (e.limits k).1 → e.admitted k = true →
      exec (.qualGateEnd dt k ofs) s = s.ends d (e.setCand k 1).qualUpdate)
  ∧ (∀ (s : State) (dt : Nat) (k : Fin 17) (d : Dev), d = s.came dt → s.awake dt → k ≠ 0 → d.cand k = 1 → d.xoQual = true →
      d.isDue .holdoff (d.holdoffNs k) k = true →
      exec (.holdoffExpire dt k) s = s.ends d (d.setCand k 2).qualUpdate)
  ∧ (∀ (s : State) (p : Port) (k : Fin 4) (j : Fin 3) (w : Word) (c : Dev), c = s.counted p (RCU_LOOP_RANK.addr k j) → s.served p →
      exec (.loopRankWrite p k (some j) w) s = s.ends s.dev ((c.store RCU_LOOP_RANK (if j = 2 then w &&& 0xF else w) k j).selLoop k))
  ∧ (∀ (s : State) (p : Port) (k : Fin 4) (w : Word) (c : Dev), c = s.counted p (RCU_LOOP_CTRL.addr k 0) → s.served p → fget w 0 0 = 0 →
      (c.store RCU_LOOP_CTRL w k).is RCU_LOOP_CFG.HOPOK k = true →
      exec (.loopRankWrite p k none w) s = s.ends s.dev ((c.store RCU_LOOP_CTRL w k).selLoop k))

/-- The commands of a loop. A good band trial with a reference selected enters ACQUIRE at the wide bandwidth; a good 16th comparison edge
enters NARROW, and the control updates; a dwell's end divides the bandwidth by STEP, and TRK enters TRACK; a pull offset of 0 enters TRACK
with PDET; RETUNE of a hop-capable loop takes FOUT and MDIV and searches; GO hops a loop to a valid Quickset entry, the fine word first at
its minimum; a SEED loads the dither register; 1 s after a failed search it begins anew; the settled DCO takes the stored fine word and
waits for the comparison edge at which the hop check begins, and a good check enters NARROW. -/
def Obligations.LoopCommandsComplete : Prop :=
  (∀ (s : State) (dt f fine : Nat) (k : Fin 4) (d e : Dev), d = s.came dt → s.awake dt → d.loopState k = 1 → (d.loop k).trials ≠ [] →
    d.xoQual = true → d.trialOk k f = true →
    e = (d.setLoop k { d.loop k with fine := fine % 2 ^ 24, word := fine % 2 ^ 24, trials := [] }).qsStore k →
    e.get RCU_LOOP_STAT.SEL k ≠ noSel →
    exec (.bandTrialDone dt k f fine) s = s.ends d ((e.loopTo k 3).setBw k (e.bwa k)))
  ∧ (∀ (s : State) (dt n r : Nat) (k : Fin 4) (e0 ph : Int) (d e : Dev), d = s.came dt → s.awake dt →
      d.get RCU_LOOP_STAT.SEL k ≠ noSel → e = d.loopHvalid k → e.loopState k = 3 → e.edgeError k n e0 = some ph → ph.natAbs ≤ 2000 →
      15 ≤ (e.loop k).edges →
      exec (.comparisonEdge dt k ⟨n, e0, r⟩) s = s.ends d (((e.setLoop k { e.loop k with edges := (e.loop k).edges + 1 }).toNarrow k).control k))
  ∧ (∀ (s : State) (dt bw : Nat) (k : Fin 4) (d : Dev), d = s.came dt → s.awake dt → d.loopState k = 4 →
      d.isDue .narrow (d.dwellNs k) k = true → bw = max ((d.loop k).bw / d.stepf k) (d.trk k) →
      exec (.narrowStep dt k) s = s.ends d (if bw ≤ (d.setBw k bw).trk k then (d.setBw k bw).loopTo k 5 else d.setBw k bw))
  ∧ (∀ (s : State) (dt : Nat) (k : Fin 4) (d e : Dev), d = s.came dt → s.awake dt → d.loopState k = 6 → (d.loop k).await = .none →
      d.pullNow k = 0 → (d.loop k).built = false → e = (d.loopTo k 5).put RCU_LOOP_STAT.PDET 1 k →
      exec (.pullComplete dt k) s = s.ends d ((e.setLoop k { e.loop k with pullO := 0 }).putPhase k 0))
  ∧ (∀ (s : State) (p : Port) (k : Fin 4) (w : Word) (c e : Dev), c = s.counted p (RCU_LOOP_CTRL.addr k 0) → s.served p → fget w 0 0 = 1 →
      e = c.store RCU_LOOP_CTRL w k → e.is RCU_LOOP_CFG.HOPOK k = true →
      dcoOk (e.get RCU_LOOP_FOUT.FOUT k) (e.get RCU_LOOP_CTRL.MDIV k) = true → e.loopState k ≠ 0 →
      exec (.retune p k w) s = s.ends s.dev (((e.setLoop k
        { e.loop k with fout := e.get RCU_LOOP_FOUT.FOUT k, mdiv := e.get RCU_LOOP_CTRL.MDIV k, held := .free }).toSearch k).selLoop k))
  ∧ (∀ (s : State) (p : Port) (k : Fin 2) (w : Word) (c e g : Dev) (n b : Nat) (x : LoopSt), c = s.counted p (RCU_QS_HOP.addr k 0) → s.served p →
      fget w 3 3 = 1 → e = c.store RCU_QS_HOP w k → n = e.get RCU_QS_HOP.ENTRY k → e.is RCU_LOOP_CFG.HOPOK k = true →
      e.is RCU_QS_CFG.VALID k n = true → e.loopState k = 5 → b = e.get RCU_QS_CFG.BAND k n →
      g = (((e.put RCU_LOOP_FOUT.FOUT (e.get RCU_QS_FOUT.FOUT k n) k).put RCU_LOOP_CTRL.MDIV (e.get RCU_QS_CFG.MDIV k n) k).put
        RCU_LOOP_STAT.BAND b k).loopTo k 8 →
      x = { g.loop k with
        fout := e.get RCU_QS_FOUT.FOUT k n, mdiv := e.get RCU_QS_CFG.MDIV k n, fine := 0, word := 0, hopFine := g.get RCU_QS_FINE.FINE k n,
        code := (g.bandEntry k b).2.1, await := .hopSettle, hopOk := true, pullO := 0, held := .free } →
      (g.setLoop k x).xoQual = true → exec (.qsHop p k w) s = s.ends s.dev (g.setLoop k x))
  ∧ (∀ (s : State) (p : Port) (k : Fin 4) (w : Word) (c e : Dev), c = s.counted p (RCU_DITHER.addr k 0) → s.served p →
      e = c.store RCU_DITHER w k →
      exec (.ditherSeedWrite p k w) s = s.ends s.dev (e.setLoop k { e.loop k with lfsr := e.ditherSeed k }))
  ∧ (∀ (s : State) (dt : Nat) (k : Fin 4) (d : Dev), d = s.came dt → s.awake dt → d.loopState k = 1 → (d.loop k).waiting = true →
      d.isDue .retry 1000000000 k = true →
      exec (.bandSearchRetry dt k) s = s.ends d (d.searchBegin k))
  ∧ (∀ (s : State) (dt : Nat) (k : Fin 4) (d e : Dev), d = s.came dt → s.awake dt → d.loopState k = 8 → (d.loop k).await = .hopSettle →
      e = d.setFine k (d.loop k).hopFine → e.get RCU_LOOP_STAT.SEL k ≠ noSel →
      exec (.hopSettled dt k) s = s.ends d (e.setLoop k { e.loop k with await := .hopEdge }))
  ∧ (∀ (s : State) (dt : Nat) (k : Fin 4) (d : Dev), d = s.came dt → s.awake dt → d.loopState k = 8 → (d.loop k).await = .hopCheck →
      d.isDue .hop (d.hopCheckNs k) k = true → (d.loop k).hopOk = true → exec (.hopCheckDone dt k) s = s.ends d (d.toNarrow k))

/-! ### Serial ports (R157 to R175) -/

/-- The commands of the serial ports. A frame start in its block at a port that no shared frame clock concerns, and whose DLL runs where it
is a master, is taken at the sample position of its instant at an attached port, at the next position in any other state but OFF, and its
slots leave; a gate reports RATE and, within the tolerance, counts no deviation; a stopped clock sets CLKLOSS and is a rate change; START,
STOP and RESTART act on the group or the port. -/
def Obligations.SerialCommandsComplete : Prop :=
  (∀ (s : State) (dt bclk : Nat) (q : Fin 16) (ofs i : Int) (ws : List Word) (d a c b e f : Dev), d = s.came dt → s.awake dt →
    a = d.captureEvent (12 + q) (!d.frameFalls q) → a.leaderOf q = none → (∀ p < 16, a.leaderOf p ≠ some q.val) → c = a.pairFrame q →
    c.pOn q = true → (c.is SAP_PCFG.MASTER q = true → c.dllState (8 + q) = 4) →
    b = c.setPort q { c.port q with present := true, lastOfs := ofs } → b.is SAP_GRP_CFG.METHOD (b.pGroup q) = false →
    e = b.setPort q { b.port q with errFrame := false, closing := 0 } → e.pSync q = true →
    e.pLive q = true → bclk = 32 * max 1 (e.get SAP_PCFG.SLOTS q) →
    i = (if e.pState q = 1 then e.framePos q ofs else ((e.port q).rx : Int)) → 0 ≤ i → i < (e.nb : Int) → (e.port q).rx < e.nb →
    f = e.setPort q { e.port q with rx := (e.port q).rx + 1 } →
    exec (.frameStart dt q bclk ofs ws) s = s.ends d
      ((f.takeSlots q (i.toNat % 32) ws).sendSlots q (i.toNat % 32) (f.takeSlots q (i.toNat % 32) ws).aud.emit ofs))
  ∧ (∀ (s : State) (dt rate : Nat) (q : Fin 16) (d e f : Dev), d = s.came dt → s.awake dt → d.pOn q = true →
      d.is SAP_PCFG.MASTER q = false → e = d.put SAP_RATE.RATE rate q → f = e.setPort q { e.port q with present := true } →
      f.pSync q = true → f.rateWithin q rate = true →
      exec (.rateGateEnd dt q rate) s = s.ends d (f.setPort q { e.port q with present := true, bad := 0 }))
  ∧ (∀ (s : State) (dt : Nat) (q : Fin 16) (d : Dev), d = s.came dt → s.awake dt → d.pOn q = true → d.is SAP_PCFG.MASTER q = false →
      d.get SAP_RREF.RREF q ≠ 0 →
      exec (.clockStop dt q) s = s.ends d
        (((d.setPort q { d.port q with present := false }).put SAP_PSTAT.CLKLOSS 1 q).rateChange q true))
  ∧ (∀ (s : State) (p : Port) (k : Fin 16) (w : Word) (c e : Dev), c = s.counted p (SAP_GRP_CTRL.addr k 0) → s.served p → c.solo →
      fget w 0 0 = 1 → fget w 1 1 = 0 → e = c.store SAP_GRP_CTRL w k → e.get SAP_GRP_STAT.STATE k = 0 →
      exec (.sapGroupStart p k w) s = s.ends s.dev
        (((e.put SAP_GRP_STAT.STATE 1 k).setSapGrp k { e.sapGrp k with startMin := e.cyc.k + 2, held := !e.running }).grpArm k))
  ∧ (∀ (s : State) (p : Port) (k : Fin 16) (w : Word) (c : Dev), c = s.counted p (SAP_GRP_CTRL.addr k 0) → s.served p → c.solo →
      fget w 0 0 = 0 → fget w 1 1 = 1 →
      exec (.sapGroupStop p k w) s = s.ends s.dev ((c.store SAP_GRP_CTRL w k).grpStop k))
  ∧ (∀ (s : State) (p : Port) (q : Fin 16) (w : Word) (c e : Dev), c = s.counted p (SAP_PCTRL.addr q 0) → s.served p → c.solo →
      fget w 0 0 = 1 → e = c.store SAP_PCTRL w q → e.pState q = 2 ∨ e.pState q = 4 →
      exec (.sapRestart p q w) s = s.ends s.dev (e.toPending q))

/-! ### Crosspoint and converters (R112 to R138) -/

/-- The commands of the crosspoint. While the cycle runs and the store has room, a route or gain command and a write of a staged register
wait for the next commit, in order; while it is not RUNNING each of them is applied at once as a commit of its own, and ARM, a tagged target
met and the writes staged before stay as they were (R121). ARM is held for the boundary, late where its block is not later than the current
one; a completed fade ends; a pending gain steps when its search is over; a destination below its threshold for the hold time becomes
silent. The commands of the converters, at a ratio within the range: IDLE to ACQUIRE, ACQUIRE or RETRACK to LOCKED at the tracking
bandwidth, LOCKED to RETRACK with ASRC.SLIP, out of range back to ACQUIRE, and any state to IDLE. The model's choices: that ASRC.SLIP is
raised at the end of its block while the cycle runs is log entry 9, where R112 gives no delay; which commands a completed fade or search
lets go on, and when, is log entry 102. -/
def Obligations.CrosspointAndConverterCommandsComplete : Prop :=
  (∀ (s : State) (p : Port) (w : Word) (c : Dev) (k len : Nat) (ep : Bool), c = s.counted p (XPT_CMD_DATA.addr 0 0) → s.served p → c.solo →
    k = c.get XPT_CMD_SLOT.SLOT → k < c.xpt.nx →
    len = 1 + (if c.is XPT_CMD_SLOT.DEF = true then c.get XPT_FADE_CFG.LENM1 else c.get XPT_CMD_SLOT.LENM1) →
    ep = (if c.is XPT_CMD_SLOT.DEF = true then c.is XPT_FADE_CFG.LAW else c.is XPT_CMD_SLOT.LAW) →
    c.xpt.staged.length + c.xpt.deferred.length < 4096 →
    (c.running = true → c.get XPT_CMD_SLOT.OP = 0 → w.toNat % 65536 = 0xFFFF ∨ c.badSource (w.toNat % 65536) = false →
      exec (.xptRouteCmd p w) s = s.ends s.dev ({ c with xpt := { c.xpt with
        staged := c.xpt.staged ++ [XStaged.cmd ⟨true, c.is XPT_CMD_SLOT.HARD, len, ep, k, w.toNat⟩] } }).putStaged)
    ∧ (c.running = true → c.get XPT_CMD_SLOT.OP = 1 →
      exec (.xptGainCmd p w) s = s.ends s.dev ({ c with xpt := { c.xpt with
        staged := c.xpt.staged ++ [XStaged.cmd ⟨false, c.is XPT_CMD_SLOT.HARD, len, ep, k, w.toNat⟩] } }).putStaged)
    ∧ (∀ (e : Dev), c.running = false → c.get XPT_CMD_SLOT.OP = 0 → w.toNat % 65536 = 0xFFFF ∨ c.badSource (w.toNat % 65536) = false →
      e = ({ c with xpt := { c.xpt with staged := [XStaged.cmd ⟨true, c.is XPT_CMD_SLOT.HARD, len, ep, k, w.toNat⟩] } }).xptCommit.put
        XPT_CTRL.ARM (c.get XPT_CTRL.ARM) →
      exec (.xptRouteCmd p w) s = s.ends s.dev
        ({ e with xpt := { e.xpt with staged := c.xpt.staged, late := c.xpt.late, missed := c.xpt.missed } }).putStaged)
    ∧ (∀ (e : Dev), c.running = false → c.get XPT_CMD_SLOT.OP = 1 →
      e = ({ c with xpt := { c.xpt with staged := [XStaged.cmd ⟨false, c.is XPT_CMD_SLOT.HARD, len, ep, k, w.toNat⟩] } }).xptCommit.put
        XPT_CTRL.ARM (c.get XPT_CTRL.ARM) →
      exec (.xptGainCmd p w) s = s.ends s.dev
        ({ e with xpt := { e.xpt with staged := c.xpt.staged, late := c.xpt.late, missed := c.xpt.missed } }).putStaged))
  ∧ (∀ (s : State) (p : Port) (x : XptReg) (w : Word) (c : Dev), c = s.counted p (xptRegAddr x) → s.served p → c.solo →
      c.xpt.staged.length + c.xpt.deferred.length < 4096 →
      (c.running = true → exec (.xptStagedWrite p x w) s =
        s.ends s.dev ({ c with xpt := { c.xpt with staged := c.xpt.staged ++ [XStaged.reg (xptRegAddr x) w] } }).putStaged)
      ∧ (∀ (e : Dev), c.running = false →
        e = ({ c with xpt := { c.xpt with staged := [XStaged.reg (xptRegAddr x) w] } }).xptCommit.put XPT_CTRL.ARM (c.get XPT_CTRL.ARM) →
        exec (.xptStagedWrite p x w) s = s.ends s.dev
          ({ e with xpt := { e.xpt with staged := c.xpt.staged, late := c.xpt.late, missed := c.xpt.missed } }).putStaged))
  ∧ (∀ (s : State) (p : Port) (w : Word) (c e : Dev), c = s.counted p (XPT_CTRL.addr 0 0) → s.served p → c.solo →
      bitOf w.toNat 0 = 1 → e = c.store XPT_CTRL w → e.running = true →
      exec (.xptArm p w) s = s.ends s.dev
        (if e.get XPT_CTRL.MODE = 2 ∧ later32 (e.get XPT_COMMIT.BLOCK) (e.get SYS_BLK_COUNT.COUNT) = false then
          { e with xpt := { e.xpt with late := true } }
        else e))
  ∧ (∀ (s : State) (dt : Nat) (k : Fin 32768) (lone : Bool) (d : Dev), d = s.came dt → s.awake dt →
      exec (.fadeComplete dt k lone) s = s.ends d ({ d with xpt := { d.xpt with
        fades := d.xpt.fades.filter (fun f => decide (f.slot ≠ k.val ∨ f.lone ≠ lone ∨ f.j < f.len)) } }).putFades)
  ∧ (∀ (s : State) (dt : Nat) (k : Fin 32768) (d e : Dev), d = s.came dt → s.awake dt →
      e = d.applySteps (d.xpt.pend.filter (fun q => q.slot == k.val && q.n == 0)) →
      exec (.zcTimeout dt k) s = s.ends d { e with xpt := { e.xpt with
        pend := d.xpt.pend.filter (fun q => !(q.slot == k.val && q.n == 0)) } })
  ∧ (∀ (s : State) (dt : Nat) (x : Fin 4096) (d : Dev), d = s.came dt → s.awake dt → d.silThr x ≠ 0 → d.silent x = false →
      d.silHold x ≤ tabGet 0 d.xpt.sil x → 0 < (tabGet (0, 0) d.xpt.part x).2 →
      exec (.silenceEnter dt x) s = s.ends d (d.silChange x d.passBlock true))
  ∧ (∀ (s : State) (dt r : Nat) (k : Fin 256) (d e : Dev), d = s.came dt → s.awake dt → d.convOn k = true → d.convState k = 0 → ratioOk r = true →
    e = d.setRatio k r →
    exec (.asrcStart dt k r) s = s.ends d ((e.setConv k { e.conv k with bw := acqBw, src := [], cnt := 0 }).put ASRC_STAT.STATE 1 k))
  ∧ (∀ (s : State) (dt r : Nat) (k : Fin 256) (dly : Int) (d e : Dev), d = s.came dt → s.awake dt →
      d.convState k = 1 ∨ d.convState k = 3 → ratioOk r = true →
      e = d.setRatio k r →
      exec (.asrcLock dt k r dly) s = s.ends d
        (((e.setConv k { e.conv k with bw := 50 * 2 ^ e.get ASRC_CTRL.TRK_BW }).put ASRC_STAT.STATE 2 k).put ASRC_DLY.ERR
          (unsW 16 (clampI (-32768) 32767 dly)) k))
  ∧ (∀ (s : State) (dt r : Nat) (k : Fin 256) (d e : Dev), d = s.came dt → s.awake dt → d.convState k = 2 → ratioOk r = true →
      e = (d.convRetrack k).setRatio k r →
      exec (.asrcSlip dt k r) s = s.ends d (if e.cycling = true then e.setConv k { e.conv k with slip := true } else e.raise FS.ASRC_SLIP))
  ∧ (∀ (s : State) (dt r : Nat) (k : Fin 256) (d e : Dev), d = s.came dt → s.awake dt → d.convState k = 4 → ratioOk r = true →
      e = d.setRatio k r →
      exec (.asrcRangeClear dt k r) s = s.ends d ((e.setConv k { e.conv k with bw := acqBw }).put ASRC_STAT.STATE 1 k))
  ∧ (∀ (s : State) (dt : Nat) (k : Fin 256) (d : Dev), d = s.came dt → s.awake dt → d.convState k ≠ 0 →
      exec (.asrcIdle dt k) s = s.ends d (d.put ASRC_STAT.STATE 0 k))
/-! ### Ethernet (R226 to R243) -/

/-- The commands of the Ethernet ports. A good frame that passes the filters goes to its ring, and a packet of an enabled stream is taken
as that stream's; the front frame of the transmit ring leaves with its FCS; a read of ETH_TXTS_INFO pops a stamp into the registers; the
loss of a link clears LINK, sets LINKEV and raises ETH.LINK; EN starts and stops a stream; a link that comes up reads 1. -/
def Obligations.EthernetCommandsComplete : Prop :=
  (∀ (s : State) (dt : Nat) (q : Fin 2) (f : List Byte) (d : Dev), d = s.came dt → s.awake dt → d.ethOn q = true →
    d.is ETH_PORT_STAT.LINK q = true → 60 ≤ f.length → f.length ≤ 1518 → d.dstOk q (beAt f 0 6) = true → d.vlanOk q f = true →
    (d.strMatch q f = none → exec (.frameReceive dt q true f) s = s.ends d (d.ethToRing q f))
      ∧ (∀ x, d.strMatch q f = some x → exec (.rtpReceive dt q true f) s = s.ends d (d.rtpReceive q x f)))
  ∧ (∀ (s : State) (dt size : Nat) (q : Fin 2) (h f : List Byte) (d e : Dev), d = s.came dt → s.awake dt → d.ethOn q = true →
      d.is ETH_PORT_STAT.LINK q = true → d.ringFront (86 + q) 2 64 = (some (size, h, f), e) → leAt h 3 1 = 0 →
      exec (.frameTransmit dt q) s = s.ends d ((e.ringPop (86 + q) size).emit (.frame q (f ++ leBytes 4 (crc32 f)))))
  ∧ (∀ (s : State) (p : Port) (q : Fin 2) (c d : Dev) (x : List Nat) (xs : List (List Nat)), c = s.counted p (ETH_TXTS_INFO.addr q 0) →
      s.served p → c.inReset 7 = false → tabGet [] c.txts q = x :: xs →
      d = ((((((({ c with txts := tabPut [] c.txts q xs }).put ETH_TXTS_INFO.VALID 1 q).put ETH_TXTS_INFO.MTYPE (nth 0 x 0) q).put
        ETH_TXTS_INFO.DOMAIN (nth 0 x 1) q).put ETH_TXTS_INFO.SEQID (nth 0 x 2) q).put ETH_TXTS_SEC.SEC (nth 0 x 3) q).put
        ETH_TXTS_NS.NS (nth 0 x 4) q) →
      exec (.txtsPop p q) s = s.ends s.dev ((d.wr ETH_TXTS_INFO (regAfterRead ETH_TXTS_INFO.flds (d.rd ETH_TXTS_INFO q)) q).emit
        (.rdata (portNum p) (ETH_TXTS_INFO.addr q 0)
        (regLoad c.imageApplied ETH_TXTS_INFO.flds (d.rd ETH_TXTS_INFO q)))))
  ∧ (∀ (s : State) (dt : Nat) (q : Fin 2) (d : Dev), d = s.came dt → s.awake dt → d.ethOn q = true → d.is ETH_PORT_STAT.LINK q = true →
      exec (.ethLinkLoss dt q) s =
        s.ends d (((d.put ETH_PORT_STAT.LINK 0 q).put ETH_PORT_STAT.LINKEV 1 q).raise (FS.ETH_LINK + q)))
  ∧ (∀ (s : State) (p : Port) (x : Fin 128) (w : Word) (c : Dev), c = s.counted p (ETH_STR_CTRL.addr x 0) → s.served p → fget w 1 1 = 0 →
      exec (.streamEnable p x w) s = s.ends s.dev (c.streamEnable x (fget w 0 0 == 1)))
  ∧ (∀ (s : State) (dt : Nat) (q : Fin 2) (d : Dev), d = s.came dt → s.awake dt → d.ethOn q = true → d.imageApplied = true →
      exec (.ethLinkUp dt q) s = s.ends d (d.put ETH_PORT_STAT.LINK 1 q))

/-! ### Hedgerow fabric (R204 to R218) -/

/-- HELLO, topology and flooding. A HELLO of the model's layout leaves on an ACTIVE link; the first valid HELLO of the node's own fabric
records the neighbour and opens the adjacency; a dead adjacency that was UP returns to NONE; a TOPO record, called for by a change or 1 s
old, carries the next sequence number to every link; a newer record replaces the old one, ends a claim of the ID that it shows, and one not
refreshed is removed; keys age out of the flood cache. -/
def Obligations.TopologyCommandsComplete : Prop :=
  (∀ (s : State) (dt : Nat) (l : Fin 8) (d : Dev), d = s.came dt → s.awake dt → d.lActive l = true →
    d.isDue .hello 990000 l = true → ∃ hdr pay : List Byte,
      hdr.length = 16 ∧ pay.length = 24 ∧ pay.take 8 = beBytes 8 d.uid ∧ (pay.drop 8).take 2 = beBytes 2 d.nodeId ∧
      (pay.drop 10).take 1 = beBytes 1 l ∧
      exec (.helloSend dt l) s = s.ends d ((d.startTimer .hello l).draw.2.queueCell l { cls := 2, bytes := hdr ++ pay }))
  ∧ (∀ (s : State) (dt : Nat) (l : Fin 8) (bs : List Byte) (d e : Dev), d = s.came dt → s.awake dt → d.lActive l = true →
      hdrOk 2 bs = true → crcState bs = 0 → hType bs = 0 → hFlow bs = 0 → e = (d.freeCell l 2 bs).perfEvent 0x19 1 { k := 2 } →
      beAt (cellPay bs) 16 8 = e.get HFB_FABID_HI.FABID * 2 ^ 32 + e.get HFB_FABID_LO.FABID → e.get HFB_ADJ.STATE l = 0 →
      exec (.helloReceive dt l bs) s = s.ends d (((e.startTimer .adj l).put HFB_ADJ.STATE 1 l).setAdj0 l
        ⟨beAt (cellPay bs) 0 8, 1, beAt (cellPay bs) 8 2, cb (cellPay bs) 10⟩))
  ∧ (∀ (s : State) (dt : Nat) (l : Fin 8) (d : Dev), d = s.came dt → s.awake dt → d.get HFB_ADJ.STATE l = 2 →
      d.isDue .adj (max 3 (d.get HFB_CFG.DEAD) * 1000000) l = true → exec (.adjDeadTimeout dt l) s = s.ends d (d.adjNone l true))
  ∧ (∀ (s : State) (dt : Nat) (d c e : Dev), d = s.came dt → s.awake dt → d.fabricService = true →
      (d.hfb.topoDue = true ∨ d.isDue .topo 1000000000 = true) → c = ({ d with hfb := { d.hfb with topoDue := false } }).startTimer .topo →
      e = { c with hfb := { c.hfb with topoSeq := (c.hfb.topoSeq + 1) % 65536 } } →
      ∃ pay : List Byte, pay.take 8 = beBytes 8 e.uid ∧ (pay.drop 10).take 1 = beBytes 1 e.upLinks.length ∧
        exec (.topoOriginate dt) s = s.ends d (e.broadcast 1 e.hfb.topoSeq pay))
  ∧ (∀ (s : State) (dt : Nat) (bs : List Byte) (r o : TopoRec) (k : Nat) (d : Dev), d = s.came dt → s.awake dt → d.fabricService = true →
      r = { topoOf bs with at_ := d.tclk } → r.uid ≠ d.uid → d.hfb.topo.find? (fun kv => kv.1 == r.uid) = some (k, o) →
      later16 r.seq o.seq = true → exec (.topoReceive dt bs) s =
        s.ends d ((({ d with hfb := { d.hfb with
          topo := tabIns d.hfb.topo r.uid r, beaten := d.hfb.beaten || (d.hfb.phase == 2 && r.node == d.hfb.cand) } }).idConflict r).timeElect))
  ∧ (∀ (s : State) (dt : Nat) (uid : BitVec 64) (d : Dev), d = s.came dt → s.awake dt → d.fabricService = true →
      (∀ kv ∈ d.hfb.topo, kv.1 = uid.toNat → kv.2.at_ + 875000000 ≤ d.tclk) →
      exec (.topoExpire dt uid) s =
        s.ends d ({ d with hfb := { d.hfb with topo := d.hfb.topo.filter (fun kv => decide (kv.1 ≠ uid.toNat)) } }).timeElect)
  ∧ (∀ (s : State) (dt : Nat) (d : Dev), d = s.came dt → s.awake dt →
      exec (.floodKeyExpire dt) s = s.ends d { d with hfb := { d.hfb with flood := d.floodFresh } })

/-- Node IDs and forwarding. A node defends its ID against a CLAIM of another; a write of HFB_NODE in AUTO mode sets and stores the ID and calls
for a TOPO record; an AUTO node waits, claims a candidate three times and takes it if nobody objects. FWD_CMD with OP 1 stores the entry that
HFB_FWD_W0 and HFB_FWD_W1 spell, in the place of whatever stood at IDX, or sets REFUSED and stores nothing in the four cases of R214; with
OP 2 it puts the entry at IDX into HFB_FWD_W0 and HFB_FWD_W1, zeros where there is none; with OP 3 the entry stays with VALID = 0. -/
def Obligations.NodeAndForwardingCommandsComplete : Prop :=
  (∀ (s : State) (dt : Nat) (bs : List Byte) (d : Dev), d = s.came dt → s.awake dt → d.fabricService = true →
    beAt (cellPay bs) 4 8 ≠ d.uid → cb (cellPay bs) 0 = 1 → beAt (cellPay bs) 2 2 = d.nodeId → d.nodeId ≠ 0 →
    exec (.electReceive dt bs) s =
      s.ends d (d.draw.2.broadcast 2 (Config.freeNat d.free) (d.draw.2.electPay 2 d.nodeId)))
  ∧ (∀ (s : State) (p : Port) (w : Word) (c : Dev), c = s.counted p (HFB_NODE.addr 0 0) → s.served p → c.imageApplied = true →
      c.is HFB_NODE.MODE = false → fget w 15 0 ≠ 0 → fget w 15 0 ≤ 0xFFE →
      (c.put HFB_NODE.ID (fget w 15 0)).is HFB_NODE.MODE = false →
      exec (.nodeIdWrite p w) s = s.ends s.dev ((c.put HFB_NODE.ID (fget w 15 0)).topoCall.setMemLe mramNode 2 (fget w 15 0)))
  ∧ (∀ (s : State) (dt id : Nat) (d e : Dev), d = s.came dt → s.awake dt → d.is HFB_NODE.MODE = false → d.nodeId = 0 → d.hfb.phase = 1 →
      (id, e) = d.storedId 64 → id ≠ 0 → e.idTaken id = false → d.fabricService = true → d.isDue .claim 1500000000 = true →
      exec (.electWaitDone dt) s = s.ends d
        ((({ e with hfb := { e.hfb with phase := 2, cand := id, claims := 0, beaten := false } }).stopTimer .claim 1).stopTimer .claim 2))
  ∧ (∀ (s : State) (dt : Nat) (d c e : Dev), d = s.came dt → s.awake dt → d.hfb.phase = 2 → d.hfb.claims < 3 → d.fabricService = true →
      d.isDue .claim 50000000 1 = true → c = (if d.hfb.claims = 0 then d.startTimer .claim 2 else d).startTimer .claim 1 →
      e = { c.draw.2 with hfb := { c.hfb with claims := c.hfb.claims + 1 } } →
      exec (.claimSend dt) s = s.ends d (e.broadcast 2 (Config.freeNat c.free) (e.electPay 1 e.hfb.cand)))
  ∧ (∀ (s : State) (dt : Nat) (d : Dev), d = s.came dt → s.awake dt → d.hfb.phase = 2 → d.hfb.beaten = false → 3 ≤ d.hfb.claims →
      d.idTaken d.hfb.cand = false → d.fabricService = true → d.ranFor .claim 150000000 2 = true →
      exec (.claimWindowEnd dt) s = s.ends d (({ d with hfb := { d.hfb with phase := 0 } }).nodeIdWrite d.hfb.cand).2)
  ∧ (∀ (s : State) (p : Port) (w : Word) (c e : Dev) (i : Nat), c = s.counted p (HFB_FWD_CMD.addr 0 0) → s.served p →
      e = c.store HFB_FWD_CMD w → i = fget w 14 2 →
      (∀ (x : FwdEnt) (bits : Nat → Nat), fget w 1 0 = 1 → x = {
          flow := e.get HFB_FWD_W0.FLOW, pri := e.get HFB_FWD_W1.PRI, bkp := e.get HFB_FWD_W1.BKP, mc := e.is HFB_FWD_W0.MC, loc := e.is HFB_FWD_W0.LOCAL, ctx := e.get HFB_FWD_W0.CTX,
          dedup := e.is HFB_FWD_W1.DEDUP, revert := e.is HFB_FWD_W1.REVERT, valid := e.is HFB_FWD_W0.VALID } →
        bits = (fun m => ((List.range 8).filter (fun l => decide (m / 2 ^ l % 2 = 1))).length) →
        ((x.valid = false ∨ ∀ kv ∈ e.hfb.fwd, kv.1 ≠ i → kv.2.valid = true → kv.2.flow ≠ x.flow) → x.flow ≠ 0 → x.flow ≠ 0xFFFFF →
          x.flow ≠ 0xF0000 + e.nodeId → (x.mc = true ∨ (bits x.pri ≤ 1 ∧ bits x.bkp ≤ 1)) →
          (x.valid = false ∨ x.dedup = false ∨
            (e.hfb.fwd.filter (fun kv => decide (kv.1 ≠ i) && kv.2.valid && kv.2.dedup)).length < 1024) →
          exec (.fwdWrite p w) s = s.ends s.dev { e with hfb := { e.hfb with fwd := tabIns e.hfb.fwd i x } })
        ∧ ((x.valid = true ∧ ∃ kv ∈ e.hfb.fwd, kv.1 ≠ i ∧ kv.2.valid = true ∧ kv.2.flow = x.flow) ∨ x.flow = 0 ∨ x.flow = 0xFFFFF ∨
            x.flow = 0xF0000 + e.nodeId ∨ (x.mc = false ∧ (1 < bits x.pri ∨ 1 < bits x.bkp)) ∨
            (x.valid = true ∧ x.dedup = true ∧
              1024 ≤ (e.hfb.fwd.filter (fun kv => decide (kv.1 ≠ i) && kv.2.valid && kv.2.dedup)).length) →
          exec (.fwdWrite p w) s = s.ends s.dev (e.put HFB_FWD_CMD.REFUSED 1)))
      ∧ (∀ (x : FwdEnt), fget w 1 0 = 2 → e.hfb.fwd.find? (fun kv => kv.1 == i) = some (i, x) →
        exec (.fwdRead p w) s = s.ends s.dev ((e.wr HFB_FWD_W0 (BitVec.ofNat 32
          (2 ^ 31 * b2n x.valid + 2 ^ 30 * b2n x.mc + 2 ^ 29 * b2n x.loc + 2 ^ 20 * x.ctx + x.flow))).wr HFB_FWD_W1 (BitVec.ofNat 32
          (2 ^ 31 * b2n x.dedup + 2 ^ 30 * b2n x.revert + 2 ^ 29 * b2n x.useBkp + 256 * x.pri + x.bkp))))
      ∧ (fget w 1 0 = 2 → (∀ kv ∈ e.hfb.fwd, kv.1 ≠ i) →
        exec (.fwdRead p w) s = s.ends s.dev ((e.wr HFB_FWD_W0 0).wr HFB_FWD_W1 0))
      ∧ (∀ (x : FwdEnt), fget w 1 0 = 3 → e.hfb.fwd.find? (fun kv => kv.1 == i) = some (i, x) → exec (.fwdInvalidate p w) s =
          s.ends s.dev { e with hfb := { e.hfb with fwd := tabIns e.hfb.fwd i { x with valid := false } } })
      ∧ (fget w 1 0 = 3 → (∀ kv ∈ e.hfb.fwd, kv.1 ≠ i) → exec (.fwdInvalidate p w) s = s.ends s.dev e))

/-! ### Hedgerow links (R176 to R201) -/

/-- Training of a link. The eighth good LINK block in INIT makes it ACTIVE, with credits cleared and delay measurement begun; a block lock
takes TRAIN to INIT; a loss of signal, errors, a credit that does not advance and RETRAIN take an ACTIVE link DOWN with their
CAUSE; DISABLE turns a link off; without a lock the polarity is inverted; the time-outs of INIT and DOWN return to TRAIN. -/
def Obligations.LinkTrainingCommandsComplete : Prop :=
  (∀ (s : State) (dt : Nat) (l : Fin 8) (body : BitVec 56) (cls : Fin 4) (part : List Byte) (d e g : Dev), d = s.came dt → s.awake dt →
    d.lState l = 2 → linkVer body = 1 → linkLocked body = true → linkRate body = d.get HLK_CFG.RATE l → 7 ≤ (d.lnk l).good →
    e = (d.setLnk l { d.lnk l with part := (cls, part) }).setLState l 3 →
    g = ((((e.setLnk l { adv := [(0, d.tclk), (1, d.tclk), (2, d.tclk), (3, d.tclk)] }).stopTimer .dreq l).stopTimer .hello l).put
      HLK_DELAY.VALID 0 l).put HLK_STAT.LONG 0 l →
    exec (.linkBlockReceive dt l body cls part) s = s.ends d (g.setLnk l { g.lnk l with part := (0, []) }))
  ∧ (∀ (s : State) (dt : Nat) (l : Fin 8) (d : Dev), d = s.came dt → s.awake dt → d.lState l = 1 →
      exec (.blockLock dt l) s = s.ends d ((d.setLState l 2).setLnk l { d.lnk l with good := 0 })
      ∧ (d.isDue .link 50000000 l = true →
        exec (.polarityInvert dt l) s = s.ends d ((d.setLState l 1).put HLK_STAT.POLINV (1 - d.get HLK_STAT.POLINV l) l)))
  ∧ (∀ (s : State) (dt : Nat) (l : Fin 8) (slow : Bool) (cause : Nat) (cls : Fin 4) (part : List Byte) (d e g : Dev), d = s.came dt →
      s.awake dt → d.lState l = 3 → cause = (if slow = true then 3 else 2) →
      e = (d.setLnk l { d.lnk l with part := (cls, part) }).partCell l →
      g = ((((((e.setLState l 4).put HLK_STAT.CAUSE cause l).put HLK_STAT.DOWNEV 1 l).emit (.rfault l)).raise (FS.HLK_DOWN + l)).leaveActive l) →
      exec (.headerErrorLimit dt ⟨l, cls, part⟩ slow) s = s.ends d (g.setLnk l { g.lnk l with part := (0, []) }))
  ∧ (∀ (s : State) (dt : Nat) (l : Fin 8) (cls : Fin 4) (part : List Byte) (d e g : Dev), d = s.came dt → s.awake dt → d.lState l = 3 →
      e = (d.setLnk l { d.lnk l with part := (cls, part) }).partCell l →
      g = ((((((e.setLState l 4).put HLK_STAT.CAUSE 1 l).put HLK_STAT.DOWNEV 1 l).emit (.rfault l)).raise (FS.HLK_DOWN + l)).leaveActive l) →
      exec (.lossOfSignal dt l cls part) s = s.ends d (g.setLnk l { g.lnk l with part := (0, []) }))
  ∧ (∀ (s : State) (dt : Nat) (l : Fin 8) (k cls : Fin 4) (part : List Byte) (d c e g : Dev), d = s.came dt → s.awake dt → d.lState l = 3 →
      c = d.setLnk l { d.lnk l with part := (cls, part) } → c.firstOf l k ≠ none → tabGet 0 (c.lnk l).adv k + 250000 ≤ c.tclk →
      e = (c.ringFront (72 + l) 1 64).2.partCell l →
      g = ((((((e.setLState l 4).put HLK_STAT.CAUSE 5 l).put HLK_STAT.DOWNEV 1 l).emit (.rfault l)).raise (FS.HLK_DOWN + l)).leaveActive l) →
      exec (.creditTimeout dt ⟨l, cls, part⟩ k) s = s.ends d (g.setLnk l { g.lnk l with part := (0, []) }))
  ∧ (∀ (s : State) (p : Port) (l : Fin 8) (cls : Fin 4) (part : List Byte) (w : Word) (c e g : Dev),
      c = (s.dev.setLnk l { s.dev.lnk l with part := (cls, part) }).busCount (portNum p) (HLK_CTRL.addr l 0) → s.served p →
      c.lState l = 3 → c.is HLK_CTRL.DISABLE l = false → fget w 0 0 = 1 → fget w 1 1 = 0 → e = c.partCell l →
      g = ((((((e.setLState l 4).put HLK_STAT.CAUSE 6 l).put HLK_STAT.DOWNEV 1 l).emit (.rfault l)).raise (FS.HLK_DOWN + l)).leaveActive l) →
      exec (.linkRetrain p ⟨l, cls, part⟩ w) s = s.ends s.dev (g.setLnk l { g.lnk l with part := (0, []) }))
  ∧ (∀ (s : State) (p : Port) (l : Fin 8) (w : Word) (c : Dev), c = s.counted p (HLK_CTRL.addr l 0) → s.served p → fget w 0 0 = 0 →
      (fget w 1 1 == 1) ≠ c.is HLK_CTRL.DISABLE l →
      exec (.linkDisable p l w) s = s.ends s.dev (c.linkDisable l (fget w 1 1 == 1)))
  ∧ (∀ (s : State) (dt : Nat) (l : Fin 8) (d : Dev), d = s.came dt → s.awake dt →
      (d.lState l = 2 → d.isDue .link 10000000 l = true → exec (.initTimeout dt l) s = s.ends d (d.setLState l 1))
      ∧ (d.lState l = 4 → d.isDue .link 1000000 l = true → exec (.downTimeout dt l) s = s.ends d (d.setLState l 1)))

/-- Cells and delay measurement on an ACTIVE link. Credit counters arrive; the oldest waiting SYNC cell within its credit leaves; a
DREQ and a SYNC leave stamped; a DREQ is answered with its SEQ; a DRSP of an open exchange gives ((T4 − T1) − (T3 − T2)) ÷ 2; a SYNC on the
time-source link delivers T1 plus delay and asymmetry less the arrival; an exchange without an answer is abandoned; a reservation within RCAP is
stored. -/
def Obligations.LinkCellCommandsComplete : Prop :=
  (∀ (s : State) (dt : Nat) (l : Fin 8) (ty : Byte) (body : BitVec 56) (cs : List Nat) (d : Dev), d = s.came dt → s.awake dt →
    d.lActive l = true → ty.toNat = 0x1E → cs = (List.range 4).map (creditOf body) →
    exec (.creditReturn dt l ⟨ty, body⟩) s = s.ends d (d.setLnk l { d.lnk l with
        ret := (List.range 4).foldl (fun t k => tabPut 0 t k (nth 0 cs k)) (d.lnk l).ret,
        adv := ((List.range 4).filter (fun k => tabGet 0 (d.lnk l).ret k != nth 0 cs k)).foldl
          (fun t k => tabPut 0 t k d.tclk) (d.lnk l).adv }))
  ∧ (∀ (s : State) (dt : Nat) (l : Fin 8) (sub : Fin 64) (x : QCell) (d e : Dev), d = s.came dt → s.awake dt → d.lActive l = true →
      d.ringFront (72 + l) 1 64 = (none, e) → e.firstOf l 0 = some x → x.cls = 0 → x.cost ≤ e.credit l 0 →
      exec (.cellTransmit ⟨dt, sub⟩ l) s = s.ends d ((e.setLnk l { e.lnk l with q := dropFirst 0 (e.lnk l).q }).sendCell l sub x))
  ∧ (∀ (s : State) (dt : Nat) (l : Fin 8) (sub : Fin 64) (d c : Dev), d = s.came dt → s.awake dt → d.lActive l = true →
      d.isDue .dreq (d.dreqNs l) l = true → c = (d.startTimer .dreq l).draw.2 →
      exec (.dreqSend ⟨dt, sub⟩ l) s = s.ends d ((c.setLnk l { c.lnk l with nreq := (c.lnk l).nreq + 1 }).sendSync l sub
        { cls := 0, stamp := 1, bytes := mkHdr 0 1 false false 0 0 0 0 d.nodeId (Config.freeNat d.free % 65536) d.cellBlk }))
  ∧ (∀ (s : State) (dt : Nat) (l : Fin 8) (sub : Fin 64) (bs : List Byte) (d e : Dev), d = s.came dt → s.awake dt → d.lActive l = true →
      hdrOk 0 bs = true → crcState bs = 0 → e = (d.freeCell l 0 bs).perfEvent 0x19 1 →
      (hType bs = 1 → hLenw bs = 0 → exec (.dreqReceive ⟨dt, sub⟩ l bs) s = s.ends d (e.sendSync l sub
        { cls := 0, stamp := 2, bytes := mkHdr 0 2 false false 6 0 0 0 e.nodeId (hSeq bs) e.cellBlk ++ tb96 (e.stamp16 sub) ++ List.replicate 12 0 }))
      ∧ (∀ t1 k, hType bs = 2 → hLenw bs = 6 → (e.dreqsOpen l).find? (fun x => x.1 == hSeq bs) = some (hSeq bs, t1, k) →
          exec (.drspReceive ⟨dt, sub⟩ l bs) s = s.ends d
            ((e.setLnk l { e.lnk l with dreqs := (e.dreqsOpen l).filter (fun x => x.1 != hSeq bs) }).delaySample l
              ((e.stamp16 sub - t1) - (ofTb96 bs 28 - ofTb96 bs 16)))))
  ∧ (∀ (s : State) (dt : Nat) (l : Fin 8) (sub : Fin 64) (d : Dev), d = s.came dt → s.awake dt → d.lActive l = true →
      d.is HLK_SYNC_CFG.TXEN l = true → d.isDue .sync (d.syncNs l) l = true →
      ∃ tail : List Byte, tail.length = 4 ∧ exec (.syncSend ⟨dt, sub⟩ l) s = s.ends d ((d.startTimer .sync l).draw.2.sendSync l sub
        { cls := 0, stamp := 3, bytes := mkHdr 0 0 false false 4 0 0 0 d.nodeId (Config.freeNat d.free % 65536) d.cellBlk ++ List.replicate 12 0 ++ tail }))
  ∧ (∀ (s : State) (dt : Nat) (l : Fin 8) (sub : Fin 64) (bs : List Byte) (d e g : Dev), d = s.came dt → s.awake dt → d.lActive l = true →
      hdrOk 0 bs = true → crcState bs = 0 → hType bs = 0 → hLenw bs = 4 → e = (d.freeCell l 0 bs).perfEvent 0x19 1 →
      e.get HLK_TSYNC.LINK = l → g = e.captureEvent 31 true sub → g.get HLK_TSYNC.LINK = l → g.is HLK_TSYNC.EN = true →
      g.is HLK_DELAY.VALID l = true → exec (.syncReceive ⟨dt, sub⟩ l bs) s = s.ends d ((g.inc HLK_SYNC_STAT.DELIV).offset (g.get HLK_TSYNC.TB) 2
        (ofTb96 bs 16 + (g.get HLK_DELAY.DELAY l : Int) + sgnW 16 (g.get HLK_ASYM.ASYM l) - g.stamp16 sub) true false))
  ∧ (∀ (s : State) (dt : Nat) (l : Fin 8) (d : Dev), d = s.came dt → s.awake dt → exec (.drspTimeout dt l) s =
      s.ends d (d.setLnk l { d.lnk l with dreqs := (d.lnk l).dreqs.filter (fun e => decide (d.tclk < e.2.2 + 250000)) }))
  ∧ (∀ (s : State) (p : Port) (l : Fin 8) (i : Fin 256) (w : Word) (c : Dev), c = s.counted p (HLK_RSV.addr l i) → s.served p →
      c.rsvSum l - c.get HLK_RSV.CELLS l i + fget w 28 20 ≤ c.get HLK_RSV_STAT.RCAP l →
      exec (.rsvWrite p l i w) s = s.ends s.dev (c.store HLK_RSV w l i))

/-- Received cells on an ACTIVE link, with a sound header and a correct CRC: an ISO cell whose flow has a forwarding entry, a CTRL or BULK
cell addressed to this node, and a CTRL or BULK cell in transit whose flow has an entry. In each case the cell is counted as performance
event 0x19 of its class and takes the next cell number; it then meets its forwarding entry, or goes to the receive ring; and last its
credit returns unless copies of it wait. -/
def Obligations.ReceivedCellCommandsComplete : Prop :=
  (∀ (s : State) (dt : Nat) (l : Fin 8) (bs : List Byte) (id idx : Nat) (x : FwdEnt) (d e : Dev), d = s.came dt → s.awake dt →
    d.lActive l = true → hdrOk 1 bs = true → crcState bs = 0 → (id, e) = (d.perfEvent 0x19 1 { k := 1 }).cellId →
    hFlow bs ≠ 0 → e.lookup (hFlow bs) = some (idx, x) →
    exec (.isoCellReceive dt l bs) s = s.ends d ((e.hitCell l 0 idx x bs id).settleCell l 1 id bs))
  ∧ (∀ (s : State) (dt : Nat) (l : Fin 8) (bulk : Bool) (bs : List Byte) (soc id : Nat) (d e : Dev), d = s.came dt → s.awake dt →
      d.lActive l = true → soc = (if bulk = true then 3 else 2) → hdrOk soc bs = true → crcState bs = 0 →
      (id, e) = (d.perfEvent 0x19 1 { k := soc }).cellId → hFlow bs = 0xF0000 + e.nodeId → hFlow bs ≠ 0xFFFFF → e.nodeId ≠ 0 →
      exec (.ringCellReceive dt l bulk bs) s = s.ends d ((e.toRing l bs).settleCell l soc id bs))
  ∧ (∀ (s : State) (dt : Nat) (l : Fin 8) (bulk : Bool) (bs : List Byte) (soc id idx : Nat) (x : FwdEnt) (d e : Dev), d = s.came dt →
      s.awake dt → d.lActive l = true → soc = (if bulk = true then 3 else 2) → hdrOk soc bs = true → crcState bs = 0 →
      (id, e) = (d.perfEvent 0x19 1 { k := soc }).cellId → hFlow bs ≠ 0 → hFlow bs ≠ 0xFFFFF → hFlow bs ≠ 0xF0000 + e.nodeId →
      e.lookup (hFlow bs) = some (idx, x) →
      exec (.transitCellReceive dt l bulk bs) s = s.ends d ((e.hitCell l 0 idx x bs id).settleCell l soc id bs))


/-! ### Pair (R294 to R313, R418) -/

/-- Heartbeats, the LIVE and OWN lines, and the chip's own commands. An ACTIVE records a heartbeat and compares inside the window. At B(k) +
HBWIN, once for each boundary, a chip judges its paths: an ACTIVE does no more; a STANDBY detects when both paths become lost, or OWN_IN is low
with the heartbeat absent or not ACTIVE outside a planned handover, and takes over (role, TAKEEV, outputs, replay, PAIR.TAKEOVER) or notes
NOTAKE; in NONE it becomes STANDBY where OWN_IN is high, and is otherwise granted or not by the three cases of R297, to take at the next
boundary. An edge of LIVE_IN is captured; OWN_IN rising on an ACTIVE long after its start makes it yield and raises PAIR.SPLIT; YIELD, CLEAR
and FAIL move the role; HANDOVER proposes a block that a ready STANDBY can keep; RESYNC is noted and sent to the partner; a boundary that has
not come by Tb + HBWIN fails the pair; the back-off's end, 16 + U_k blocks after the yield, lets a STANDBY take over: that this take-over sets
and raises what any other does, and counts as a start for a further yield, is the model's choice (log entry 110), as is when the ports of a
yield are released (log entry 140). -/
def Obligations.PairRoleCommandsComplete : Prop :=
  (∀ (s : State) (dt : Nat) (bs : List Byte) (h : Hb) (now early : Bool) (d e : Dev), d = s.came dt → s.awake dt → hbOf bs = some h →
    d.inWindowOf = (now, early) → d.role = 2 → bitOf h.flags 2 = 0 →
    e = ((d.setPair { d.pair with
        link := true, hb := some h, hbSeen := d.pair.hbSeen || now, hbEarly := d.pair.hbEarly || (early && !now) }).put
      PAIR_EV.PROLE h.role).put PAIR_PARTNER.NODE h.node →
    exec (.heartbeatReceive dt bs) s = s.ends d (if now = true then e.compare else e))
  ∧ (∀ (s : State) (dt : Nat) (d a e : Dev), d = s.came dt → s.awake dt → d.running = true → d.pairOn = true →
      d.pair.lastB + d.hbwin ≤ d.tclk → d.pair.evalAt ≠ d.cyc.k + 1 → a = d.setPair { d.pair with evalAt := d.cyc.k + 1 } →
      e = a.judgePaths.judgeHb.countCompare.pleachStep →
      (e.role = 2 → exec (.pairEvaluate dt) s = s.ends d e)
      ∧ (∀ (lost own : Bool) (x y z : Dev), e.role = 3 → e.pair.backoff = false → e.pair.inhibit = false →
        lost = (e.hbLost && e.liveLost) →
        own = (!e.pair.ownIn && (!e.pair.hbSeen || e.partnerRole != 2) && !e.planned) →
        x = e.setPair { e.pair with det1 := lost, det2 := own } →
        ((lost = true ∧ e.pair.det1 = false) ∨ (own = true ∧ e.pair.det2 = false) →
          (x.is PAIR_STAT.READY = false → x.is PAIR_CFG.TAKE_UNHEALTHY = false →
            exec (.pairEvaluate dt) s = s.ends d ((x.put PAIR_TAKE_BLK.BLK x.blk).put PAIR_EV.NOTAKE 1))
          ∧ (x.is PAIR_STAT.READY = true ∨ x.is PAIR_CFG.TAKE_UNHEALTHY = true →
            y = (((x.put PAIR_TAKE_BLK.BLK x.blk).setRole 2).put PAIR_EV.TAKEEV 1).take 0 (some (x.tclk + 1500)) →
            z = y.setPair { y.pair with ho := none, startTake := none } →
            (lost = true → z.pair.ownIn = false) →
            ∀ from_, from_ = (match x.pair.hb with | some h => h.txdone + 1 | none => x.cyc.k) →
            exec (.pairEvaluate dt) s = s.ends d (((z.replay from_).ethReplay from_).raise FS.PAIR_TAKEOVER)))
        ∧ ((lost = false ∨ e.pair.det1 = true) → (own = false ∨ e.pair.det2 = true) →
          exec (.pairEvaluate dt) s = s.ends d x))
      ∧ (e.role = 0 → e.pairOn = true → e.running = true → e.ftm = false → e.pair.ownIn = true →
        exec (.pairEvaluate dt) s = s.ends d ((e.setRole 3).setPair { (e.setRole 3).pair with grant := false, det1 := false, det2 := false }))
      ∧ (e.role = 0 → e.ftm = false → e.pair.ownIn = false → ∃ granted : Bool,
        exec (.pairEvaluate dt) s = s.ends d (e.setPair { e.pair with grant := granted })
        ∧ (∀ h, e.pair.hbSeen = true → e.pair.hb = some h → h.role = 3 ∨ h.role = 4 → granted = true)
        ∧ (∀ h, e.pair.hbSeen = true → e.pair.hb = some h → h.role = 0 → 4 ≤ e.pair.hbRun →
            (granted = true ↔ (e.get PAIR_CFG.PREF = 1 ∧ bitOf h.flags 4 = 0) ∨ (e.get PAIR_CFG.PREF = bitOf h.flags 4 ∧ e.uid < h.uid)))
        ∧ (e.pair.hbSeen = false → e.pair.heard = false →
            (granted = true ↔ (2 - e.get PAIR_CFG.PREF) * e.get PAIR_CFG.STARTUP * 250000 ≤ e.tclk - e.pair.noneAt))))
  ∧ (∀ (s : State) (dt : Nat) (level : Bool) (d e f : Dev), d = s.came dt → d.pair.liveIn = !level → e = d.captureEvent 29 →
      e.inWindowOf = (true, false) → f = e.setPair { e.pair with liveIn := level, liveSeen := true } →
      exec (.liveEdge dt level) s = s.settles (f.put PAIR_SKEW.SKEW (unsW 32 ((e.tclk - e.pair.lastB : Nat) * 4))))
  ∧ (∀ (s : State) (dt k : Nat) (d c e f : Dev), d = s.came dt → d.pair.ownIn = false → c = d.captureEvent 30 →
      e = (c.setPair { c.pair with ownIn := true }).put PAIR_STAT.OWNIN 1 →
      e.role = 2 → e.planned = false → e.pair.startTake = some k → k + 16 < e.cyc.k → f = e.yieldNow true →
      exec (.ownInChange dt true) s = s.settles
        (((f.setPair { f.pair with inhibit := true, yields := 0, hbRun := 0, liveRun := 0 }).put PAIR_EV.SPLITEV 1).raise FS.PAIR_SPLIT))
  ∧ (∀ (s : State) (p : Port) (w : Word) (c : Dev), c = s.counted p (PAIR_CTRL.addr 0 0) → s.served p →
      (∀ e, w.toNat % 32 = 16 → c.role = 2 → e = c.yieldNow false →
        exec (.yield p w) s = s.ends s.dev (e.setPair { e.pair with inhibit := true, yields := 0, hbRun := 0, liveRun := 0 }))
      ∧ (w.toNat % 32 = 4 → c.role = 4 → exec (.pairClear p w) s = s.ends s.dev c.pairNone)
      ∧ (w.toNat % 32 = 2 → c.mirrored = false → exec (.pairFail p w) s = s.ends s.dev c.pairFail)
      ∧ (∀ h, w.toNat % 32 = 1 → c.role = 2 → c.is PAIR_STAT.UNMIRRORED = false → c.pair.hb = some h → h.role = 3 → bitOf h.flags 0 = 1 →
          later32 (c.get PAIR_HO_BLK.BLOCK) (c.blk + 2) = true →
          exec (.handover p w) s = s.ends s.dev (c.setPair { c.pair with ho := some (c.get PAIR_HO_BLK.BLOCK) }))
      ∧ (w.toNat % 32 = 8 → c.role = 2 → c.pair.link = true → later32 (c.get PAIR_RESYNC.BLOCK) (c.blk + 2) = true →
          exec (.resync p w) s = s.ends s.dev
            ((c.setPair { c.pair with resync := some (c.get PAIR_RESYNC.BLOCK) }).emit (.pair 4 [0, PAIR_CTRL.addr 0 0, w.toNat, 0] []))))
  ∧ (∀ (s : State) (dt : Nat) (d : Dev), d = s.came dt → s.awake dt → d.running = true →
      250000000 + d.hbwin * d.bps < (d.tclk - d.cyc.tick) * d.bps → exec (.boundaryMissed dt) s = s.ends d d.pairFail)
  ∧ (∀ (s : State) (dt : Nat) (d e f : Dev), d = s.came dt → s.awake dt → d.role = 3 → d.pair.backoff = true →
      d.pair.backoffAt + (16 + d.uid / 256 ^ (d.pair.yields - 1) % 256) ≤ d.cyc.k →
      e = d.setPair { d.pair with backoff := false, det1 := false, det2 := false } → e.pair.ownIn = false → e.pair.hbMiss ≠ 0 →
      f = e.takeover false →
      exec (.startupBackoffExpire dt) s = s.ends d (f.setPair { f.pair with startTake := some f.cyc.k }))

/-- What arrives over the pair link, and the self-tests. A VBUS frame gives a mirrored STANDBY the reading and dip state; an ASRC frame the
words of the block; a MIRROR frame a write of the mirrored bits, the resynchronisation of the ACTIVE, or a commit's block, each of which
waits for its boundary; a PSM frame the group's states, to adopt on a STANDBY and as the partner's elsewhere; a sound health record is kept;
the loss of the link sets UNMIRRORED and raises PAIR.LINK; a health record goes, INT blocks after the last one, to its ring and to the
partner; a scrub corrects a word and reports it; an idle Sprig's kernel gives its result. -/
def Obligations.PairLinkCommandsComplete : Prop :=
  (∀ (s : State) (dt v val : Nat) (g : Fin 4) (st : Fin 3) (ceil : Bool) (d e : Dev), d = s.came dt → s.awake dt →
    e = d.setPair { d.pair with link := true } → e.grpStandby g = true → e.mirrored = true →
    exec (.pairVbusReceive dt g v val st ceil) s =
      s.ends d (((((e.setPgrp g { e.pgrp g with shared := some v }).setDip g { val := val, ceil := ceil }).put PWR_DIP_STAT.STATE st).put
        PWR_DIP_STAT.SHARED 1).put PWR_DIP_STAT.GAIN (min 65535 val)))
  ∧ (∀ (s : State) (dt b k r st ps : Nat) (d e : Dev), d = s.came dt → s.awake dt → e = d.setPair { d.pair with link := true } →
      exec (.pairAsrcReceive dt b [(k, r, st, ps)]) s =
        s.ends d (e.setConv k { e.conv k with words := (b, r, st, ps) :: (e.conv k).words.take 3 }))
  ∧ (∀ (s : State) (dt a aux i j : Nat) (r : Reg) (w : Word) (d c : Dev), d = s.came dt → s.awake dt →
      (d.setPair { d.pair with link := true }).role = 3 → a < memShared → decodeReg a = some (r, i, j) → r ≠ XPT_CMD_DATA → r ≠ PAIR_CTRL →
      mirrorMask r ≠ 0 →
      c = (d.setPair { d.pair with link := true }).busCount 68 a →
      exec (.mirrorReceive dt (.write a w aux)) s =
        s.ends d (c.regWrite 68 r i j (maskWord r.flds (mirrorMask r) w (c.rd r i j)) (some aux)))
  ∧ (∀ (s : State) (dt aux : Nat) (w : Word) (d c : Dev), d = s.came dt → s.awake dt → (d.setPair { d.pair with link := true }).role = 3 →
      fget w 3 3 = 1 → c = (d.setPair { d.pair with link := true }).busCount 68 (PAIR_CTRL.addr 0 0) →
      later32 (c.get PAIR_RESYNC.BLOCK) c.blk = true →
      exec (.mirrorReceive dt (.write (PAIR_CTRL.addr 0 0) w aux)) s =
        s.ends d (c.setPair { c.pair with resync := some (c.get PAIR_RESYNC.BLOCK) }))
  ∧ (∀ (s : State) (dt b : Nat) (d e : Dev), d = s.came dt → s.awake dt → e = d.setPair { d.pair with link := true } → e.mirrored = true →
      exec (.mirrorReceive dt (.commit true b)) s = s.ends d (e.setPair { e.pair with markX := e.pair.markX ++ [b % 2 ^ 32] })
        ∧ exec (.mirrorReceive dt (.commit false b)) s = s.ends d (e.setPair { e.pair with markT := e.pair.markT ++ [b % 2 ^ 32] }))
  ∧ (∀ (s : State) (dt st : Nat) (g : Fin 4) (xs : List (Nat × Nat × Nat × Nat)) (d : Dev), d = s.came dt → s.awake dt →
      (d.role = 3 → exec (.pairPsmReceive dt g st xs) s = s.ends d (d.setPair { d.pair with
        link := true, psm := d.pair.psm.filter (fun x => x.grp != g.val) ++ [⟨g, st, xs⟩] }))
      ∧ (d.role ≠ 3 → exec (.pairPsmReceive dt g st xs) s = s.ends d (d.setPair { d.pair with
        link := true, psmPartner := tabPut 0 d.pair.psmPartner g (st + 1) })))
  ∧ (∀ (s : State) (dt : Nat) (bs : List Byte) (d : Dev), d = s.came dt → s.awake dt → bs.length = 64 →
      crc32 (bs.take 0x3C) = leAt bs 0x3C 4 → bitOf (leAt bs 5 1) 4 = 0 →
      exec (.healthReceive dt bs) s = s.ends d (d.setPair { d.pair with
        link := true, health := bs, resyncRec := d.pair.resyncRec && d.beforeResync (leAt bs 0 4) }))
  ∧ (∀ (s : State) (dt : Nat) (d e : Dev), d = s.came dt → s.awake dt →
      e = d.setPair { d.pair with link := false, linkRun := 0 } →
      e.pairOn = true → exec (.pairLinkDown dt) s = s.ends d ((e.put PAIR_STAT.UNMIRRORED 1).raise FS.PAIR_LINK))
  ∧ (∀ (s : State) (dt : Nat) (d e : Dev), d = s.came dt → s.awake dt → d.running = true →
      (d.pair.healthAt = 0 ∨ d.pair.healthAt + max 1 (d.get PAIR_HEALTH_CFG.INT) ≤ d.cyc.k + 1) →
      e = (d.ringPush (92 + d.get PAIR_HEALTH_CFG.RING) 6 0 0 0 d.healthBytes).2 → e.pair.link = true →
      exec (.healthRecord dt) s = s.ends d ((e.setPair { e.pair with acc := {}, healthAt := d.cyc.k + 1 }).emit (.pair 6 [] d.healthBytes)))
  ∧ (∀ (s : State) (dt a : Nat) (err : Fin 3) (d b e f : Dev), d = s.came dt → s.awake dt → eccWord a = true → a < memSram →
      b = d.eccArise a err → e = (if memShared ≤ a ∧ a < memCode then b.perfEvent 0x22 1 { master := 69, addr := a - memShared } else b) →
      a ∉ e.eccBad → a ∈ e.eccCor →
      f = { e.setPair { e.pair with scrubbed := true, scrubBad := e.pair.scrubBad.filter (· != a) } with
            eccCor := e.eccCor.filter (· != a) } →
      exec (.scrub dt a err) s = s.ends d ((f.setPair { f.pair with acc := { f.pair.acc with corr := f.pair.acc.corr + 1 } }).raiseAt
        FS.THK_ECC_CORR { addr := a, master := 69, ty := 1 }))
  ∧ (∀ (s : State) (dt : Nat) (m : Fin 64) (good : Bool) (d : Dev), d = s.came dt → s.awake dt → d.role ≠ 0 → (d.sprig m).busy = false →
      exec (.pleachKernel dt m good) s = s.ends d (d.setPair { d.pair with
        kern := tabPut 0 d.pair.kern m (if good = true then 1 else 2), kernAt := tabPut 0 d.pair.kernAt m (d.cyc.k + 1) }))

/-! ### Modulators and power stages (R139 to R156) -/

/-- Diagnosis, start and stop of a group. START is noted in OFF and FAULT, unless the GRAVE condition holds; STOP begins a ramp of 10 ms in
RUN; with no leg shorted to the supply the leg test raises PSEN and enters ENABLING; after TEN the load test begins; with the test voltage
back at 0 it enters RUN. The model's choices: what START and STOP do while a group diagnoses and how a shorted channel's result is taken is
log entry 24, the voltage, ramp and hold of the load test entry 125, the command that tells PSFLT high again, which ends no FAULT, entry
128. The ramp's end reaches OFF, with PSEN to fall when the zero state has been held for a whole period; PSFLT low takes a group that is not
in OFF to FAULT, and its return high is only noted; a test current above VTEST ÷ 1 Ω ends a channel's load test as SHORTED. -/
def Obligations.GroupCommandsComplete : Prop :=
  (∀ (s : State) (p : Port) (g : Fin 4) (w : Word) (c : Dev), c = s.counted p (PSM_PG_CTRL.addr g 0) → s.served p → c.solo →
    (fget w 0 0 = 1 → fget w 1 1 = 0 → c.is FLT_GRAVE.ACTIVE = false → c.gState g = 0 ∨ c.gState g = 6 →
      exec (.psmStart p g w) s = s.ends s.dev (c.setPgrp g { c.pgrp g with startReq := true }))
    ∧ (fget w 0 0 = 0 → fget w 1 1 = 1 → exec (.psmStop p g w) s = s.ends s.dev (c.stopRamp g 10)))
  ∧ (∀ (s : State) (dt : Nat) (g : Fin 4) (legs : List (Nat × Nat)) (kv : Nat) (d e : Dev), d = s.came dt → s.awake dt → d.gState g = 1 →
      d.grpStandby g = false → d.isDue .enable 3000000 g = true → legs.length = 8 → kv = d.get PSM_PG_SENSE.KV g →
      (∀ l ∈ legs, 256000 * (d.pgrp g).vg ≤ 4 * (l.1 * kv) ∧ 256000 * (d.pgrp g).vg ≤ 4 * (l.2 * kv)) →
      (∀ l ∈ legs, 4 * (l.1 * kv) ≤ 768000 * (d.pgrp g).vg ∧ 4 * (l.2 * kv) ≤ 768000 * (d.pgrp g).vg) →
      e = forN 8 (fun k d =>
        if ((d.put PSM_CH_STAT.DIAG 0 (8 * g + k)).put PSM_CH_RES.R 0xFFFFFFFF (8 * g + k)).cState (8 * g + k) = 4
        then ((d.put PSM_CH_STAT.DIAG 0 (8 * g + k)).put PSM_CH_RES.R 0xFFFFFFFF (8 * g + k)).setCState (8 * g + k) 0
        else (d.put PSM_CH_STAT.DIAG 0 (8 * g + k)).put PSM_CH_RES.R 0xFFFFFFFF (8 * g + k)) d →
      exec (.legtestDone dt g legs) s = s.ends d ((e.setGState g 2).setPsen g true))
  ∧ (∀ (s : State) (dt : Nat) (g : Fin 4) (d a b : Dev), d = s.came dt → s.awake dt → d.gState g = 2 → d.grpStandby g = false →
      d.isDue .enable (max 1 (min 5000 (d.get PSM_PG_TIME.TEN g)) * 1000) g = true → a = d.setGState g 3 →
      b = a.setPgrp g { a.pgrp g with
        vtest := max 10 (min 200 (a.get PSM_DIAG_CFG.VTEST)), testP := 0,
        rampN := max 1 (min 100 (a.get PSM_DIAG_CFG.RAMP)) * 192 * 2 ^ a.get PSM_PG_CFG.CAR g,
        holdN := max 1 (min 100 (a.get PSM_DIAG_CFG.HOLD)) * 192 * 2 ^ a.get PSM_PG_CFG.CAR g } →
      exec (.enableTimeDone dt g) s = s.ends d
        (b.eachCh g (fun n d => d.setPch n { d.pch n with under := decide (d.get PSM_CH_STAT.DIAG n < 6), e := [] })))
  ∧ (∀ (s : State) (dt : Nat) (g : Fin 4) (meas : List (Int × Int)) (d e : Dev), d = s.came dt → s.awake dt → d.gState g = 3 →
      d.grpStandby g = false → 2 * (d.pgrp g).rampN + (d.pgrp g).holdN ≤ (d.pgrp g).testP →
      e = (forN 8 (fun k a => if (a.pch (8 * g + k)).under = true then
          (let m := d.loadScale g (nth (0, 0) meas k)
           let r := loadClass m.1 m.2.1 m.2.2
           let b := ((a.setPch (8 * g + k) { a.pch (8 * g + k) with under := false, tA := 0, tB := 0 }).put PSM_CH_STAT.DIAG r (8 * g + k)).put
             PSM_CH_RES.R (loadMilliohm m.1 m.2.1 m.2.2) (8 * g + k)
           if r = 5 ∨ (r = 4 ∧ b.is PSM_CH_CFG.OPEN_PLAY (8 * g + k) = false) then b.setCState (8 * g + k) 4 else b.chanReady (8 * g + k))
        else a) d).setGState g 4 →
      exec (.loadtestDone dt g meas) s =
        s.ends d (if (List.range 8).any (fun k => e.get PSM_CH_STAT.DIAG (8 * g + k) != 1) = true then e.raise (FS.PSM_DIAG + g) else e))
  ∧ (∀ (s : State) (dt : Nat) (g : Fin 4) (d e : Dev), d = s.came dt → s.awake dt → d.gState g = 5 → (d.pgrp g).stopP = 0 →
      e = (d.setGState g 0).put PSM_PG_STAT.DEEP 0 g →
      exec (.stopRampDone dt g) s = s.ends d ((e.setPgrp g { e.pgrp g with psenOff := 2, clkLost := false }).chansOff g))
  ∧ (∀ (s : State) (dt : Nat) (g : Fin 4) (d e : Dev), d = s.came dt → s.awake dt →
      e = (d.setPgrp g { d.pgrp g with flt := true }).put PSM_PG_STAT.PSFLT 1 g → e.gState g ≠ 0 →
      exec (.psfltAssert dt ⟨g, true⟩) s = s.ends d ((e.groupDown g 6).raise (FS.PSM_PSFLT + g)))
  ∧ (∀ (s : State) (dt : Nat) (g : Fin 4) (d : Dev), d = s.came dt → s.awake dt →
      exec (.psfltAssert dt ⟨g, false⟩) s = s.ends d (d.setPgrp g { d.pgrp g with flt := false }))
  ∧ (∀ (s : State) (dt : Nat) (n : Fin 32) (uv : Int) (d : Dev), d = s.came dt → s.awake dt → d.gState (n / 8) = 3 → (d.pch n).under = true →
      d.grpStandby (n / 8) = false → 10 * (d.pgrp (n / 8)).vtest * d.get PSM_PG_SENSE.GI (n / 8) < uv.natAbs →
      exec (.loadtestAbort dt ⟨n, uv⟩) s = s.ends d
        ((((d.setPch n { d.pch n with under := false, tA := 0, tB := 0 }).put PSM_CH_STAT.DIAG 5 n).put PSM_CH_RES.R 0xFFFFFFFF n).setCState n 4))

/-- Playing channels. A carrier period drives the legs of its group and takes the group's reading; all channels idle for DEEP ms put a RUN
group to deep sleep; a trip of the comparator above ILIM and not blanked ends the period of a playing channel, is counted, and raises
PSM.ILIM at most once per block, here one of fewer than four within 1 ms; a 1 in LATCH takes a LATCHED channel to OFF with its legs low. -/
def Obligations.ChannelCommandsComplete : Prop :=
  (∀ (s : State) (dt uv r : Nat) (g : Fin 4) (d a b u c e f : Dev) (lim : Bool) (x y : PsmGrp), d = s.came dt → s.awake dt →
    a = (d.pairCarrier g).dipOwn g → a.is PSM_PG_CFG.EN g = true → r = max 1 (a.fcR g) →
    b = (a.groupReading g (a.vbsReading g uv)).periodBegin g r → x = b.pgrp g →
    u = b.eachCh g (fun n d =>
      (let v := d.setPch n { d.pch n with sleepNow := false, blk := (d.pch n).carried x.j }
       if (v.pch n).entering && v.cState n == 1 && v.gState (n / 8) == 4 then
         (v.setPch n { v.pch n with entering := false, e := [], fadeOn := true, fadeP := 0 }).setCState n 2
       else v).slpStep n) →
    c = (u.dipTick g).dipReport g → c.gState g = 4 →
    (lim, e) = forN 8 (fun k (acc : Bool × Dev) =>
      ((acc.1 || (acc.2.chanPeriod (8 * g + k) r x.j (carP (c.get PSM_PG_CFG.CAR g)) (minTaps (c.get PSM_PG_CFG.MINPW g))
          (c.get PSM_PG_CFG.VFS g) x.vg (c.dip g).values.1 65536 (c.dip g).values.2).1),
        (acc.2.chanPeriod (8 * g + k) r x.j (carP (c.get PSM_PG_CFG.CAR g)) (minTaps (c.get PSM_PG_CFG.MINPW g))
          (c.get PSM_PG_CFG.VFS g) x.vg (c.dip g).values.1 65536 (c.dip g).values.2).2)) (false, c) →
    lim = false → e.gState g = 4 → y = e.pgrp g → f = e.setPgrp g { y with j := (y.j + 1) % r } → f.grpDriven g = true →
    exec (.carrierPeriod dt g uv) s = s.ends d ((f.emit (.pwm g (f.psmTrim g)
      ((List.range 8).map (fun k => ((f.pch (8 * g + k)).tA, (f.pch (8 * g + k)).tB))))).pairSendVbus g))
  ∧ (∀ (s : State) (dt : Nat) (g : Fin 4) (d : Dev), d = s.came dt → s.awake dt → d.gState g = 4 → d.get PSM_PG_TIME.DEEP g ≠ 0 →
      d.is PSM_PG_STAT.DEEP g = false → (∀ k, k < 8 → d.cState (8 * g + k) ∈ [0, 3, 4, 5]) →
      d.isDue .deep (d.get PSM_PG_TIME.DEEP g * 1000000) g = true →
      exec (.deepSleep dt g) s = s.ends d ((d.setPsen g false).put PSM_PG_STAT.DEEP 1 g).psmWake)
  ∧ (∀ (s : State) (dt va vb : Nat) (n : Fin 32) (isns : Int) (d : Dev) (recent : List Nat), d = s.came dt → s.awake dt → d.cState n = 2 →
      d.tripsAt n isns = true → recent = (d.pch n).trips.filter (fun t => decide (d.tclk ≤ t + 250000)) → recent.length < 3 →
      exec (.ilimTrip dt n isns va vb) s = s.ends d (((d.inc PSM_CH_STAT.TRIPS n).setPch n
        { d.pch n with tripped := true, tA := 0, tB := 0, trips := (d.tclk :: recent).take 4 }).raiseOnce FS.PSM_ILIM))
  ∧ (∀ (s : State) (p : Port) (n : Fin 32) (w : Word) (c : Dev), c = s.counted p (PSM_CH_STAT.addr n 0) → s.served p → c.solo →
      fget w 31 31 = 1 → (c.put PSM_CH_STAT.LATCH 0 n).cState n = 5 →
      exec (.latchClear p n w) s = s.ends s.dev (((c.put PSM_CH_STAT.LATCH 0 n).setCState n 0).zeroState n))

/-- The boot. RESET_N or POR released chooses the source by BOOTSEL; a valid directory names the first slot to read; the image's bytes
are collected and, once all its checks pass, its signature awaited; a good signature and good contents lead to the application, and
the applied image runs in slot 0. A flash read error and a silent host end the attempt with reasons 0x0E and 0x0F. Loading over a
host interface: a word of the chunk buffer is stored while READY is 1 and else discarded with ERROR; a write of a length hands the
chunk over, and READY falls; once it is taken READY rises and vector 5 is raised, and the time of a silent host runs anew. -/
def Obligations.BootAndLoadCommandsComplete : Prop :=
  (∀ (s : State) (dt : Nat) (sel : Fin 4) (d e a : Dev), d = s.came dt → d.pwr.por = false → d.boot.step = 0 → d.imageApplied = false →
    e = { d with resetN := true } →
    a = ((e.wr SYS_BOOT_STATUS 0).put MGMT_STAT.HOSTIF (sel % 2)).setBoot { sel := sel % 4 } →
    exec (.bootStart dt sel) s = s.settles (if 2 ≤ sel.val then a.awaitHost else ((a.setBoot { a.boot with step := 1 }).setPhase 1).readDirectory))
  ∧ (∀ (s : State) (dt : Nat) (x y : List Byte) (d a b : Dev) (f : FlashDir), d = s.came dt → s.awake dt → d.boot.step = 1 →
      d.boot.staging = false → pickDir x y = some f → (f.slot f.boot).2 ≠ 0 → (f.slot f.boot).1 % 4096 = 0 →
      (f.slot f.boot).1 + (f.slot f.boot).2 ≤ 2 ^ 24 →
      a = d.setBoot { d.boot with dir := f, order := [1 - f.boot], fslot := f.boot, img := [] } →
      b = (a.put SYS_BOOT_STATUS.ATTEMPTS (min 3 (a.get SYS_BOOT_STATUS.ATTEMPTS + 1))).setPhase 2 →
      exec (.flashDirectoryRead dt x y) s = s.ends d ((b.setBoot { b.boot with step := 2 }).readSlot (f.slot f.boot).1))
  ∧ (∀ (s : State) (dt : Nat) (bs : List Byte) (d e f : Dev), d = s.came dt → s.awake dt → d.boot.step = 2 → d.boot.host = false →
      d.boot.staging = false → e = d.setBoot { d.boot with img := d.boot.img ++ bs } →
      checkArrived e.boot.img false (e.boot.dir.slot e.boot.fslot).2 = 0 → 0x40 + 16 * imgSecs e.boot.img ≤ e.boot.img.length →
      f = (if imgComplete e.boot.img = true then (e.setPhase 3).setPhase 4 else e.setPhase 3) →
      exec (.imageDataArrive dt bs) s = s.ends d (if imgComplete e.boot.img = true then
        f.setBoot { f.boot with step := 3, img := e.boot.img.take (imgLen e.boot.img) } else f))
  ∧ (∀ (s : State) (dt : Nat) (d f : Dev), d = s.came dt → s.awake dt → d.boot.step = 3 → d.boot.staging = false →
      checkAuth d.boot.img d.fuse = 0 → checkContents d.boot.img = 0 →
      f = (d.put SYS_BOOT_STATUS.AUTH_OK (b2n (imgSigOk d.boot.img))).setPhase 5 →
      exec (.signatureVerified dt) s = s.ends d (f.setBoot { f.boot with step := 4 }))
  ∧ (∀ (s : State) (dt : Nat) (d a b c e f : Dev) (im : List Byte) (rs : List Region), d = s.came dt → s.awake dt → d.boot.step = 4 →
      d.boot.staging = false → im = d.boot.img → rs = placeRegions [] (imgContent im 5).regions [] →
      a = ((d.loadCode im (bankOf im 0)).initRegions rs).applyImage im (bankOf im 0) rs →
      b = (((a.put SYS_SLOT_STATUS.REASON 0 0).put SYS_SLOT_STATUS.CODE_BANK (bankOf im 0) 0).setSlotState 0 3).setSlotImg 0 im →
      c = ((b.put SYS_BOOT_STATUS.SLOT 0).put SYS_BOOT_STATUS.FALLBACK (b2n b.boot.fell)) →
      e = c.put SYS_BOOT_STATUS.FSLOT (if c.boot.host = true then 0 else c.boot.fslot) →
      f = (e.setBoot { e.boot with step := 0, img := [], host := false }).put SYS_BLK_STATUS.STATE 1 →
      exec (.sectionsApplied dt) s = s.ends d (({ f with flt := { f.flt with cReset := false } } : Dev).pairStart.setPhase 6))
  ∧ (∀ (s : State) (dt : Nat) (d : Dev), d = s.came dt → s.awake dt → d.boot.step = 2 → d.boot.host = false →
      exec (.flashReadError dt) s = s.ends d (d.failAttempt 0xE))
  ∧ (∀ (s : State) (dt : Nat) (d : Dev), d = s.came dt → s.awake dt → d.boot.step = 2 → d.boot.host = true → d.boot.chunk = none →
      d.ranFor .hostLoad 1000000001 = true → exec (.hostLoadTimeout dt) s = s.ends d (d.failAttempt 0xF))
  ∧ (∀ (s : State) (p : Port) (i : Fin 8192) (w : Word) (c : Dev), c = s.counted p (SYS_CHUNK.addr i 0) → s.served p →
    exec (.chunkWrite p i w) s = s.ends s.dev (if c.is SYS_LOAD_STATUS.READY = true then c.wr SYS_CHUNK w i
      else (c.setBoot { c.boot with gap := true }).put SYS_LOAD_STATUS.ERROR 1))
  ∧ (∀ (s : State) (p : Port) (w : Word) (c e : Dev) (last : Bool), c = s.counted p (SYS_LOAD_CTRL.addr 0 0) → s.served p →
      fget w 15 0 ≠ 0 → c.is SYS_LOAD_STATUS.READY = true → c.boot.host = true → c.boot.staging = false → c.boot.step = 5 →
      last = (fget w 31 31 == 1) →
      e = (c.setBoot { c.boot with step := 2, chunk := some (min (fget w 15 0) 0x8000, last, c.boot.gap), arrived := false, gap := false }).put
        SYS_LOAD_STATUS.READY 0 →
      exec (.loadChunk p w) s =
        s.ends s.dev ((e.put SYS_BOOT_STATUS.ATTEMPTS (min 3 (e.get SYS_BOOT_STATUS.ATTEMPTS + 1))).setPhase 2))
  ∧ (∀ (s : State) (p : Port) (w : Word) (c : Dev), c = s.counted p (SYS_LOAD_CTRL.addr 0 0) → s.served p → fget w 15 0 ≠ 0 →
      fget w 31 31 = 1 → c.is SYS_LOAD_STATUS.READY = true → c.boot.host = true → c.boot.step = 2 →
      exec (.loadLastChunk p w) s = s.ends s.dev
        ((c.setBoot { c.boot with step := 2, chunk := some (min (fget w 15 0) 0x8000, true, c.boot.gap), arrived := false, gap := false }).put
          SYS_LOAD_STATUS.READY 0))
  ∧ (∀ (s : State) (dt n : Nat) (last lacks : Bool) (d : Dev), d = s.came dt → s.awake dt → d.is SYS_LOAD_STATUS.READY = false →
      d.boot.step = 2 → d.boot.host = true → d.boot.chunk = some (n, last, lacks) → d.boot.arrived = true →
      (last = true → imgComplete d.boot.img = true) →
      exec (.chunkTaken dt) s = s.ends d
        ((((d.setBoot { d.boot with chunk := none, arrived := false }).startTimer .hostLoad).put SYS_LOAD_STATUS.READY 1).raiseVec 5))

/-- Staging and the swap. START stages into the slot that does not run, ABORT empties it; a staged image is placed beside the running one
and HITLESS_OK judged. ARM takes a later block, and is refused with RESULT 3 where nothing is staged, 4 where the block is not later; DISARM
ends an armed swap with RESULT 7; the silent end of a restart, RAMP + 2 × Tb after its begin, applies the new image and leaves the cycle
waiting for its loop. The model's choices: that ARM with nothing staged gives RESULT 3 also where BLOCK is late, and what START does while a
planned restart goes on, are log entry 117; where the staged image's regions are placed beside the running one's is log entry 67. -/
def Obligations.SwapCommandsComplete : Prop :=
  (∀ (s : State) (p : Port) (w : Word) (c e a b : Dev) (k : Nat) (host : Bool), c = s.counted p (SYS_STAGE_CTRL.addr 0 0) → s.served p →
    fget w 0 0 = 1 → fget w 1 1 = 0 → e = c.store SYS_STAGE_CTRL w → e.imageApplied = true → k = e.otherSlot → e.slotState k ≠ 1 →
    a = (e.discardStaged k).setSlotState k 1 → host = a.is SYS_STAGE_CTRL.SRC →
    b = a.setBoot { a.boot with
      staging := true, host := host, slot := k, img := [], chunk := none, arrived := false, gap := false,
      order := [a.get SYS_STAGE_CTRL.FLASH_SLOT], step := if host then 5 else 1 } →
    exec (.stageStart p w) s = s.ends s.dev (if host = true then b else b.readDirectory))
  ∧ (∀ (s : State) (p : Port) (w : Word) (c e a : Dev), c = s.counted p (SYS_STAGE_CTRL.addr 0 0) → s.served p → fget w 0 0 = 0 →
      fget w 1 1 = 1 → e = c.store SYS_STAGE_CTRL w → e.slotState e.otherSlot = 1 → a = e.discardStaged e.otherSlot →
      exec (.stageAbort p w) s = s.ends s.dev (a.setBoot { a.boot with staging := false, step := 0, img := [] }))
  ∧ (∀ (s : State) (dt : Nat) (d a b : Dev) (im : List Byte) (k rb : Nat) (new rs : List Region), d = s.came dt → s.awake dt →
      d.boot.step = 4 → d.boot.staging = true → im = d.boot.img → k = d.boot.slot → rb = d.get SYS_SLOT_STATUS.CODE_BANK d.runSlot →
      new = (imgContent im 5).regions → placeRegions d.thk.regions new [] = rs → rb ≠ 2 → bankOf im 0 ≠ 2 →
      (d.thk.regions ++ new.filter (fun r => !carried d.thk.regions r)).foldl (fun n r => n + r.size) 0 ≤ 2 ^ 24 →
      a = (d.loadCode im (1 - rb)).initRegions (rs.filter (fun r => !carried d.thk.regions r)) →
      b = (((a.put SYS_SLOT_STATUS.REASON 0 k).put SYS_SLOT_STATUS.CODE_BANK (1 - rb) k).setSlotState k 2).setSlotImg k im →
      exec (.stagingComplete dt) s = s.ends d
        ((b.setBoot { b.boot with staging := false, step := 0, img := [], regions := rs }).put SYS_SWAP_STATUS.HITLESS_OK
          (b2n (hitlessOk ((b.setBoot { b.boot with staging := false, step := 0, img := [], regions := rs }).slotImg
            (b.setBoot { b.boot with staging := false, step := 0, img := [], regions := rs }).runSlot) im))))
  ∧ (∀ (s : State) (p : Port) (w : Word) (c e : Dev), c = s.counted p (SYS_SWAP_CTRL.addr 0 0) → s.served p → c.solo → fget w 0 0 = 1 →
      fget w 1 1 = 0 → e = c.store SYS_SWAP_CTRL (fset w 0 0 0) → e.is SYS_SWAP_CTRL.ARM = false →
      exec (.swapArm p w) s = s.ends s.dev
        (if e.slotState e.otherSlot ≠ 2 then e.swapResult 3
         else if later32 (e.get SYS_SWAP_TARGET.BLOCK) (e.blk + 1) = false then e.swapResult 4
         else e.put SYS_SWAP_CTRL.ARM 1))
  ∧ (∀ (s : State) (p : Port) (w : Word) (c e : Dev), c = s.counted p (SYS_SWAP_CTRL.addr 0 0) → s.served p → c.solo → fget w 0 0 = 0 →
      fget w 1 1 = 1 → e = c.store SYS_SWAP_CTRL (fset w 0 0 0) → e.is SYS_SWAP_CTRL.ARM = true →
      exec (.swapDisarm p w) s = s.ends s.dev (e.swapResult 7))
  ∧ (∀ (s : State) (dt k : Nat) (d a b c e f x : Dev) (im old : List Byte), d = s.came dt → s.awake dt → d.boot.restart = true →
      d.ranFor .fadeDown d.fadedNs = true → k = d.otherSlot → im = d.slotImg k → old = d.slotImg d.runSlot →
      a = ((forN 4 (fun g d => if d.gState g = 0 ∨ d.gState g = 6 then d else d.groupDown g 0) d).cycleStop.dropImageFields).dropSections old im false →
      b = a.initRegions (d.boot.regions.filter (fun r => !carried d.thk.regions r)) →
      x = b.applyImage im (b.get SYS_SLOT_STATUS.CODE_BANK k) d.boot.regions →
      c = ((x.pcommitKeep (d.boot.regions.filter (carried d.thk.regions))).rcuRestart d (imgView old)).alnRestart d →
      e = (forN 8 (fun l x =>
        if x.is HLK_CFG.EN l = false then x.linkToDisabled l
        else if x.get HLK_CFG.RATE l ≠ d.get HLK_CFG.RATE l ∧ x.lState l ≠ 0 then (x.linkToDisabled l).setLState l 1
        else x) c).exchange d.thk.regions →
      f = e.setBoot { e.boot with restart := false } →
      exec (.restartSilent dt) s = s.ends d
        (((if imgSection im 1 = imgSection old 1 ∧ d.is MGMT_STAT.FWFAIL = false then f else f.addDue .mgmt).put SYS_BLK_STATUS.STATE 1).pairStart))

/-- The test port. The key 0x5E7A followed by 0xA1C3 within 1 ms enters factory test mode where TESTEN allows it, and any
write without TESTEN sets KEYERR; that a first key sets no KEYERR is log entry 78, and that the two keys in factory test mode enter it again
entry 56 (the model's choices). With POR released a TAP instruction is scanned in, 0x01 leaving at TDO, and selects its data register; those
that drive the balls are in effect in factory test mode or without an image, with the preload until a scan of the boundary register has put
`shifted` in its place, and are otherwise BYPASS with JREF; the codes from 0x07 on are BYPASS; while POR is held nothing is scanned in. A forced
node of a test bus is ignored with FREF outside factory test mode. -/
def Obligations.TestCommandsComplete : Prop :=
  (∀ (s : State) (p : Port) (w : Word) (c : Dev), c = s.counted p (TEST_FTM.addr 0 0) → s.served p → c.is TEST_STAT.TESTEN = true →
    fget w 15 0 = 0x5E7A → c.test.key = none →
    exec (.ftmKey p w) s = s.ends s.dev { c with test := { c.test with key := some c.tclk } })
  ∧ (∀ (s : State) (p : Port) (w : Word) (t : Nat) (c : Dev), c = s.counted p (TEST_FTM.addr 0 0) → s.served p →
      c.is TEST_STAT.TESTEN = true → fget w 15 0 = 0xA1C3 → c.test.key = some t → c.tclk ≤ t + 250000 →
      exec (.ftmKey p w) s = s.ends s.dev (let e := c.ftmEnter; { e with test := { e.test with key := none } }))
  ∧ (∀ (s : State) (p : Port) (w : Word) (c e : Dev), c = s.counted p (TEST_FTM.addr 0 0) → s.served p → c.is TEST_STAT.TESTEN = false →
      e = c.put TEST_STAT.KEYERR 1 → exec (.ftmKey p w) s = s.ends s.dev { e with test := { e.test with key := none } })
  ∧ (∀ (s : State) (dt : Nat) (d : Dev), d = s.came dt →
      exec (.tapReset dt) s = s.settles { d with test := { d.test with ir := 1, dr := 1, dreg := 0x110242AF, drive := false } })
  ∧ (∀ (s : State) (dt : Nat) (d : Dev), d = s.came dt → d.pwr.por = false →
      exec (.idcode dt) s = s.settles { d.emit (.tdo 8 1) with test := { d.test with ir := 1, dr := 1, dreg := 0x110242AF, drive := false } })
  ∧ (∀ (s : State) (dt : Nat) (code : Fin 256) (d : Dev), d = s.came dt → d.pwr.por = false → 7 ≤ code.val →
      exec (.bypass dt code) s = s.settles { d.emit (.tdo 8 1) with test := { d.test with ir := code, dr := 0, dreg := 0, drive := false } })
  ∧ (∀ (s : State) (dt pins shifted : Nat) (d e : Dev), d = s.came dt → d.pwr.por = false →
      e = { d.emit (.tdo 8 1) with
        test := { d.test with ir := 2, dr := 2, dreg := pins % 2 ^ 612, latch := shifted % 2 ^ 612, drive := false } } →
      exec (.samplePreload dt pins shifted) s = s.settles (e.emit (.tdo 612 (pins % 2 ^ 612))))
  ∧ (∀ (s : State) (dt pins shifted code : Nat) (d e : Dev), d = s.came dt → d.pwr.por = false → (d.ftm = true ∨ d.noImage = true) →
      ∀ i ∈ [(0, Instr.extest dt pins (some shifted)), (3, .extestPulse dt pins (some shifted)), (4, .extestTrain dt pins (some shifted))],
      i.1 = code →
      e = { d.emit (.tdo 8 1) with
        test := { d.test with ir := code, dr := 2, dreg := pins % 2 ^ 612, latch := shifted % 2 ^ 612, drive := true } } →
      exec i.2 s = s.settles (e.emit (.tdo 612 (pins % 2 ^ 612))))
  ∧ (∀ (s : State) (dt pins code : Nat) (d : Dev), d = s.came dt → d.pwr.por = false → (d.ftm = true ∨ d.noImage = true) →
      ∀ i ∈ [(0, Instr.extest dt pins none), (3, .extestPulse dt pins none), (4, .extestTrain dt pins none)], i.1 = code →
      exec i.2 s = s.settles { d.emit (.tdo 8 1) with test := { d.test with ir := code, dr := 2, dreg := pins % 2 ^ 612, drive := true } })
  ∧ (∀ (s : State) (dt code : Nat) (d : Dev), d = s.came dt → d.pwr.por = false → (d.ftm = true ∨ d.noImage = true) →
      ∀ i ∈ [(5, Instr.highz dt), (6, .clamp dt)], i.1 = code →
      exec i.2 s = s.settles { d.emit (.tdo 8 1) with test := { d.test with ir := code, dr := 0, dreg := 0, drive := true } })
  ∧ (∀ (s : State) (dt pins code : Nat) (shifted : Option Nat) (d e : Dev), d = s.came dt → d.pwr.por = false → d.ftm = false →
      d.noImage = false →
      ∀ i ∈ [(0, Instr.extest dt pins shifted), (3, .extestPulse dt pins shifted), (4, .extestTrain dt pins shifted), (5, .highz dt),
        (6, .clamp dt)], i.1 = code →
      e = { d.emit (.tdo 8 1) with test := { d.test with ir := code, dr := 0, dreg := 0, drive := false } } →
      exec i.2 s = s.settles (e.put TEST_STAT.JREF 1))
  ∧ (∀ (s : State) (dt pins n : Nat) (shifted : Option Nat) (code : Fin 256) (d : Dev), d = s.came dt → d.pwr.por = true →
      ∀ i ∈ [Instr.extest dt pins shifted, .idcode dt, .samplePreload dt pins n, .extestPulse dt pins shifted, .extestTrain dt pins shifted,
        .highz dt, .clamp dt, .bypass dt code],
      exec i s = s.settles d)
  ∧ (∀ (s : State) (p : Port) (x : Fin 2) (w : Word) (c : Dev), c = s.counted p (TEST_ATB_CFG.addr x 0) → s.served p → fget w 30 30 = 0 →
      exec (.atbSelect p x w) s = s.ends s.dev (c.store TEST_ATB_CFG w x))
  ∧ (∀ (s : State) (p : Port) (x : Fin 2) (w : Word) (c : Dev), c = s.counted p (TEST_ATB_CFG.addr x 0) → s.served p → fget w 30 30 = 1 →
      exec (.atbForce p x w) s = s.ends s.dev
        (if c.ftm = true then c.store TEST_ATB_CFG w x
         else ((c.store TEST_ATB_CFG w x).put TEST_ATB_CFG.FORCE (c.get TEST_ATB_CFG.FORCE x) x).put TEST_STAT.FREF 1))

/-- The register window. A write to a register without mirrored fields does what that register does, where it is the count or the WRAP bit
of a counter also with its own count; a reset command of a block that has one becomes due, and one of SYS, PWR, FLT, TEST sets REFUSED; its
end after 1 µs clears BUSY and leaves the shadow open; a read answers the word of a register without image fields; words over SPI go to
successive addresses; an access outside the window is SYS.BUS_ERR and reads 0. -/
def Obligations.WindowCommandsComplete : Prop :=
  (∀ (s : State) (p : Port) (b i j : Nat) (r : Reg) (w : Word) (c : Dev), r ∈ regsOfBlock b → i < r.n1 → j < r.n2 → mirrorMask r = 0 →
    c = s.counted p (r.addr i j) → s.served p →
    exec (.regWrite p (r.addr i j) w) s = s.ends s.dev (if r = PERF_CNT_LO ∨ r = PERF_CNT_AUX
      then c.regAccess s.dev (portNum p) (r.addr i j) r i j w else c.regWrite (portNum p) r i j w none))
  ∧ (∀ (s : State) (p : Port) (b i j : Nat) (r : Reg) (err : Fin 3) (c e : Dev) (v : Word), r ∈ regsOfBlock b → i < r.n1 → j < r.n2 →
      r.hasImage = false → r ≠ MGMT_HPORT_DATA → r ≠ PERF_CNT_LO → c = s.counted p (r.addr i j) → s.served p → (v, e) = c.regRead (portNum p) r i j →
      exec (.regRead p (r.addr i j) err) s = s.ends s.dev (e.emit (.rdata (portNum p) (r.addr i j) v)))
  ∧ (∀ (s : State) (p : Port) (a : Nat) (w : Word) (c : Dev), (a % 4 ≠ 0 ∨ (0x130000 ≤ a ∧ a < 0x800000) ∨ 0x1000000 ≤ a) →
      c = s.counted p a → s.served p →
      exec (.undecodedAccess p a false (some w)) s = s.ends s.dev (c.raiseAt FS.SYS_BUS_ERR { addr := a, master := portNum p, ty := 2 }))
  ∧ (∀ (s : State) (p : Port) (a : Nat) (c : Dev), (a % 4 ≠ 0 ∨ (0x130000 ≤ a ∧ a < 0x800000) ∨ 0x1000000 ≤ a) →
      c = s.counted p a → s.served p → exec (.undecodedAccess p a false none) s = s.ends s.dev
        ((c.raiseAt FS.SYS_BUS_ERR { addr := a, master := portNum p, ty := 1 }).emit (.rdata (portNum p) a 0)))
  ∧ (∀ (s : State) (p : Port) (a : Nat) (wr : Option Word) (c : Dev), c = s.counted p a → s.served p →
      exec (.undecodedAccess p a true wr) s = s.ends s.dev (match wr with
        | some _ => c.raiseAt FS.SYS_BUS_ERR { addr := a, master := portNum p, ty := 2 }
        | none => (c.raiseAt FS.SYS_BUS_ERR { addr := a, master := portNum p, ty := 1 }).emit (.rdata (portNum p) a 0)))
  ∧ (∀ (s : State) (a : Fin 0x1000000) (w x : Word), s.dev.heldReset = false → a.val % 4 = 0 → a.val + 4 < 2 ^ 24 →
      exec (.spiWrite a [w, x]) s = s.ends s.dev ((s.dev.busWrite 66 a w).busWrite 66 (a + 4) x))
  ∧ (∀ (s : State) (a : Fin 0x1000000), s.dev.heldReset = false → a.val % 4 = 0 → a.val + 4 < 2 ^ 24 →
      exec (.spiRead a 2) s = s.ends s.dev ((s.dev.busLoad 66 a).busLoad 66 (a + 4)))
  ∧ (∀ (s : State) (p : Port) (w : Word) (b : Nat) (c e : Dev), c = s.counted p (SYS_BLKRST.addr 0 0) → s.served p → b = fget w 4 0 →
      e = c.store SYS_BLKRST w →
      exec (.blockResetCmd p w) s = s.ends s.dev (if b < 18 ∧ b ∉ [0, 1, 15] then e.addDue (.block b 0xFE) else e.put SYS_BLKRST.REFUSED 1))
  ∧ (∀ (s : State) (dt : Nat) (b : Fin 19) (d e : Dev) (x : Shadow), d = s.came dt → s.awake dt → x = tabGet {} d.flt.shadows b.val →
      x.inReset = true → d.isDue .blockReset 1000 b = true →
      e = ({ d with flt := { d.flt with shadows := tabPut {} d.flt.shadows b { x with inReset := false } } }).startTimer .shadow b →
      exec (.blockResetEnd dt b) s = s.ends d
        (e.put SYS_BLKRST.BUSY (b2n (e.flt.shadows.any (fun kv => kv.2.inReset && kv.2.cause == 0xFE)))))

/-- Scalar and control instructions of a Sprig that has fetched their word. Arithmetic writes s[d]; addi and lui take their immediate; a branch
that is not taken goes on, one that is taken, and a jump, go to their target inside the CODE section and deactivate the counters whose body
does not hold it; loop activates its counter, or skips its body where the count is 0; and at the end of a body the loop iterates. -/
def Obligations.SprigScalarCommandsComplete : Prop :=
  ∀ (s : State) (m : Fin 64) (d t : Dev) (x : SprigSt) (pc : Nat), d = s.dev → d.heldReset = false → t = d.fetched m → x = t.sprig m →
    pc = (d.sprig m).pc →
  (∀ (f : RForm), f.legal .s .s .s false false 0 = true →
    ∀ i ∈ [(0x01, Instr.add m f, fun (a b : Word) => a + b), (0x02, .sub m f, fun a b => a - b), (0x03, .and m f, fun a b => a &&& b),
      (0x04, .or m f, fun a b => a ||| b), (0x05, .xor m f, fun a b => a ^^^ b), (0x06, .sll m f, fun a b => a <<< (b.toNat % 32)),
      (0x07, .srl m f, fun a b => a >>> (b.toNat % 32)), (0x08, .sra m f, fun a b => a.sshiftRight (b.toNat % 32)),
      (0x09, .mul m f, fun a b => a * b)],
    d.fetches m (f.word i.1) →
    exec i.2.1 s = s.settles (t.goesNext m pc (x.setS f.d.toNat (i.2.2 (x.sr f.a.toNat) (x.sr f.b.toNat)))))
  ∧ (∀ (f : IForm), d.fetches m (f.word 0x0A) →
      exec (.addi m f) s = s.settles (t.goesNext m pc (x.setS f.d.toNat (x.sr f.a.toNat + f.imm.signExtend 32))))
  ∧ (∀ (f : IForm), d.fetches m (f.word 0x0B) → f.a = 0 →
      exec (.lui m f) s = s.settles (t.goesNext m pc (x.setS f.d.toNat (f.imm.zeroExtend 32 <<< 16))))
  ∧ (∀ (f : BForm) (r : Dev) (npc : Nat),
      ∀ i ∈ [(0x10, Instr.beq m f, x.sr f.a.toNat == x.sr f.b.toNat), (0x11, .bne m f, x.sr f.a.toNat != x.sr f.b.toNat),
        (0x12, .blt m f, (x.sr f.a.toNat).slt (x.sr f.b.toNat)), (0x13, .bge m f, !(x.sr f.a.toNat).slt (x.sr f.b.toNat))],
      d.fetches m (f.word i.1) → x.lastOfBody = false →
      (i.2.2 = false → exec i.2.1 s = s.settles (t.goesNext m pc x))
      ∧ (i.2.2 = true → t.spTaken m x (relTarget x.pc f.off.toInt) = .ok r npc none false false →
          exec i.2.1 s = s.settles (r.goesOn t m pc npc none false false)))
  ∧ (∀ (f : JForm) (r : Dev) (npc : Nat), d.fetches m (f.word 0x14) → x.lastOfBody = false →
      t.spTaken m (x.setS f.d.toNat (BitVec.ofNat 32 (x.pc + 4))) (relTarget x.pc f.off.toInt) = .ok r npc none false false →
      exec (.jal m f) s = s.settles (r.goesOn t m pc npc none false false))
  ∧ (∀ (f : RForm) (r : Dev) (npc : Nat), d.fetches m (f.word 0x15) → f.legal .none .s .none false false 0 = true → x.lastOfBody = false →
      (x.sr f.a.toNat).toNat % 4 = 0 → t.spTaken m x (x.sr f.a.toNat).toNat = .ok r npc none false false →
      exec (.jr m f) s = s.settles (r.goesOn t m pc npc none false false))
  ∧ (∀ (f : LForm) (n last : Nat), d.fetches m (f.word 0x16) → x.lastOfBody = false → f.len ≠ 0 → x.order.contains f.lc.toNat = false →
      n = (if f.imm = 1 then f.cnt.toNat else (x.sr (f.cnt.toNat % 32)).toNat) → last = x.pc + 4 * f.len.toNat →
      exec (.loop m f) s = s.settles (if n = 0 then t.goesOn t m pc (last + 4) none false false
        else t.goesNext m pc { x with lc := tabIns x.lc f.lc.toNat ⟨x.pc + 4, last, n⟩, order := x.order ++ [f.lc.toNat] }))
  ∧ ((d.sprig m).busy = true → (d.sprig m).iter = true → d.thk.inst ≠ none →
      exec (.loopIterate m) s = s.settles (d.setSprig m (loopBack (pc - 4) (d.sprig m).order.reverse (d.sprig m))))

/-- System instructions. rdpace and the CSRs of a system job give their value where the job may see it; csrw sets SST; fence completes the
stores; end lets the job wait for them. brk and an unassigned opcode take their exceptions, codes 9 and 1: the record is written, THK.SPRIG_EXC
raised, and the job fails. -/
def Obligations.SprigSystemCommandsComplete : Prop :=
  ∀ (s : State) (m : Fin 64) (d t : Dev) (x : SprigSt) (pc : Nat), d = s.dev → d.heldReset = false → t = d.fetched m → x = t.sprig m →
    pc = (d.sprig m).pc →
  (∀ (f : RForm), d.fetches m (f.word 0x38) → f.legal .s .none .none false false 0 = true → (t.job x.job).ndet = true →
    exec (.rdpace m f) s = s.settles (t.goesNext m pc (x.setS f.d.toNat (BitVec.ofNat 32 t.pace))))
  ∧ (∀ (f : CForm), d.fetches m (f.word 0x39) → f.zero = 0 → f.a = 0 → csrKnown f.csr.toNat = true →
      (0x100 ≤ f.csr.toNat → (t.job x.job).sys = true ∧ (t.job x.job).ndet = true) →
      exec (.csrr m f) s = s.settles (t.goesNext m pc (x.setS f.d.toNat (BitVec.ofNat 32 (t.csrVal m f.csr.toNat x)))))
  ∧ (∀ (f : CForm), d.fetches m (f.word 0x3A) → f.zero = 0 → f.d = 0 → f.csr = 0 →
      exec (.csrw m f) s = s.settles (t.goesNext m pc { x with sst := (x.sr f.a.toNat).toNat % 32 }))
  ∧ (∀ (f : RForm), d.fetches m (f.word 0x3B) → f.legal .none .none .none false false 0 = true →
      exec (.fence m f) s = s.settles (((t.spFlush m).setSprig m ((t.spFlush m).sprig m)).goesOn t m pc
        (((t.spFlush m).sprig m).pc + 4) none false false))
  ∧ (∀ (f : RForm), d.fetches m (f.word 0x3E) → f.legal .none .none .none false false 0 = true → x.lastOfBody = false →
      exec (.brk m f) s = s.settles (t.spExcept m 9 0 0 none))
  ∧ (∀ (f : RForm), d.fetches m (f.word 0x3F) → f.legal .none .none .none false false 0 = true → x.lastOfBody = false →
      exec (.endJob m f) s = s.settles (t.goesNext m pc { x with ended := true, lc := [], order := [] }))
  ∧ (∀ (w : Word), d.fetches m w → opAssigned (opcodeOf w).toNat = false →
      exec (.unassignedOpcode m w) s = s.settles (t.spExcept m 1 0 0 none))

/-- Memory instructions at aligned addresses that the job may access. A load takes its words, reports those read with a corrected error, and
goes on; a store enters its bytes into the store buffer, whose oldest entries complete first where the 16 have no room; a circular access
advances OFF by STEP modulo LEN, and setca, caoff and caoff.w set and read the circular-address registers. -/
def Obligations.SprigMemoryCommandsComplete : Prop :=
  ∀ (s : State) (m : Fin 64) (d t : Dev) (x : SprigSt) (pc : Nat), d = s.dev → d.heldReset = false → t = d.fetched m → x = t.sprig m →
    pc = (d.sprig m).pc →
  (∀ (f : IForm) (ws cor : List Nat) (w : Nat) (u : Dev) (y : SprigSt),
    u = cor.foldl (fun d k => d.corrected FS.THK_ECC_CORR { addr := k, master := m, ty := 1 }) t → y = u.sprig m →
    (d.fetches m (f.word 0x18) → t.spLoad m 4 [eaOf x f] = .ok (ws, cor, w) →
      exec (.ldw m f) s = s.settles ((u.setSprig m (y.setS f.d.toNat (BitVec.ofNat 32 (ws.headD 0)))).goesOn t m pc (y.pc + 4)
        (some (w, eaOf x f)) true false))
    ∧ (d.fetches m (f.word 0x1C) → f.d.toNat < 8 → t.spLoad m 16 [eaOf x f] = .ok (ws, cor, w) →
      exec (.vld m f) s = s.settles ((u.setSprig m (y.setV f.d.toNat (ofLanes 0 ws))).goesOn t m pc (y.pc + 4)
        (some (w, eaOf x f)) true false))
    ∧ (d.fetches m (f.word 0x20) → f.d.toNat < 8 → t.spLoad m 4 [eaOf x f] = .ok (ws, cor, w) →
      exec (.vlds m f) s = s.settles ((u.setSprig m (y.setV f.d.toNat (ofLanes 0 (List.replicate 4 (ws.headD 0))))).goesOn t m pc (y.pc + 4)
        (some (w, eaOf x f)) true false)))
  ∧ (∀ (f : IForm) (w k : Nat) (u : Dev) (y : SprigSt), u = t.spDrain m (x.buf.length + 1 - 16) → y = u.sprig m →
    (d.fetches m (f.word 0x19) → eaOf x f % 4 = 0 → t.spMap m (eaOf x f) 4 true = some (w, k) → u.spMap m (eaOf x f) 4 true = some (w, k) →
      exec (.stw m f) s = s.settles ((u.setSprig m { y with buf := y.buf ++ [(k, leBytes 4 (x.sr f.d.toNat).toNat)] }).goesOn t m pc (y.pc + 4)
        (some (w, eaOf x f)) false true))
    ∧ (d.fetches m (f.word 0x1D) → f.d.toNat < 8 → eaOf x f % 16 = 0 → t.spMap m (eaOf x f) 16 true = some (w, k) →
      u.spMap m (eaOf x f) 16 true = some (w, k) →
      exec (.vst m f) s = s.settles ((u.setSprig m { y with buf := y.buf ++ [(k, leBytes 16 (x.vr f.d.toNat).toNat)] }).goesOn t m pc (y.pc + 4)
        (some (w, eaOf x f)) false true)))
  ∧ (∀ (f : MForm) (c : CaSt) (ws cor : List Nat) (w : Nat) (u : Dev) (y : SprigSt),
      u = cor.foldl (fun d k => d.corrected FS.THK_ECC_CORR { addr := k, master := m, ty := 1 }) t → y = u.sprig m →
      d.fetches m (f.word 0x1E) → f.legal = true → c = x.car f.c.toNat → c.len ≠ 0 →
      t.spLoad m 4 (c.lanes (f.lanes.toNat + 1)) = .ok (ws, cor, w) →
      exec (.vldc m f) s = s.settles
        ((u.setSprig m ((y.setV f.d.toNat (ofLanes 0 ws)).setCa f.c.toNat (c.advance f.step.toInt))).goesOn t m pc
          (y.pc + 4) (some (w, (c.lanes (f.lanes.toNat + 1)).headD 0)) true false))
  ∧ (∀ (f : MForm) (c : CaSt) (n w k : Nat) (as : List Nat) (es : List (Nat × List Byte)) (u : Dev) (y : SprigSt),
      u = t.spDrain m (x.buf.length + es.length - 16) → y = u.sprig m → u.spMap m (as.headD 0) 4 true = some (w, k) →
      d.fetches m (f.word 0x1F) → f.legal = true → c = x.car f.c.toNat → c.len ≠ 0 → n = f.lanes.toNat + 1 → as = c.lanes n →
      (∀ a ∈ as, a % 4 = 0 ∧ t.spMap m a 4 true ≠ none) → t.spMap m (as.headD 0) 4 true = some (w, k) →
      es = (as.zip ((List.range n).map (fun i => leBytes 4 (laneOf 0 (x.vr f.d.toNat) i)))).map
        (fun e => (((t.spMap m e.1 4 true).getD (0, 0)).2, e.2)) →
      exec (.vstc m f) s = s.settles
        ((u.setSprig m (({ y with buf := y.buf ++ es } : SprigSt).setCa f.c.toNat (c.advance f.step.toInt))).goesOn t m pc
          (y.pc + 4) (some (w, as.headD 0)) false true))
  ∧ (∀ (f : RForm) (b l : Nat), d.fetches m (f.word 0x34) → f.legal .ca .s .s false false 0 = true → b = (x.sr f.a.toNat).toNat →
      l = (x.sr f.b.toNat).toNat → b % 4 = 0 → l % 4 = 0 → l ≤ 2 ^ 24 →
      exec (.setca m f) s = s.settles (t.goesNext m pc (x.setCa f.d.toNat ⟨b, l, 0⟩)))
  ∧ (∀ (f : RForm), d.fetches m (f.word 0x35) → f.legal .s .ca .none false false 0 = true →
      exec (.caoff m f) s = s.settles (t.goesNext m pc (x.setS f.d.toNat (BitVec.ofNat 32 (x.car f.a.toNat).off))))
  ∧ (∀ (f : RForm) (c : CaSt), d.fetches m (f.word 0x35) → f.aux = 1 → f.legal .ca .s .none false false 1 = true →
      c = x.car f.d.toNat → c.len ≠ 0 →
      exec (.caoffW m f) s = s.settles
        (t.goesNext m pc (x.setCa f.d.toNat { c with off := ((x.sr f.a.toNat).toInt % c.len).toNat })))

/-- Vector and accumulator instructions with legal fields. Lane-wise operations write v[d] in format FMT and add their flags to SST; vshf, vins
and vext move 32-bit lanes; multiply-accumulate adds to an accumulator of the same tag, accz tags and clears it, accrd reads it scaled,
and accred sums its lanes into lane 0. -/
def Obligations.SprigVectorCommandsComplete : Prop :=
  ∀ (s : State) (m : Fin 64) (d t : Dev) (x : SprigSt) (pc : Nat) (f : RForm) (fmt : Nat), d = s.dev → d.heldReset = false →
    t = d.fetched m → x = t.sprig m → pc = (d.sprig m).pc → fmt = f.fmt.toNat →
  (∀ (r : List Nat × Nat), ∀ i ∈ [(0x21, Instr.vadd m f, true, if f.neg = 1 then LaneOp.sub else .add), (0x22, .vmul m f, false, .mul),
      (0x25, .vmin m f, false, .min), (0x26, .vmax m f, false, .max), (0x28, .vdiv m f, false, .div)],
    d.fetches m (f.word i.1) → f.legal .v .v .v true i.2.2.1 0 = true → (i.1 = 0x28 → fmt ≠ 0) →
    r = lanes (laneCount fmt) (fun k => lane2 i.2.2.2 fmt (laneOf fmt (x.vr f.a.toNat) k) (laneOf fmt (x.vr f.b.toNat) k)) →
    exec i.2.1 s = s.settles (t.goesNext m pc ((x.setV f.d.toNat (ofLanes fmt r.1)).flags r.2)))
  ∧ (∀ (r : List Nat × Nat), d.fetches m (f.word 0x27) → f.legal .v .v .none true true 0 = true →
      r = lanes (laneCount fmt) (fun k => laneAbs (f.neg == 1) fmt (laneOf fmt (x.vr f.a.toNat) k)) →
      exec (.vabs m f) s = s.settles (t.goesNext m pc ((x.setV f.d.toNat (ofLanes fmt r.1)).flags r.2)))
  ∧ (∀ (u : Dev) (r : AccSt × Nat), (x.ac f.d.toNat).tag = fmt →
      u = t.perfEvent 0x04 (laneCount fmt) { s := (t.job x.job).sys, master := m } →
      (d.fetches m (f.word 0x23) → f.legal .acc .v .v true true 0 = true →
        r = macLanes (f.neg == 1) fmt (x.ac f.d.toNat) (laneOf fmt (x.vr f.a.toNat)) (laneOf fmt (x.vr f.b.toNat)) →
        exec (.vmac m f) s = s.settles ((u.setSprig m ((x.setAc f.d.toNat r.1).flags r.2)).goesOn t m pc (x.pc + 4) none false false))
      ∧ (d.fetches m (f.word 0x24) → f.legal .acc .v .s true true 0 = true → fmt ≠ 2 →
        r = macLanes (f.neg == 1) fmt (x.ac f.d.toNat) (laneOf fmt (x.vr f.a.toNat)) (fun _ => (x.sr f.b.toNat).toNat) →
        exec (.vmacs m f) s = s.settles ((u.setSprig m ((x.setAc f.d.toNat r.1).flags r.2)).goesOn t m pc (x.pc + 4) none false false)))
  ∧ (d.fetches m (f.word 0x2A) → f.legal .v .v .none true false 255 = true →
      exec (.vshf m f) s = s.settles (t.goesNext m pc (x.setV f.d.toNat (ofLanes 0
        [laneOf 0 (x.vr f.a.toNat) (f.aux.toNat % 4), laneOf 0 (x.vr f.a.toNat) (f.aux.toNat / 4 % 4),
         laneOf 0 (x.vr f.a.toNat) (f.aux.toNat / 16 % 4), laneOf 0 (x.vr f.a.toNat) (f.aux.toNat / 64 % 4)]))))
  ∧ (∀ (r : List Nat × Nat) (dst : Nat), d.fetches m (f.word 0x2B) → f.legal .v .v .none true false 3 = true → dst = f.aux.toNat % 4 → dst ≠ 3 →
      r = lanes (if fmt = 2 ∨ dst = 2 then 2 else 4) (fun k => laneCvt fmt dst (laneOf fmt (x.vr f.a.toNat) k)) →
      exec (.vcvt m f) s = s.settles (t.goesNext m pc ((x.setV f.d.toNat (ofLanes dst r.1)).flags r.2)))
  ∧ (d.fetches m (f.word 0x2C) → f.legal .v .s .none false false 3 = true →
      exec (.vins m f) s = s.settles (t.goesNext m pc (x.setV f.d.toNat (ofLanes 0
        (setNth ((List.range 4).map (laneOf 0 (x.vr f.d.toNat))) (f.aux.toNat % 4) (x.sr f.a.toNat).toNat)))))
  ∧ (d.fetches m (f.word 0x2D) → f.legal .s .v .none false false 3 = true →
      exec (.vext m f) s = s.settles (t.goesNext m pc (x.setS f.d.toNat
        (BitVec.ofNat 32 (laneOf 0 (x.vr f.a.toNat) (f.aux.toNat % 4))))))
  ∧ (d.fetches m (f.word 0x30) → f.legal .acc .none .none true false 0 = true →
      exec (.accz m f) s = s.settles (t.goesNext m pc (x.setAc f.d.toNat { lanes := [0, 0, 0, 0], tag := fmt })))
  ∧ (∀ (r : List Nat × Nat), d.fetches m (f.word 0x31) → f.legal .v .acc .none true false 63 = true → (x.ac f.a.toNat).tag = fmt →
      r = lanes (laneCount fmt) (fun k => laneRead fmt (nth 0 (x.ac f.a.toNat).lanes k) (sgnW 6 f.aux.toNat)) →
      exec (.accrd m f) s = s.settles (t.goesNext m pc ((x.setV f.d.toNat (ofLanes fmt r.1)).flags r.2)))
  ∧ (∀ (p q r : Nat × Nat) (l : Nat → Nat), d.fetches m (f.word 0x32) → f.legal .acc .none .none true false 0 = true →
      (x.ac f.d.toNat).tag = fmt → l = nth 0 (x.ac f.d.toNat).lanes → p = laneSum fmt (l 0) (l 1) → q = laneSum fmt (l 2) (l 3) →
      r = laneSum fmt p.1 q.1 →
      exec (.accred m f) s = s.settles (t.goesNext m pc
        ((x.setAc f.d.toNat { x.ac f.d.toNat with lanes := [if fmt = 2 then p.1 else r.1, 0, 0, 0] }).flags
          (if fmt = 2 then p.2 else p.2 ||| q.2 ||| r.2))))

/-! ### Rules of the whole block -/

/-- Every field of every register follows its type. A write gives an RW field the value written, clears the W1C bits and sets the W1S bits
written 1, and leaves RO, WO and RC fields as they are; an image field keeps its value until an image has been applied. A read returns the
present value, 0 in WO fields and in image fields without an image; an RC field is cleared by it. -/
def Obligations.TypedFieldsFollowTheirType : Prop :=
  ∀ r ∈ allRegs, ∀ f ∈ r.flds, ∀ (w cur : Word) (applied : Bool) (b old new v : Nat), b + f.lo ≤ f.hi → old = fget cur f.hi f.lo →
    v = fget w f.hi f.lo → new = fget (regStore applied r.flds w cur) f.hi f.lo →
    (bitOf new b = if f.img = true ∧ applied = false then bitOf old b else match f.ty with
      | .rw => bitOf v b
      | .w1c => if bitOf v b = 1 then 0 else bitOf old b
      | .w1s => if bitOf v b = 1 then 1 else bitOf old b
      | .ro | .wo | .rc => bitOf old b)
    ∧ fget (regLoad applied r.flds cur) f.hi f.lo = (if f.ty = .wo ∨ (f.img = true ∧ applied = false) then 0 else old)
    ∧ fget (regAfterRead r.flds cur) f.hi f.lo = (if f.ty = .rc then 0 else old)

/-- Bits that no field of a register covers read 0, and a write leaves them 0. -/
def Obligations.ReservedBitsReadZero : Prop :=
  ∀ r ∈ allRegs, ∀ b < 32, (∀ f ∈ r.flds, b < f.lo ∨ f.hi < b) → ∀ (applied : Bool) (w cur : Word),
    bitOf (regStore applied r.flds w cur).toNat b = 0 ∧ bitOf (regLoad applied r.flds cur).toNat b = 0

/-- Block numbers compare by signed 32-bit difference, which is irreflexive and asymmetric. -/
def Obligations.BlockNumbersCompareBySignedDifference : Prop :=
  (∀ m c : Nat, later32 m c = true ↔ 1 ≤ ((m : Int) - c) % 2 ^ 32 ∧ ((m : Int) - c) % 2 ^ 32 ≤ 2 ^ 31 - 1)
  ∧ (∀ m c : Nat, later32 m c = true → later32 c m = false) ∧ (∀ m : Nat, later32 m m = false)

/-- The weights of a crossfade of L samples: the linear law's are floor((j + 1) × 2^30 ÷ L) and its complement to 2^30, and at j = L − 1 both
laws give the new leg exactly 1 and the old leg 0, as it stays from sample L onwards. -/
def Obligations.FadeWeightsOfBothLaws : Prop :=
  (∀ len j : Nat, 1 ≤ len → len ≤ 1024 → j < len →
    (fadeWeights false len j).2 = ((j + 1) * 2 ^ 30 / len : Nat) ∧ (fadeWeights false len j).1 + (fadeWeights false len j).2 = 2 ^ 30
    ∧ fadeWeights true len j = (fadeS (2 ^ 26 - (j + 1) * 2 ^ 26 / len), fadeS ((j + 1) * 2 ^ 26 / len)))
  ∧ (∀ (ep : Bool) (len : Nat), 1 ≤ len → len ≤ 1024 → fadeWeights ep len (len - 1) = (0, 2 ^ 30))
  ∧ (∀ (ep : Bool) (len j : Nat), len ≤ j → fadeWeights ep len j = (0, 2 ^ 30))

/-- A capture unit on its event. Enabled and on the source, it records the value of its time base where MODE is 1 or VALID was 0, and keeps
the record it holds otherwise; that the value includes the event's position within its tick, given in 1/16 ns, is the model's choice (log
entry 49); OVF is set where VALID was already 1, and VALID is set. A unit on another source, or not enabled, keeps its
record. A read of T0 loads T1 and T2 of the record. -/
def Obligations.CaptureUnitsRecordTheirTimeBase : Prop :=
  (∀ (d e : Dev) (src sub c : Nat) (rising valid : Bool) (b : TbSt), c < 16 → e = d.captureEvent src rising sub →
    valid = d.bit TIME_CAP_STAT.VALID c →
    b = (d.tb (d.get TIME_CAP_CFG.TB c)).load ((d.tb (d.get TIME_CAP_CFG.TB c)).val + sub * 2 ^ 42) →
    (d.is TIME_CAP_CFG.EN c = true → d.get TIME_CAP_CFG.SRC c = src →
      (28 ≤ src ∨ d.get TIME_CAP_CFG.EDGE c = 2 ∨ (d.get TIME_CAP_CFG.EDGE c = 1 ∧ rising = false) ∨
        (d.get TIME_CAP_CFG.EDGE c = 0 ∧ rising = true)) →
      e.bit TIME_CAP_STAT.VALID c = true ∧ e.bit TIME_CAP_STAT.OVF c = (valid || d.bit TIME_CAP_STAT.OVF c) ∧
      tabGet {} e.time.caps c =
        if valid = true ∧ d.get TIME_CAP_CFG.MODE c = 0 then tabGet {} d.time.caps c else ⟨b.sec, b.ns, b.frac⟩)
    ∧ ((d.is TIME_CAP_CFG.EN c = false ∨ d.get TIME_CAP_CFG.SRC c ≠ src) →
      tabGet {} e.time.caps c = tabGet {} d.time.caps c ∧ e.bit TIME_CAP_STAT.VALID c = valid))
  ∧ (∀ (d : Dev) (c : Nat), c < 16 →
      (d.capRead c).get TIME_CAP_T1.SEC_LO c = (tabGet {} d.time.caps c).sec % 2 ^ 32 ∧
      (d.capRead c).get TIME_CAP_T2.NS c = (tabGet {} d.time.caps c).ns % 2 ^ 30)

/-- While READY is 0 a write to the chunk buffer leaves every word of it, and sets ERROR; the next chunk handed over lacks the word; and when
the loader reaches a chunk that lacks bytes it ends the attempt with reason 0x05. -/
def Obligations.DiscardedChunkWordsEndTheAttempt : Prop :=
  (∀ (s : State) (p : Port) (i k : Fin 8192) (w : Word) (c e : Dev), c = s.counted p (SYS_CHUNK.addr i 0) → s.served p →
    c.is SYS_LOAD_STATUS.READY = false → e = c.chunkWrite i w →
    exec (.chunkWrite p i w) s = s.ends s.dev e ∧ e.rd SYS_CHUNK k = c.rd SYS_CHUNK k ∧ e.is SYS_LOAD_STATUS.ERROR = true ∧
      e.boot.gap = true)
  ∧ (∀ (d : Dev) (len : Nat) (last : Bool), len ≠ 0 → d.is SYS_LOAD_STATUS.READY = true → d.boot.host = true → d.boot.step = 2 →
      (d.loadChunk len last).boot.chunk = some (min len 0x8000, last, d.boot.gap))
  ∧ (∀ (d e : Dev) (n : Nat) (last : Bool), d.boot.chunk = some (n, last, true) → d.boot.arrived = false →
      e = d.setBoot { d.boot with arrived := true, img := d.boot.img ++ d.chunkBytes n } → d.chunkArrive = e.failAttempt 5)

/-- The identification register: with POR released the command IDCODE selects 0x1102_42AF, which holds the version, the part, the manufacturer
code and a 1. The register stands so in the state that the command answers, after the resets that were due have been taken. -/
def Obligations.IdentificationRegisterReads : Prop :=
  ∀ (s : State) (dt : Nat), (s.came dt).pwr.por = false → ∃ t : State, exec (.idcode dt) s = .next t ∧ t.dev.test.ir = 1 ∧
    t.dev.test.dr = 1 ∧ t.dev.test.drive = false ∧ t.dev.test.dreg = 0x110242AF ∧
    t.dev.test.dreg / 2 ^ 28 % 16 = 1 ∧ t.dev.test.dreg / 2 ^ 12 % 2 ^ 16 = 0x1024 ∧ t.dev.test.dreg / 2 % 2 ^ 11 = 0x157 ∧
    t.dev.test.dreg % 2 = 1

/-- The scalar registers: s0 reads 0 and ignores writes; a write of another register is read back, and leaves every other scalar, the vectors,
the accumulators, the circular-address registers, the loops, SST and the pc. -/
def Obligations.ScalarRegistersReadBack : Prop :=
  ∀ (x y : SprigSt) (i j : Nat) (w : Word), y = x.setS i w →
    y.sr 0 = 0 ∧ (i = 0 → y = x) ∧ (i ≠ 0 → y.sr i = w) ∧ (j ≠ i → y.sr j = x.sr j) ∧
    y.v = x.v ∧ y.acc = x.acc ∧ y.ca = x.ca ∧ y.lc = x.lc ∧ y.order = x.order ∧ y.sst = x.sst ∧ y.pc = x.pc

/-- A Sprig exception fails the job. Once the stores before it are complete, the Sprig is idle and the job failed; where the record was free it
takes the cause, the job, the pc and the address, and where it was held it stays, with OVF. -/
def Obligations.SprigExceptionFailsTheJob : Prop :=
  ∀ (d u e : Dev) (m code addr ty : Nat) (bad : Option Nat) (x : SprigSt), m < 64 → u = d.spFlush m → x = u.sprig m →
    e = d.spExcept m code addr ty bad → code < 16 → addr < 2 ^ 32 → x.pc < 2 ^ 32 → x.job < 2 ^ 16 →
    (e.sprig m).busy = false ∧ e.fate x.job = 3 ∧ e.is THK_EXC_INFO.VALID m = true ∧
    (u.is THK_EXC_INFO.VALID m = false → e.get THK_EXC_INFO.CAUSE m = code ∧ e.get THK_EXC_INFO.JOB m = x.job ∧
      e.get THK_EXC_PC.PC m = x.pc ∧ e.get THK_EXC_ADDR.ADDR m = addr)
    ∧ (u.is THK_EXC_INFO.VALID m = true → e.is THK_EXC_INFO.OVF m = true ∧ e.get THK_EXC_INFO.CAUSE m = u.get THK_EXC_INFO.CAUSE m ∧
      e.rd THK_EXC_PC m = u.rd THK_EXC_PC m ∧ e.rd THK_EXC_ADDR m = u.rd THK_EXC_ADDR m)

/-- A write through the shared-store window to a region, outside RUNNING, is applied at once: the word reads back at its offset, its four bytes
lie least significant first, and every other byte of every memory is as the counted access left it. -/
def Obligations.WindowWordReadsBack : Prop :=
  ∀ (s : State) (p : Port) (k : Fin 1048576) (w : Word) (c : Dev) (off : Nat),
    c = (s.counted p (sharedAddr k)).perfEvent 0x22 1 { master := portNum p, addr := off } → s.served p →
    off = (s.counted p (sharedAddr k)).ssOffset (portNum p) (sharedAddr k) → c.solo → c.regionAt off ≠ none → c.running = false →
    ∃ e : Dev, exec (.sharedStoreWrite p k w) s = s.ends s.dev e ∧ e.memW (memShared + off) = w ∧
      (∀ i < 4, (memByte e.mem (memShared + off + i)).toNat = w.toNat / 256 ^ i % 256) ∧
      (∀ a, a < memShared + off ∨ memShared + off + 4 ≤ a → memByte e.mem a = memByte c.mem a) ∧ e.regs = c.regs

/-- A chip that is STANDBY with the pair link up ignores its own writes to the registers of which every field is mirrored, and sets WREJ. -/
def Obligations.StandbyIgnoresMirroredWrites : Prop :=
  ∀ (s : State) (p : Port) (b i j : Nat) (r : Reg) (w : Word) (c : Dev), r ∈ regsOfBlock b → i < r.n1 → j < r.n2 →
    mirrorMask r = 0xFFFFFFFF → c = s.counted p (r.addr i j) → s.served p → c.mirrored = true →
    ∃ e : Dev, exec (.regWrite p (r.addr i j) w) s = s.ends s.dev e ∧ e.is PAIR_EV.WREJ = true ∧
      (∀ (q : Reg) (k l : Nat), q.addr k l ≠ PAIR_EV.addr 0 0 → e.rd q k l = c.rd q k l)

/-- While a block is held in BLOCK reset, a typed write of its BLOCK-domain registers changes nothing, and a read returns the reset word. So do
the accesses of the window: the command that writes such a register leaves the device as the counted access found it, and the command that
reads one answers its reset word. -/
def Obligations.HeldBlockDiscardsAccesses : Prop :=
  (∀ (d : Dev) (b i j port : Nat) (r : Reg) (w : Word), r ∈ regsOfBlock b → d.inReset r.blk = true → r.dom = .block →
    d.store r w i j = d ∧ d.regRead port r i j = (regLoad (d.imgSet r i) r.flds (r.rstAt i j), d))
  ∧ (∀ (s : State) (p : Port) (b i j : Nat) (r : Reg) (w : Word) (c : Dev), r ∈ regsOfBlock b → i < r.n1 → j < r.n2 → r.dom = .block →
      r ≠ PERF_CNT_AUX → c = s.counted p (r.addr i j) → s.served p → s.dev.inReset r.blk = true → c.inReset r.blk = true →
      exec (.regWrite p (r.addr i j) w) s = s.ends s.dev c)
  ∧ (∀ (s : State) (p : Port) (b i j : Nat) (err : Fin 3) (r : Reg) (c : Dev), r ∈ regsOfBlock b → i < r.n1 → j < r.n2 → r.dom = .block →
      c = s.counted p (r.addr i j) → s.served p → s.dev.inReset r.blk = true → c.inReset r.blk = true →
      exec (.regRead p (r.addr i j) err) s = s.ends s.dev
        (c.emit (.rdata (portNum p) (r.addr i j) (regLoad (c.imgSet r i) r.flds (r.rstAt i j)))))

/-- A counted event that brings a source to its threshold within the window: the source is SEVERE with its bit of FLT_SEV set, and a BLOCK
reset that its severe-level reactions call for is due. -/
def Obligations.ThresholdReachesTheSevereLevel : Prop :=
  ∀ (d e : Dev) (n : Nat) (a : Access), n < 192 → e = d.raiseAt n a → d.shadowOf n = none → d.get FLT_SRC_STAT.STATE n < 2 →
    d.fltN n ≤ inWindow d.tclk (d.fltWin n) ((d.tclk :: tabGet [] d.flt.events n).take 255) →
    e.get FLT_SRC_STAT.STATE n = 2 ∧ e.fltSevBit n = true ∧
      (bitOf (d.get FLT_SRC_CFG.SVR n) 2 = 1 → Due.block (d.get FLT_SRC_CFG.RBLK n) n ∈ e.flt.due)

/-- First-error capture: while VALID is 0 the first counted event of a source with FEC captures the source, the address, the master and the
type; while VALID is 1 a later one sets OVF and leaves the capture. -/
def Obligations.FirstErrorIsCaptured : Prop :=
  ∀ (d e : Dev) (n : Nat) (a : Access), n < 192 → e = d.raiseAt n a → d.shadowOf n = none → d.is FLT_SRC_CFG.FEC n = true →
    a.addr < 2 ^ 32 → a.master < 256 → a.ty < 4 →
    (d.is FLT_FEC_INFO.VALID = false → e.is FLT_FEC_INFO.VALID = true ∧ e.get FLT_FEC_INFO.SRC = n ∧ e.get FLT_FEC_ADDR.ADDR = a.addr ∧
      e.get FLT_FEC_INFO.MASTER = a.master ∧ e.get FLT_FEC_INFO.TYPE = a.ty)
    ∧ (d.is FLT_FEC_INFO.VALID = true → e.is FLT_FEC_INFO.OVF = true ∧ e.get FLT_FEC_INFO.SRC = d.get FLT_FEC_INFO.SRC ∧
      e.rd FLT_FEC_ADDR = d.rd FLT_FEC_ADDR)

/-- The time bases, while POR does not hold the device. A command that comes `dt` ticks later finds each advanced by dt × 4 ns × (1 + ADJ ×
2^−48), modulo 2^48 seconds, with the hidden fraction carried, its nanoseconds below 10^9 and its fractions within their widths; and the
time clock has advanced by `dt`. -/
def Obligations.TimeBasesAdvanceAtEveryTick : Prop :=
  ∀ (s : State) (dt t : Nat) (b c : TbSt), 0 < dt → t < 4 → s.dev.pwr.por = false → b = s.dev.tb t → c = (s.came dt).tb t →
    (c.val : Int) = (b.val + dt * (2 ^ 48 + s.dev.adj t)) % (2 ^ 48 * (1000000000 * 2 ^ 46)) ∧
    c.ns < 1000000000 ∧ c.sec < 2 ^ 48 ∧ c.frac < 2 ^ 16 ∧ c.hid < 2 ^ 30 ∧ (s.came dt).tclk = s.dev.tclk + dt

/-- What resets do to memory. A supply below 32 V holds the device in POR: every byte outside the MRAM then reads 0, and the fuses stay; a
CHIP reset leaves every byte of memory, the fuses and the time clock. That RAM survives a CHIP reset and is cleared by POR is the model's
choice (log entry 14), and so is the 0 that it then reads (log entry 5): the spec says only that the MRAM keeps its contents. Resets and the
TAP: POR and TRST_N low put it in Test-Logic-Reset with IDCODE in effect and the balls given back; RESET_N and a CHIP reset leave it as it
is. Resets and the output balls: after POR, and after a CHIP reset unless the TAP drives them, the clock outputs and the TIO balls are
high-impedance, and MCLKOUT, the serial outputs, the modulator legs and PSEN are low. -/
def Obligations.ResetsLeaveMemoryAndTap : Prop :=
  (∀ (d : Dev) (mv : Nat), d.pwr.por = false → mv < 32000 → (d.porAssert mv).heldReset = true ∧ (d.porAssert mv).fuse = d.fuse ∧
    (∀ a, isMram a = false → memByte (d.porAssert mv).mem a = 0))
  ∧ (∀ (d : Dev) (cause : Option (Nat × Nat)), (d.chipReset cause).mem = d.mem ∧ (d.chipReset cause).fuse = d.fuse ∧
      (d.chipReset cause).tclk = d.tclk)
  ∧ (∀ (d : Dev) (mv : Nat), d.pwr.por = false → mv < 32000 → (d.porAssert mv).test.ir = 1 ∧ (d.porAssert mv).test.drive = false)
  ∧ (∀ d : Dev, d.tapReset.test.ir = 1 ∧ d.tapReset.test.drive = false)
  ∧ (∀ (d : Dev) (cause : Option (Nat × Nat)), (d.chipReset cause).test = d.test) ∧ (∀ (d : Dev) (ns : Nat), (d.resetPin ns).test = d.test)
  ∧ (∀ (d e : Dev) (cause : Option (Nat × Nat)) (x : Fin 8) (k g : Fin 4) (q : Fin 16) (n : Fin 32) (leg : Bool), e = d.chipReset cause →
      d.test.drive = false → e.clkoutP x = .hiZ ∧ e.clkoutN x = .hiZ ∧ e.tioBall x = .hiZ ∧ e.mclkout k = .low ∧ e.dout q = .low ∧
        e.mod n leg = .low ∧ e.psenBall g = .low)
  ∧ (∀ (d e : Dev) (mv : Nat) (x : Fin 8) (k g : Fin 4) (q : Fin 16) (n : Fin 32) (leg : Bool), e = d.porAssert mv → d.pwr.por = false →
      mv < 32000 → e.clkoutP x = .hiZ ∧ e.clkoutN x = .hiZ ∧ e.tioBall x = .hiZ ∧ e.mclkout k = .low ∧ e.dout q = .low ∧
        e.mod n leg = .low ∧ e.psenBall g = .low)

/-- Nine commands run to their own effect, in a plain case of each. SET on a time base whose servo is FREE or in ACQUIRE loads seconds and
nanoseconds with a fraction of 0, sets STEPEV, raises TIME.STEP and treats the alarms passed; a read of T0 returns it, with T1 and T2 of the
same instant; a write of RATE_HI in FREE applies ADJ with the held low half; FREE = 1 puts a servo into FREE; a firmware offset of age 0 in
ACQUIRE, above the lock threshold and within the step threshold, counts in ACC, stands in THETA, clears the count towards LOCKED and sets
ADJ from KI and KP; a LOCKED servo without an accepted offset for its hold time goes to HOLD. On an ACTIVE link a sound ISO AUDIO cell whose
flow has a local entry only is kept by its receive context; a sound CTRL or BULK cell addressed to the node enters its receive ring; a sound
CTRL or BULK cell in transit leaves to its egress set with its TTL one lower. -/
def Obligations.TimeBaseAndReceivedCellCommandsRun : Prop :=
  (∀ (s : State) (p : Port) (t : Fin 4) (w : Word) (c d : Dev), c = s.counted p (TIME_TB_CTRL.addr t 0) → s.served p → fget w 1 1 = 0 →
    fget w 0 0 = 1 → c.get TIME_OFS_MNS.NS t < 1000000000 → c.servo t = 0 ∨ c.servo t = 1 →
    d = ((c.store TIME_TB_CTRL w t).setTb t
      { c.tb t with sec := c.get TIME_OFS_MSEC.SEC t, ns := c.get TIME_OFS_MNS.NS t, frac := 0, hid := 0 }).noteStep t →
    exec (.tbSet p t w) s = s.ends s.dev
      (((({ d with time := { d.time with setAt := tabPut 0 d.time.setAt t (d.tclk + 1) } }).put TIME_TB_STAT.STEPEV 1 t).raise
        (FS.TIME_STEP + t)).almAfterStep t))
  ∧ (∀ (s : State) (p : Port) (t : Fin 4) (c d : Dev), c = s.counted p (TIME_TB_T0.addr t 0) → s.served p → c.inReset 4 = false →
      d = (((c.put TIME_TB_T0.SEC_HI ((c.tb t).sec / 2 ^ 32) t).put TIME_TB_T0.FRAC (c.tb t).frac t).put TIME_TB_T1.SEC_LO
        ((c.tb t).sec % 2 ^ 32) t).put TIME_TB_T2.NS (c.tb t).ns t →
      exec (.tbRead p t) s = s.ends s.dev (d.emit (.rdata (portNum p) (TIME_TB_T0.addr t 0)
        (regLoad c.imageApplied TIME_TB_T0.flds (d.rd TIME_TB_T0 t)))))
  ∧ (∀ (s : State) (p : Port) (t : Fin 4) (w : Word) (c : Dev) (lo : Nat), c = s.counted p (TIME_TB_RATE_HI.addr t 0) → s.served p →
      c.servo t = 0 → tabGet 0 c.time.rateLo t = lo + 1 →
      exec (.rateCommit p t w) s = s.ends s.dev (({ c with time := { c.time with rateLo := tabDel c.time.rateLo t } }).setAdj t
        (sgnW 40 (w.toNat % 256 * 2 ^ 32 + lo))))
  ∧ (∀ (s : State) (p : Port) (t : Fin 4) (w : Word) (c : Dev), c = s.counted p (TIME_TB_CTRL.addr t 0) → s.served p →
      fget w 1 1 = 1 → fget w 0 0 = 0 → exec (.servoFree p t w) s = s.ends s.dev ((c.store TIME_TB_CTRL w t).servoTo t 0))
  ∧ (∀ (s : State) (p : Port) (t : Fin 4) (w : Word) (c d : Dev) (i : Int), c = s.counted p (TIME_OFS_VAL.addr t 0) → s.served p →
      c.get TIME_TB_CFG.SRC t = 1 → c.is TIME_TB_CTRL.FREE t = false → c.servo t = 1 → c.is TIME_OFS_MNS.FSTEP t = false →
      tabGet 0 c.time.setAt t ≠ c.tclk + 1 → c.get TIME_OFS_MSEC.SEC t = (c.tb t).sec % 2 ^ 32 →
      (c.tb t).val % tbSecond = c.get TIME_OFS_MNS.NS t * 2 ^ 46 → c.lockThr t < w.toInt.natAbs →
      w.toInt.natAbs ≤ 16000 * max 1 (c.get TIME_SRV_THR.STEP_THR t) →
      d = ((c.inc TIME_TB_STAT.ACC t).put TIME_SRV_LAST.THETA (unsW 32 (sat31 w.toInt)) t).startTimer .offset t →
      i = clampAdj ((c.tb t).integ + rhe (c.get TIME_SRV_KI.K t * w.toInt) 4096) →
      exec (.offsetSubmit p t w) s = s.ends s.dev
        ((d.setTb t { c.tb t with integ := i, lockCnt := 0 }).setAdj t (i + rhe (c.get TIME_SRV_KP.K t * w.toInt) 4096)))
  ∧ (∀ (s : State) (dt : Nat) (t : Fin 4) (d : Dev), d = s.came dt → s.awake dt → d.servo t = 2 →
      d.ranFor .offset (max 1 (d.get TIME_SRV_CFG.HOLD_TMO t) * 1000000) t = true →
      exec (.servoHoldTimeout dt t) s = s.ends d (d.servoTo t 3))
  ∧ (∀ (s : State) (dt : Nat) (l : Fin 8) (bs : List Byte) (idx m : Nat) (x : FwdEnt) (d e : Dev), d = s.came dt → s.awake dt →
      d.lActive l = true → hdrOk 1 bs = true → crcState bs = 0 → hType bs = 0 → hFlow bs ≠ 0 →
      e = (d.perfEvent 0x19 1 { k := 1 }).cellId.2 → e.lookup (hFlow bs) = some (idx, x) → x.dedup = false → x.egress e.upMask = 0 →
      x.loc = true → e.get FLOW_CFG.KIND x.ctx = 1 → e.running = true → m = e.extBlk (hBlk bs) → later32 m (e.cyc.k + 1) = false →
      hCidx bs < e.ctxNc x.ctx → 4 * hLenw bs = e.cellLen x.ctx (hCidx bs) →
      later32 e.cyc.k (m + (e.get FLOW_CFG.PRES x.ctx + e.get FLOW_CFG.HOLD x.ctx)) = false →
      (∀ g ∈ (e.ctx x.ctx).got, ¬ (g.1 = m ∧ g.2.1 = hCidx bs)) →
      exec (.isoCellReceive dt l bs) s = s.ends d (((e.setFwd idx x).setCtx x.ctx
        { e.ctx x.ctx with got := (e.ctx x.ctx).got ++ [(m, hCidx bs, cellPay bs)] }).settleCell l 1 d.hfb.cells bs))
  ∧ (∀ (s : State) (dt : Nat) (l : Fin 8) (bulk : Bool) (bs : List Byte) (soc : Nat) (d e g : Dev), d = s.came dt → s.awake dt →
      d.lActive l = true → soc = (if bulk = true then 3 else 2) → hdrOk soc bs = true → crcState bs = 0 → badType bs = false →
      e = (d.perfEvent 0x19 1 { k := soc }).cellId.2 → hFlow bs = 0xF0000 + e.nodeId → hFlow bs ≠ 0xFFFFF → e.nodeId ≠ 0 →
      e.ringFill (64 + l) < e.ringSize (64 + l) * (if bulk = true then e.bulkHw else e.ctrlHw) / 8 →
      e.ringPush (64 + l) 1 0 l 0 (bs.take 16 ++ cellPay bs) = (true, g) →
      exec (.ringCellReceive dt l bulk bs) s = s.ends d (g.settleCell l soc d.hfb.cells bs))
  ∧ (∀ (s : State) (dt : Nat) (l : Fin 8) (bulk : Bool) (bs : List Byte) (soc idx : Nat) (x : FwdEnt) (d e : Dev), d = s.came dt →
      s.awake dt → d.lActive l = true → soc = (if bulk = true then 3 else 2) → hdrOk soc bs = true → crcState bs = 0 →
      e = (d.perfEvent 0x19 1 { k := soc }).cellId.2 → hFlow bs ≠ 0 → hFlow bs ≠ 0xFFFFF → hFlow bs ≠ 0xF0000 + e.nodeId →
      e.lookup (hFlow bs) = some (idx, x) → x.dedup = false → x.loc = false → x.egress e.upMask ≠ 0 → bitOf (x.egress e.upMask) l = 0 →
      hTtl bs ≠ 0 →
      exec (.transitCellReceive dt l bulk bs) s = s.ends d (((((e.setFwd idx x).sendTo (x.egress e.upMask) x.flow
        { cls := soc, bytes := setTtl (bs.take 16 ++ cellPay bs) (hTtl bs - 1), ing := l, id := d.hfb.cells }).perfEvent 0x1A 1
          { k := soc }).settleCell l soc d.hfb.cells bs)))
end

