-- ==== Sys2Proof/Laws/RegMap.lean ====
section
/-! SUPPORT. Laws of the register map: every element of every register has an address of its own, and that address decodes
to it. -/

namespace Sys2Proof.Machine

/-- The shape that every descriptor has: an index without a stride has one value, and rows do not overlap. -/
def Reg.shape (r : Reg) : Bool :=
  decide (1 ≤ r.n1) && decide (1 ≤ r.n2)
    && (if r.s1 = 0 then r.n1 == 1 && r.n2 == 1 && r.s2 == 0 else if r.s2 = 0 then r.n2 == 1 else decide (r.s2 * (r.n2 - 1) < r.s1))

/-- The last address of a register. -/
def Reg.last (r : Reg) : Nat := r.addr (r.n1 - 1) (r.n2 - 1)

/-- The offset of the last element of a row from the multiple of `m` below the register. -/
def Reg.rowEnd (r : Reg) (m : Nat) : Nat := r.base % m + r.s2 * (r.n2 - 1)

/-- A test that finds two registers without a common address: they lie one behind the other, or differ modulo the greatest
common divisor of their strides, or interleave with one row length and disjoint rows. -/
def Reg.apart (r q : Reg) : Bool :=
  let g := Nat.gcd (Nat.gcd r.s1 r.s2) (Nat.gcd q.s1 q.s2)
  decide (r.last < q.base) || decide (q.last < r.base) || r.base % g != q.base % g
    || (r.s1 == q.s1 && (decide (r.rowEnd r.s1 < q.base % q.s1) && decide (q.rowEnd q.s1 < q.s1)
      || decide (q.rowEnd q.s1 < r.base % r.s1) && decide (r.rowEnd r.s1 < r.s1)))

theorem Reg.addr_le_last (r : Reg) {i j : Nat} (hi : i < r.n1) (hj : j < r.n2) : r.addr i j ≤ r.last := by
  have h1 : r.s1 * i ≤ r.s1 * (r.n1 - 1) := Nat.mul_le_mul_left _ (by omega)
  have h2 : r.s2 * j ≤ r.s2 * (r.n2 - 1) := Nat.mul_le_mul_left _ (by omega)
  simp only [Reg.last, Reg.addr]; omega

theorem Reg.base_le_addr (r : Reg) (i j : Nat) : r.base ≤ r.addr i j := by simp only [Reg.addr]; omega

theorem Reg.addr_mod (r : Reg) {g i j : Nat} (h1 : g ∣ r.s1) (h2 : g ∣ r.s2) : r.addr i j % g = r.base % g := by
  obtain ⟨a, ha⟩ := h1
  obtain ⟨b, hb⟩ := h2
  rw [Reg.addr, ha, hb, Nat.mul_assoc, Nat.mul_assoc, Nat.add_mul_mod_self_left, Nat.add_mul_mod_self_left]

theorem Reg.addr_mod_row (r : Reg) {i j : Nat} (hj : j < r.n2) (h : r.rowEnd r.s1 < r.s1) :
    r.addr i j % r.s1 = r.base % r.s1 + r.s2 * j := by
  have h2 : r.s2 * j ≤ r.s2 * (r.n2 - 1) := Nat.mul_le_mul_left _ (by omega)
  have h3 : r.addr i j = (r.base % r.s1 + r.s2 * j) + r.s1 * (r.base / r.s1 + i) := by
    rw [Reg.addr, Nat.mul_add]
    have := Nat.mod_add_div r.base r.s1
    omega
  rw [h3, Nat.add_mul_mod_self_left, Nat.mod_eq_of_lt]
  simp only [Reg.rowEnd] at h; omega

/-- Registers that the test finds apart share no address. -/
theorem Reg.addr_ne_of_apart {r q : Reg} (h : r.apart q = true) {i j k l : Nat} (hi : i < r.n1) (hj : j < r.n2)
    (hk : k < q.n1) (hl : l < q.n2) : r.addr i j ≠ q.addr k l := by
  intro e
  have a1 := r.addr_le_last hi hj
  have a2 := q.addr_le_last hk hl
  have b1 := r.base_le_addr i j
  have b2 := q.base_le_addr k l
  simp only [Reg.apart, Bool.or_eq_true, Bool.and_eq_true, decide_eq_true_eq, bne_iff_ne, ne_eq, beq_iff_eq] at h
  rcases h with ((h | h) | h) | ⟨hs, ⟨h, h'⟩ | ⟨h, h'⟩⟩
  · omega
  · omega
  · apply h
    have c1 := r.addr_mod (i := i) (j := j) (g := Nat.gcd (Nat.gcd r.s1 r.s2) (Nat.gcd q.s1 q.s2))
      ((Nat.gcd_dvd_left _ _).trans (Nat.gcd_dvd_left _ _)) ((Nat.gcd_dvd_left _ _).trans (Nat.gcd_dvd_right _ _))
    have c2 := q.addr_mod (i := k) (j := l) (g := Nat.gcd (Nat.gcd r.s1 r.s2) (Nat.gcd q.s1 q.s2))
      ((Nat.gcd_dvd_right _ _).trans (Nat.gcd_dvd_left _ _)) ((Nat.gcd_dvd_right _ _).trans (Nat.gcd_dvd_right _ _))
    rw [← c1, ← c2, e]
  · have hr : r.rowEnd r.s1 < r.s1 := by
      have : q.base % q.s1 ≤ q.rowEnd q.s1 := Nat.le_add_right _ _
      omega
    have c1 := r.addr_mod_row (i := i) hj hr
    have c2 := q.addr_mod_row (i := k) hl h'
    rw [← hs, ← e, c1] at c2
    have h2 : r.s2 * j ≤ r.s2 * (r.n2 - 1) := Nat.mul_le_mul_left _ (by omega)
    simp only [Reg.rowEnd] at h; rw [hs] at h c2; omega
  · have hq : q.rowEnd q.s1 < q.s1 := by
      have : r.base % r.s1 ≤ r.rowEnd r.s1 := Nat.le_add_right _ _
      omega
    have c1 := r.addr_mod_row (i := i) hj h'
    have c2 := q.addr_mod_row (i := k) hl hq
    rw [hs, e, c2] at c1
    have h2 : q.s2 * l ≤ q.s2 * (q.n2 - 1) := Nat.mul_le_mul_left _ (by omega)
    simp only [Reg.rowEnd] at h; rw [hs] at h; omega

/-- An index that is found names an element, and the element has the address. -/
theorem Reg.index_some {r : Reg} (hs : r.shape = true) {a i j : Nat} (h : r.index a = some (i, j)) :
    i < r.n1 ∧ j < r.n2 ∧ r.addr i j = a := by
  simp only [Reg.shape, Bool.and_eq_true, decide_eq_true_eq] at hs
  obtain ⟨⟨n1, n2⟩, hs⟩ := hs
  simp only [Reg.index] at h
  split at h
  · cases h
  next hb =>
  split at h
  · next z =>
    simp only [z, if_true, Bool.and_eq_true, beq_iff_eq] at hs
    split at h
    · cases h; simp only [Reg.addr, z, hs.2]; omega
    · cases h
  · next z =>
    have hm := Nat.mul_div_le (a - r.base) r.s1
    have hle : r.s1 * min ((a - r.base) / r.s1) (r.n1 - 1) ≤ r.s1 * ((a - r.base) / r.s1) := Nat.mul_le_mul_left _ (min_le_left _ _)
    have hmin : min ((a - r.base) / r.s1) (r.n1 - 1) ≤ r.n1 - 1 := min_le_right _ _
    simp only [z, if_false] at h hs
    split at h
    · next z2 =>
      simp only [z2, if_true, beq_iff_eq] at hs
      split at h
      · next e => cases h; simp only [Reg.addr, z2]; omega
      · cases h
    · next z2 =>
      split at h
      · next e =>
        cases h
        refine ⟨by omega, e.2, ?_⟩
        have := Nat.mod_add_div (a - r.base - r.s1 * min ((a - r.base) / r.s1) (r.n1 - 1)) r.s2
        simp only [Reg.addr]; omega
      · cases h

/-- The index of an element's address is that element. -/
theorem Reg.index_addr {r : Reg} (hs : r.shape = true) {i j : Nat} (hi : i < r.n1) (hj : j < r.n2) : r.index (r.addr i j) = some (i, j) := by
  simp only [Reg.shape, Bool.and_eq_true, decide_eq_true_eq] at hs
  obtain ⟨⟨n1, n2⟩, hs⟩ := hs
  have hb : ¬ r.addr i j < r.base := Nat.not_lt.2 (r.base_le_addr i j)
  have hd : r.addr i j - r.base = r.s2 * j + r.s1 * i := by simp only [Reg.addr]; omega
  simp only [Reg.index, hb, if_false, hd]
  by_cases z : r.s1 = 0
  · simp only [z, if_true, Bool.and_eq_true, beq_iff_eq] at hs
    have : i = 0 := by omega
    have : j = 0 := by omega
    simp [hs.2, *]
  · simp only [z, if_false] at hs ⊢
    have hj' : r.s2 * j < r.s1 := by
      by_cases z2 : r.s2 = 0
      · simp only [z2, Nat.zero_mul]; omega
      · simp only [z2, if_false, decide_eq_true_eq] at hs
        have : r.s2 * j ≤ r.s2 * (r.n2 - 1) := Nat.mul_le_mul_left _ (by omega)
        omega
    have hq : (r.s2 * j + r.s1 * i) / r.s1 = i := by
      rw [Nat.add_mul_div_left _ _ (by omega), Nat.div_eq_of_lt hj', Nat.zero_add]
    have hmin : min i (r.n1 - 1) = i := min_eq_left (by omega)
    simp only [hq, hmin, Nat.add_sub_cancel]
    by_cases z2 : r.s2 = 0
    · simp only [z2, if_true, beq_iff_eq] at hs
      have : j = 0 := by omega
      simp [z2, this]
    · simp only [z2, if_false, Nat.mul_mod_right, Nat.mul_div_cancel_left j (Nat.pos_of_ne_zero z2), hj, and_self, if_true]

theorem findReg_addr {l : List Reg} {r : Reg} (hm : r ∈ l) (hsh : ∀ q ∈ l, q.shape = true) (hap : ∀ q ∈ l, r = q ∨ r.apart q = true)
    {i j : Nat} (hi : i < r.n1) (hj : j < r.n2) : findReg l (r.addr i j) = some (r, i, j) := by
  induction l with
  | nil => cases hm
  | cons q l ih =>
    simp only [findReg]
    by_cases e : r = q
    · subst e; rw [Reg.index_addr (hsh _ (List.mem_cons_self ..)) hi hj]
    · have hap' := (hap q (List.mem_cons_self ..)).resolve_left e
      cases h : q.index (r.addr i j) with
      | some p =>
        obtain ⟨k, l⟩ := p
        obtain ⟨h1, h2, h3⟩ := Reg.index_some (hsh _ (List.mem_cons_self ..)) h
        exact absurd h3.symm (Reg.addr_ne_of_apart hap' hi hj h1 h2)
      | none =>
        exact ih (List.mem_of_ne_of_mem e hm) (fun x hx => hsh x (List.mem_cons_of_mem _ hx)) (fun x hx => hap x (List.mem_cons_of_mem _ hx))

/-- What the registers of one block satisfy. -/
def blockOk (b : Nat) : Bool :=
  (regsOfBlock b).all (fun r => r.shape && decide (0x10000 * b ≤ r.base) && decide (r.last < 0x10000 * (b + 1))
    && r.base % 4 == 0 && r.s1 % 4 == 0 && r.s2 % 4 == 0 && (regsOfBlock b).all (fun q => r == q || r.apart q))

theorem blockOk_all (b : Nat) : blockOk b = true := by
  by_cases h : b < 19
  · have h0 : ∀ c < 19, blockOk c = true := by decide +kernel
    exact h0 b h
  · obtain ⟨c, rfl⟩ : ∃ c, b = c + 19 := ⟨b - 19, by omega⟩
    rfl

/-- Everything the map's laws need of one register. -/
theorem regsOfBlock_spec {b : Nat} {r : Reg} (hm : r ∈ regsOfBlock b) :
    r.shape = true ∧ 0x10000 * b ≤ r.base ∧ r.last < 0x10000 * (b + 1) ∧ r.base % 4 = 0 ∧ r.s1 % 4 = 0 ∧ r.s2 % 4 = 0
      ∧ ∀ q ∈ regsOfBlock b, r = q ∨ r.apart q = true := by
  have h := List.all_eq_true.1 (blockOk_all b) r hm
  simp only [Bool.and_eq_true, decide_eq_true_eq, beq_iff_eq] at h
  obtain ⟨⟨⟨⟨⟨⟨h1, h2⟩, h3⟩, h4⟩, h5⟩, h6⟩, h7⟩ := h
  refine ⟨h1, h2, h3, h4, h5, h6, fun q hq => ?_⟩
  have := List.all_eq_true.1 h7 q hq
  simpa using this

theorem lt_of_mem_regsOfBlock {b : Nat} {r : Reg} (hm : r ∈ regsOfBlock b) : b < 19 := by
  by_contra h
  obtain ⟨c, rfl⟩ : ∃ c, b = c + 19 := ⟨b - 19, by omega⟩
  cases hm

/-- The address of an element decodes to that element. -/
theorem decodeReg_addr {b : Nat} {r : Reg} (hm : r ∈ regsOfBlock b) {i j : Nat} (hi : i < r.n1) (hj : j < r.n2) :
    decodeReg (r.addr i j) = some (r, i, j) := by
  obtain ⟨_, h2, h3, _, _, _, h7⟩ := regsOfBlock_spec hm
  have e : r.addr i j / 0x10000 = b := by
    have := r.base_le_addr i j
    have := r.addr_le_last hi hj
    omega
  rw [decodeReg, e]
  exact findReg_addr hm (fun q hq => (regsOfBlock_spec hq).1) h7 hi hj

theorem findReg_some {l : List Reg} (hsh : ∀ q ∈ l, q.shape = true) {a i j : Nat} {r : Reg} (h : findReg l a = some (r, i, j)) :
    r ∈ l ∧ i < r.n1 ∧ j < r.n2 ∧ r.addr i j = a := by
  induction l with
  | nil => cases h
  | cons q l ih =>
    simp only [findReg] at h
    split at h
    · next k l' e =>
      cases h
      exact ⟨List.mem_cons_self .., Reg.index_some (hsh _ (List.mem_cons_self ..)) e⟩
    · obtain ⟨h1, h2⟩ := ih (fun x hx => hsh x (List.mem_cons_of_mem _ hx)) h
      exact ⟨List.mem_cons_of_mem _ h1, h2⟩

/-- An address that decodes names an element of a register that has it. -/
theorem decodeReg_some {a i j : Nat} {r : Reg} (h : decodeReg a = some (r, i, j)) :
    r ∈ regsOfBlock (a / 0x10000) ∧ i < r.n1 ∧ j < r.n2 ∧ r.addr i j = a :=
  findReg_some (fun _ hq => (regsOfBlock_spec hq).1) h

/-- Elements with one address are the same element. -/
theorem addr_inj {b c : Nat} {r q : Reg} (hr : r ∈ regsOfBlock b) (hq : q ∈ regsOfBlock c) {i j k l : Nat} (hi : i < r.n1) (hj : j < r.n2)
    (hk : k < q.n1) (hl : l < q.n2) (e : r.addr i j = q.addr k l) : r = q ∧ i = k ∧ j = l := by
  have h1 := decodeReg_addr hr hi hj
  have h2 := decodeReg_addr hq hk hl
  rw [e, h2] at h1
  cases h1
  exact ⟨rfl, rfl, rfl⟩

/-- The registers are those of the nineteen blocks. -/
theorem mem_allRegs {r : Reg} : r ∈ allRegs ↔ ∃ b, r ∈ regsOfBlock b := by
  constructor
  · intro h
    simp only [allRegs, List.mem_append] at h
    rcases h with (((((((((((((((((h | h) | h) | h) | h) | h) | h) | h) | h) | h) | h) | h) | h) | h) | h) | h) | h) | h) | h
    exacts [⟨0, h⟩, ⟨1, h⟩, ⟨2, h⟩, ⟨3, h⟩, ⟨4, h⟩, ⟨5, h⟩, ⟨6, h⟩, ⟨7, h⟩, ⟨8, h⟩, ⟨9, h⟩, ⟨10, h⟩, ⟨11, h⟩, ⟨12, h⟩, ⟨13, h⟩, ⟨14, h⟩,
      ⟨15, h⟩, ⟨16, h⟩, ⟨17, h⟩, ⟨18, h⟩]
  · rintro ⟨b, h⟩
    have hb := lt_of_mem_regsOfBlock h
    simp only [allRegs, List.mem_append]
    interval_cases b <;> simp only [regsOfBlock] at h <;> simp only [h, true_or, or_true]

/-- Register addresses are word addresses below the end of the register blocks. -/
theorem addr_window {b : Nat} {r : Reg} (hm : r ∈ regsOfBlock b) {i j : Nat} (hi : i < r.n1) (hj : j < r.n2) :
    r.addr i j % 4 = 0 ∧ r.addr i j < 0x130000 ∧ r.blk = b := by
  obtain ⟨_, h2, h3, h4, h5, h6, _⟩ := regsOfBlock_spec hm
  have hb := lt_of_mem_regsOfBlock hm
  have h7 := r.addr_le_last hi hj
  have h8 := r.base_le_addr i j
  refine ⟨?_, by omega, ?_⟩
  · rw [Reg.addr_mod r (Nat.dvd_of_mod_eq_zero h5) (Nat.dvd_of_mod_eq_zero h6)]; exact h4
  · rw [Reg.blk]; omega

end Sys2Proof.Machine
end

