-- ==== Sys2Proof/Laws/State.lean ====
section
/-! SUPPORT. What each named update of the device leaves of each field, true by computation: the lemmas by which a proof never unfolds
a record update. -/

namespace Sys2Proof.Machine

variable (d : Dev) (s : State) (r : Reg) (f : FRef) (w : Word) (v i j a : Nat) (e : Emit) (x : Due) (bs : List Byte)

/-! ### A register is written -/

@[simp] theorem Dev.wr_mem : (d.wr r w i j).mem = d.mem := rfl
@[simp] theorem Dev.wr_eccCor : (d.wr r w i j).eccCor = d.eccCor := rfl
@[simp] theorem Dev.wr_eccBad : (d.wr r w i j).eccBad = d.eccBad := rfl
@[simp] theorem Dev.wr_fuse : (d.wr r w i j).fuse = d.fuse := rfl
@[simp] theorem Dev.wr_tclk : (d.wr r w i j).tclk = d.tclk := rfl
@[simp] theorem Dev.wr_pace : (d.wr r w i j).pace = d.pace := rfl
@[simp] theorem Dev.wr_free : (d.wr r w i j).free = d.free := rfl
@[simp] theorem Dev.wr_period : (d.wr r w i j).period = d.period := rfl
@[simp] theorem Dev.wr_once : (d.wr r w i j).once = d.once := rfl
@[simp] theorem Dev.wr_timers : (d.wr r w i j).timers = d.timers := rfl
@[simp] theorem Dev.wr_imageApplied : (d.wr r w i j).imageApplied = d.imageApplied := rfl
@[simp] theorem Dev.wr_build : (d.wr r w i j).build = d.build := rfl
@[simp] theorem Dev.wr_out : (d.wr r w i j).out = d.out := rfl
@[simp] theorem Dev.wr_flt : (d.wr r w i j).flt = d.flt := rfl
@[simp] theorem Dev.wr_mgmt : (d.wr r w i j).mgmt = d.mgmt := rfl
@[simp] theorem Dev.wr_time : (d.wr r w i j).time = d.time := rfl
@[simp] theorem Dev.wr_perf : (d.wr r w i j).perf = d.perf := rfl
@[simp] theorem Dev.wr_pwr : (d.wr r w i j).pwr = d.pwr := rfl
@[simp] theorem Dev.wr_rcu : (d.wr r w i j).rcu = d.rcu := rfl
@[simp] theorem Dev.wr_dll : (d.wr r w i j).dll = d.dll := rfl
@[simp] theorem Dev.wr_dllLost : (d.wr r w i j).dllLost = d.dllLost := rfl
@[simp] theorem Dev.wr_aud : (d.wr r w i j).aud = d.aud := rfl
@[simp] theorem Dev.wr_asrc : (d.wr r w i j).asrc = d.asrc := rfl
@[simp] theorem Dev.wr_xpt : (d.wr r w i j).xpt = d.xpt := rfl
@[simp] theorem Dev.wr_psm : (d.wr r w i j).psm = d.psm := rfl
@[simp] theorem Dev.wr_dips : (d.wr r w i j).dips = d.dips := rfl
@[simp] theorem Dev.wr_pair : (d.wr r w i j).pair = d.pair := rfl
@[simp] theorem Dev.wr_cyc : (d.wr r w i j).cyc = d.cyc := rfl
@[simp] theorem Dev.wr_sap : (d.wr r w i j).sap = d.sap := rfl
@[simp] theorem Dev.wr_sapG : (d.wr r w i j).sapG = d.sapG := rfl
@[simp] theorem Dev.wr_hlk : (d.wr r w i j).hlk = d.hlk := rfl
@[simp] theorem Dev.wr_hfb : (d.wr r w i j).hfb = d.hfb := rfl
@[simp] theorem Dev.wr_flow : (d.wr r w i j).flow = d.flow := rfl
@[simp] theorem Dev.wr_retained : (d.wr r w i j).retained = d.retained := rfl
@[simp] theorem Dev.wr_str : (d.wr r w i j).str = d.str := rfl
@[simp] theorem Dev.wr_txts : (d.wr r w i j).txts = d.txts := rfl
@[simp] theorem Dev.wr_ethRetained : (d.wr r w i j).ethRetained = d.ethRetained := rfl
@[simp] theorem Dev.wr_thk : (d.wr r w i j).thk = d.thk := rfl
@[simp] theorem Dev.wr_boot : (d.wr r w i j).boot = d.boot := rfl
@[simp] theorem Dev.wr_test : (d.wr r w i j).test = d.test := rfl
@[simp] theorem Dev.wr_errN : (d.wr r w i j).errN = d.errN := rfl
@[simp] theorem Dev.wr_irqN : (d.wr r w i j).irqN = d.irqN := rfl
@[simp] theorem Dev.wr_resetN : (d.wr r w i j).resetN = d.resetN := rfl

/-! ### A field is written -/

@[simp] theorem Dev.put_mem : (d.put f v i j).mem = d.mem := rfl
@[simp] theorem Dev.put_eccCor : (d.put f v i j).eccCor = d.eccCor := rfl
@[simp] theorem Dev.put_eccBad : (d.put f v i j).eccBad = d.eccBad := rfl
@[simp] theorem Dev.put_fuse : (d.put f v i j).fuse = d.fuse := rfl
@[simp] theorem Dev.put_tclk : (d.put f v i j).tclk = d.tclk := rfl
@[simp] theorem Dev.put_pace : (d.put f v i j).pace = d.pace := rfl
@[simp] theorem Dev.put_free : (d.put f v i j).free = d.free := rfl
@[simp] theorem Dev.put_period : (d.put f v i j).period = d.period := rfl
@[simp] theorem Dev.put_once : (d.put f v i j).once = d.once := rfl
@[simp] theorem Dev.put_timers : (d.put f v i j).timers = d.timers := rfl
@[simp] theorem Dev.put_imageApplied : (d.put f v i j).imageApplied = d.imageApplied := rfl
@[simp] theorem Dev.put_build : (d.put f v i j).build = d.build := rfl
@[simp] theorem Dev.put_out : (d.put f v i j).out = d.out := rfl
@[simp] theorem Dev.put_flt : (d.put f v i j).flt = d.flt := rfl
@[simp] theorem Dev.put_mgmt : (d.put f v i j).mgmt = d.mgmt := rfl
@[simp] theorem Dev.put_time : (d.put f v i j).time = d.time := rfl
@[simp] theorem Dev.put_perf : (d.put f v i j).perf = d.perf := rfl
@[simp] theorem Dev.put_pwr : (d.put f v i j).pwr = d.pwr := rfl
@[simp] theorem Dev.put_rcu : (d.put f v i j).rcu = d.rcu := rfl
@[simp] theorem Dev.put_dll : (d.put f v i j).dll = d.dll := rfl
@[simp] theorem Dev.put_dllLost : (d.put f v i j).dllLost = d.dllLost := rfl
@[simp] theorem Dev.put_aud : (d.put f v i j).aud = d.aud := rfl
@[simp] theorem Dev.put_asrc : (d.put f v i j).asrc = d.asrc := rfl
@[simp] theorem Dev.put_xpt : (d.put f v i j).xpt = d.xpt := rfl
@[simp] theorem Dev.put_psm : (d.put f v i j).psm = d.psm := rfl
@[simp] theorem Dev.put_dips : (d.put f v i j).dips = d.dips := rfl
@[simp] theorem Dev.put_pair : (d.put f v i j).pair = d.pair := rfl
@[simp] theorem Dev.put_cyc : (d.put f v i j).cyc = d.cyc := rfl
@[simp] theorem Dev.put_sap : (d.put f v i j).sap = d.sap := rfl
@[simp] theorem Dev.put_sapG : (d.put f v i j).sapG = d.sapG := rfl
@[simp] theorem Dev.put_hlk : (d.put f v i j).hlk = d.hlk := rfl
@[simp] theorem Dev.put_hfb : (d.put f v i j).hfb = d.hfb := rfl
@[simp] theorem Dev.put_flow : (d.put f v i j).flow = d.flow := rfl
@[simp] theorem Dev.put_retained : (d.put f v i j).retained = d.retained := rfl
@[simp] theorem Dev.put_str : (d.put f v i j).str = d.str := rfl
@[simp] theorem Dev.put_txts : (d.put f v i j).txts = d.txts := rfl
@[simp] theorem Dev.put_ethRetained : (d.put f v i j).ethRetained = d.ethRetained := rfl
@[simp] theorem Dev.put_thk : (d.put f v i j).thk = d.thk := rfl
@[simp] theorem Dev.put_boot : (d.put f v i j).boot = d.boot := rfl
@[simp] theorem Dev.put_test : (d.put f v i j).test = d.test := rfl
@[simp] theorem Dev.put_errN : (d.put f v i j).errN = d.errN := rfl
@[simp] theorem Dev.put_irqN : (d.put f v i j).irqN = d.irqN := rfl
@[simp] theorem Dev.put_resetN : (d.put f v i j).resetN = d.resetN := rfl

/-! ### Bytes are written -/

@[simp] theorem Dev.setBytes_regs : (d.setBytes a bs).regs = d.regs := rfl
@[simp] theorem Dev.setBytes_fuse : (d.setBytes a bs).fuse = d.fuse := rfl
@[simp] theorem Dev.setBytes_tclk : (d.setBytes a bs).tclk = d.tclk := rfl
@[simp] theorem Dev.setBytes_pace : (d.setBytes a bs).pace = d.pace := rfl
@[simp] theorem Dev.setBytes_free : (d.setBytes a bs).free = d.free := rfl
@[simp] theorem Dev.setBytes_period : (d.setBytes a bs).period = d.period := rfl
@[simp] theorem Dev.setBytes_once : (d.setBytes a bs).once = d.once := rfl
@[simp] theorem Dev.setBytes_timers : (d.setBytes a bs).timers = d.timers := rfl
@[simp] theorem Dev.setBytes_imageApplied : (d.setBytes a bs).imageApplied = d.imageApplied := rfl
@[simp] theorem Dev.setBytes_build : (d.setBytes a bs).build = d.build := rfl
@[simp] theorem Dev.setBytes_out : (d.setBytes a bs).out = d.out := rfl
@[simp] theorem Dev.setBytes_flt : (d.setBytes a bs).flt = d.flt := rfl
@[simp] theorem Dev.setBytes_mgmt : (d.setBytes a bs).mgmt = d.mgmt := rfl
@[simp] theorem Dev.setBytes_time : (d.setBytes a bs).time = d.time := rfl
@[simp] theorem Dev.setBytes_perf : (d.setBytes a bs).perf = d.perf := rfl
@[simp] theorem Dev.setBytes_pwr : (d.setBytes a bs).pwr = d.pwr := rfl
@[simp] theorem Dev.setBytes_rcu : (d.setBytes a bs).rcu = d.rcu := rfl
@[simp] theorem Dev.setBytes_dll : (d.setBytes a bs).dll = d.dll := rfl
@[simp] theorem Dev.setBytes_dllLost : (d.setBytes a bs).dllLost = d.dllLost := rfl
@[simp] theorem Dev.setBytes_aud : (d.setBytes a bs).aud = d.aud := rfl
@[simp] theorem Dev.setBytes_asrc : (d.setBytes a bs).asrc = d.asrc := rfl
@[simp] theorem Dev.setBytes_xpt : (d.setBytes a bs).xpt = d.xpt := rfl
@[simp] theorem Dev.setBytes_psm : (d.setBytes a bs).psm = d.psm := rfl
@[simp] theorem Dev.setBytes_dips : (d.setBytes a bs).dips = d.dips := rfl
@[simp] theorem Dev.setBytes_pair : (d.setBytes a bs).pair = d.pair := rfl
@[simp] theorem Dev.setBytes_cyc : (d.setBytes a bs).cyc = d.cyc := rfl
@[simp] theorem Dev.setBytes_sap : (d.setBytes a bs).sap = d.sap := rfl
@[simp] theorem Dev.setBytes_sapG : (d.setBytes a bs).sapG = d.sapG := rfl
@[simp] theorem Dev.setBytes_hlk : (d.setBytes a bs).hlk = d.hlk := rfl
@[simp] theorem Dev.setBytes_hfb : (d.setBytes a bs).hfb = d.hfb := rfl
@[simp] theorem Dev.setBytes_flow : (d.setBytes a bs).flow = d.flow := rfl
@[simp] theorem Dev.setBytes_retained : (d.setBytes a bs).retained = d.retained := rfl
@[simp] theorem Dev.setBytes_str : (d.setBytes a bs).str = d.str := rfl
@[simp] theorem Dev.setBytes_txts : (d.setBytes a bs).txts = d.txts := rfl
@[simp] theorem Dev.setBytes_ethRetained : (d.setBytes a bs).ethRetained = d.ethRetained := rfl
@[simp] theorem Dev.setBytes_thk : (d.setBytes a bs).thk = d.thk := rfl
@[simp] theorem Dev.setBytes_boot : (d.setBytes a bs).boot = d.boot := rfl
@[simp] theorem Dev.setBytes_test : (d.setBytes a bs).test = d.test := rfl
@[simp] theorem Dev.setBytes_errN : (d.setBytes a bs).errN = d.errN := rfl
@[simp] theorem Dev.setBytes_irqN : (d.setBytes a bs).irqN = d.irqN := rfl
@[simp] theorem Dev.setBytes_resetN : (d.setBytes a bs).resetN = d.resetN := rfl
@[simp] theorem Dev.setBytes_mem : (d.setBytes a bs).mem = memPutBytes d.mem a bs := rfl

/-! ### A range of memory is cleared -/

@[simp] theorem Dev.clearRange_regs : (d.clearRange v a).regs = d.regs := rfl
@[simp] theorem Dev.clearRange_fuse : (d.clearRange v a).fuse = d.fuse := rfl
@[simp] theorem Dev.clearRange_tclk : (d.clearRange v a).tclk = d.tclk := rfl
@[simp] theorem Dev.clearRange_pace : (d.clearRange v a).pace = d.pace := rfl
@[simp] theorem Dev.clearRange_free : (d.clearRange v a).free = d.free := rfl
@[simp] theorem Dev.clearRange_period : (d.clearRange v a).period = d.period := rfl
@[simp] theorem Dev.clearRange_once : (d.clearRange v a).once = d.once := rfl
@[simp] theorem Dev.clearRange_timers : (d.clearRange v a).timers = d.timers := rfl
@[simp] theorem Dev.clearRange_imageApplied : (d.clearRange v a).imageApplied = d.imageApplied := rfl
@[simp] theorem Dev.clearRange_build : (d.clearRange v a).build = d.build := rfl
@[simp] theorem Dev.clearRange_out : (d.clearRange v a).out = d.out := rfl
@[simp] theorem Dev.clearRange_flt : (d.clearRange v a).flt = d.flt := rfl
@[simp] theorem Dev.clearRange_mgmt : (d.clearRange v a).mgmt = d.mgmt := rfl
@[simp] theorem Dev.clearRange_time : (d.clearRange v a).time = d.time := rfl
@[simp] theorem Dev.clearRange_perf : (d.clearRange v a).perf = d.perf := rfl
@[simp] theorem Dev.clearRange_pwr : (d.clearRange v a).pwr = d.pwr := rfl
@[simp] theorem Dev.clearRange_rcu : (d.clearRange v a).rcu = d.rcu := rfl
@[simp] theorem Dev.clearRange_dll : (d.clearRange v a).dll = d.dll := rfl
@[simp] theorem Dev.clearRange_dllLost : (d.clearRange v a).dllLost = d.dllLost := rfl
@[simp] theorem Dev.clearRange_aud : (d.clearRange v a).aud = d.aud := rfl
@[simp] theorem Dev.clearRange_asrc : (d.clearRange v a).asrc = d.asrc := rfl
@[simp] theorem Dev.clearRange_xpt : (d.clearRange v a).xpt = d.xpt := rfl
@[simp] theorem Dev.clearRange_psm : (d.clearRange v a).psm = d.psm := rfl
@[simp] theorem Dev.clearRange_dips : (d.clearRange v a).dips = d.dips := rfl
@[simp] theorem Dev.clearRange_pair : (d.clearRange v a).pair = d.pair := rfl
@[simp] theorem Dev.clearRange_cyc : (d.clearRange v a).cyc = d.cyc := rfl
@[simp] theorem Dev.clearRange_sap : (d.clearRange v a).sap = d.sap := rfl
@[simp] theorem Dev.clearRange_sapG : (d.clearRange v a).sapG = d.sapG := rfl
@[simp] theorem Dev.clearRange_hlk : (d.clearRange v a).hlk = d.hlk := rfl
@[simp] theorem Dev.clearRange_hfb : (d.clearRange v a).hfb = d.hfb := rfl
@[simp] theorem Dev.clearRange_flow : (d.clearRange v a).flow = d.flow := rfl
@[simp] theorem Dev.clearRange_retained : (d.clearRange v a).retained = d.retained := rfl
@[simp] theorem Dev.clearRange_str : (d.clearRange v a).str = d.str := rfl
@[simp] theorem Dev.clearRange_txts : (d.clearRange v a).txts = d.txts := rfl
@[simp] theorem Dev.clearRange_ethRetained : (d.clearRange v a).ethRetained = d.ethRetained := rfl
@[simp] theorem Dev.clearRange_thk : (d.clearRange v a).thk = d.thk := rfl
@[simp] theorem Dev.clearRange_boot : (d.clearRange v a).boot = d.boot := rfl
@[simp] theorem Dev.clearRange_test : (d.clearRange v a).test = d.test := rfl
@[simp] theorem Dev.clearRange_errN : (d.clearRange v a).errN = d.errN := rfl
@[simp] theorem Dev.clearRange_irqN : (d.clearRange v a).irqN = d.irqN := rfl
@[simp] theorem Dev.clearRange_resetN : (d.clearRange v a).resetN = d.resetN := rfl

/-! ### Something leaves the chip -/

@[simp] theorem Dev.emit_regs : (d.emit e).regs = d.regs := rfl
@[simp] theorem Dev.emit_mem : (d.emit e).mem = d.mem := rfl
@[simp] theorem Dev.emit_eccCor : (d.emit e).eccCor = d.eccCor := rfl
@[simp] theorem Dev.emit_eccBad : (d.emit e).eccBad = d.eccBad := rfl
@[simp] theorem Dev.emit_fuse : (d.emit e).fuse = d.fuse := rfl
@[simp] theorem Dev.emit_tclk : (d.emit e).tclk = d.tclk := rfl
@[simp] theorem Dev.emit_pace : (d.emit e).pace = d.pace := rfl
@[simp] theorem Dev.emit_free : (d.emit e).free = d.free := rfl
@[simp] theorem Dev.emit_period : (d.emit e).period = d.period := rfl
@[simp] theorem Dev.emit_once : (d.emit e).once = d.once := rfl
@[simp] theorem Dev.emit_timers : (d.emit e).timers = d.timers := rfl
@[simp] theorem Dev.emit_imageApplied : (d.emit e).imageApplied = d.imageApplied := rfl
@[simp] theorem Dev.emit_build : (d.emit e).build = d.build := rfl
@[simp] theorem Dev.emit_flt : (d.emit e).flt = d.flt := rfl
@[simp] theorem Dev.emit_mgmt : (d.emit e).mgmt = d.mgmt := rfl
@[simp] theorem Dev.emit_time : (d.emit e).time = d.time := rfl
@[simp] theorem Dev.emit_perf : (d.emit e).perf = d.perf := rfl
@[simp] theorem Dev.emit_pwr : (d.emit e).pwr = d.pwr := rfl
@[simp] theorem Dev.emit_rcu : (d.emit e).rcu = d.rcu := rfl
@[simp] theorem Dev.emit_dll : (d.emit e).dll = d.dll := rfl
@[simp] theorem Dev.emit_dllLost : (d.emit e).dllLost = d.dllLost := rfl
@[simp] theorem Dev.emit_aud : (d.emit e).aud = d.aud := rfl
@[simp] theorem Dev.emit_asrc : (d.emit e).asrc = d.asrc := rfl
@[simp] theorem Dev.emit_xpt : (d.emit e).xpt = d.xpt := rfl
@[simp] theorem Dev.emit_psm : (d.emit e).psm = d.psm := rfl
@[simp] theorem Dev.emit_dips : (d.emit e).dips = d.dips := rfl
@[simp] theorem Dev.emit_pair : (d.emit e).pair = d.pair := rfl
@[simp] theorem Dev.emit_cyc : (d.emit e).cyc = d.cyc := rfl
@[simp] theorem Dev.emit_sap : (d.emit e).sap = d.sap := rfl
@[simp] theorem Dev.emit_sapG : (d.emit e).sapG = d.sapG := rfl
@[simp] theorem Dev.emit_hlk : (d.emit e).hlk = d.hlk := rfl
@[simp] theorem Dev.emit_hfb : (d.emit e).hfb = d.hfb := rfl
@[simp] theorem Dev.emit_flow : (d.emit e).flow = d.flow := rfl
@[simp] theorem Dev.emit_retained : (d.emit e).retained = d.retained := rfl
@[simp] theorem Dev.emit_str : (d.emit e).str = d.str := rfl
@[simp] theorem Dev.emit_txts : (d.emit e).txts = d.txts := rfl
@[simp] theorem Dev.emit_ethRetained : (d.emit e).ethRetained = d.ethRetained := rfl
@[simp] theorem Dev.emit_thk : (d.emit e).thk = d.thk := rfl
@[simp] theorem Dev.emit_boot : (d.emit e).boot = d.boot := rfl
@[simp] theorem Dev.emit_test : (d.emit e).test = d.test := rfl
@[simp] theorem Dev.emit_errN : (d.emit e).errN = d.errN := rfl
@[simp] theorem Dev.emit_irqN : (d.emit e).irqN = d.irqN := rfl
@[simp] theorem Dev.emit_resetN : (d.emit e).resetN = d.resetN := rfl
@[simp] theorem Dev.emit_out : (d.emit e).out = if d.test.drive && !e.offScan then d.out else e :: d.out := rfl

/-! ### A reset becomes due -/

@[simp] theorem Dev.addDue_regs : (d.addDue x).regs = d.regs := rfl
@[simp] theorem Dev.addDue_mem : (d.addDue x).mem = d.mem := rfl
@[simp] theorem Dev.addDue_eccCor : (d.addDue x).eccCor = d.eccCor := rfl
@[simp] theorem Dev.addDue_eccBad : (d.addDue x).eccBad = d.eccBad := rfl
@[simp] theorem Dev.addDue_fuse : (d.addDue x).fuse = d.fuse := rfl
@[simp] theorem Dev.addDue_tclk : (d.addDue x).tclk = d.tclk := rfl
@[simp] theorem Dev.addDue_pace : (d.addDue x).pace = d.pace := rfl
@[simp] theorem Dev.addDue_free : (d.addDue x).free = d.free := rfl
@[simp] theorem Dev.addDue_period : (d.addDue x).period = d.period := rfl
@[simp] theorem Dev.addDue_once : (d.addDue x).once = d.once := rfl
@[simp] theorem Dev.addDue_timers : (d.addDue x).timers = d.timers := rfl
@[simp] theorem Dev.addDue_imageApplied : (d.addDue x).imageApplied = d.imageApplied := rfl
@[simp] theorem Dev.addDue_build : (d.addDue x).build = d.build := rfl
@[simp] theorem Dev.addDue_out : (d.addDue x).out = d.out := rfl
@[simp] theorem Dev.addDue_mgmt : (d.addDue x).mgmt = d.mgmt := rfl
@[simp] theorem Dev.addDue_time : (d.addDue x).time = d.time := rfl
@[simp] theorem Dev.addDue_perf : (d.addDue x).perf = d.perf := rfl
@[simp] theorem Dev.addDue_pwr : (d.addDue x).pwr = d.pwr := rfl
@[simp] theorem Dev.addDue_rcu : (d.addDue x).rcu = d.rcu := rfl
@[simp] theorem Dev.addDue_dll : (d.addDue x).dll = d.dll := rfl
@[simp] theorem Dev.addDue_dllLost : (d.addDue x).dllLost = d.dllLost := rfl
@[simp] theorem Dev.addDue_aud : (d.addDue x).aud = d.aud := rfl
@[simp] theorem Dev.addDue_asrc : (d.addDue x).asrc = d.asrc := rfl
@[simp] theorem Dev.addDue_xpt : (d.addDue x).xpt = d.xpt := rfl
@[simp] theorem Dev.addDue_psm : (d.addDue x).psm = d.psm := rfl
@[simp] theorem Dev.addDue_dips : (d.addDue x).dips = d.dips := rfl
@[simp] theorem Dev.addDue_pair : (d.addDue x).pair = d.pair := rfl
@[simp] theorem Dev.addDue_cyc : (d.addDue x).cyc = d.cyc := rfl
@[simp] theorem Dev.addDue_sap : (d.addDue x).sap = d.sap := rfl
@[simp] theorem Dev.addDue_sapG : (d.addDue x).sapG = d.sapG := rfl
@[simp] theorem Dev.addDue_hlk : (d.addDue x).hlk = d.hlk := rfl
@[simp] theorem Dev.addDue_hfb : (d.addDue x).hfb = d.hfb := rfl
@[simp] theorem Dev.addDue_flow : (d.addDue x).flow = d.flow := rfl
@[simp] theorem Dev.addDue_retained : (d.addDue x).retained = d.retained := rfl
@[simp] theorem Dev.addDue_str : (d.addDue x).str = d.str := rfl
@[simp] theorem Dev.addDue_txts : (d.addDue x).txts = d.txts := rfl
@[simp] theorem Dev.addDue_ethRetained : (d.addDue x).ethRetained = d.ethRetained := rfl
@[simp] theorem Dev.addDue_thk : (d.addDue x).thk = d.thk := rfl
@[simp] theorem Dev.addDue_boot : (d.addDue x).boot = d.boot := rfl
@[simp] theorem Dev.addDue_test : (d.addDue x).test = d.test := rfl
@[simp] theorem Dev.addDue_errN : (d.addDue x).errN = d.errN := rfl
@[simp] theorem Dev.addDue_irqN : (d.addDue x).irqN = d.irqN := rfl
@[simp] theorem Dev.addDue_resetN : (d.addDue x).resetN = d.resetN := rfl

/-! ### The pins follow -/

@[simp] theorem Dev.pins_regs : (d.pins).regs = d.regs := rfl
@[simp] theorem Dev.pins_mem : (d.pins).mem = d.mem := rfl
@[simp] theorem Dev.pins_eccCor : (d.pins).eccCor = d.eccCor := rfl
@[simp] theorem Dev.pins_eccBad : (d.pins).eccBad = d.eccBad := rfl
@[simp] theorem Dev.pins_fuse : (d.pins).fuse = d.fuse := rfl
@[simp] theorem Dev.pins_tclk : (d.pins).tclk = d.tclk := rfl
@[simp] theorem Dev.pins_pace : (d.pins).pace = d.pace := rfl
@[simp] theorem Dev.pins_free : (d.pins).free = d.free := rfl
@[simp] theorem Dev.pins_period : (d.pins).period = d.period := rfl
@[simp] theorem Dev.pins_once : (d.pins).once = d.once := rfl
@[simp] theorem Dev.pins_timers : (d.pins).timers = d.timers := rfl
@[simp] theorem Dev.pins_imageApplied : (d.pins).imageApplied = d.imageApplied := rfl
@[simp] theorem Dev.pins_build : (d.pins).build = d.build := rfl
@[simp] theorem Dev.pins_out : (d.pins).out = d.out := rfl
@[simp] theorem Dev.pins_flt : (d.pins).flt = d.flt := rfl
@[simp] theorem Dev.pins_mgmt : (d.pins).mgmt = d.mgmt := rfl
@[simp] theorem Dev.pins_time : (d.pins).time = d.time := rfl
@[simp] theorem Dev.pins_perf : (d.pins).perf = d.perf := rfl
@[simp] theorem Dev.pins_pwr : (d.pins).pwr = d.pwr := rfl
@[simp] theorem Dev.pins_rcu : (d.pins).rcu = d.rcu := rfl
@[simp] theorem Dev.pins_dll : (d.pins).dll = d.dll := rfl
@[simp] theorem Dev.pins_dllLost : (d.pins).dllLost = d.dllLost := rfl
@[simp] theorem Dev.pins_aud : (d.pins).aud = d.aud := rfl
@[simp] theorem Dev.pins_asrc : (d.pins).asrc = d.asrc := rfl
@[simp] theorem Dev.pins_xpt : (d.pins).xpt = d.xpt := rfl
@[simp] theorem Dev.pins_psm : (d.pins).psm = d.psm := rfl
@[simp] theorem Dev.pins_dips : (d.pins).dips = d.dips := rfl
@[simp] theorem Dev.pins_pair : (d.pins).pair = d.pair := rfl
@[simp] theorem Dev.pins_cyc : (d.pins).cyc = d.cyc := rfl
@[simp] theorem Dev.pins_sap : (d.pins).sap = d.sap := rfl
@[simp] theorem Dev.pins_sapG : (d.pins).sapG = d.sapG := rfl
@[simp] theorem Dev.pins_hlk : (d.pins).hlk = d.hlk := rfl
@[simp] theorem Dev.pins_hfb : (d.pins).hfb = d.hfb := rfl
@[simp] theorem Dev.pins_flow : (d.pins).flow = d.flow := rfl
@[simp] theorem Dev.pins_retained : (d.pins).retained = d.retained := rfl
@[simp] theorem Dev.pins_str : (d.pins).str = d.str := rfl
@[simp] theorem Dev.pins_txts : (d.pins).txts = d.txts := rfl
@[simp] theorem Dev.pins_ethRetained : (d.pins).ethRetained = d.ethRetained := rfl
@[simp] theorem Dev.pins_thk : (d.pins).thk = d.thk := rfl
@[simp] theorem Dev.pins_boot : (d.pins).boot = d.boot := rfl
@[simp] theorem Dev.pins_test : (d.pins).test = d.test := rfl
@[simp] theorem Dev.pins_resetN : (d.pins).resetN = d.resetN := rfl
@[simp] theorem Dev.pins_errN : (d.pins).errN = !d.errLow := rfl
@[simp] theorem Dev.pins_irqN : (d.pins).irqN = !d.irqLow := rfl

/-! ### A free value is drawn -/

@[simp] theorem Dev.draw_regs : (d.draw.2).regs = d.regs := rfl
@[simp] theorem Dev.draw_mem : (d.draw.2).mem = d.mem := rfl
@[simp] theorem Dev.draw_eccCor : (d.draw.2).eccCor = d.eccCor := rfl
@[simp] theorem Dev.draw_eccBad : (d.draw.2).eccBad = d.eccBad := rfl
@[simp] theorem Dev.draw_fuse : (d.draw.2).fuse = d.fuse := rfl
@[simp] theorem Dev.draw_tclk : (d.draw.2).tclk = d.tclk := rfl
@[simp] theorem Dev.draw_pace : (d.draw.2).pace = d.pace := rfl
@[simp] theorem Dev.draw_period : (d.draw.2).period = d.period := rfl
@[simp] theorem Dev.draw_once : (d.draw.2).once = d.once := rfl
@[simp] theorem Dev.draw_timers : (d.draw.2).timers = d.timers := rfl
@[simp] theorem Dev.draw_imageApplied : (d.draw.2).imageApplied = d.imageApplied := rfl
@[simp] theorem Dev.draw_build : (d.draw.2).build = d.build := rfl
@[simp] theorem Dev.draw_out : (d.draw.2).out = d.out := rfl
@[simp] theorem Dev.draw_flt : (d.draw.2).flt = d.flt := rfl
@[simp] theorem Dev.draw_mgmt : (d.draw.2).mgmt = d.mgmt := rfl
@[simp] theorem Dev.draw_time : (d.draw.2).time = d.time := rfl
@[simp] theorem Dev.draw_perf : (d.draw.2).perf = d.perf := rfl
@[simp] theorem Dev.draw_pwr : (d.draw.2).pwr = d.pwr := rfl
@[simp] theorem Dev.draw_rcu : (d.draw.2).rcu = d.rcu := rfl
@[simp] theorem Dev.draw_dll : (d.draw.2).dll = d.dll := rfl
@[simp] theorem Dev.draw_dllLost : (d.draw.2).dllLost = d.dllLost := rfl
@[simp] theorem Dev.draw_aud : (d.draw.2).aud = d.aud := rfl
@[simp] theorem Dev.draw_asrc : (d.draw.2).asrc = d.asrc := rfl
@[simp] theorem Dev.draw_xpt : (d.draw.2).xpt = d.xpt := rfl
@[simp] theorem Dev.draw_psm : (d.draw.2).psm = d.psm := rfl
@[simp] theorem Dev.draw_dips : (d.draw.2).dips = d.dips := rfl
@[simp] theorem Dev.draw_pair : (d.draw.2).pair = d.pair := rfl
@[simp] theorem Dev.draw_cyc : (d.draw.2).cyc = d.cyc := rfl
@[simp] theorem Dev.draw_sap : (d.draw.2).sap = d.sap := rfl
@[simp] theorem Dev.draw_sapG : (d.draw.2).sapG = d.sapG := rfl
@[simp] theorem Dev.draw_hlk : (d.draw.2).hlk = d.hlk := rfl
@[simp] theorem Dev.draw_hfb : (d.draw.2).hfb = d.hfb := rfl
@[simp] theorem Dev.draw_flow : (d.draw.2).flow = d.flow := rfl
@[simp] theorem Dev.draw_retained : (d.draw.2).retained = d.retained := rfl
@[simp] theorem Dev.draw_str : (d.draw.2).str = d.str := rfl
@[simp] theorem Dev.draw_txts : (d.draw.2).txts = d.txts := rfl
@[simp] theorem Dev.draw_ethRetained : (d.draw.2).ethRetained = d.ethRetained := rfl
@[simp] theorem Dev.draw_thk : (d.draw.2).thk = d.thk := rfl
@[simp] theorem Dev.draw_boot : (d.draw.2).boot = d.boot := rfl
@[simp] theorem Dev.draw_test : (d.draw.2).test = d.test := rfl
@[simp] theorem Dev.draw_errN : (d.draw.2).errN = d.errN := rfl
@[simp] theorem Dev.draw_irqN : (d.draw.2).irqN = d.irqN := rfl
@[simp] theorem Dev.draw_resetN : (d.draw.2).resetN = d.resetN := rfl
@[simp] theorem Dev.draw_free : (d.draw.2).free = d.free + 1 := rfl

/-! ### A command leaves the queue alone -/

@[simp] theorem State.after_eq (g : Dev → Dev) : s.after g = .next { s with dev := g s.dev } := rfl

end Sys2Proof.Machine
end

