-- ==== Sys2Proof/Laws/Tab.lean ====
section
/-! SUPPORT. Laws of the sparse tables: what a key reads as after a write, and the canonical form. -/

namespace Sys2Proof.Machine

variable {α : Type}

theorem tabGet_tabDel_same (d : α) (t : Tab α) (q : Nat) : tabGet d (tabDel t q) q = d := by
  induction t with
  | nil => rfl
  | cons h t ih =>
    obtain ⟨k, v⟩ := h
    by_cases e : q = k
    · simp [tabDel, e]; rw [← e]; exact ih
    · simp [tabDel, tabGet, e, ih]

theorem tabGet_tabDel_ne (d : α) (t : Tab α) {q k : Nat} (h : k ≠ q) : tabGet d (tabDel t q) k = tabGet d t k := by
  induction t with
  | nil => rfl
  | cons x t ih =>
    obtain ⟨c, v⟩ := x
    by_cases e : q = c
    · subst e; simp [tabDel, tabGet, h, ih]
    · by_cases e' : k = c <;> simp [tabDel, tabGet, e, e', ih]

theorem tabGet_tabIns_same (d : α) (t : Tab α) (q : Nat) (x : α) : tabGet d (tabIns t q x) q = x := by
  induction t with
  | nil => simp [tabIns, tabGet]
  | cons h t ih =>
    obtain ⟨k, v⟩ := h
    rcases lt_trichotomy q k with e | e | e
    · simp [tabIns, tabGet, e]
    · simp [tabIns, tabGet, e]
    · have h1 : ¬ q < k := by omega
      have h2 : ¬ q = k := by omega
      simp [tabIns, tabGet, h1, h2, ih]

theorem tabGet_tabIns_ne (d : α) (t : Tab α) {q k : Nat} (x : α) (h : k ≠ q) : tabGet d (tabIns t q x) k = tabGet d t k := by
  induction t with
  | nil => simp [tabIns, tabGet, h]
  | cons y t ih =>
    obtain ⟨c, v⟩ := y
    by_cases h1 : q < c
    · simp [tabIns, tabGet, h1, h]
    · by_cases h2 : q = c
      · subst h2; simp [tabIns, tabGet, h]
      · by_cases h3 : k = c <;> simp [tabIns, tabGet, h1, h2, h3, ih]

variable [DecidableEq α]

/-- A key reads what was written to it. -/
theorem tabGet_tabPut_same (d : α) (t : Tab α) (q : Nat) (x : α) : tabGet d (tabPut d t q x) q = x := by
  unfold tabPut
  split
  · next h => rw [tabGet_tabDel_same, h]
  · exact tabGet_tabIns_same d t q x

/-- A write leaves every other key alone, whatever an absent key reads as. -/
theorem tabGet_tabPut_ne (d e : α) (t : Tab α) {q k : Nat} (x : α) (h : k ≠ q) : tabGet d (tabPut e t q x) k = tabGet d t k := by
  unfold tabPut
  split
  · exact tabGet_tabDel_ne d t h
  · exact tabGet_tabIns_ne d t x h

theorem tabGet_tabPut (d : α) (t : Tab α) (q k : Nat) (x : α) : tabGet d (tabPut d t q x) k = if k = q then x else tabGet d t k := by
  by_cases h : k = q
  · subst h; simp [tabGet_tabPut_same]
  · simp [h, tabGet_tabPut_ne d d t x h]

theorem tabWfFrom_mono (d : α) {lo lo' : Nat} (h : lo' ≤ lo) (t : Tab α) : tabWfFrom d lo t = true → tabWfFrom d lo' t = true := by
  cases t with
  | nil => intro; rfl
  | cons x t =>
    obtain ⟨k, v⟩ := x
    simp only [tabWfFrom, Bool.and_eq_true, decide_eq_true_eq]
    rintro ⟨⟨a, b⟩, c⟩
    exact ⟨⟨by omega, b⟩, c⟩

theorem tabWfFrom_tabDel (d : α) (t : Tab α) (q lo : Nat) : tabWfFrom d lo t = true → tabWfFrom d lo (tabDel t q) = true := by
  induction t generalizing lo with
  | nil => intro; rfl
  | cons x t ih =>
    obtain ⟨k, v⟩ := x
    simp only [tabWfFrom, Bool.and_eq_true, decide_eq_true_eq]
    rintro ⟨⟨a, b⟩, c⟩
    by_cases e : q = k
    · subst e; simp only [tabDel, if_true]; exact tabWfFrom_mono d (by omega) _ (ih _ c)
    · simp only [tabDel, e, if_false, tabWfFrom, Bool.and_eq_true, decide_eq_true_eq]; exact ⟨⟨a, b⟩, ih _ c⟩

theorem tabWfFrom_tabIns (d : α) (t : Tab α) (q lo : Nat) (x : α) (hx : x ≠ d) (hq : lo ≤ q) :
    tabWfFrom d lo t = true → tabWfFrom d lo (tabIns t q x) = true := by
  induction t generalizing lo with
  | nil => intro; simp [tabIns, tabWfFrom, hx, hq]
  | cons y t ih =>
    obtain ⟨k, v⟩ := y
    simp only [tabWfFrom, Bool.and_eq_true, decide_eq_true_eq]
    rintro ⟨⟨a, b⟩, c⟩
    by_cases h1 : q < k
    · simp only [tabIns, h1, if_true, tabWfFrom, Bool.and_eq_true, decide_eq_true_eq]
      exact ⟨⟨hq, hx⟩, ⟨by omega, b⟩, c⟩
    · by_cases h2 : q = k
      · subst h2; simp only [tabIns, lt_irrefl, if_true, tabWfFrom, Bool.and_eq_true, decide_eq_true_eq, if_false]
        exact ⟨⟨a, hx⟩, c⟩
      · simp only [tabIns, h1, h2, if_false, tabWfFrom, Bool.and_eq_true, decide_eq_true_eq]
        exact ⟨⟨a, b⟩, ih _ (by omega) c⟩

/-- A write keeps the canonical form. -/
theorem tabWf_tabPut (d : α) (t : Tab α) (q : Nat) (x : α) : tabWf d t = true → tabWf d (tabPut d t q x) = true := by
  unfold tabWf tabPut
  intro h
  split
  · exact tabWfFrom_tabDel d t q 0 h
  · next hx => exact tabWfFrom_tabIns d t q 0 x hx (Nat.zero_le _) h

theorem tabWfFrom_filter (d : α) (p : Nat × α → Bool) (t : Tab α) (lo : Nat) :
    tabWfFrom d lo t = true → tabWfFrom d lo (t.filter p) = true := by
  induction t generalizing lo with
  | nil => intro; rfl
  | cons y t ih =>
    obtain ⟨k, v⟩ := y
    simp only [tabWfFrom, Bool.and_eq_true, decide_eq_true_eq]
    rintro ⟨⟨a, b⟩, c⟩
    by_cases h : p (k, v) = true
    · simp only [List.filter_cons, h, if_true, tabWfFrom, Bool.and_eq_true, decide_eq_true_eq]; exact ⟨⟨a, b⟩, ih _ c⟩
    · simp only [List.filter_cons, h]; exact tabWfFrom_mono d (by omega) _ (ih _ c)

/-- Leaving entries out keeps the canonical form. -/
theorem tabWf_filter (d : α) (p : Nat × α → Bool) (t : Tab α) : tabWf d t = true → tabWf d (t.filter p) = true :=
  tabWfFrom_filter d p t 0

/-- In a canonical table two that read alike everywhere are equal. -/
theorem tabGet_eq_default_of_wfFrom (d : α) (t : Tab α) {lo k : Nat} (h : k < lo) (hw : tabWfFrom d lo t = true) : tabGet d t k = d := by
  induction t generalizing lo with
  | nil => rfl
  | cons y t ih =>
    obtain ⟨c, v⟩ := y
    simp only [tabWfFrom, Bool.and_eq_true, decide_eq_true_eq] at hw
    have : k ≠ c := by omega
    simp only [tabGet, this, if_false]
    exact ih (by omega) hw.2

theorem tab_ext_from (d : α) (t u : Tab α) (lo : Nat) (ht : tabWfFrom d lo t = true) (hu : tabWfFrom d lo u = true)
    (h : ∀ k, tabGet d t k = tabGet d u k) : t = u := by
  induction t generalizing u lo with
  | nil =>
    cases u with
    | nil => rfl
    | cons y u =>
      obtain ⟨c, v⟩ := y
      simp only [tabWfFrom, Bool.and_eq_true, decide_eq_true_eq] at hu
      have := h c; simp [tabGet] at this
      exact absurd this.symm hu.1.2
  | cons x t ih =>
    obtain ⟨a, b⟩ := x
    have ht' := ht
    simp only [tabWfFrom, Bool.and_eq_true, decide_eq_true_eq] at ht
    cases u with
    | nil =>
      have := h a; simp [tabGet] at this
      exact absurd this ht.1.2
    | cons y u =>
      obtain ⟨c, v⟩ := y
      have hu' := hu
      simp only [tabWfFrom, Bool.and_eq_true, decide_eq_true_eq] at hu
      rcases lt_trichotomy a c with e | e | e
      · have h1 := h a
        have h2 : tabGet d ((c, v) :: u) a = d :=
          tabGet_eq_default_of_wfFrom d _ e (by simp [tabWfFrom, hu.1.2, hu.2])
        rw [h2] at h1; simp [tabGet] at h1
        exact absurd h1 ht.1.2
      · subst e
        have h1 := h a; simp [tabGet] at h1; subst h1
        congr 1
        refine ih u (a + 1) ht.2 hu.2 (fun k => ?_)
        by_cases e : k = a
        · subst e
          rw [tabGet_eq_default_of_wfFrom d t (Nat.lt_succ_self k) ht.2, tabGet_eq_default_of_wfFrom d u (Nat.lt_succ_self k) hu.2]
        · have := h k; simpa [tabGet, e] using this
      · have h1 := h c
        have h2 : tabGet d ((a, b) :: t) c = d :=
          tabGet_eq_default_of_wfFrom d _ e (by simp [tabWfFrom, ht.1.2, ht.2])
        rw [h2] at h1; simp [tabGet] at h1
        exact absurd h1.symm hu.1.2

/-- Canonical tables that read alike at every key are equal. -/
theorem tab_ext (d : α) (t u : Tab α) (ht : tabWf d t = true) (hu : tabWf d u = true) (h : ∀ k, tabGet d t k = tabGet d u k) : t = u :=
  tab_ext_from d t u 0 ht hu h

end Sys2Proof.Machine
end

