-- ==== Sys2Proof/Laws/Ops.lean ====
section
/-! SUPPORT. Laws of the shared operations: bit fields, registers and their fields, memory and its canonical form. -/

namespace Sys2Proof.Machine

/-! ### Bit fields -/

theorem fset_toNat (w : Word) {hi lo : Nat} (v : Nat) (h : hi < 32) (hl : lo ≤ hi) :
    (fset w hi lo v).toNat = w.toNat % 2 ^ lo + (v % 2 ^ (hi + 1 - lo)) * 2 ^ lo + (w.toNat / 2 ^ (hi + 1)) * 2 ^ (hi + 1) := by
  have hw : w.toNat < 2 ^ 32 := w.isLt
  rw [fset, BitVec.toNat_ofNat, Nat.mod_eq_of_lt]
  have e1 : 2 ^ (hi + 1 - lo) * 2 ^ lo = 2 ^ (hi + 1) := by rw [← Nat.pow_add]; congr 1; omega
  have h1 : w.toNat % 2 ^ lo < 2 ^ lo := Nat.mod_lt _ (by positivity)
  have h2 : v % 2 ^ (hi + 1 - lo) + 1 ≤ 2 ^ (hi + 1 - lo) := Nat.mod_lt _ (by positivity)
  have h3 : (v % 2 ^ (hi + 1 - lo) + 1) * 2 ^ lo ≤ 2 ^ (hi + 1) := e1 ▸ Nat.mul_le_mul_right _ h2
  have e2 : 2 ^ (31 - hi) * 2 ^ (hi + 1) = 2 ^ 32 := by rw [← Nat.pow_add]; congr 1; omega
  have h4 : w.toNat / 2 ^ (hi + 1) + 1 ≤ 2 ^ (31 - hi) := by
    rw [Nat.succ_le_iff, Nat.div_lt_iff_lt_mul (by positivity), e2]; exact hw
  have h5 : (w.toNat / 2 ^ (hi + 1) + 1) * 2 ^ (hi + 1) ≤ 2 ^ 32 := e2 ▸ Nat.mul_le_mul_right _ h4
  rw [Nat.add_mul, Nat.one_mul] at h3 h5
  omega

/-- A field that was set reads the value modulo its width. -/
theorem fget_fset_same (w : Word) {hi lo : Nat} (v : Nat) (h : hi < 32) (hl : lo ≤ hi) :
    fget (fset w hi lo v) hi lo = v % 2 ^ (hi + 1 - lo) := by
  have e1 : 2 ^ (hi + 1) = 2 ^ lo * 2 ^ (hi + 1 - lo) := by rw [← Nat.pow_add]; congr 1; omega
  rw [fget, fset_toNat w v h hl, Nat.shiftRight_eq_div_pow, e1]
  rw [show w.toNat % 2 ^ lo + v % 2 ^ (hi + 1 - lo) * 2 ^ lo + w.toNat / (2 ^ lo * 2 ^ (hi + 1 - lo)) * (2 ^ lo * 2 ^ (hi + 1 - lo))
      = w.toNat % 2 ^ lo + 2 ^ lo * (v % 2 ^ (hi + 1 - lo) + 2 ^ (hi + 1 - lo) * (w.toNat / (2 ^ lo * 2 ^ (hi + 1 - lo)))) by ring]
  rw [Nat.add_mul_div_left _ _ (by positivity), Nat.div_eq_of_lt (Nat.mod_lt _ (by positivity)), Nat.zero_add,
    Nat.add_mul_mod_self_left, Nat.mod_mod]

/-- Setting a field leaves a field below or above it alone. -/
theorem fget_fset_other (w : Word) {hi lo hi' lo' : Nat} (v : Nat) (h : hi < 32) (hl : lo ≤ hi) (hl' : lo' ≤ hi')
    (ho : hi' < lo ∨ hi < lo') : fget (fset w hi lo v) hi' lo' = fget w hi' lo' := by
  have e1 : 2 ^ (hi + 1) = 2 ^ (hi + 1 - lo) * 2 ^ lo := by rw [← Nat.pow_add]; congr 1; omega
  rw [fget, fget, fset_toNat w v h hl, Nat.shiftRight_eq_div_pow, Nat.shiftRight_eq_div_pow]
  rcases ho with ho | ho
  · have e2 : 2 ^ lo = 2 ^ (hi' + 1) * 2 ^ (lo - (hi' + 1)) := by rw [← Nat.pow_add]; congr 1; omega
    have e3 : 2 ^ (hi' + 1) = 2 ^ lo' * 2 ^ (hi' + 1 - lo') := by rw [← Nat.pow_add]; congr 1; omega
    have key : ∀ n : Nat, n / 2 ^ lo' % 2 ^ (hi' + 1 - lo') = n % 2 ^ (hi' + 1) / 2 ^ lo' := by
      intro n; rw [e3, Nat.mod_mul_right_div_self]
    rw [key, key]
    congr 1
    rw [e1, e2]
    rw [show w.toNat % (2 ^ (hi' + 1) * 2 ^ (lo - (hi' + 1))) + v % 2 ^ (hi + 1 - lo) * (2 ^ (hi' + 1) * 2 ^ (lo - (hi' + 1)))
        + w.toNat / (2 ^ (hi + 1 - lo) * (2 ^ (hi' + 1) * 2 ^ (lo - (hi' + 1)))) * (2 ^ (hi + 1 - lo) * (2 ^ (hi' + 1) * 2 ^ (lo - (hi' + 1))))
        = w.toNat % (2 ^ (hi' + 1) * 2 ^ (lo - (hi' + 1))) + 2 ^ (hi' + 1) * (v % 2 ^ (hi + 1 - lo) * 2 ^ (lo - (hi' + 1))
        + w.toNat / (2 ^ (hi + 1 - lo) * (2 ^ (hi' + 1) * 2 ^ (lo - (hi' + 1)))) * (2 ^ (hi + 1 - lo) * 2 ^ (lo - (hi' + 1)))) by ring,
      Nat.add_mul_mod_self_left, Nat.mod_mul_right_mod]
  · congr 1
    have e2 : 2 ^ lo' = 2 ^ (hi + 1) * 2 ^ (lo' - (hi + 1)) := by rw [← Nat.pow_add]; congr 1; omega
    rw [e2, ← Nat.div_div_eq_div_mul, ← Nat.div_div_eq_div_mul]
    congr 1
    rw [Nat.add_mul_div_right _ _ (by positivity), Nat.div_eq_of_lt, Nat.zero_add]
    have h1 : w.toNat % 2 ^ lo < 2 ^ lo := Nat.mod_lt _ (by positivity)
    have h2 : v % 2 ^ (hi + 1 - lo) + 1 ≤ 2 ^ (hi + 1 - lo) := Nat.mod_lt _ (by positivity)
    have h3 := Nat.mul_le_mul_right (2 ^ lo) h2
    rw [← e1, Nat.add_mul, Nat.one_mul] at h3
    omega

/-! ### Registers -/

/-- A register element reads what was written to it. -/
@[simp] theorem Dev.rd_wr_same (d : Dev) (r : Reg) (w : Word) (i j : Nat) : (d.wr r w i j).rd r i j = w := by
  simp only [Dev.rd, Dev.wr, tabGet_tabPut_same]

/-- A write leaves every element at another address alone. -/
theorem Dev.rd_wr_addr_ne (d : Dev) {r q : Reg} (w : Word) {i j k l : Nat} (h : q.addr k l ≠ r.addr i j) :
    (d.wr r w i j).rd q k l = d.rd q k l := by
  simp only [Dev.rd, Dev.wr]; exact tabGet_tabPut_ne _ _ _ _ h

/-- A write leaves every other element of the map alone. -/
theorem Dev.rd_wr_ne (d : Dev) {b c : Nat} {r q : Reg} (hr : r ∈ regsOfBlock b) (hq : q ∈ regsOfBlock c) (w : Word) {i j k l : Nat}
    (hi : i < r.n1) (hj : j < r.n2) (hk : k < q.n1) (hl : l < q.n2) (h : ¬(q = r ∧ k = i ∧ l = j)) :
    (d.wr r w i j).rd q k l = d.rd q k l :=
  d.rd_wr_addr_ne w (fun e => h (addr_inj hq hr hk hl hi hj e))

/-- A field reads the value put into it, modulo its width. -/
theorem Dev.get_put_same (d : Dev) (f : FRef) (v i j : Nat) (h : f.hi < 32) (hl : f.lo ≤ f.hi) :
    (d.put f v i j).get f i j = v % 2 ^ (f.hi + 1 - f.lo) := by
  simp only [Dev.get, Dev.put, Dev.rd_wr_same, fget_fset_same _ _ h hl]

/-- Putting a field leaves another field of the same element alone. -/
theorem Dev.get_put_field (d : Dev) (f g : FRef) (v i j : Nat) (hr : g.reg = f.reg) (h : f.hi < 32) (hl : f.lo ≤ f.hi) (hg : g.lo ≤ g.hi)
    (ho : g.hi < f.lo ∨ f.hi < g.lo) : (d.put f v i j).get g i j = d.get g i j := by
  simp only [Dev.get, Dev.put, hr, Dev.rd_wr_same, fget_fset_other _ _ h hl hg ho]

/-- Putting a field leaves every field of an element at another address alone. -/
theorem Dev.get_put_addr_ne (d : Dev) (f g : FRef) (v : Nat) {i j k l : Nat} (h : g.reg.addr k l ≠ f.reg.addr i j) :
    (d.put f v i j).get g k l = d.get g k l := by
  simp only [Dev.get, Dev.put, d.rd_wr_addr_ne _ h]

/-! ### Memory -/

theorem memByte_memPut (m : List Host.Cell) (a q : Nat) (b : Byte) : memByte (memPut m a b) q = if q = a then b else memByte m q :=
  tabGet_tabPut 0 m a q b

/-- Bytes outside those written read as before; a byte written reads its value. -/
theorem memByte_memPutBytes (m : List Host.Cell) (a : Nat) (bs : List Byte) (q : Nat) :
    memByte (memPutBytes m a bs) q = if a ≤ q ∧ q < a + bs.length then bs.getD (q - a) 0 else memByte m q := by
  induction bs generalizing m a with
  | nil => simp only [memPutBytes, List.length_nil]; rw [if_neg (by omega)]
  | cons b bs ih =>
    simp only [memPutBytes, ih, memByte_memPut, List.length_cons]
    by_cases h1 : q = a
    · subst h1; rw [if_neg (by omega), if_pos rfl, if_pos (by omega)]; simp
    · by_cases h2 : a + 1 ≤ q ∧ q < a + 1 + bs.length
      · rw [if_pos h2, if_pos (by omega)]
        obtain ⟨k, rfl⟩ : ∃ k, q = a + 1 + k := ⟨q - (a + 1), by omega⟩
        rw [show a + 1 + k - (a + 1) = k by omega, show a + 1 + k - a = k + 1 by omega, List.getD_cons_succ]
      · rw [if_neg h2, if_neg h1, if_neg (by omega)]

/-- A written byte keeps the canonical form. -/
theorem memPut_wf (m : List Host.Cell) (a : Nat) (b : Byte) (h : Memory.wf m = true) : Memory.wf (memPut m a b) = true :=
  tabWf_tabPut 0 m a b h

/-- Written bytes keep the canonical form. -/
theorem memPutBytes_wf (m : List Host.Cell) (a : Nat) (bs : List Byte) (h : Memory.wf m = true) : Memory.wf (memPutBytes m a bs) = true := by
  induction bs generalizing m a with
  | nil => exact h
  | cons b bs ih => exact ih _ _ (memPut_wf m a b h)

/-- Leaving out bytes keeps the canonical form. -/
theorem memFilter_wf (m : List Host.Cell) (p : Host.Cell → Bool) (h : Memory.wf m = true) : Memory.wf (m.filter p) = true :=
  tabWf_filter 0 p m h

theorem Dev.setBytes_wf (d : Dev) (a : Nat) (bs : List Byte) (h : Memory.wf d.mem = true) : Memory.wf (d.setBytes a bs).mem = true :=
  memPutBytes_wf d.mem a bs h

theorem Dev.clearRange_wf (d : Dev) (lo hi : Nat) (h : Memory.wf d.mem = true) : Memory.wf (d.clearRange lo hi).mem = true :=
  memFilter_wf d.mem _ h

theorem tabGet_filter {α : Type} (x : α) (t : Tab α) (p : Nat → Bool) (q : Nat) :
    tabGet x (t.filter (fun c => p c.1)) q = if p q then tabGet x t q else x := by
  induction t with
  | nil => simp [tabGet]
  | cons y t ih =>
    obtain ⟨k, v⟩ := y
    by_cases h : p k = true
    · by_cases e : q = k
      · subst e; simp [tabGet, h]
      · simp [tabGet, h, e, ih]
    · by_cases e : q = k
      · subst e; simp [h, ih]
      · simp [tabGet, h, e, ih]

/-- A cleared range reads 0, and every other byte reads as before. -/
theorem Dev.memByte_clearRange (d : Dev) (lo hi q : Nat) :
    memByte (d.clearRange lo hi).mem q = if lo ≤ q ∧ q < hi then 0 else memByte d.mem q := by
  have := tabGet_filter (0 : Byte) d.mem (fun a => !(decide (lo ≤ a) && decide (a < hi))) q
  simp only [Dev.clearRange, memByte]
  rw [this]
  by_cases h : lo ≤ q ∧ q < hi
  · simp [h]
  · rw [if_neg h]; simp only [Bool.not_eq_true', Bool.and_eq_false_iff, decide_eq_false_iff_not]
    rw [if_pos (by omega)]

end Sys2Proof.Machine
end

