-- ==== Sys2Proof/Laws/Bus.lean ====
section
/-! SUPPORT. Laws of the register window: what an access of a register element comes to. -/

namespace Sys2Proof.Machine

/-- No address of a register is one of the core's private space. -/
theorem coreSram_window {port a : Nat} (h : a < 1245184) : coreSram port a = false := by
  have : ¬ memSram ≤ a := by simp only [memSram]; omega
  simp [coreSram, this]

/-- Through an open port, a write of a register element is counted and reaches that element. -/
theorem Dev.busWrite_reg (d : Dev) {b port i j : Nat} {r : Reg} (hp : d.portOpen port = true) (hm : r ∈ regsOfBlock b) (hi : i < r.n1)
    (hj : j < r.n2) (w : Word) :
    d.busWrite port (r.addr i j) w = (d.busCount port (r.addr i j)).regAccess d port (r.addr i j) r i j w := by
  obtain ⟨h4, hw, _⟩ := addr_window hm hi hj
  simp [Dev.busWrite, hp, h4, inRegs, hw, decodeReg_addr hm hi hj, coreSram_window hw]

/-- Only a write of PERF_CNT_LO, PERF_CNT_AUX or MGMT_VEC_PEND0 looks at the count of its own access. -/
theorem Dev.regAccess_plain (d o : Dev) (port a : Nat) {r : Reg} (i j : Nat) (w : Word) (h1 : r ≠ PERF_CNT_LO) (h2 : r ≠ PERF_CNT_AUX)
    (h3 : r ≠ MGMT_VEC_PEND0) : d.regAccess o port a r i j w = d.regFront port r i j w := by
  simp [Dev.regAccess, h1, h2, h3]

/-- Through a closed port no access has an effect. -/
theorem Dev.busWrite_closed (d : Dev) {port : Nat} (a : Nat) (w : Word) (hp : d.portOpen port = false) : d.busWrite port a w = d := by
  simp [Dev.busWrite, hp]

theorem Dev.busLoad_closed (d : Dev) {port : Nat} (a : Nat) (hp : d.portOpen port = false) : d.busLoad port a = d := by
  simp [Dev.busLoad, hp]

/-- Through an open port, a read of a register element returns what the register read gives. -/
theorem Dev.busLoad_reg (d : Dev) {b port i j : Nat} {r : Reg} (hp : d.portOpen port = true) (hm : r ∈ regsOfBlock b) (hi : i < r.n1)
    (hj : j < r.n2) (him : r.hasImage = false) (hlo : r ≠ PERF_CNT_LO) :
    d.busLoad port (r.addr i j) =
      ((d.busCount port (r.addr i j)).regRead port r i j).2.emit (.rdata port (r.addr i j) ((d.busCount port (r.addr i j)).regRead port r i j).1) := by
  obtain ⟨h4, hw, _⟩ := addr_window hm hi hj
  simp [Dev.busLoad, Dev.busRead, hp, h4, inRegs, hw, decodeReg_addr hm hi hj, him, hlo, coreSram_window hw]

/-- A register without mirrored bits takes its write directly. -/
theorem Dev.regFront_plain (d : Dev) (port : Nat) {r : Reg} (i j : Nat) (w : Word) (h : mirrorMask r = 0) :
    d.regFront port r i j w = d.regWrite port r i j w none := by
  simp [Dev.regFront, h]

/-- A chip that mirrors nothing takes the write of a mirrored register directly too, and sends nothing. -/
theorem Dev.regFront_solo (d : Dev) (port : Nat) (r : Reg) (i j : Nat) (w : Word) (h3 : d.mirrored = false)
    (h2 : d.role = 2 → d.pair.link = false) : d.regFront port r i j w = d.regWrite port r i j w none := by
  have h : (d.role == 2 && d.pair.link) = false := by
    by_cases e : d.role = 2
    · simp [h2 e]
    · simp [e]
  simp [Dev.regFront, h3, Dev.mirrorOut, h]

end Sys2Proof.Machine
end

