-- ==== Sys2Proof/Laws/Step.lean ====
section
/-! SUPPORT. Laws of a step: the queue is served in order. -/

namespace Sys2Proof.Machine

/-- A command leaves the queue alone. -/
theorem exec_pending {c : Instr} {s t : State} (h : exec c s = .next t) : t.pending = s.pending := by
  cases c <;> (cases h; rfl)

/-- A step that serves a command leaves the queue's rest. -/
theorem step_pending {s t : State} {c : Instr} {l : List Instr} (hp : s.pending = c :: l) (h : step s = .next t) : t.pending = l := by
  obtain ⟨d, p⟩ := s
  cases hp
  exact exec_pending (s := { dev := d, pending := l }) h

/-- A step on an empty queue leaves it empty. -/
theorem step_pending_nil {s t : State} (hp : s.pending = []) (h : step s = .next t) : t.pending = [] := by
  obtain ⟨d, p⟩ := s
  cases hp
  cases h
  rfl

end Sys2Proof.Machine
end

