-- ==== Sys2Proof/Laws/Run.lean ====
section
/-! SUPPORT. Laws of the ways in which a command runs: what answers it when no reset holds the device, and when one does. -/

namespace Sys2Proof.Machine

theorem State.after_event {s : State} {dt : Nat} (op : Dev → Dev) (h : s.awake dt) :
    s.after (fun d => d.event dt op) = s.ends (s.came dt) (op (s.came dt)) := by
  have h' : (s.dev.elapse dt).heldReset = false := h
  simp [State.after, Dev.event, State.ends, State.came, h']

theorem State.after_event_held {s : State} {dt : Nat} (op : Dev → Dev) (h : (s.came dt).heldReset = true) :
    s.after (fun d => d.event dt op) = .next { s with dev := s.came dt } := by
  have h' : (s.dev.elapse dt).heldReset = true := h
  simp [State.after, Dev.event, State.came, h']

theorem State.after_pin (s : State) (dt : Nat) (op : Dev → Dev) :
    s.after (fun d => d.pinEvent dt op) = s.settles (op (s.came dt)) := rfl

theorem State.after_access {s : State} (op : Dev → Dev) (h : s.dev.heldReset = false) :
    s.after (fun d => d.access op) = s.ends s.dev (op s.dev) := by
  simp [State.after, Dev.access, State.ends, h]

theorem State.after_access_held {s : State} (op : Dev → Dev) (h : s.dev.heldReset = true) : s.after (fun d => d.access op) = .next s := by
  simp [State.after, Dev.access, h]

theorem State.after_issued {s : State} (op : Dev → Dev) (h : s.dev.heldReset = false) :
    s.after (fun d => d.issued op) = s.settles (op s.dev) := by
  simp [State.after, Dev.issued, State.settles, h]

theorem State.after_issued_held {s : State} (op : Dev → Dev) (h : s.dev.heldReset = true) : s.after (fun d => d.issued op) = .next s := by
  simp [State.after, Dev.issued, h]

/-- A served write of a register without mirrored bits is counted and does what the register's write does. -/
theorem State.after_write {s : State} {p : Port} {b i j : Nat} {r : Reg} (h : s.served p) (hm : r ∈ regsOfBlock b) (hi : i < r.n1)
    (hj : j < r.n2) (h0 : mirrorMask r = 0) (w : Word) (hlo : r ≠ PERF_CNT_LO := by decide) (hax : r ≠ PERF_CNT_AUX := by decide)
    (hvp : r ≠ MGMT_VEC_PEND0 := by decide) :
    s.after (fun d => d.access (fun d => d.busWrite (portNum p) (r.addr i j) w)) =
      s.ends s.dev ((s.counted p (r.addr i j)).regWrite (portNum p) r i j w none) := by
  rw [State.after_access _ h.1, Dev.busWrite_reg _ h.2 hm hi hj, Dev.regAccess_plain _ _ _ _ _ _ _ hlo hax hvp, Dev.regFront_plain _ _ _ _ _ h0]
  rfl

/-- A served write of a mirrored register by a chip that mirrors nothing. -/
theorem State.after_write_solo {s : State} {p : Port} {b i j : Nat} {r : Reg} (h : s.served p) (hm : r ∈ regsOfBlock b) (hi : i < r.n1)
    (hj : j < r.n2) (hs : (s.counted p (r.addr i j)).solo) (w : Word) (hlo : r ≠ PERF_CNT_LO := by decide) (hax : r ≠ PERF_CNT_AUX := by decide)
    (hvp : r ≠ MGMT_VEC_PEND0 := by decide) :
    s.after (fun d => d.access (fun d => d.busWrite (portNum p) (r.addr i j) w)) =
      s.ends s.dev ((s.counted p (r.addr i j)).regWrite (portNum p) r i j w none) := by
  have e := Dev.regFront_solo (s.counted p (r.addr i j)) (portNum p) r i j w hs.1 hs.2
  rw [State.after_access _ h.1, Dev.busWrite_reg _ h.2 hm hi hj, Dev.regAccess_plain _ _ _ _ _ _ _ hlo hax hvp]
  unfold State.counted at e ⊢
  rw [e]

/-- A served read of a register without image fields. -/
theorem State.after_read {s : State} {p : Port} {b i j : Nat} {r : Reg} (h : s.served p) (hm : r ∈ regsOfBlock b) (hi : i < r.n1)
    (hj : j < r.n2) (him : r.hasImage = false) (hlo : r ≠ PERF_CNT_LO := by decide) :
    s.after (fun d => d.access (fun d => d.busLoad (portNum p) (r.addr i j))) =
      s.ends s.dev (((s.counted p (r.addr i j)).regRead (portNum p) r i j).2.emit
        (.rdata (portNum p) (r.addr i j) ((s.counted p (r.addr i j)).regRead (portNum p) r i j).1)) := by
  rw [State.after_access _ h.1, Dev.busLoad_reg _ h.2 hm hi hj him hlo]
  rfl

end Sys2Proof.Machine
end

