-- ==== Sys2Proof/Laws/Exec.lean ====
section
/-! SUPPORT. What each command runs, with its operands. -/

namespace Sys2Proof.Machine

theorem exec_dllLock (dt : Nat) (x : Fin 28) (s : State) :
    exec (.dllLock dt x) s = s.after (fun d => d.event dt (fun d => d.dllLock x)) := rfl
theorem exec_dllAnchor (dt : Nat) (x : Fin 28) (sec frac : Nat) (err : Int) (s : State) :
    exec (.dllAnchor dt x sec frac err) s = s.after (fun d => d.event dt (fun d => d.dllAnchor x (sec * 16000000000 + frac) err)) := rfl
theorem exec_dllUnlock (dt : Nat) (x : Fin 28) (s : State) :
    exec (.dllUnlock dt x) s = s.after (fun d => d.event dt (fun d => d.dllUnlock x)) := rfl
theorem exec_dllRealign (p : Port) (x : Fin 28) (w : Word) (s : State) :
    exec (.dllRealign p x w) s = s.after (fun d => d.access (fun d => d.busWrite (portNum p) (ALN_DLL_CTRL.addr x 0) w)) := rfl
theorem exec_outOfsWrite (p : Port) (o : Fin 8) (w : Word) (s : State) :
    exec (.outOfsWrite p o w) s = s.after (fun d => d.access (fun d => d.busWrite (portNum p) (ALN_OUT_OFS.addr o 0) w)) := rfl
theorem exec_blockCycleArm (dt : Nat) (s : State) :
    exec (.blockCycleArm dt) s = s.after (fun d => d.event dt (fun d => d.cycleArm)) := rfl
theorem exec_syncTimeout (dt : Nat) (s : State) :
    exec (.syncTimeout dt) s = s.after (fun d => d.event dt (fun d => d.syncTimeout)) := rfl
theorem exec_blockBoundary (dt : Nat) (sub : Fin 64) (sense : List (Nat × List Int)) (s : State) :
    exec (.blockBoundary dt sub sense) s = s.after (fun d => d.event dt (fun d => d.boundary sub sense)) := rfl
theorem exec_blockRealign (p : Port) (w : Word) (s : State) :
    exec (.blockRealign p w) s = s.after (fun d => d.access (fun d => d.busWrite (portNum p) (SYS_BLK_CTRL.addr 0 0) w)) := rfl
theorem exec_realignStop (dt : Nat) (s : State) :
    exec (.realignStop dt) s = s.after (fun d => d.event dt (fun d => d.realignStop)) := rfl
theorem exec_sealComplete (dt : Nat) (s : State) :
    exec (.sealComplete dt) s = s.after (fun d => d.event dt (fun d => d.sealComplete)) := rfl
theorem exec_xptPassDone (dt : Nat) (s : State) :
    exec (.xptPassDone dt) s = s.after (fun d => d.event dt (fun d => d.passDone)) := rfl
theorem exec_deadline (dt : Nat) (s : State) :
    exec (.deadline dt) s = s.after (fun d => d.event dt (fun d => d.deadline)) := rfl
theorem exec_bootStart (dt : Nat) (sel : Fin 4) (s : State) :
    exec (.bootStart dt sel) s = s.after (fun d => d.pinEvent dt (fun d => d.bootStart sel)) := rfl
theorem exec_flashDirectoryRead (dt : Nat) (a b : List Byte) (s : State) :
    exec (.flashDirectoryRead dt a b) s = s.after (fun d => d.event dt (fun d => d.directoryRead a b)) := rfl
theorem exec_imageDataArrive (dt : Nat) (bs : List Byte) (s : State) :
    exec (.imageDataArrive dt bs) s = s.after (fun d => d.event dt (fun d => d.imageData bs)) := rfl
theorem exec_signatureVerified (dt : Nat) (s : State) :
    exec (.signatureVerified dt) s = s.after (fun d => d.event dt (fun d => d.signatureVerified)) := rfl
theorem exec_sectionsApplied (dt : Nat) (s : State) :
    exec (.sectionsApplied dt) s = s.after (fun d => d.event dt (fun d => d.sectionsApplied)) := rfl
theorem exec_flashReadError (dt : Nat) (s : State) :
    exec (.flashReadError dt) s = s.after (fun d => d.event dt (fun d => d.flashError)) := rfl
theorem exec_hostLoadTimeout (dt : Nat) (s : State) :
    exec (.hostLoadTimeout dt) s = s.after (fun d => d.event dt (fun d => d.hostTimeout)) := rfl
theorem exec_chunkWrite (p : Port) (ix : Fin 8192) (w : Word) (s : State) :
    exec (.chunkWrite p ix w) s = s.after (fun d => d.access (fun d => d.busWrite (portNum p) (SYS_CHUNK.addr ix 0) w)) := rfl
theorem exec_loadChunk (p : Port) (w : Word) (s : State) :
    exec (.loadChunk p w) s = s.after (fun d => d.access (fun d => d.busWrite (portNum p) (SYS_LOAD_CTRL.addr 0 0) w)) := rfl
theorem exec_loadLastChunk (p : Port) (w : Word) (s : State) :
    exec (.loadLastChunk p w) s = s.after (fun d => d.access (fun d => d.busWrite (portNum p) (SYS_LOAD_CTRL.addr 0 0) w)) := rfl
theorem exec_chunkTaken (dt : Nat) (s : State) :
    exec (.chunkTaken dt) s = s.after (fun d => d.event dt (fun d => d.chunkTaken)) := rfl
theorem exec_stageStart (p : Port) (w : Word) (s : State) :
    exec (.stageStart p w) s = s.after (fun d => d.access (fun d => d.busWrite (portNum p) (SYS_STAGE_CTRL.addr 0 0) w)) := rfl
theorem exec_stageAbort (p : Port) (w : Word) (s : State) :
    exec (.stageAbort p w) s = s.after (fun d => d.access (fun d => d.busWrite (portNum p) (SYS_STAGE_CTRL.addr 0 0) w)) := rfl
theorem exec_stagingComplete (dt : Nat) (s : State) :
    exec (.stagingComplete dt) s = s.after (fun d => d.event dt (fun d => d.stagingComplete)) := rfl
theorem exec_swapArm (p : Port) (w : Word) (s : State) :
    exec (.swapArm p w) s = s.after (fun d => d.access (fun d => d.busWrite (portNum p) (SYS_SWAP_CTRL.addr 0 0) w)) := rfl
theorem exec_swapDisarm (p : Port) (w : Word) (s : State) :
    exec (.swapDisarm p w) s = s.after (fun d => d.access (fun d => d.busWrite (portNum p) (SYS_SWAP_CTRL.addr 0 0) w)) := rfl
theorem exec_restartSilent (dt : Nat) (s : State) :
    exec (.restartSilent dt) s = s.after (fun d => d.event dt (fun d => d.restartSilent)) := rfl
theorem exec_asrcStart (dt : Nat) (c : Fin 256) (ratio : Nat) (s : State) :
    exec (.asrcStart dt c ratio) s = s.after (fun d => d.event dt (fun d => d.convStart c ratio)) := rfl
theorem exec_asrcLock (dt : Nat) (c : Fin 256) (ratio : Nat) (dly : Int) (s : State) :
    exec (.asrcLock dt c ratio dly) s = s.after (fun d => d.event dt (fun d => d.convLock c ratio dly)) := rfl
theorem exec_asrcSlip (dt : Nat) (c : Fin 256) (ratio : Nat) (s : State) :
    exec (.asrcSlip dt c ratio) s = s.after (fun d => d.event dt (fun d => d.convSlip c ratio)) := rfl
theorem exec_asrcRangeClear (dt : Nat) (c : Fin 256) (ratio : Nat) (s : State) :
    exec (.asrcRangeClear dt c ratio) s = s.after (fun d => d.event dt (fun d => d.convRangeClear c ratio)) := rfl
theorem exec_asrcIdle (dt : Nat) (c : Fin 256) (s : State) :
    exec (.asrcIdle dt c) s = s.after (fun d => d.event dt (fun d => d.convIdle c)) := rfl
theorem exec_cntLoRead (p : Port) (ix : Fin 32) (s : State) :
    exec (.cntLoRead p ix) s = s.after (fun d => d.access (fun d => d.busLoad (portNum p) (PERF_CNT_LO.addr ix 0))) := rfl
theorem exec_cntHiWrite (p : Port) (ix : Fin 32) (w : Word) (s : State) :
    exec (.cntHiWrite p ix w) s = s.after (fun d => d.access (fun d => d.busWrite (portNum p) (PERF_CNT_HI.addr ix 0) w)) := rfl
theorem exec_cntLoWrite (p : Port) (ix : Fin 32) (w : Word) (s : State) :
    exec (.cntLoWrite p ix w) s = s.after (fun d => d.access (fun d => d.busWrite (portNum p) (PERF_CNT_LO.addr ix 0) w)) := rfl
theorem exec_slotClear (p : Port) (w : Word) (s : State) :
    exec (.slotClear p w) s = s.after (fun d => d.access (fun d => d.busWrite (portNum p) (PERF_SLOT_CTRL.addr 0 0) w)) := rfl
theorem exec_slotLoRead (p : Port) (m : Fin 64) (c : Fin 4) (s : State) :
    exec (.slotLoRead p m c) s = s.after (fun d => d.access (fun d => d.busLoad (portNum p) (PERF_SLOT_LO.addr m c))) := rfl
theorem exec_counterWrap (dt : Nat) (ix : Fin 32) (s : State) :
    exec (.counterWrap dt ix) s = s.after (fun d => d.event dt (fun d => d.counterWrap ix)) := rfl
theorem exec_sampleRecord (dt : Nat) (s : State) :
    exec (.sampleRecord dt) s = s.after (fun d => d.event dt (fun d => d.sampleRecord)) := rfl
theorem exec_xptRouteCmd (p : Port) (w : Word) (s : State) :
    exec (.xptRouteCmd p w) s = s.after (fun d => d.access (fun d => d.busWrite (portNum p) (XPT_CMD_DATA.addr 0 0) w)) := rfl
theorem exec_xptGainCmd (p : Port) (w : Word) (s : State) :
    exec (.xptGainCmd p w) s = s.after (fun d => d.access (fun d => d.busWrite (portNum p) (XPT_CMD_DATA.addr 0 0) w)) := rfl
theorem exec_xptStagedWrite (p : Port) (x : XptReg) (w : Word) (s : State) :
    exec (.xptStagedWrite p x w) s = s.after (fun d => d.access (fun d => d.busWrite (portNum p) (xptRegAddr x) w)) := rfl
theorem exec_xptArm (p : Port) (w : Word) (s : State) :
    exec (.xptArm p w) s = s.after (fun d => d.access (fun d => d.busWrite (portNum p) (XPT_CTRL.addr 0 0) w)) := rfl
theorem exec_fadeComplete (dt : Nat) (slot : Fin 32768) (lone : Bool) (s : State) :
    exec (.fadeComplete dt slot lone) s = s.after (fun d => d.event dt (fun d => d.fadeComplete slot lone)) := rfl
theorem exec_zcTimeout (dt : Nat) (slot : Fin 32768) (s : State) :
    exec (.zcTimeout dt slot) s = s.after (fun d => d.event dt (fun d => d.zcTimeout slot)) := rfl
theorem exec_silenceEnter (dt : Nat) (x : Fin 4096) (s : State) :
    exec (.silenceEnter dt x) s = s.after (fun d => d.event dt (fun d => d.silEnter x)) := rfl
theorem exec_frameReceive (dt : Nat) (e : Fin 2) (fcs : Bool) (f : List Byte) (s : State) :
    exec (.frameReceive dt e fcs f) s = s.after (fun d => d.event dt (fun d => d.ethReceive e fcs f)) := rfl
theorem exec_rtpReceive (dt : Nat) (e : Fin 2) (fcs : Bool) (f : List Byte) (s : State) :
    exec (.rtpReceive dt e fcs f) s = s.after (fun d => d.event dt (fun d => d.ethReceive e fcs f)) := rfl
theorem exec_frameTransmit (dt : Nat) (e : Fin 2) (s : State) :
    exec (.frameTransmit dt e) s = s.after (fun d => d.event dt (fun d => d.frameTransmit e)) := rfl
theorem exec_txtsPop (p : Port) (e : Fin 2) (s : State) :
    exec (.txtsPop p e) s = s.after (fun d => d.access (fun d => d.busLoad (portNum p) (ETH_TXTS_INFO.addr e 0))) := rfl
theorem exec_ethLinkLoss (dt : Nat) (e : Fin 2) (s : State) :
    exec (.ethLinkLoss dt e) s = s.after (fun d => d.event dt (fun d => d.ethLinkLoss e)) := rfl
theorem exec_streamEnable (p : Port) (x : Fin 128) (w : Word) (s : State) :
    exec (.streamEnable p x w) s = s.after (fun d => d.access (fun d => d.busWrite (portNum p) (ETH_STR_CTRL.addr x 0) w)) := rfl
theorem exec_ethLinkUp (dt : Nat) (e : Fin 2) (s : State) :
    exec (.ethLinkUp dt e) s = s.after (fun d => d.event dt (fun d => d.ethLinkUp e)) := rfl
theorem exec_helloSend (dt : Nat) (l : Fin 8) (s : State) :
    exec (.helloSend dt l) s = s.after (fun d => d.event dt (fun d => d.helloSend l)) := rfl
theorem exec_helloReceive (dt : Nat) (l : Fin 8) (bs : List Byte) (s : State) :
    exec (.helloReceive dt l bs) s = s.after (fun d => d.event dt (fun d => d.helloReceive l bs)) := rfl
theorem exec_adjDeadTimeout (dt : Nat) (l : Fin 8) (s : State) :
    exec (.adjDeadTimeout dt l) s = s.after (fun d => d.event dt (fun d => d.adjDead l)) := rfl
theorem exec_topoOriginate (dt : Nat) (s : State) :
    exec (.topoOriginate dt) s = s.after (fun d => d.event dt (fun d => d.topoOriginate)) := rfl
theorem exec_topoReceive (dt : Nat) (bs : List Byte) (s : State) :
    exec (.topoReceive dt bs) s = s.after (fun d => d.event dt (fun d => d.topoReceive bs)) := rfl
theorem exec_electReceive (dt : Nat) (bs : List Byte) (s : State) :
    exec (.electReceive dt bs) s = s.after (fun d => d.event dt (fun d => d.electReceive bs)) := rfl
theorem exec_nodeIdWrite (p : Port) (w : Word) (s : State) :
    exec (.nodeIdWrite p w) s = s.after (fun d => d.access (fun d => d.busWrite (portNum p) (HFB_NODE.addr 0 0) w)) := rfl
theorem exec_fwdWrite (p : Port) (w : Word) (s : State) :
    exec (.fwdWrite p w) s = s.after (fun d => d.access (fun d => d.busWrite (portNum p) (HFB_FWD_CMD.addr 0 0) w)) := rfl
theorem exec_fwdRead (p : Port) (w : Word) (s : State) :
    exec (.fwdRead p w) s = s.after (fun d => d.access (fun d => d.busWrite (portNum p) (HFB_FWD_CMD.addr 0 0) w)) := rfl
theorem exec_fwdInvalidate (p : Port) (w : Word) (s : State) :
    exec (.fwdInvalidate p w) s = s.after (fun d => d.access (fun d => d.busWrite (portNum p) (HFB_FWD_CMD.addr 0 0) w)) := rfl
theorem exec_floodKeyExpire (dt : Nat) (s : State) :
    exec (.floodKeyExpire dt) s = s.after (fun d => d.event dt (fun d => d.floodExpire)) := rfl
theorem exec_topoExpire (dt : Nat) (uid : BitVec 64) (s : State) :
    exec (.topoExpire dt uid) s = s.after (fun d => d.event dt (fun d => d.topoExpire uid.toNat)) := rfl
theorem exec_electWaitDone (dt : Nat) (s : State) :
    exec (.electWaitDone dt) s = s.after (fun d => d.event dt (fun d => d.electWaitDone)) := rfl
theorem exec_claimSend (dt : Nat) (s : State) :
    exec (.claimSend dt) s = s.after (fun d => d.event dt (fun d => d.claimSend)) := rfl
theorem exec_claimWindowEnd (dt : Nat) (s : State) :
    exec (.claimWindowEnd dt) s = s.after (fun d => d.event dt (fun d => d.claimWindowEnd)) := rfl
theorem exec_graveLogWritten (dt : Nat) (s : State) :
    exec (.graveLogWritten dt) s = s.after (fun d => d.event dt (fun d => d.graveWritten)) := rfl
theorem exec_escalationExpire (dt : Nat) (n : Fin 192) (s : State) :
    exec (.escalationExpire dt n) s = s.after (fun d => d.event dt (fun d => d.escalationExpire n)) := rfl
theorem exec_faultWindowExpire (dt : Nat) (n : Fin 192) (s : State) :
    exec (.faultWindowExpire dt n) s = s.after (fun d => d.event dt (fun d => d.fltWindowExpire n)) := rfl
theorem exec_shadowClose (dt : Nat) (b : Fin 19) (s : State) :
    exec (.shadowClose dt b) s = s.after (fun d => d.event dt (fun d => d.shadowClose b)) := rfl
theorem exec_faultAck (p : Port) (k : Fin 6) (w : Word) (s : State) :
    exec (.faultAck p k w) s = s.after (fun d => d.access (fun d => d.busWrite (portNum p) (FLT_SEV.addr k 0) w)) := rfl
theorem exec_errhClear (p : Port) (k : Fin 6) (w : Word) (s : State) :
    exec (.errhClear p k w) s = s.after (fun d => d.access (fun d => d.busWrite (portNum p) (FLT_ERRH.addr k 0) w)) := rfl
theorem exec_faultInject (p : Port) (w : Word) (s : State) :
    exec (.faultInject p w) s = s.after (fun d => d.access (fun d => d.busWrite (portNum p) (FLT_INJ.addr 0 0) w)) := rfl
theorem exec_injectNext (dt : Nat) (s : State) :
    exec (.injectNext dt) s = s.after (fun d => d.event dt (fun d => d.injectNext)) := rfl
theorem exec_glogErase (p : Port) (w : Word) (s : State) :
    exec (.glogErase p w) s = s.after (fun d => d.access (fun d => d.busWrite (portNum p) (FLT_GLOG_CTRL.addr 0 0) w)) := rfl
theorem exec_pseudoBlock (dt : Nat) (s : State) :
    exec (.pseudoBlock dt) s = s.after (fun d => d.event dt (fun d => d.pseudoBlock)) := rfl
theorem exec_sprigTakeJob (dt : Nat) (m : Fin 64) (s : State) :
    exec (.sprigTakeJob dt m) s = s.after (fun d => d.event dt (fun d => d.takeJob m)) := rfl
theorem exec_stealRetry (dt : Nat) (m : Fin 64) (s : State) :
    exec (.stealRetry dt m) s = s.after (fun d => d.event dt (fun d => d.stealRetry m)) := rfl
theorem exec_jobComplete (dt : Nat) (m : Fin 64) (s : State) :
    exec (.jobComplete dt m) s = s.after (fun d => d.event dt (fun d => d.jobComplete m)) := rfl
theorem exec_avsEnable (p : Port) (w : Word) (s : State) :
    exec (.avsEnable p w) s = s.after (fun d => d.access (fun d => d.busWrite (portNum p) (THK_AVS_CFG.addr 0 0) w)) := rfl
theorem exec_sharedStoreWrite (p : Port) (k : Fin 0x100000) (w : Word) (s : State) :
    exec (.sharedStoreWrite p k w) s = s.after (fun d => d.access (fun d => d.busWrite (portNum p) (sharedAddr k) w)) := rfl
theorem exec_pcommitArm (p : Port) (w : Word) (s : State) :
    exec (.pcommitArm p w) s = s.after (fun d => d.access (fun d => d.busWrite (portNum p) (THK_PCTRL.addr 0 0) w)) := rfl
theorem exec_linkBlockReceive (dt : Nat) (l : Fin 8) (body : BitVec 56) (cls : Fin 4) (part : List Byte) (s : State) :
    exec (.linkBlockReceive dt l body cls part) s = s.after (fun d => d.event dt (fun d => d.withPart l cls part (fun d => d.linkBlock l body))) := rfl
theorem exec_creditReturn (dt : Nat) (l : Fin 8) (x : ControlBlock) (s : State) :
    exec (.creditReturn dt l x) s = s.after (fun d => d.event dt (fun d => d.creditBlock l x.ty.toNat x.body)) := rfl
theorem exec_cellTransmit (t : Moment) (l : Fin 8) (s : State) :
    exec (.cellTransmit t l) s = s.after (fun d => d.event t.ticks (fun d => d.cellTransmit l t.sub)) := rfl
theorem exec_blockLock (dt : Nat) (l : Fin 8) (s : State) :
    exec (.blockLock dt l) s = s.after (fun d => d.event dt (fun d => d.blockLock l)) := rfl
theorem exec_lossOfSignal (dt : Nat) (l : Fin 8) (cls : Fin 4) (part : List Byte) (s : State) :
    exec (.lossOfSignal dt l cls part) s = s.after (fun d => d.event dt (fun d => d.withPart l cls part (fun d => d.linkDown l 1))) := rfl
theorem exec_headerErrorLimit (dt : Nat) (x : LinkCut) (slow : Bool) (s : State) :
    exec (.headerErrorLimit dt x slow) s = s.after (fun d => d.event dt (fun d => d.withPart x.link x.cls x.part (fun d => d.linkDown x.link (if slow then 3 else 2)))) := rfl
theorem exec_creditTimeout (dt : Nat) (x : LinkCut) (k : Fin 4) (s : State) :
    exec (.creditTimeout dt x k) s = s.after (fun d => d.event dt (fun d => d.withPart x.link x.cls x.part (fun d => d.creditTimeout x.link k))) := rfl
theorem exec_linkRetrain (p : Port) (x : LinkCut) (w : Word) (s : State) :
    exec (.linkRetrain p x w) s = s.after (fun d => d.access (fun d => d.withPart x.link x.cls x.part (fun d => d.busWrite (portNum p) (HLK_CTRL.addr x.link 0) w))) := rfl
theorem exec_linkDisable (p : Port) (l : Fin 8) (w : Word) (s : State) :
    exec (.linkDisable p l w) s = s.after (fun d => d.access (fun d => d.busWrite (portNum p) (HLK_CTRL.addr l 0) w)) := rfl
theorem exec_dreqSend (t : Moment) (l : Fin 8) (s : State) :
    exec (.dreqSend t l) s = s.after (fun d => d.event t.ticks (fun d => d.dreqSend l t.sub)) := rfl
theorem exec_dreqReceive (t : Moment) (l : Fin 8) (bs : List Byte) (s : State) :
    exec (.dreqReceive t l bs) s = s.after (fun d => d.event t.ticks (fun d => d.dreqReceive l t.sub bs)) := rfl
theorem exec_drspReceive (t : Moment) (l : Fin 8) (bs : List Byte) (s : State) :
    exec (.drspReceive t l bs) s = s.after (fun d => d.event t.ticks (fun d => d.drspReceive l t.sub bs)) := rfl
theorem exec_syncSend (t : Moment) (l : Fin 8) (s : State) :
    exec (.syncSend t l) s = s.after (fun d => d.event t.ticks (fun d => d.syncSend l t.sub)) := rfl
theorem exec_syncReceive (t : Moment) (l : Fin 8) (bs : List Byte) (s : State) :
    exec (.syncReceive t l bs) s = s.after (fun d => d.event t.ticks (fun d => d.syncReceive l t.sub bs)) := rfl
theorem exec_isoCellReceive (dt : Nat) (l : Fin 8) (bs : List Byte) (s : State) :
    exec (.isoCellReceive dt l bs) s = s.after (fun d => d.event dt (fun d => d.cellReceive l 1 bs)) := rfl
theorem exec_ringCellReceive (dt : Nat) (l : Fin 8) (bulk : Bool) (bs : List Byte) (s : State) :
    exec (.ringCellReceive dt l bulk bs) s = s.after (fun d => d.event dt (fun d => d.cellReceive l (if bulk then 3 else 2) bs)) := rfl
theorem exec_rsvWrite (p : Port) (l : Fin 8) (ix : Fin 256) (w : Word) (s : State) :
    exec (.rsvWrite p l ix w) s = s.after (fun d => d.access (fun d => d.busWrite (portNum p) (HLK_RSV.addr l ix) w)) := rfl
theorem exec_transitCellReceive (dt : Nat) (l : Fin 8) (bulk : Bool) (bs : List Byte) (s : State) :
    exec (.transitCellReceive dt l bulk bs) s = s.after (fun d => d.event dt (fun d => d.cellReceive l (if bulk then 3 else 2) bs)) := rfl
theorem exec_polarityInvert (dt : Nat) (l : Fin 8) (s : State) :
    exec (.polarityInvert dt l) s = s.after (fun d => d.event dt (fun d => d.polarityInvert l)) := rfl
theorem exec_initTimeout (dt : Nat) (l : Fin 8) (s : State) :
    exec (.initTimeout dt l) s = s.after (fun d => d.event dt (fun d => d.initTimeout l)) := rfl
theorem exec_downTimeout (dt : Nat) (l : Fin 8) (s : State) :
    exec (.downTimeout dt l) s = s.after (fun d => d.event dt (fun d => d.downTimeout l)) := rfl
theorem exec_drspTimeout (dt : Nat) (l : Fin 8) (s : State) :
    exec (.drspTimeout dt l) s = s.after (fun d => d.event dt (fun d => d.drspTimeout l)) := rfl
theorem exec_wdogKick (p : Port) (w : Word) (s : State) :
    exec (.wdogKick p w) s = s.after (fun d => d.access (fun d => d.busWrite (portNum p) (MGMT_WDOG_KICK.addr 0 0) w)) := rfl
theorem exec_wdogExpire (dt : Nat) (s : State) :
    exec (.wdogExpire dt) s = s.after (fun d => d.event dt (fun d => d.wdogExpire)) := rfl
theorem exec_mgmtReset (p : Port) (w : Word) (s : State) :
    exec (.mgmtReset p w) s = s.after (fun d => d.access (fun d => d.busWrite (portNum p) (MGMT_CTRL.addr 0 0) w)) := rfl
theorem exec_mgmtResetDone (dt : Nat) (s : State) :
    exec (.mgmtResetDone dt) s = s.after (fun d => d.event dt (fun d => d.mgmtResetDone)) := rfl
theorem exec_doorbell (p : Port) (w : Word) (s : State) :
    exec (.doorbell p w) s = s.after (fun d => d.access (fun d => d.busWrite (portNum p) (MGMT_CTRL.addr 0 0) w)) := rfl
theorem exec_vectorRaise (p : Port) (w : Word) (s : State) :
    exec (.vectorRaise p w) s = s.after (fun d => d.access (fun d => d.busWrite (portNum p) (MGMT_VEC_RAISE.addr 0 0) w)) := rfl
theorem exec_ringEnable (p : Port) (q : Fin 32) (w : Word) (s : State) :
    exec (.ringEnable p q w) s = s.after (fun d => d.access (fun d => d.busWrite (portNum p) (MGMT_RING_CFG.addr q 0) w)) := rfl
theorem exec_ringWrWrite (p : Port) (q : Fin 32) (w : Word) (s : State) :
    exec (.ringWrWrite p q w) s = s.after (fun d => d.access (fun d => d.busWrite (portNum p) (MGMT_RING_WR.addr q 0) w)) := rfl
theorem exec_ringRdWrite (p : Port) (q : Fin 32) (w : Word) (s : State) :
    exec (.ringRdWrite p q w) s = s.after (fun d => d.access (fun d => d.busWrite (portNum p) (MGMT_RING_RD.addr q 0) w)) := rfl
theorem exec_hportSelect (p : Port) (w : Word) (s : State) :
    exec (.hportSelect p w) s = s.after (fun d => d.access (fun d => d.busWrite (portNum p) (MGMT_HPORT_SEL.addr 0 0) w)) := rfl
theorem exec_hportRead (p : Port) (s : State) :
    exec (.hportRead p) s = s.after (fun d => d.access (fun d => d.busLoad (portNum p) (MGMT_HPORT_DATA.addr 0 0))) := rfl
theorem exec_hportWrite (p : Port) (w : Word) (s : State) :
    exec (.hportWrite p w) s = s.after (fun d => d.access (fun d => d.busWrite (portNum p) (MGMT_HPORT_DATA.addr 0 0) w)) := rfl
theorem exec_hportCommit (p : Port) (w : Word) (s : State) :
    exec (.hportCommit p w) s = s.after (fun d => d.access (fun d => d.busWrite (portNum p) (MGMT_HPORT_CTRL.addr 0 0) w)) := rfl
theorem exec_sceneWrite (p : Port) (k : Fin 0x100000) (w : Word) (s : State) :
    exec (.sceneWrite p k w) s = s.after (fun d => d.access (fun d => d.busWrite (portNum p) (sceneAddr k) w)) := rfl
theorem exec_sceneWordDone (dt : Nat) (bad : Bool) (s : State) :
    exec (.sceneWordDone dt bad) s = s.after (fun d => d.event dt (fun d => d.sceneWordDone bad)) := rfl
theorem exec_pcieReset (dt : Nat) (s : State) :
    exec (.pcieReset dt) s = s.after (fun d => d.event dt (fun d => d.pcieReset)) := rfl
theorem exec_pcieLinkDown (dt : Nat) (s : State) :
    exec (.pcieLinkDown dt) s = s.after (fun d => d.event dt (fun d => d.pcieLinkDown)) := rfl
theorem exec_pcieError (dt : Nat) (s : State) :
    exec (.pcieError dt) s = s.after (fun d => d.event dt (fun d => d.pcieError)) := rfl
theorem exec_perstNChange (dt : Nat) (low : Bool) (s : State) :
    exec (.perstNChange dt low) s = s.after (fun d => d.pinEvent dt (fun d => d.perstChange low)) := rfl
theorem exec_msixUnmask (dt : Nat) (v : Fin 64) (addr : Nat) (x : MsixUse) (s : State) :
    exec (.msixUnmask dt v addr x) s = s.after (fun d => d.event dt (fun d => d.msixAccess v addr x)) := rfl
theorem exec_heartbeatReceive (dt : Nat) (bs : List Byte) (s : State) :
    exec (.heartbeatReceive dt bs) s = s.after (fun d => d.event dt (fun d => d.heartbeatReceive bs)) := rfl
theorem exec_pairEvaluate (dt : Nat) (s : State) :
    exec (.pairEvaluate dt) s = s.after (fun d => d.event dt (fun d => d.pairEvaluate)) := rfl
theorem exec_liveEdge (dt : Nat) (level : Bool) (s : State) :
    exec (.liveEdge dt level) s = s.after (fun d => d.pinEvent dt (fun d => d.liveEdge level)) := rfl
theorem exec_ownInChange (dt : Nat) (high : Bool) (s : State) :
    exec (.ownInChange dt high) s = s.after (fun d => d.pinEvent dt (fun d => d.ownInChange high)) := rfl
theorem exec_yield (p : Port) (w : Word) (s : State) :
    exec (.yield p w) s = s.after (fun d => d.access (fun d => d.busWrite (portNum p) (PAIR_CTRL.addr 0 0) w)) := rfl
theorem exec_resync (p : Port) (w : Word) (s : State) :
    exec (.resync p w) s = s.after (fun d => d.access (fun d => d.busWrite (portNum p) (PAIR_CTRL.addr 0 0) w)) := rfl
theorem exec_pairClear (p : Port) (w : Word) (s : State) :
    exec (.pairClear p w) s = s.after (fun d => d.access (fun d => d.busWrite (portNum p) (PAIR_CTRL.addr 0 0) w)) := rfl
theorem exec_pairFail (p : Port) (w : Word) (s : State) :
    exec (.pairFail p w) s = s.after (fun d => d.access (fun d => d.busWrite (portNum p) (PAIR_CTRL.addr 0 0) w)) := rfl
theorem exec_handover (p : Port) (w : Word) (s : State) :
    exec (.handover p w) s = s.after (fun d => d.access (fun d => d.busWrite (portNum p) (PAIR_CTRL.addr 0 0) w)) := rfl
theorem exec_pairVbusReceive (dt : Nat) (g : Fin 4) (v val : Nat) (st : Fin 3) (ceil : Bool) (s : State) :
    exec (.pairVbusReceive dt g v val st ceil) s = s.after (fun d => d.event dt (fun d => d.pairVbus g v val st ceil)) := rfl
theorem exec_pairAsrcReceive (dt : Nat) (b : Nat) (ws : List (Nat × Nat × Nat × Nat)) (s : State) :
    exec (.pairAsrcReceive dt b ws) s = s.after (fun d => d.event dt (fun d => d.pairAsrc b ws)) := rfl
theorem exec_mirrorReceive (dt : Nat) (x : MirrorMsg) (s : State) :
    exec (.mirrorReceive dt x) s = s.after (fun d => d.event dt (fun d => d.mirrorReceive x)) := rfl
theorem exec_pairPsmReceive (dt : Nat) (g : Fin 4) (state : Nat) (chans : List (Nat × Nat × Nat × Nat)) (s : State) :
    exec (.pairPsmReceive dt g state chans) s = s.after (fun d => d.event dt (fun d => d.pairPsm ⟨g, state, chans⟩)) := rfl
theorem exec_healthReceive (dt : Nat) (bs : List Byte) (s : State) :
    exec (.healthReceive dt bs) s = s.after (fun d => d.event dt (fun d => d.healthReceive bs)) := rfl
theorem exec_pairLinkDown (dt : Nat) (s : State) :
    exec (.pairLinkDown dt) s = s.after (fun d => d.event dt (fun d => d.pairLinkDown)) := rfl
theorem exec_boundaryMissed (dt : Nat) (s : State) :
    exec (.boundaryMissed dt) s = s.after (fun d => d.event dt (fun d => d.boundaryMissed)) := rfl
theorem exec_healthRecord (dt : Nat) (s : State) :
    exec (.healthRecord dt) s = s.after (fun d => d.event dt (fun d => d.healthRecord)) := rfl
theorem exec_scrub (dt : Nat) (a : Nat) (err : Fin 3) (s : State) :
    exec (.scrub dt a err) s = s.after (fun d => d.event dt (fun d => d.scrub a err)) := rfl
theorem exec_pleachKernel (dt : Nat) (m : Fin 64) (good : Bool) (s : State) :
    exec (.pleachKernel dt m good) s = s.after (fun d => d.event dt (fun d => d.pleachKernel m good)) := rfl
theorem exec_startupBackoffExpire (dt : Nat) (s : State) :
    exec (.startupBackoffExpire dt) s = s.after (fun d => d.event dt (fun d => d.backoffExpire)) := rfl
theorem exec_powerUp (dt : Nat) (mv : Nat) (s : State) :
    exec (.powerUp dt mv) s = s.after (fun d => d.pinEvent dt (fun d => d.powerUp mv)) := rfl
theorem exec_porRelease (dt : Nat) (testen : Bool) (s : State) :
    exec (.porRelease dt testen) s = s.after (fun d => d.pinEvent dt (fun d => d.porRelease testen)) := rfl
theorem exec_por (dt : Nat) (mv : Nat) (s : State) :
    exec (.por dt mv) s = s.after (fun d => d.pinEvent dt (fun d => d.porAssert mv)) := rfl
theorem exec_chipReset (dt : Nat) (ns : Nat) (s : State) :
    exec (.chipReset dt ns) s = s.after (fun d => d.pinEvent dt (fun d => d.resetPin ns)) := rfl
theorem exec_railTimeout (dt : Nat) (s : State) :
    exec (.railTimeout dt) s = s.after (fun d => d.pinEvent dt (fun d => d.railTimeout)) := rfl
theorem exec_powerUpRetry (dt : Nat) (s : State) :
    exec (.powerUpRetry dt) s = s.after (fun d => d.pinEvent dt (fun d => d.powerUpRetry)) := rfl
theorem exec_carrierPeriod (dt : Nat) (g : Fin 4) (uv : Nat) (s : State) :
    exec (.carrierPeriod dt g uv) s = s.after (fun d => d.event dt (fun d => d.carrierTurn g uv)) := rfl
theorem exec_deepSleep (dt : Nat) (g : Fin 4) (s : State) :
    exec (.deepSleep dt g) s = s.after (fun d => d.event dt (fun d => d.deepSleep g)) := rfl
theorem exec_psmStart (p : Port) (g : Fin 4) (w : Word) (s : State) :
    exec (.psmStart p g w) s = s.after (fun d => d.access (fun d => d.busWrite (portNum p) (PSM_PG_CTRL.addr g 0) w)) := rfl
theorem exec_psmStop (p : Port) (g : Fin 4) (w : Word) (s : State) :
    exec (.psmStop p g w) s = s.after (fun d => d.access (fun d => d.busWrite (portNum p) (PSM_PG_CTRL.addr g 0) w)) := rfl
theorem exec_legtestDone (dt : Nat) (g : Fin 4) (legs : List (Nat × Nat)) (s : State) :
    exec (.legtestDone dt g legs) s = s.after (fun d => d.event dt (fun d => d.legtestDone g legs)) := rfl
theorem exec_enableTimeDone (dt : Nat) (g : Fin 4) (s : State) :
    exec (.enableTimeDone dt g) s = s.after (fun d => d.event dt (fun d => d.enableDone g)) := rfl
theorem exec_loadtestDone (dt : Nat) (g : Fin 4) (meas : List (Int × Int)) (s : State) :
    exec (.loadtestDone dt g meas) s = s.after (fun d => d.event dt (fun d => d.loadtestDone g meas)) := rfl
theorem exec_stopRampDone (dt : Nat) (g : Fin 4) (s : State) :
    exec (.stopRampDone dt g) s = s.after (fun d => d.event dt (fun d => d.stopDone g)) := rfl
theorem exec_psfltAssert (dt : Nat) (x : FltPin) (s : State) :
    exec (.psfltAssert dt x) s = s.after (fun d => d.event dt (fun d => d.psfltAssert x.grp x.low)) := rfl
theorem exec_ilimTrip (dt : Nat) (n : Fin 32) (isns : Int) (va vb : Nat) (s : State) :
    exec (.ilimTrip dt n isns va vb) s = s.after (fun d => d.event dt (fun d => d.ilimTrip n isns va vb)) := rfl
theorem exec_latchClear (p : Port) (n : Fin 32) (w : Word) (s : State) :
    exec (.latchClear p n w) s = s.after (fun d => d.access (fun d => d.busWrite (portNum p) (PSM_CH_STAT.addr n 0) w)) := rfl
theorem exec_loadtestAbort (dt : Nat) (x : IsnsMean) (s : State) :
    exec (.loadtestAbort dt x) s = s.after (fun d => d.event dt (fun d => d.loadtestAbort x.chan x.uv)) := rfl
theorem exec_candGlitch (dt : Nat) (x : EdgeGap) (s : State) :
    exec (.candGlitch dt x) s = s.after (fun d => d.event dt (fun d => d.candGlitch x.cand x.falling x.ps)) := rfl
theorem exec_candActivityTimeout (dt : Nat) (x : EdgeGap) (s : State) :
    exec (.candActivityTimeout dt x) s = s.after (fun d => d.event dt (fun d => d.candSilence x.cand x.falling x.ps)) := rfl
theorem exec_qualGateEnd (dt : Nat) (c : Fin 17) (ofs : Int) (s : State) :
    exec (.qualGateEnd dt c ofs) s = s.after (fun d => d.event dt (fun d => d.gateEnd c ofs)) := rfl
theorem exec_holdoffExpire (dt : Nat) (c : Fin 17) (s : State) :
    exec (.holdoffExpire dt c) s = s.after (fun d => d.event dt (fun d => d.holdoffEnd c)) := rfl
theorem exec_loopRankWrite (p : Port) (k : Fin 4) (x : Option (Fin 3)) (w : Word) (s : State) :
    exec (.loopRankWrite p k x w) s = s.after (fun d => d.access (fun d => d.busWrite (portNum p) (rankAddr k x) w)) := rfl
theorem exec_bandTrialDone (dt : Nat) (k : Fin 4) (f fine : Nat) (s : State) :
    exec (.bandTrialDone dt k f fine) s = s.after (fun d => d.event dt (fun d => d.bandTrial k f fine)) := rfl
theorem exec_comparisonEdge (dt : Nat) (k : Fin 4) (x : EdgeMeas) (s : State) :
    exec (.comparisonEdge dt k x) s = s.after (fun d => d.event dt (fun d => d.compEdge k x.n x.late x.ratio)) := rfl
theorem exec_narrowStep (dt : Nat) (k : Fin 4) (s : State) :
    exec (.narrowStep dt k) s = s.after (fun d => d.event dt (fun d => d.narrowStep k)) := rfl
theorem exec_pullComplete (dt : Nat) (k : Fin 4) (s : State) :
    exec (.pullComplete dt k) s = s.after (fun d => d.event dt (fun d => d.pullDone k)) := rfl
theorem exec_retune (p : Port) (k : Fin 4) (w : Word) (s : State) :
    exec (.retune p k w) s = s.after (fun d => d.access (fun d => d.busWrite (portNum p) (RCU_LOOP_CTRL.addr k 0) w)) := rfl
theorem exec_qsHop (p : Port) (k : Fin 2) (w : Word) (s : State) :
    exec (.qsHop p k w) s = s.after (fun d => d.access (fun d => d.busWrite (portNum p) (RCU_QS_HOP.addr k 0) w)) := rfl
theorem exec_ditherSeedWrite (p : Port) (k : Fin 4) (w : Word) (s : State) :
    exec (.ditherSeedWrite p k w) s = s.after (fun d => d.access (fun d => d.busWrite (portNum p) (RCU_DITHER.addr k 0) w)) := rfl
theorem exec_bandSearchRetry (dt : Nat) (k : Fin 4) (s : State) :
    exec (.bandSearchRetry dt k) s = s.after (fun d => d.event dt (fun d => d.searchRetry k)) := rfl
theorem exec_hopSettled (dt : Nat) (k : Fin 4) (s : State) :
    exec (.hopSettled dt k) s = s.after (fun d => d.event dt (fun d => d.hopSettled k)) := rfl
theorem exec_hopCheckDone (dt : Nat) (k : Fin 4) (s : State) :
    exec (.hopCheckDone dt k) s = s.after (fun d => d.event dt (fun d => d.hopCheckDone k)) := rfl
theorem exec_frameStart (dt : Nat) (q : Fin 16) (bclk : Nat) (ofs : Int) (ws : List Word) (s : State) :
    exec (.frameStart dt q bclk ofs ws) s = s.after (fun d => d.event dt (fun d => d.serialFrame q bclk ofs ws)) := rfl
theorem exec_rateGateEnd (dt : Nat) (q : Fin 16) (rate : Nat) (s : State) :
    exec (.rateGateEnd dt q rate) s = s.after (fun d => d.event dt (fun d => d.gateDone q rate)) := rfl
theorem exec_clockStop (dt : Nat) (q : Fin 16) (s : State) :
    exec (.clockStop dt q) s = s.after (fun d => d.event dt (fun d => d.clockStop q)) := rfl
theorem exec_sapGroupStart (p : Port) (k : Fin 16) (w : Word) (s : State) :
    exec (.sapGroupStart p k w) s = s.after (fun d => d.access (fun d => d.busWrite (portNum p) (SAP_GRP_CTRL.addr k 0) w)) := rfl
theorem exec_sapGroupStop (p : Port) (k : Fin 16) (w : Word) (s : State) :
    exec (.sapGroupStop p k w) s = s.after (fun d => d.access (fun d => d.busWrite (portNum p) (SAP_GRP_CTRL.addr k 0) w)) := rfl
theorem exec_sapRestart (p : Port) (q : Fin 16) (w : Word) (s : State) :
    exec (.sapRestart p q w) s = s.after (fun d => d.access (fun d => d.busWrite (portNum p) (SAP_PCTRL.addr q 0) w)) := rfl
theorem exec_ldw (m : Fin 64) (f : IForm) (s : State) :
    exec (.ldw m f) s = s.after (fun d => d.issued (fun d => d.spLdw m f)) := rfl
theorem exec_stw (m : Fin 64) (f : IForm) (s : State) :
    exec (.stw m f) s = s.after (fun d => d.issued (fun d => d.spStw m f)) := rfl
theorem exec_vld (m : Fin 64) (f : IForm) (s : State) :
    exec (.vld m f) s = s.after (fun d => d.issued (fun d => d.spVld m f)) := rfl
theorem exec_vst (m : Fin 64) (f : IForm) (s : State) :
    exec (.vst m f) s = s.after (fun d => d.issued (fun d => d.spVst m f)) := rfl
theorem exec_vldc (m : Fin 64) (f : MForm) (s : State) :
    exec (.vldc m f) s = s.after (fun d => d.issued (fun d => d.spVldc m f)) := rfl
theorem exec_vstc (m : Fin 64) (f : MForm) (s : State) :
    exec (.vstc m f) s = s.after (fun d => d.issued (fun d => d.spVstc m f)) := rfl
theorem exec_vlds (m : Fin 64) (f : IForm) (s : State) :
    exec (.vlds m f) s = s.after (fun d => d.issued (fun d => d.spVlds m f)) := rfl
theorem exec_setca (m : Fin 64) (f : RForm) (s : State) :
    exec (.setca m f) s = s.after (fun d => d.issued (fun d => d.spSetca m f)) := rfl
theorem exec_caoff (m : Fin 64) (f : RForm) (s : State) :
    exec (.caoff m f) s = s.after (fun d => d.issued (fun d => d.spCaoff m f)) := rfl
theorem exec_caoffW (m : Fin 64) (f : RForm) (s : State) :
    exec (.caoffW m f) s = s.after (fun d => d.issued (fun d => d.spCaoffW m f)) := rfl
theorem exec_loopIterate (m : Fin 64) (s : State) :
    exec (.loopIterate m) s = s.after (fun d => d.issued (fun d => d.loopIterate m)) := rfl
theorem exec_add (m : Fin 64) (f : RForm) (s : State) :
    exec (.add m f) s = s.after (fun d => d.issued (fun d => d.spAlu m 0x01 f (fun a b => a + b))) := rfl
theorem exec_sub (m : Fin 64) (f : RForm) (s : State) :
    exec (.sub m f) s = s.after (fun d => d.issued (fun d => d.spAlu m 0x02 f (fun a b => a - b))) := rfl
theorem exec_and (m : Fin 64) (f : RForm) (s : State) :
    exec (.and m f) s = s.after (fun d => d.issued (fun d => d.spAlu m 0x03 f (fun a b => a &&& b))) := rfl
theorem exec_or (m : Fin 64) (f : RForm) (s : State) :
    exec (.or m f) s = s.after (fun d => d.issued (fun d => d.spAlu m 0x04 f (fun a b => a ||| b))) := rfl
theorem exec_xor (m : Fin 64) (f : RForm) (s : State) :
    exec (.xor m f) s = s.after (fun d => d.issued (fun d => d.spAlu m 0x05 f (fun a b => a ^^^ b))) := rfl
theorem exec_sll (m : Fin 64) (f : RForm) (s : State) :
    exec (.sll m f) s = s.after (fun d => d.issued (fun d => d.spAlu m 0x06 f (fun a b => a <<< (b.toNat % 32)))) := rfl
theorem exec_srl (m : Fin 64) (f : RForm) (s : State) :
    exec (.srl m f) s = s.after (fun d => d.issued (fun d => d.spAlu m 0x07 f (fun a b => a >>> (b.toNat % 32)))) := rfl
theorem exec_sra (m : Fin 64) (f : RForm) (s : State) :
    exec (.sra m f) s = s.after (fun d => d.issued (fun d => d.spAlu m 0x08 f (fun a b => a.sshiftRight (b.toNat % 32)))) := rfl
theorem exec_mul (m : Fin 64) (f : RForm) (s : State) :
    exec (.mul m f) s = s.after (fun d => d.issued (fun d => d.spAlu m 0x09 f (fun a b => a * b))) := rfl
theorem exec_addi (m : Fin 64) (f : IForm) (s : State) :
    exec (.addi m f) s = s.after (fun d => d.issued (fun d => d.spAddi m f)) := rfl
theorem exec_lui (m : Fin 64) (f : IForm) (s : State) :
    exec (.lui m f) s = s.after (fun d => d.issued (fun d => d.spLui m f)) := rfl
theorem exec_beq (m : Fin 64) (f : BForm) (s : State) :
    exec (.beq m f) s = s.after (fun d => d.issued (fun d => d.spBranch m 0x10 f (fun a b => a == b))) := rfl
theorem exec_bne (m : Fin 64) (f : BForm) (s : State) :
    exec (.bne m f) s = s.after (fun d => d.issued (fun d => d.spBranch m 0x11 f (fun a b => a != b))) := rfl
theorem exec_blt (m : Fin 64) (f : BForm) (s : State) :
    exec (.blt m f) s = s.after (fun d => d.issued (fun d => d.spBranch m 0x12 f (fun a b => a.slt b))) := rfl
theorem exec_bge (m : Fin 64) (f : BForm) (s : State) :
    exec (.bge m f) s = s.after (fun d => d.issued (fun d => d.spBranch m 0x13 f (fun a b => !a.slt b))) := rfl
theorem exec_jal (m : Fin 64) (f : JForm) (s : State) :
    exec (.jal m f) s = s.after (fun d => d.issued (fun d => d.spJal m f)) := rfl
theorem exec_jr (m : Fin 64) (f : RForm) (s : State) :
    exec (.jr m f) s = s.after (fun d => d.issued (fun d => d.spJr m f)) := rfl
theorem exec_loop (m : Fin 64) (f : LForm) (s : State) :
    exec (.loop m f) s = s.after (fun d => d.issued (fun d => d.spLoop m f)) := rfl
theorem exec_rdpace (m : Fin 64) (f : RForm) (s : State) :
    exec (.rdpace m f) s = s.after (fun d => d.issued (fun d => d.spRdpace m f)) := rfl
theorem exec_csrr (m : Fin 64) (f : CForm) (s : State) :
    exec (.csrr m f) s = s.after (fun d => d.issued (fun d => d.spCsrr m f)) := rfl
theorem exec_csrw (m : Fin 64) (f : CForm) (s : State) :
    exec (.csrw m f) s = s.after (fun d => d.issued (fun d => d.spCsrw m f)) := rfl
theorem exec_fence (m : Fin 64) (f : RForm) (s : State) :
    exec (.fence m f) s = s.after (fun d => d.issued (fun d => d.spFence m f)) := rfl
theorem exec_brk (m : Fin 64) (f : RForm) (s : State) :
    exec (.brk m f) s = s.after (fun d => d.issued (fun d => d.spBrk m f)) := rfl
theorem exec_endJob (m : Fin 64) (f : RForm) (s : State) :
    exec (.endJob m f) s = s.after (fun d => d.issued (fun d => d.spEnd m f)) := rfl
theorem exec_unassignedOpcode (m : Fin 64) (w : Word) (s : State) :
    exec (.unassignedOpcode m w) s = s.after (fun d => d.issued (fun d => d.spUnassigned m w)) := rfl
theorem exec_vadd (m : Fin 64) (f : RForm) (s : State) :
    exec (.vadd m f) s = s.after (fun d => d.issued (fun d => d.spLanes m 0x21 f true true (lane2 (if f.neg = 1 then .sub else .add)))) := rfl
theorem exec_vmul (m : Fin 64) (f : RForm) (s : State) :
    exec (.vmul m f) s = s.after (fun d => d.issued (fun d => d.spLanes m 0x22 f false true (lane2 .mul))) := rfl
theorem exec_vmac (m : Fin 64) (f : RForm) (s : State) :
    exec (.vmac m f) s = s.after (fun d => d.issued (fun d => d.spMac m 0x23 false f)) := rfl
theorem exec_vmacs (m : Fin 64) (f : RForm) (s : State) :
    exec (.vmacs m f) s = s.after (fun d => d.issued (fun d => d.spMac m 0x24 true f)) := rfl
theorem exec_vmin (m : Fin 64) (f : RForm) (s : State) :
    exec (.vmin m f) s = s.after (fun d => d.issued (fun d => d.spLanes m 0x25 f false true (lane2 .min))) := rfl
theorem exec_vmax (m : Fin 64) (f : RForm) (s : State) :
    exec (.vmax m f) s = s.after (fun d => d.issued (fun d => d.spLanes m 0x26 f false true (lane2 .max))) := rfl
theorem exec_vabs (m : Fin 64) (f : RForm) (s : State) :
    exec (.vabs m f) s = s.after (fun d => d.issued (fun d => d.spVabs m f)) := rfl
theorem exec_vdiv (m : Fin 64) (f : RForm) (s : State) :
    exec (.vdiv m f) s = s.after (fun d => d.issued (fun d => d.spLanes m 0x28 f false false (lane2 .div))) := rfl
theorem exec_vshf (m : Fin 64) (f : RForm) (s : State) :
    exec (.vshf m f) s = s.after (fun d => d.issued (fun d => d.spVshf m f)) := rfl
theorem exec_vcvt (m : Fin 64) (f : RForm) (s : State) :
    exec (.vcvt m f) s = s.after (fun d => d.issued (fun d => d.spVcvt m f)) := rfl
theorem exec_vins (m : Fin 64) (f : RForm) (s : State) :
    exec (.vins m f) s = s.after (fun d => d.issued (fun d => d.spVins m f)) := rfl
theorem exec_vext (m : Fin 64) (f : RForm) (s : State) :
    exec (.vext m f) s = s.after (fun d => d.issued (fun d => d.spVext m f)) := rfl
theorem exec_accz (m : Fin 64) (f : RForm) (s : State) :
    exec (.accz m f) s = s.after (fun d => d.issued (fun d => d.spAccz m f)) := rfl
theorem exec_accrd (m : Fin 64) (f : RForm) (s : State) :
    exec (.accrd m f) s = s.after (fun d => d.issued (fun d => d.spAccrd m f)) := rfl
theorem exec_accred (m : Fin 64) (f : RForm) (s : State) :
    exec (.accred m f) s = s.after (fun d => d.issued (fun d => d.spAccred m f)) := rfl
theorem exec_vbusWarn (dt : Nat) (mv : Nat) (s : State) :
    exec (.vbusWarn dt mv) s = s.after (fun d => d.event dt (fun d => d.vbusWarn mv)) := rfl
theorem exec_vbusRecover (dt : Nat) (mv : Nat) (s : State) :
    exec (.vbusRecover dt mv) s = s.after (fun d => d.event dt (fun d => d.vbusRecover mv)) := rfl
theorem exec_supervisorTrip (dt : Nat) (x : Sup) (v : Int) (s : State) :
    exec (.supervisorTrip dt x v) s = s.after (fun d => d.event dt (fun d => d.supervisorTrip x v)) := rfl
theorem exec_vcoreSetWrite (p : Port) (w : Word) (s : State) :
    exec (.vcoreSetWrite p w) s = s.after (fun d => d.access (fun d => d.busWrite (portNum p) (PWR_VCORE.addr 0 0) w)) := rfl
theorem exec_vcoreSetStep (dt : Nat) (s : State) :
    exec (.vcoreSetStep dt) s = s.after (fun d => d.event dt (fun d => d.vcoreStep)) := rfl
theorem exec_dipRestoreDone (dt : Nat) (s : State) :
    exec (.dipRestoreDone dt) s = s.after (fun d => d.event dt (fun d => d.dipRestoreDone)) := rfl
theorem exec_supervisorClear (dt : Nat) (x : Sup) (v : Int) (s : State) :
    exec (.supervisorClear dt x v) s = s.after (fun d => d.event dt (fun d => d.supervisorClear x v)) := rfl
theorem exec_ftmKey (p : Port) (w : Word) (s : State) :
    exec (.ftmKey p w) s = s.after (fun d => d.access (fun d => d.busWrite (portNum p) (TEST_FTM.addr 0 0) w)) := rfl
theorem exec_tapReset (dt : Nat) (s : State) :
    exec (.tapReset dt) s = s.after (fun d => d.pinEvent dt (fun d => d.tapReset)) := rfl
theorem exec_extest (dt : Nat) (pins : Nat) (shifted : Option Nat) (s : State) :
    exec (.extest dt pins shifted) s = s.after (fun d => d.pinEvent dt (fun d => d.tapExtest 0 pins shifted)) := rfl
theorem exec_idcode (dt : Nat) (s : State) :
    exec (.idcode dt) s = s.after (fun d => d.pinEvent dt (fun d => d.tapIdcode)) := rfl
theorem exec_samplePreload (dt : Nat) (pins shifted : Nat) (s : State) :
    exec (.samplePreload dt pins shifted) s = s.after (fun d => d.pinEvent dt (fun d => d.tapSample pins shifted)) := rfl
theorem exec_extestPulse (dt : Nat) (pins : Nat) (shifted : Option Nat) (s : State) :
    exec (.extestPulse dt pins shifted) s = s.after (fun d => d.pinEvent dt (fun d => d.tapExtest 3 pins shifted)) := rfl
theorem exec_extestTrain (dt : Nat) (pins : Nat) (shifted : Option Nat) (s : State) :
    exec (.extestTrain dt pins shifted) s = s.after (fun d => d.pinEvent dt (fun d => d.tapExtest 4 pins shifted)) := rfl
theorem exec_highz (dt : Nat) (s : State) :
    exec (.highz dt) s = s.after (fun d => d.pinEvent dt (fun d => d.tapHold 5)) := rfl
theorem exec_clamp (dt : Nat) (s : State) :
    exec (.clamp dt) s = s.after (fun d => d.pinEvent dt (fun d => d.tapHold 6)) := rfl
theorem exec_bypass (dt : Nat) (code : Fin 256) (s : State) :
    exec (.bypass dt code) s = s.after (fun d => d.pinEvent dt (fun d => d.tapBypass code)) := rfl
theorem exec_atbSelect (p : Port) (x : Fin 2) (w : Word) (s : State) :
    exec (.atbSelect p x w) s = s.after (fun d => d.access (fun d => d.busWrite (portNum p) (TEST_ATB_CFG.addr x 0) w)) := rfl
theorem exec_atbForce (p : Port) (x : Fin 2) (w : Word) (s : State) :
    exec (.atbForce p x w) s = s.after (fun d => d.access (fun d => d.busWrite (portNum p) (TEST_ATB_CFG.addr x 0) w)) := rfl
theorem exec_tbSet (p : Port) (t : Fin 4) (w : Word) (s : State) :
    exec (.tbSet p t w) s = s.after (fun d => d.access (fun d => d.busWrite (portNum p) (TIME_TB_CTRL.addr t 0) w)) := rfl
theorem exec_tbRead (p : Port) (t : Fin 4) (s : State) :
    exec (.tbRead p t) s = s.after (fun d => d.access (fun d => d.busLoad (portNum p) (TIME_TB_T0.addr t 0))) := rfl
theorem exec_rateCommit (p : Port) (t : Fin 4) (w : Word) (s : State) :
    exec (.rateCommit p t w) s = s.after (fun d => d.access (fun d => d.busWrite (portNum p) (TIME_TB_RATE_HI.addr t 0) w)) := rfl
theorem exec_offsetSubmit (p : Port) (t : Fin 4) (w : Word) (s : State) :
    exec (.offsetSubmit p t w) s = s.after (fun d => d.access (fun d => d.busWrite (portNum p) (TIME_OFS_VAL.addr t 0) w)) := rfl
theorem exec_servoHoldTimeout (dt : Nat) (t : Fin 4) (s : State) :
    exec (.servoHoldTimeout dt t) s = s.after (fun d => d.event dt (fun d => d.holdTimeout t)) := rfl
theorem exec_servoFree (p : Port) (t : Fin 4) (w : Word) (s : State) :
    exec (.servoFree p t w) s = s.after (fun d => d.access (fun d => d.busWrite (portNum p) (TIME_TB_CTRL.addr t 0) w)) := rfl
theorem exec_selectorTick (dt : Nat) (s : State) :
    exec (.selectorTick dt) s = s.after (fun d => d.event dt (fun d => d.selTick)) := rfl
theorem exec_selectorSwitch (p : Port) (w : Word) (s : State) :
    exec (.selectorSwitch p w) s = s.after (fun d => d.access (fun d => d.busWrite (portNum p) (TIME_SEL_CTRL.addr 0 0) w)) := rfl
theorem exec_selectorRevert (dt : Nat) (s : State) :
    exec (.selectorRevert dt) s = s.after (fun d => d.event dt (fun d => d.selRevert)) := rfl
theorem exec_alarmArm (p : Port) (a : Fin 32) (w : Word) (s : State) :
    exec (.alarmArm p a w) s = s.after (fun d => d.access (fun d => d.busWrite (portNum p) (TIME_ALM_NS.addr a 0) w)) := rfl
theorem exec_alarmDisarm (p : Port) (a : Fin 32) (w : Word) (s : State) :
    exec (.alarmDisarm p a w) s = s.after (fun d => d.access (fun d => d.busWrite (portNum p) (TIME_ALM_CFG.addr a 0) w)) := rfl
theorem exec_alarmFire (dt : Nat) (a : Fin 32) (sub : Fin 64) (s : State) :
    exec (.alarmFire dt a sub) s = s.after (fun d => d.event dt (fun d => d.alarmFire a sub)) := rfl
theorem exec_captureEvent (dt : Nat) (pin : Fin 12) (rising : Bool) (sub : Fin 64) (s : State) :
    exec (.captureEvent dt pin rising sub) s = s.after (fun d => d.event dt (fun d => d.pinEdge pin rising sub)) := rfl
theorem exec_captureRead (p : Port) (c : Fin 16) (s : State) :
    exec (.captureRead p c) s = s.after (fun d => d.access (fun d => d.busLoad (portNum p) (TIME_CAP_T0.addr c 0))) := rfl
theorem exec_regWrite (p : Port) (a : Nat) (w : Word) (s : State) :
    exec (.regWrite p a w) s = s.after (fun d => d.access (fun d => d.busWrite (portNum p) a w)) := rfl
theorem exec_undecodedAccess (p : Port) (a : Nat) (narrow : Bool) (wr : Option Word) (s : State) :
    exec (.undecodedAccess p a narrow wr) s = s.after (fun d => d.access (fun d => d.busOdd (portNum p) a narrow wr)) := rfl
theorem exec_spiWrite (a : Fin 0x1000000) (ws : List Word) (s : State) :
    exec (.spiWrite a ws) s = s.after (fun d => d.access (fun d => d.spiWrite a ws)) := rfl
theorem exec_spiRead (a : Fin 0x1000000) (n : Nat) (s : State) :
    exec (.spiRead a n) s = s.after (fun d => d.access (fun d => d.spiRead a n)) := rfl
theorem exec_blockResetCmd (p : Port) (w : Word) (s : State) :
    exec (.blockResetCmd p w) s = s.after (fun d => d.access (fun d => d.busWrite (portNum p) (SYS_BLKRST.addr 0 0) w)) := rfl
theorem exec_blockResetEnd (dt : Nat) (b : Fin 19) (s : State) :
    exec (.blockResetEnd dt b) s = s.after (fun d => d.event dt (fun d => d.blockResetEnd b)) := rfl
theorem exec_regRead (p : Port) (a : Nat) (err : Fin 3) (s : State) :
    exec (.regRead p a err) s = s.after (fun d => d.access (fun d => d.busLoadErr (portNum p) a err)) := rfl

end Sys2Proof.Machine
end

