-- ==== Sys2Proof/Laws/Sprig.lean ====
section
/-! SUPPORT. Laws of the issue of a Sprig instruction: what a fetched instruction does, in each of its two ways. -/

namespace Sys2Proof.Machine

/-- A fetched instruction that raises no exception goes on as `goesOn` says. -/
theorem Dev.issue_ok {d t u : Dev} {m npc ty : Nat} {w : Word} {is : Word → Bool} {f : Dev → SprigSt → SRes} {mem : Option (Nat × Nat)}
    {ld st : Bool} (h : d.fetches m w) (hw : is w = true) (ht : t = d.fetched m) (hf : f t (t.sprig m) = .ok u npc mem ld st) :
    d.issue m is ty f = u.goesOn t m (d.sprig m).pc npc mem ld st := by
  obtain ⟨h1, h2, h3, h4⟩ := h
  subst ht
  unfold Dev.fetched at hf
  simp only at hf
  unfold Dev.issue
  have h2' := Nat.not_le.2 h2
  simp only [h1, h2', h3, h4, hw, hf, Dev.goesOn, Dev.fetched, Bool.not_true, Bool.false_eq_true, if_false]

/-- A fetched instruction whose effect raises an exception takes it. -/
theorem Dev.issue_exc {d t : Dev} {m ty code addr : Nat} {w : Word} {is : Word → Bool} {f : Dev → SprigSt → SRes} {bad : Option Nat}
    (h : d.fetches m w) (hw : is w = true) (ht : t = d.fetched m) (hf : f t (t.sprig m) = .exc code addr bad) :
    d.issue m is ty f = t.spExcept m code addr (excType code ty) bad := by
  obtain ⟨h1, h2, h3, h4⟩ := h
  subst ht
  unfold Dev.fetched at hf
  simp only at hf
  unfold Dev.issue
  have h2' := Nat.not_le.2 h2
  simp only [h1, h2', h3, h4, hw, hf, Dev.fetched, Bool.not_true, Bool.false_eq_true, if_false]

/-- An instruction that only changes the Sprig. -/
theorem Dev.issue_next {d t : Dev} {m ty : Nat} {w : Word} {is : Word → Bool} {f : Dev → SprigSt → SRes} {x : SprigSt}
    (h : d.fetches m w) (hw : is w = true) (ht : t = d.fetched m) (hf : f t (t.sprig m) = .next t m x) :
    d.issue m is ty f = t.goesNext m (d.sprig m).pc x :=
  Dev.issue_ok h hw ht hf

end Sys2Proof.Machine
end

