-- ==== Sys2Proof/WellFormed.lean ====
section
/-! DEFINITION. Well-formed commands: what the operands of a row must satisfy for the command to be that row's. -/

namespace Sys2Proof

open Machine

/-- Is a window address a word of a register? -/
def inMap (a : Nat) : Bool := a % 4 == 0 && inRegs a && (decodeReg a).isSome

/-- Is a window address a word of the shared-store window or of the scene store? -/
def inStores (a : Nat) : Bool := a % 4 == 0 && (inShared a || inScene a)

/-- Does a window address decode to a word (R374, R376)? -/
def inMapped (a : Nat) : Bool := inMap a || inStores a

/-- Is a window address a word of a register with an image field? -/
def inImage (a : Nat) : Bool := inMap a && (decodeReg a).any (fun x => x.1.hasImage)

/-- Are the operands of a command within its row: the trigger bits of a register write, the lengths of lists, the ranges of addresses? -/
def Instr.wellFormed : Instr → Bool
  | .regWrite _ a _ => inMap a
  | .undecodedAccess _ a narrow wr => narrow || !inMapped a || (wr.isNone && inImage a)
  | .powerUp _ _ => true
  | .porRelease _ _ => true
  | .por _ mv => decide (mv < 32000)
  | .chipReset _ _ => true
  | .bootStart _ _ => true
  | .flashDirectoryRead _ a b => a.length == 64 && b.length == 64
  | .imageDataArrive _ bs => !bs.isEmpty
  | .signatureVerified _ => true
  | .sectionsApplied _ => true
  | .flashReadError _ => true
  | .hostLoadTimeout _ => true
  | .chunkWrite _ _ _ => true
  | .loadChunk _ w => fget w 15 0 != 0 && bitOf w.toNat 31 == 0
  | .loadLastChunk _ w => fget w 15 0 != 0 && bitOf w.toNat 31 == 1
  | .chunkTaken _ => true
  | .stageStart _ w => bitOf w.toNat 0 == 1
  | .stageAbort _ w => bitOf w.toNat 1 == 1
  | .stagingComplete _ => true
  | .swapArm _ w => bitOf w.toNat 0 == 1
  | .swapDisarm _ w => bitOf w.toNat 1 == 1
  | .restartSilent _ => true
  | .blockCycleArm _ => true
  | .syncTimeout _ => true
  | .blockBoundary _ _ sense => sense.all (fun x => decide (x.1 < 64))
  | .blockRealign _ w => bitOf w.toNat 0 == 1
  | .realignStop _ => true
  | .sealComplete _ => true
  | .xptPassDone _ => true
  | .deadline _ => true
  | .sprigTakeJob _ _ => true
  | .stealRetry _ _ => true
  | .jobComplete _ _ => true
  | .avsEnable _ w => bitOf w.toNat 31 == 1
  | .sharedStoreWrite _ _ _ => true
  | .pcommitArm _ w => bitOf w.toNat 0 == 1
  | .loopIterate _ => true
  | .add _ _ => true
  | .sub _ _ => true
  | .and _ _ => true
  | .or _ _ => true
  | .xor _ _ => true
  | .sll _ _ => true
  | .srl _ _ => true
  | .sra _ _ => true
  | .mul _ _ => true
  | .addi _ _ => true
  | .lui _ _ => true
  | .beq _ _ => true
  | .bne _ _ => true
  | .blt _ _ => true
  | .bge _ _ => true
  | .jal _ _ => true
  | .jr _ _ => true
  | .loop _ _ => true
  | .ldw _ _ => true
  | .stw _ _ => true
  | .vld _ _ => true
  | .vst _ _ => true
  | .vldc _ _ => true
  | .vstc _ _ => true
  | .vlds _ _ => true
  | .vadd _ _ => true
  | .vmul _ _ => true
  | .vmac _ _ => true
  | .vmacs _ _ => true
  | .vmin _ _ => true
  | .vmax _ _ => true
  | .vabs _ _ => true
  | .vdiv _ _ => true
  | .vshf _ _ => true
  | .vcvt _ _ => true
  | .vins _ _ => true
  | .vext _ _ => true
  | .accz _ _ => true
  | .accrd _ _ => true
  | .accred _ _ => true
  | .setca _ _ => true
  | .caoff _ _ => true
  | .caoffW _ _ => true
  | .rdpace _ _ => true
  | .csrr _ _ => true
  | .csrw _ _ => true
  | .fence _ _ => true
  | .brk _ _ => true
  | .endJob _ _ => true
  | .xptRouteCmd _ _ => true
  | .xptGainCmd _ _ => true
  | .xptStagedWrite _ _ _ => true
  | .xptArm _ w => bitOf w.toNat 0 == 1
  | .fadeComplete _ _ _ => true
  | .zcTimeout _ _ => true
  | .silenceEnter _ _ => true
  | .asrcStart _ _ ratio => decide (ratio < 2 ^ 40)
  | .asrcLock _ _ ratio _ => decide (ratio < 2 ^ 40)
  | .asrcSlip _ _ ratio => decide (ratio < 2 ^ 40)
  | .asrcRangeClear _ _ ratio => decide (ratio < 2 ^ 40)
  | .asrcIdle _ _ => true
  | .carrierPeriod _ _ _ => true
  | .deepSleep _ _ => true
  | .psmStart _ _ w => bitOf w.toNat 0 == 1
  | .psmStop _ _ w => bitOf w.toNat 1 == 1
  | .legtestDone _ _ legs => legs.length == 8
  | .enableTimeDone _ _ => true
  | .loadtestDone _ _ meas => meas.length == 8
  | .stopRampDone _ _ => true
  | .psfltAssert _ _ => true
  | .ilimTrip _ _ _ _ _ => true
  | .latchClear _ _ w => bitOf w.toNat 31 == 1
  | .frameStart _ _ _ _ ws => decide (ws.length ≤ 64)
  | .rateGateEnd _ _ _ => true
  | .clockStop _ _ => true
  | .sapGroupStart _ _ w => bitOf w.toNat 0 == 1
  | .sapGroupStop _ _ w => bitOf w.toNat 1 == 1
  | .sapRestart _ _ w => bitOf w.toNat 0 == 1
  | .linkBlockReceive _ _ _ _ part => decide (part.length ≤ 532)
  | .creditReturn _ _ x => x.ty != 0x4B
  | .cellTransmit _ _ => true
  | .blockLock _ _ => true
  | .lossOfSignal _ _ _ part => decide (part.length ≤ 532)
  | .headerErrorLimit _ x _ => decide (x.part.length ≤ 532)
  | .creditTimeout _ x _ => decide (x.part.length ≤ 532)
  | .linkRetrain _ x w => bitOf w.toNat 0 == 1 && decide (x.part.length ≤ 532)
  | .linkDisable _ _ _ => true
  | .dreqSend _ _ => true
  | .dreqReceive _ _ bs => decide (bs.length ≤ 532)
  | .drspReceive _ _ bs => decide (bs.length ≤ 532)
  | .syncSend _ _ => true
  | .syncReceive _ _ bs => decide (bs.length ≤ 532)
  | .isoCellReceive _ _ bs => decide (bs.length ≤ 532)
  | .ringCellReceive _ _ _ bs => decide (bs.length ≤ 532)
  | .rsvWrite _ _ _ _ => true
  | .helloSend _ _ => true
  | .helloReceive _ _ bs => decide (bs.length ≤ 532)
  | .adjDeadTimeout _ _ => true
  | .topoOriginate _ => true
  | .topoReceive _ bs => decide (bs.length ≤ 532)
  | .electReceive _ bs => decide (bs.length ≤ 532)
  | .nodeIdWrite _ _ => true
  | .fwdWrite _ w => fget w 1 0 == 1
  | .fwdRead _ w => fget w 1 0 == 2
  | .fwdInvalidate _ w => fget w 1 0 == 3
  | .frameReceive _ _ _ _ => true
  | .rtpReceive _ _ _ _ => true
  | .frameTransmit _ _ => true
  | .txtsPop _ _ => true
  | .ethLinkLoss _ _ => true
  | .streamEnable _ _ _ => true
  | .tbSet _ _ w => bitOf w.toNat 0 == 1
  | .tbRead _ _ => true
  | .rateCommit _ _ _ => true
  | .offsetSubmit _ _ _ => true
  | .servoHoldTimeout _ _ => true
  | .servoFree _ _ w => bitOf w.toNat 1 == 1
  | .selectorTick _ => true
  | .selectorSwitch _ w => bitOf w.toNat 0 == 1
  | .selectorRevert _ => true
  | .alarmArm _ _ _ => true
  | .alarmDisarm _ _ w => bitOf w.toNat 31 == 0
  | .alarmFire _ _ _ => true
  | .captureEvent _ _ _ _ => true
  | .captureRead _ _ => true
  | .candGlitch _ _ => true
  | .candActivityTimeout _ _ => true
  | .qualGateEnd _ _ _ => true
  | .holdoffExpire _ _ => true
  | .loopRankWrite _ _ _ _ => true
  | .bandTrialDone _ _ _ _ => true
  | .comparisonEdge _ _ _ => true
  | .narrowStep _ _ => true
  | .pullComplete _ _ => true
  | .retune _ _ w => bitOf w.toNat 0 == 1
  | .qsHop _ _ w => bitOf w.toNat 3 == 1
  | .ditherSeedWrite _ _ _ => true
  | .dllLock _ _ => true
  | .dllAnchor _ _ _ frac _ => decide (frac < 16000000000)
  | .dllUnlock _ _ => true
  | .dllRealign _ _ w => bitOf w.toNat 0 == 1
  | .outOfsWrite _ _ _ => true
  | .heartbeatReceive _ _ => true
  | .pairEvaluate _ => true
  | .liveEdge _ _ => true
  | .ownInChange _ _ => true
  | .yield _ w => bitOf w.toNat 4 == 1
  | .resync _ w => bitOf w.toNat 3 == 1
  | .pairClear _ w => bitOf w.toNat 2 == 1
  | .pairFail _ w => bitOf w.toNat 1 == 1
  | .handover _ w => bitOf w.toNat 0 == 1
  | .pairVbusReceive _ _ _ _ _ _ => true
  | .pairAsrcReceive _ _ ws => ws.all (fun x => decide (x.1 < 256))
  | .mirrorReceive _ _ => true
  | .pairPsmReceive _ _ _ chans => chans.length == 8
  | .healthReceive _ _ => true
  | .pairLinkDown _ => true
  | .boundaryMissed _ => true
  | .healthRecord _ => true
  | .scrub _ a _ => eccWord a
  | .graveLogWritten _ => true
  | .escalationExpire _ _ => true
  | .faultWindowExpire _ _ => true
  | .shadowClose _ _ => true
  | .faultAck _ _ _ => true
  | .errhClear _ _ _ => true
  | .faultInject _ w => bitOf w.toNat 31 == 1
  | .injectNext _ => true
  | .glogErase _ w => bitOf w.toNat 31 == 1
  | .pseudoBlock _ => true
  | .cntLoRead _ _ => true
  | .cntHiWrite _ _ _ => true
  | .cntLoWrite _ _ _ => true
  | .slotClear _ w => bitOf w.toNat 0 == 1
  | .slotLoRead _ _ _ => true
  | .counterWrap _ _ => true
  | .sampleRecord _ => true
  | .vbusWarn _ _ => true
  | .vbusRecover _ _ => true
  | .supervisorTrip _ _ _ => true
  | .vcoreSetWrite _ _ => true
  | .vcoreSetStep _ => true
  | .wdogKick _ _ => true
  | .wdogExpire _ => true
  | .mgmtReset _ w => bitOf w.toNat 1 == 1
  | .mgmtResetDone _ => true
  | .doorbell _ w => bitOf w.toNat 0 == 1
  | .vectorRaise _ _ => true
  | .ringEnable _ _ w => bitOf w.toNat 31 == 1
  | .ringWrWrite _ _ _ => true
  | .ringRdWrite _ _ _ => true
  | .hportSelect _ _ => true
  | .hportRead _ => true
  | .hportWrite _ _ => true
  | .hportCommit _ w => bitOf w.toNat 16 == 1
  | .sceneWrite _ _ _ => true
  | .sceneWordDone _ _ => true
  | .spiWrite _ _ => true
  | .spiRead _ _ => true
  | .blockResetCmd _ _ => true
  | .blockResetEnd _ _ => true
  | .ftmKey _ _ => true
  | .regRead _ a _ => inMap a || inStores a
  | .ethLinkUp _ _ => true
  | .unassignedOpcode _ w => !opAssigned (opcodeOf w).toNat
  | .transitCellReceive _ _ _ bs => decide (bs.length ≤ 532)
  | .tapReset _ => true
  | .extest _ _ _ => true
  | .idcode _ => true
  | .samplePreload _ _ _ => true
  | .extestPulse _ _ _ => true
  | .extestTrain _ _ _ => true
  | .highz _ => true
  | .clamp _ => true
  | .bypass _ code => decide (7 ≤ code.val)
  | .atbSelect _ _ w => bitOf w.toNat 30 == 0
  | .atbForce _ _ w => bitOf w.toNat 30 == 1
  | .railTimeout _ => true
  | .powerUpRetry _ => true
  | .bandSearchRetry _ _ => true
  | .hopSettled _ _ => true
  | .hopCheckDone _ _ => true
  | .polarityInvert _ _ => true
  | .initTimeout _ _ => true
  | .downTimeout _ _ => true
  | .drspTimeout _ _ => true
  | .floodKeyExpire _ => true
  | .topoExpire _ _ => true
  | .electWaitDone _ => true
  | .claimSend _ => true
  | .claimWindowEnd _ => true
  | .dipRestoreDone _ => true
  | .supervisorClear _ _ _ => true
  | .pcieReset _ => true
  | .pcieLinkDown _ => true
  | .pcieError _ => true
  | .perstNChange _ _ => true
  | .msixUnmask _ _ _ _ => true
  | .pleachKernel _ _ _ => true
  | .startupBackoffExpire _ => true
  | .loadtestAbort _ _ => true

end Sys2Proof
end

