-- ==== Sys2Proof/Tests/Slice0.lean ====
section
/-! SUPPORT. Tests: ill-formed commands, the manual's worked examples, single steps, and for every statement states that meet its
hypotheses. -/

namespace Sys2Proof.Tests

open Sys2Proof Sys2Proof.Machine

set_option Elab.async false
set_option linter.unusedVariables false
set_option maxRecDepth 4000

/-- One ill-formed command for each check of `Instr.wellFormed`. -/
noncomputable def illFormed : List Instr :=
  [.regWrite .core 2 0, .undecodedAccess .core 0 false none, .por 0 32000, .flashDirectoryRead 0 [] [], .imageDataArrive 0 [],
   .loadChunk .core 0, .loadLastChunk .core 0x80000000, .stageStart .core 0, .stageAbort .core 0, .swapArm .core 0,
   .swapDisarm .core 0, .blockBoundary 0 0 [(64, [])], .blockRealign .core 0, .avsEnable .core 0, .pcommitArm .core 0,
   .xptArm .core 0, .asrcStart 0 0 (2 ^ 40), .asrcLock 0 0 (2 ^ 40) 0, .asrcSlip 0 0 (2 ^ 40), .asrcRangeClear 0 0 (2 ^ 40),
   .psmStart .core 0 0, .psmStop .core 0 0, .legtestDone 0 0 [], .loadtestDone 0 0 [], .latchClear .core 0 0,
   .frameStart 0 0 0 0 (List.replicate 65 0), .sapGroupStart .core 0 0, .sapGroupStop .core 0 0, .sapRestart .core 0 0,
   .creditReturn 0 0 ⟨0x4B, 0⟩, .dllAnchor 0 0 0 16000000000 0, .linkBlockReceive 0 0 0 0 (List.replicate 533 0), .lossOfSignal 0 0 0 (List.replicate 533 0),
   .headerErrorLimit 0 ⟨0, 0, List.replicate 533 0⟩ false, .creditTimeout 0 ⟨0, 0, List.replicate 533 0⟩ 0,
   .linkRetrain .core ⟨0, 0, []⟩ 0, .dreqReceive ⟨0, 0⟩ 0 (List.replicate 533 0),
   .drspReceive ⟨0, 0⟩ 0 (List.replicate 533 0), .syncReceive ⟨0, 0⟩ 0 (List.replicate 533 0), .isoCellReceive 0 0 (List.replicate 533 0),
   .ringCellReceive 0 0 false (List.replicate 533 0), .helloReceive 0 0 (List.replicate 533 0),
   .topoReceive 0 (List.replicate 533 0), .electReceive 0 (List.replicate 533 0), .fwdWrite .core 0, .fwdRead .core 0,
   .fwdInvalidate .core 0, .tbSet .core 0 0, .servoFree .core 0 0, .selectorSwitch .core 0, .alarmDisarm .core 0 0x80000000,
   .retune .core 0 0, .qsHop .core 0 0, .dllRealign .core 0 0, .yield .core 0, .resync .core 0, .pairClear .core 0,
   .pairFail .core 0, .handover .core 0, .pairAsrcReceive 0 0 [(256, 0, 0, 0)], .pairPsmReceive 0 0 0 [],
   .scrub 0 Machine.memMram 0, .faultInject .core 0, .glogErase .core 0, .slotClear .core 0, .mgmtReset .core 0,
   .doorbell .core 0, .ringEnable .core 0 0, .hportCommit .core 0, .regRead .core 2 0, .unassignedOpcode 0 0x3F,
   .transitCellReceive 0 0 false (List.replicate 533 0), .bypass 0 6, .atbSelect .core 0 0x40000000, .atbForce .core 0 0]

theorem test_illFormed_refused : illFormed.all (fun i => !i.wellFormed) = true := by decide +kernel

/-! ### Worked examples of the manual -/

/-- Chapter 03, after R68: `vmacs.qn acc0, v3, s7` encodes as 0x2007_1824. -/
theorem test_vmacs_word : RForm.word ⟨0, 1, 0, 7, 3, 0⟩ 0x24 = 0x20071824 := by decide

/-- Chapter 03, after R68: `loop lc1, 128` over 3 instructions encodes as 0xC100_00D6. -/
theorem test_loop_word : LForm.word ⟨1, 1, 128, 3⟩ 0x16 = 0xC10000D6 := by decide

/-- Chapter 19: HLK_RSV[3][17] lies at 0x0005_4C44. -/
theorem test_rsv_address : decodeReg 0x54C44 = some (HLK_RSV, 3, 17) := by decide +kernel

/-- Chapter 06: MINPW of 40 ns is 1,007 taps. -/
theorem test_minpw_taps : minTaps 40 = 1007 := by decide

/-- Chapter 18: an entry of LEN = 24 is padded to 48 bytes. -/
theorem test_entry_size : entrySize 24 = 48 := by decide

/-- Chapter 10: a packet of 125 µs at 96 kHz holds 12 samples. -/
theorem test_packet_samples : sppOf 96000 0 = 12 := by decide

/-- Chapter 05: at 96 kHz and Nb = 8, HOLD = 2,000 ms is 24,000 blocks. -/
theorem test_silence_hold :
    (((State.reset.dev.put SYS_BLK_CFG.FI 1).put SYS_BLK_CFG.NB 1).put XPT_SIL_CFG.HOLD 2000 7).silHold 7 = 24000 := by decide +kernel

/-- Chapter 11: with the reset gains an offset of +120 ns gives an integrator of 936,960 and an ADJ of 252,595,200. -/
theorem test_servo_example :
    (let d := State.reset.dev.servoUpdate 0 1920 false; ((d.tb 0).integ, d.adj 0)) = (936960, 252595200) := by decide +kernel

/-- Chapter 08: T1 = 1,000 ns, T2 = 1,620, T3 = 2,620, T4 = 3,000 give a delay of 500 ns, in 1/16 ns. -/
theorem test_delay_example :
    (State.reset.dev.delaySample 2 (16 * ((3000 - 1000) - (2620 - 1620)))).get HLK_DELAY.DELAY 2 = 16 * 500 := by decide +kernel

/-! ### Single steps on small states -/

/-- Reset with a change to the device. -/
def witState (f : Dev → Dev) : State := { State.reset with dev := f State.reset.dev }

/-- What a step tells of the device it leaves. -/
def after (c : Instr) (s : State) (q : Dev → Bool) : Bool :=
  match step { s with pending := [c] } with
  | .next t => t.pending.isEmpty && q t.dev
  | _ => false

/-- SPRIG63 in a job, with one word at the start of the code store. -/
def sprigState (w : Word) (x : SprigSt) : State :=
  witState (fun d =>
    let d := d.setMemW memCode w
    { d with thk := { d.thk with inst := some 0, codeLen := 4, jobs := [{}], sprig := [(63, { x with busy := true })] } })

/-- Chapter 16: a host that reads LO of counter 5 at 0x0003_FFFF_FFF8 gets 0xFFFF_FFF8 and a snapshot of 0x0003. -/
theorem test_counter_snapshot :
    after (.cntLoRead .pcie 5) (witState (fun d => { d with perf := { d.perf with cnt := [(5, 0x3FFFFFFF8)] } }))
      (fun d => d.out.take 1 == [.rdata 65 0x100158 0xFFFFFFF8] && (d.cntPort 5).snapHost == 3) = true := by decide +kernel

/-- R377: an RW field takes the word written, a reserved bit stays 0. -/
theorem test_write_rw : after (.regWrite .core 0x41008 0xFFFFFFFF) State.reset (fun d => d.rd TIME_ALM_NS == 0x3FFFFFFF) = true := by
  decide +kernel

/-- R376: an access that decodes to nothing reads 0. -/
theorem test_undecoded_read :
    after (.undecodedAccess .core 0x130000 false none) State.reset (fun d => d.out.take 1 == [.rdata 64 0x130000 0]) = true := by
  decide +kernel

/-- R409: the identification register. -/
theorem test_idcode : after (.idcode 0) State.reset (fun d => d.test.dreg == 0x110242AF) = true := by decide +kernel

/-- R69: add wraps modulo 2^32, its destination being a source. -/
theorem test_add_wraps :
    after (.add 63 ⟨0, 0, 0, 2, 1, 1⟩) (sprigState (RForm.word ⟨0, 0, 0, 2, 1, 1⟩ 0x01) { s := [(1, 0xFFFFFFFF), (2, 3)] })
      (fun d => (d.sprig 63).sr 1 == 2 && (d.sprig 63).pc == 4) = true := by decide +kernel

/-- R52: a write to s0 is discarded. -/
theorem test_s0_stays :
    after (.addi 63 ⟨7, 0, 0⟩) (sprigState (IForm.word ⟨7, 0, 0⟩ 0x0A) {}) (fun d => (d.sprig 63).sr 0 == 0) = true := by decide +kernel

/-- R69: sra of a negative number by 31. -/
theorem test_sra_sign :
    after (.sra 63 ⟨0, 0, 0, 2, 1, 3⟩) (sprigState (RForm.word ⟨0, 0, 0, 2, 1, 3⟩ 0x08) { s := [(1, 0x80000000), (2, 63)] })
      (fun d => (d.sprig 63).sr 3 == 0xFFFFFFFF) = true := by decide +kernel

/-- R70, R75: a word load at an address that is no multiple of 4 raises MISALIGN, code 3, and the job fails. -/
theorem test_load_misaligned :
    after (.ldw 63 ⟨2, 0, 1⟩) (sprigState (IForm.word ⟨2, 0, 1⟩ 0x18) {})
      (fun d => d.get THK_EXC_INFO.CAUSE 63 == 3 && d.get THK_EXC_ADDR.ADDR 63 == 2 && !(d.sprig 63).busy) = true := by decide +kernel

/-- R73: `loop lc1, 128` over 3 instructions activates lc[1] over pc + 4 to pc + 12. -/
theorem test_loop_activates :
    after (.loop 63 ⟨1, 1, 128, 3⟩) (sprigState 0xC10000D6 {})
      (fun d => (d.sprig 63).lc == [(1, ⟨4, 12, 128⟩)] && (d.sprig 63).order == [1]) = true := by decide +kernel

/-- R346: VBUS below 32 V asserts POR, after which nothing but a tick passes. -/
theorem test_por : after (.por 0 31999) State.reset (fun d => d.heldReset && d.tclk == 0) = true := by decide +kernel

/-- R364: a software producer that would pass RD does not move WR. -/
theorem test_ring_full :
    after (.ringWrWrite .core 8 0x800) (witState (fun d => (d.put MGMT_RING_CFG.EN 1 8).put MGMT_RING_CFG.SIZE 1 8))
      (fun d => d.ringWr 72 == 0) = true := by decide +kernel

/-! ### States that meet the hypotheses of the statements -/


/-- R136, R270: an enabled group on a loop without a frequency is refused, and 24.576 MHz × 26 = 638.976 MHz fits the DCO. -/
theorem test_clock_limits :
    ((({} : Dev).put PSM_PG_CFG.EN 1 0).overClocks && ((({} : Dev).put RCU_LOOP_FOUT.FOUT 1572864000 0).put RCU_LOOP_CTRL.MDIV 26 0).dcoFits 0) = true := by
  decide +kernel

/-- R116: two slot ranges that overlap, and a range that reaches beyond slot Nx − 1. -/
theorem test_slot_ranges : (badRanges [(0, 0, 4), (7, 3, 2)] && badRanges [(0, 1, 4)] && !badRanges [(0, 0, 4), (7, 4, 2)]) = true := by decide
/-- A received cell: header, payload and the CRC over both. -/
def tCell (h pay : List Byte) : List Byte := (h ++ pay) ++ beBytes 4 (crc32 (h ++ pay))
/-- An image header with its section table, no body of which has arrived. -/
def tImage : List Byte := leBytes 4 0x59544F54 ++ leBytes 2 2 ++ leBytes 2 0x40 ++ leBytes 2 0x1024 ++ leBytes 2 0 ++ leBytes 4 1024
  ++ leBytes 4 7 ++ List.replicate 44 0 ++ [1, 2, 5, 6, 7, 9, 10].flatMap (fun t => leBytes 4 t ++ leBytes 4 0xC0 ++ leBytes 8 0)
/-- Bytes followed by their CRC. -/
def tSeal (bs : List Byte) : List Byte := bs ++ leBytes 4 (crc32 bs)
/-- A flash directory of one slot. -/
def tDir : List Byte := tSeal (leBytes 4 0x52445054 ++ leBytes 8 1 ++ leBytes 4 0xFF0000 ++ leBytes 4 0x10000 ++ List.replicate 40 0)

/-- The hypotheses of each clause of `IdleStepLetsOneTickPass` are met together. -/
theorem witness_IdleStepLetsOneTickPass :
    ((let s : State := State.reset; decide (s.pending = [])) = true) := by
  decide +kernel

/-- The hypotheses of each clause of `QueueIsFirstInFirstOut` are met together. -/
theorem witness_QueueIsFirstInFirstOut :
    ((let n : Nat := 1; let s : State := { State.reset with pending := [.idcode 0] }; decide (n ≤ s.pending.length)) = true) := by
  decide +kernel

/-- The hypotheses of each clause of `ResetHoldsEveryResetWord` are met together. -/
theorem witness_ResetHoldsEveryResetWord :
    ((let r := TIME_ALM_NS; let i : Nat := 31; let j : Nat := 0; decide (i < r.n1 ∧ j < r.n2 ∧ r ∈ allRegs)) = true) := by
  decide +kernel

/-- The hypotheses of each clause of `HeldResetOnlyLetsTimePass` are met together. -/
theorem witness_HeldResetOnlyLetsTimePass :
    ((let c : Instr := (.regWrite .core 0 0); let s : State := witState (fun d => { d with resetN := false });
    decide (c.ofPins = false ∧ s.dev.heldReset = true)) = true) := by
  decide +kernel

/-- The hypotheses of each clause of `AlignmentCommandsComplete` are met together. -/
theorem witness_AlignmentCommandsComplete :
    ((let s : State := witState (fun d => ((d.put ALN_DLL_STAT.STATE 2 27).put PSM_PG_CFG.LOOP 3 3).setLoop 3 { fout := 1 });
    let dt : Nat := 0; let x : Fin 28 := 27; let d : Dev := s.came dt; decide ((s.came dt).heldReset = false ∧ d.dllState x = 2 ∧
    (d.dllTo x 3).mclkNow (d.dllLoop x) ≠ 0)) = true)
    ∧ ((let s : State := witState (fun d => let d := (d.put ALN_DLL_STAT.STATE 3 27).startTimer .align 27; { d with tclk := 500 });
    let dt : Nat := 0; let x : Fin 28 := 27; let sec : Nat := 0; let frac : Nat := 0; let edge : Nat := sec * 16000000000 + frac;
    let a : Nat := 0; let d : Dev := s.came dt; let f : Nat := (d.loop (d.dllLoop x)).fout; decide ((s.came dt).heldReset = false ∧
    d.dllState x = 3 ∧ d.hasAnchors x = true ∧ d.anchorHere x = some a ∧ (125 * edge + 4000000) * f ≤ 2 * a ∧
    d.ranFor .align 2000 x = true)) = true)
    ∧ ((let s : State := witState (fun d => (d.put ALN_DLL_STAT.STATE 4 27).put ALN_DLL_CTRL.TRACK 0 27); let dt : Nat := 0;
    let x : Fin 28 := 27; let a : Nat := 0; let err : Int := 0; let d : Dev := s.came dt; decide ((s.came dt).heldReset = false ∧
    d.dllState x = 4 ∧ d.hasAnchors x = true ∧ d.anchorHere x = some a ∧ d.is ALN_DLL_CTRL.TRACK x = false ∧
    err.natAbs ≤ max 100 (d.get ALN_CFG.LIMIT))) = true)
    ∧ ((let s : State := witState (fun d => d.put ALN_DLL_STAT.STATE 3 27); let dt : Nat := 0; let x : Fin 28 := 27;
    let d : Dev := s.came dt; decide ((s.came dt).heldReset = false ∧ (d.dllState x = 3 ∨ d.dllState x = 4))) = true)
    ∧ ((let s : State := witState (fun d => d.put ALN_DLL_STAT.STATE 4 23); let p : Port := .core; let x : Fin 28 := 23;
    let w : Word := 0x1; let d : Dev := s.counted p (ALN_DLL_CTRL.addr x 0); decide ((s.dev.heldReset = false ∧
    s.dev.portOpen (portNum p) = true) ∧ fget w 0 0 = 1 ∧ d.dllState x = 4 ∧ x.val < 24)) = true)
    ∧ ((let s : State := witState (fun d => d.put ALN_DLL_STAT.STATE 4 7); let p : Port := .core; let o : Fin 8 := 7;
    let d : Dev := s.counted p (ALN_OUT_OFS.addr o 0); decide ((s.dev.heldReset = false ∧ s.dev.portOpen (portNum p) = true) ∧
    d.dllState o = 4)) = true) := by
  decide +kernel

/-- The hypotheses of each clause of `TimeBaseCommandsComplete` are met together. -/
theorem witness_TimeBaseCommandsComplete :
    ((let s : State := State.reset; let p : Port := .core; let t : Fin 4 := 3; let w : Word := 0x1;
    let c : Dev := s.counted p (TIME_TB_CTRL.addr t 0); decide ((s.dev.heldReset = false ∧ s.dev.portOpen (portNum p) = true) ∧
    fget w 1 1 = 0 ∧ fget w 0 0 = 1 ∧ c.get TIME_OFS_MNS.NS t < 1000000000)) = true)
    ∧ ((let s : State := State.reset; let p : Port := .core; let t : Fin 4 := 3; let c : Dev := s.counted p (TIME_TB_T0.addr t 0);
    decide ((s.dev.heldReset = false ∧ s.dev.portOpen (portNum p) = true) ∧ c.inReset 4 = false)) = true)
    ∧ ((let s : State := witState (fun d => let d := d.put TIME_TB_STAT.STATE 0 3;
    { d with time := { d.time with rateLo := [(3, 4294967295)] } }); let p : Port := .core; let t : Fin 4 := 3;
    let c : Dev := s.counted p (TIME_TB_RATE_HI.addr t 0); let lo : Nat := 4294967294; decide ((s.dev.heldReset = false ∧
    s.dev.portOpen (portNum p) = true) ∧ c.servo t = 0 ∧ tabGet 0 c.time.rateLo t = lo + 1)) = true)
    ∧ ((let s : State := State.reset; let p : Port := .core; let w : Word := 0x2; decide ((s.dev.heldReset = false ∧
    s.dev.portOpen (portNum p) = true) ∧ fget w 1 1 = 1 ∧ fget w 0 0 = 0)) = true)
    ∧ ((let s : State := witState (fun d => (((d.put TIME_TB_CFG.SRC 1 3).put TIME_TB_CTRL.FREE 0 3).put TIME_TB_STAT.STATE 2 3).put TIME_OFS_MNS.FSTEP 0 3);
    let p : Port := .core; let t : Fin 4 := 3; let w : Word := 0; let c : Dev := s.counted p (TIME_OFS_VAL.addr t 0);
    decide ((s.dev.heldReset = false ∧ s.dev.portOpen (portNum p) = true) ∧ c.get TIME_TB_CFG.SRC t = 1 ∧
    c.is TIME_TB_CTRL.FREE t = false ∧ c.servo t = 2 ∧ c.is TIME_OFS_MNS.FSTEP t = false ∧ tabGet 0 c.time.setAt t ≠ c.tclk + 1 ∧
    c.get TIME_OFS_MSEC.SEC t = (c.tb t).sec % 2 ^ 32 ∧ (c.tb t).val % tbSecond = c.get TIME_OFS_MNS.NS t * 2 ^ 46 ∧
    w.toInt.natAbs ≤ 8 * c.lockThr t ∧ w.toInt.natAbs ≤ 16000 * max 1 (c.get TIME_SRV_THR.STEP_THR t))) = true)
    ∧ ((let s : State := witState (fun d => d.put TIME_TB_STAT.STATE 1 3); let dt : Nat := 0; let t : Fin 4 := 3;
    let d : Dev := s.came dt; decide ((s.came dt).heldReset = false ∧ (d.servo t = 1 ∨ d.servo t = 2) ∧
    d.isDue .offset (max 1 (d.get TIME_SRV_CFG.HOLD_TMO t) * 1000000) t = true)) = true) := by
  decide +kernel

/-- The hypotheses of each clause of `SelectorCommandsComplete` are met together. -/
theorem witness_SelectorCommandsComplete :
    ((let d : Dev := ((State.reset.dev.put TIME_SEL_CFG.EN 1).setBo (-5)).put TIME_SEL_CTRL.SLEW 1; let n : Nat := 1; decide (0 < n ∧
    d.selOn = true ∧ d.selBo ≠ 0 ∧ 0 < d.get TIME_SEL_CTRL.SLEW)) = true)
    ∧ ((let s : State := witState (fun d => (d.put TIME_SEL_CFG.EN 1).put TIME_TB_STAT.STATE 2 0); let dt : Nat := 0;
    let o : Dev := s.came dt; let e : Dev := o.startTimer .selTick; decide ((s.came dt).heldReset = false ∧ o.selOn = true ∧
    o.isDue .selTick 1000000 = true ∧ e.servo e.selCur ≠ 0)) = true)
    ∧ ((let s : State := witState (fun d => ((d.put TIME_SEL_CFG.EN 1).put TIME_SEL_CFG.B 1).put TIME_TB_STAT.STATE 2 1);
    let p : Port := .core; let w : Word := 0x1; let c : Dev := s.counted p (TIME_SEL_CTRL.addr 0 0);
    let e : Dev := (c.store TIME_SEL_CTRL w).setBo (c.store TIME_SEL_CTRL w).selBo;
    let diff : Int := e.tb16 e.selCur - e.tb16 e.selOther; decide ((s.dev.heldReset = false ∧ s.dev.portOpen (portNum p) = true) ∧
    fget w 0 0 = 1 ∧ e.selOn = true ∧ e.servo e.selOther = 2 ∧ diff.natAbs ≤ 1600000000)) = true)
    ∧ ((let s : State := witState (fun d => let d := ((((d.put TIME_SEL_CTRL.REVERT 1).put TIME_SEL_STAT.CUR 1).put TIME_SEL_CFG.EN 1).put TIME_SEL_CFG.B 1).put TIME_TB_STAT.STATE 2 0;
    let d := (d.startTimer .locked 0).startTimer .locked 1; { d with tclk := 2 ^ 40 }); let dt : Nat := 0; let d : Dev := s.came dt;
    let diff : Int := d.tb16 d.selCur - d.tb16 d.selOther; decide ((s.came dt).heldReset = false ∧ d.selOn = true ∧
    d.is TIME_SEL_CTRL.REVERT = true ∧ d.is TIME_SEL_STAT.CUR = true ∧ d.servo (d.get TIME_SEL_CFG.A) = 2 ∧
    d.ranFor .locked (max 1 (d.get TIME_SEL_CTRL.RVT) * 1000000000) (d.get TIME_SEL_CFG.A) = true ∧ diff.natAbs ≤ 1600000000)) = true) := by
  decide +kernel

/-- The hypotheses of each clause of `AlarmAndCaptureCommandsComplete` are met together. -/
theorem witness_AlarmAndCaptureCommandsComplete :
    ((let s : State := witState (fun d => (d.put TIME_ALM_CFG.EN 1 31).put TIME_ALM_SEC.SEC 1 31); let p : Port := .core;
    let a : Fin 32 := 31; let w : Word := 0; let c : Dev := s.counted p (TIME_ALM_NS.addr a 0);
    let e : Dev := (c.store TIME_ALM_NS w a).almArm a (c.get TIME_ALM_SEC.SEC a) ((c.store TIME_ALM_NS w a).get TIME_ALM_NS.NS a);
    decide ((s.dev.heldReset = false ∧ s.dev.portOpen (portNum p) = true) ∧ c.almFw a = true ∧ c.is TIME_ALM_CFG.EN a = true ∧
    e.almReached a = false)) = true)
    ∧ ((let s : State := State.reset; let p : Port := .core; let a : Fin 32 := 31; let w : Word := 0x0;
    let c : Dev := s.counted p (TIME_ALM_CFG.addr a 0); decide ((s.dev.heldReset = false ∧ s.dev.portOpen (portNum p) = true) ∧
    c.almFw a = true ∧ fget w 31 31 = 0)) = true)
    ∧ ((let s : State := witState (fun d => d.put TIME_ALM_CFG.ARMED 1 31); let dt : Nat := 0; let a : Fin 32 := 31;
    let d : Dev := s.came dt; decide ((s.came dt).heldReset = false ∧ d.armed a = true ∧ d.almReached a = true ∧ d.almFw a = true ∧
    (d.almPer a = 0 ∨ d.almSkip a = 1))) = true)
    ∧ ((let s : State := witState (fun d => d.put TIME_TIO_CFG.DIR 0x80); let dt : Nat := 0; let pin : Fin 12 := 7;
    let d : Dev := s.came dt; decide ((s.came dt).heldReset = false ∧ pin.val < 8 ∧ d.bit TIME_TIO_CFG.DIR pin = true)) = true)
    ∧ ((let s : State := State.reset; let dt : Nat := 0; let pin : Fin 12 := 11; let d : Dev := s.came dt;
    decide ((s.came dt).heldReset = false ∧ (pin.val < 8 → d.bit TIME_TIO_CFG.DIR pin = false))) = true)
    ∧ ((let s : State := State.reset; let p : Port := .core; let k : Fin 16 := 15; let c : Dev := s.counted p (TIME_CAP_T0.addr k 0);
    decide ((s.dev.heldReset = false ∧ s.dev.portOpen (portNum p) = true) ∧ c.inReset 4 = false)) = true) := by
  decide +kernel

/-- The hypotheses of each clause of `CycleCommandsComplete` are met together. -/
theorem witness_CycleCommandsComplete :
    ((let s : State := witState (fun d => ((d.put SYS_BLK_STATUS.STATE 1).put SYS_BLK_CTRL.WAIT_SYNC 0).put RCU_LOOP_STAT.LOCK 1 0);
    let dt : Nat := 0; let d : Dev := s.came dt; decide ((s.came dt).heldReset = false ∧ d.get SYS_BLK_STATUS.STATE = 1 ∧
    d.is RCU_LOOP_STAT.LOCK (d.get SYS_BLK_CFG.LOOP) = true ∧ d.is SYS_BLK_CTRL.WAIT_SYNC = false)) = true)
    ∧ ((let s : State := witState (fun d => let d := ((d.put SYS_BLK_STATUS.STATE 2).put SYS_BLK_CTRL.SYNC_TMO 1).startTimer .waitSync 0;
    { d with tclk := 2 ^ 40 }); let dt : Nat := 0; let d : Dev := s.came dt; decide ((s.came dt).heldReset = false ∧
    d.get SYS_BLK_STATUS.STATE = 2 ∧ d.get SYS_BLK_CTRL.SYNC_TMO ≠ 0 ∧
    d.ranFor .waitSync (d.get SYS_BLK_CTRL.SYNC_TMO * 1000000000) = true)) = true)
    ∧ ((let s : State := witState (fun d => ((d.put SYS_BLK_STATUS.STATE 4).put SYS_SWAP_CTRL.ARM 0).put SYS_SWAP_STATUS.RESTARTING 0);
    let p : Port := .core; let w : Word := 0x1; let c : Dev := s.counted p (SYS_BLK_CTRL.addr 0 0); decide ((s.dev.heldReset = false ∧
    s.dev.portOpen (portNum p) = true) ∧ fget w 0 0 = 1 ∧ c.get SYS_BLK_STATUS.STATE = 4 ∧ c.is SYS_SWAP_CTRL.ARM = false ∧
    c.is SYS_SWAP_STATUS.RESTARTING = false)) = true)
    ∧ ((let s : State := witState (fun d => let d := (d.put SYS_BLK_STATUS.STATE 5).startTimer .fadeDown 0; { d with tclk := 2 ^ 40 });
    let dt : Nat := 0; let d : Dev := s.came dt; decide ((s.came dt).heldReset = false ∧ d.get SYS_BLK_STATUS.STATE = 5 ∧
    d.cyc.realign = false ∧ d.ranFor .fadeDown d.fadedNs = true)) = true) := by
  decide +kernel

/-- The hypotheses of each clause of `BlockStagesComplete` are met together. -/
theorem witness_BlockStagesComplete :
    ((let s : State := witState (fun d => let d := d.put SYS_BLK_STATUS.STATE 4; { d with tclk := 20833 }); let dt : Nat := 0;
    let d : Dev := s.came dt; decide ((s.came dt).heldReset = false ∧ d.get SYS_BLK_STATUS.STATE = 4 ∧ d.tooSoon = false ∧
    d.offTb = false)) = true)
    ∧ ((let s : State := witState (fun d => let d := { d with thk := { d.thk with stage := 1 } };
    { d with thk := { d.thk with jobs := [{}] } }); let dt : Nat := 0; let d : Dev := s.came dt; decide ((s.came dt).heldReset = false ∧
    d.thk.stage = 1 ∧ d.inReset 12 = false ∧ d.thk.jobs ≠ [])) = true)
    ∧ ((let s : State := witState (fun d => { d with thk := { d.thk with stage := 2 } }); let dt : Nat := 0; let d : Dev := s.came dt;
    decide ((s.came dt).heldReset = false ∧ d.thk.stage = 2)) = true)
    ∧ ((let s : State := witState (fun d => let d := d.put THK_SLACK.OVR 0;
    let d := ({ d with pair := { d.pair with resyncing := false } }).put THK_AVS_CFG.EN 0;
    { d with thk := { d.thk with inst := some 0 } }); let dt : Nat := 0; let d : Dev := s.came dt; let e : Dev := d.thkDeadline.2;
    decide ((s.came dt).heldReset = false ∧ d.thk.inst ≠ none ∧ d.thkDeadline.1 = none ∧
    (List.range d.thk.jobs.length).all (fun j => !decide (3 ≤ e.fate j) && !e.thk.taint.contains j) = true ∧
    e.is THK_SLACK.OVR = false ∧ e.pair.resyncing = false)) = true) := by
  decide +kernel

/-- The hypotheses of each clause of `CounterCommandsComplete` are met together. -/
theorem witness_CounterCommandsComplete :
    ((let s : State := State.reset; let p : Port := .core; let c : Dev := s.dev; decide ((s.dev.heldReset = false ∧
    s.dev.portOpen (portNum p) = true) ∧ c.inReset 16 = false)) = true)
    ∧ ((let s : State := State.reset; let p : Port := .core; let i : Fin 32 := 31; let c : Dev := s.counted p (PERF_CNT_HI.addr i 0);
    decide ((s.dev.heldReset = false ∧ s.dev.portOpen (portNum p) = true) ∧ c.inReset 16 = false)) = true)
    ∧ ((let s : State := witState (fun d => d.put PERF_CNT_CFG.EVENT 0 31); let p : Port := .core; let i : Fin 32 := 31;
    let c : Dev := s.dev.busCountBut (portNum p) (PERF_CNT_LO.addr i 0) i; decide (s.dev.get PERF_CNT_CFG.EVENT i = 0 ∧
    (s.dev.heldReset = false ∧ s.dev.portOpen (portNum p) = true) ∧ c.inReset 16 = false ∧ c.get PERF_CNT_CFG.EVENT i = 0)) = true)
    ∧ ((let s : State := witState (fun d => d.put PERF_CTRL.ALIGN 0); let p : Port := .core; let w : Word := 0x1;
    let c : Dev := s.counted p (PERF_SLOT_CTRL.addr 0 0); decide ((s.dev.heldReset = false ∧ s.dev.portOpen (portNum p) = true) ∧
    c.inReset 16 = false ∧ bitOf w.toNat 0 = 1 ∧ c.is PERF_CTRL.ALIGN = false)) = true)
    ∧ ((let s : State := State.reset; let p : Port := .core; let m : Fin 64 := 63; let k : Fin 4 := 3;
    let c : Dev := s.counted p (PERF_SLOT_LO.addr m k); decide ((s.dev.heldReset = false ∧ s.dev.portOpen (portNum p) = true) ∧
    c.inReset 16 = false)) = true)
    ∧ ((let s : State := witState (fun d => ({ d with perf := { d.perf with effEn := [(31, 1)], cnt := [(31, 2 ^ 48 - 1)] } }).put PERF_CNT_CFG.EVENT 0x22 31);
    let dt : Nat := 0; let i : Fin 32 := 31; let d : Dev := s.came dt; decide ((s.came dt).heldReset = false ∧ d.cntOn i = true ∧
    tabGet 0 d.perf.cnt i = 2 ^ 48 - 1 ∧ eventListed (d.get PERF_CNT_CFG.EVENT i) = true ∧ 3 ≤ d.get PERF_CNT_CFG.EVENT i)) = true)
    ∧ ((let s : State := witState (fun d => ({ d with perf := { d.perf with effEn := [(31, 1)], cnt := [(31, 2 ^ 48 - 1)] } }).put PERF_CNT_CFG.EVENT 1 31);
    let dt : Nat := 0; let i : Fin 32 := 31; let d : Dev := s.came dt; decide ((s.came dt).heldReset = false ∧ d.cntOn i = true ∧
    tabGet 0 d.perf.cnt i = 2 ^ 48 - 1 ∧ (d.get PERF_CNT_CFG.EVENT i = 1 ∨ d.get PERF_CNT_CFG.EVENT i = 2) ∧
    d.cntEveryTick i = true)) = true)
    ∧ ((let s : State := witState (fun d => (({ d with perf := { d.perf with buf := [List.replicate 24 0] } }).put MGMT_RING_CFG.EN 1 28).put MGMT_RING_CFG.SIZE 7 28);
    let dt : Nat := 0; let r : List Byte := List.replicate 24 0; let rs : List (List Byte) := []; let d : Dev := s.came dt;
    let f : Dev := { d with perf := { d.perf with buf := rs } }; let e : Dev := (f.ringPush (92 + f.get PERF_SMP_CFG.RING) 5 0 0 0 r).2;
    decide ((s.came dt).heldReset = false ∧ d.perf.buf = r :: rs ∧
    f.ringPush (92 + f.get PERF_SMP_CFG.RING) 5 0 0 0 r = (true, e))) = true) := by
  decide +kernel

/-- The hypotheses of each clause of `JobCommandsComplete` are met together. -/
theorem witness_JobCommandsComplete :
    ((let s : State := witState (fun d => let d := d.setDeque 63 [0]; { d with thk := { d.thk with jobs := [{}] } }); let dt : Nat := 0;
    let j : Nat := 0; let m : Fin 64 := 63; let q : List Nat := []; let d : Dev := s.came dt; decide ((s.came dt).heldReset = false ∧
    (d.sprig m).busy = false ∧ d.inReset 12 = false ∧ d.deque m = j :: q)) = true)
    ∧ ((let s : State := witState (fun d => let d := (d.setSprig 63 { wait := true }).setDeque 0 [0];
    { d with thk := { d.thk with jobs := [{}] } }); let dt : Nat := 0; let k : Nat := 0; let j : Nat := 0; let m : Fin 64 := 63;
    let d : Dev := s.came dt; decide ((s.came dt).heldReset = false ∧ (d.sprig m).wait = true ∧ (d.sprig m).busy = false ∧
    d.inReset 12 = false ∧ d.stealInh m = false ∧
    (probePartners m).findSome? (fun q => (d.stealable (d.deque q)).map (fun j => (q, j))) = some (k, j) ∧
    d.isDue .steal 100 m = true)) = true)
    ∧ ((let s : State := witState (fun d => let d := d.setSprig 63 { busy := true, ended := true };
    { d with thk := { d.thk with inst := some 0, jobs := [{}] } }); let dt : Nat := 0; let m : Fin 64 := 63; let d : Dev := s.came dt;
    decide ((s.came dt).heldReset = false ∧ (d.sprig m).busy = true ∧ (d.sprig m).ended = true ∧ d.thk.inst ≠ none)) = true)
    ∧ ((let s : State := State.reset; let p : Port := .core; let w : Word := 0x80000000; decide ((s.dev.heldReset = false ∧
    s.dev.portOpen (portNum p) = true) ∧ bitOf w.toNat 31 = 1)) = true)
    ∧ ((let s : State := witState (fun d => { d with thk := { d.thk with regions := [{ size := 0x400000 }] } }); let p : Port := .core;
    let k : Fin 0x100000 := 1048575; let c : Dev := s.counted p (sharedAddr k);
    let off : Nat := c.ssPage (portNum p) * 0x400000 + 4 * k; let r : Region := { size := 0x400000 }; decide ((s.dev.heldReset = false ∧
    s.dev.portOpen (portNum p) = true) ∧ ((c.perfEvent 0x22 1 { master := portNum p, addr := off }).mirrored = false ∧
    ((c.perfEvent 0x22 1 { master := portNum p, addr := off }).role = 2 → (c.perfEvent 0x22 1 { master := portNum p, addr := off }).pair.link = false)) ∧
    (c.perfEvent 0x22 1 { master := portNum p, addr := off }).regionAt off = some r ∧
    (c.perfEvent 0x22 1 { master := portNum p, addr := off }).running = false)) = true)
    ∧ ((let s : State := State.reset; let p : Port := .core; let w : Word := 0x1; let c : Dev := s.counted p (THK_PCTRL.addr 0 0);
    decide ((s.dev.heldReset = false ∧ s.dev.portOpen (portNum p) = true) ∧ (c.mirrored = false ∧ (c.role = 2 → c.pair.link = false)) ∧
    bitOf w.toNat 0 = 1)) = true) := by
  decide +kernel

/-- The hypotheses of each clause of `SupplyCommandsComplete` are met together. -/
theorem witness_SupplyCommandsComplete :
    ((let s : State := witState (fun d => d.put PWR_STAT.WARN 0); let dt : Nat := 0; let mv : Nat := 0; let d : Dev := s.came dt;
    let e : Dev := (((d.putVbus mv).put PWR_STAT.WARN 1).inc PWR_DIP_STAT.DIPS).raise FS.PWR_VBUS_WARN;
    decide ((s.came dt).heldReset = false ∧ d.is PWR_STAT.WARN = false ∧ mv < d.warnMv ∧ e.dipActive = false)) = true)
    ∧ ((let s : State := witState (fun d => let d := d.put PWR_STAT.WARN 1;
    ({ d with pwr := { d.pwr with dip := 1 } }).put PWR_WARN.LEVEL 350); let dt : Nat := 0; let mv : Nat := 37001;
    let d : Dev := s.came dt; let e : Dev := (d.putVbus mv).put PWR_STAT.WARN 0; decide ((s.came dt).heldReset = false ∧
    d.is PWR_STAT.WARN = true ∧ d.warnMv + 1000 < mv ∧ e.pwr.dip = 1)) = true)
    ∧ ((let s : State := State.reset; let dt : Nat := 0; let x : Sup := .vbusOv; let v : Int := 80001; let d : Dev := s.came dt;
    decide ((s.came dt).heldReset = false ∧ supNum x ∉ d.pwr.tripped ∧ d.supTrips x v = true)) = true)
    ∧ ((let s : State := witState (fun d => d.put THK_AVS_CFG.EN 0); let p : Port := .core;
    let c : Dev := s.counted p (PWR_VCORE.addr 0 0); decide ((s.dev.heldReset = false ∧ s.dev.portOpen (portNum p) = true) ∧
    c.is THK_AVS_CFG.EN = false)) = true)
    ∧ ((let s : State := witState (fun d => let d := d.put THK_AVS_CFG.EN 0; { d with pwr := { d.pwr with vcore := 794 } });
    let dt : Nat := 0; let d : Dev := s.came dt; decide ((s.came dt).heldReset = false ∧ d.pwr.vcore + 5 < d.vcoreTarget ∧
    d.isDue .vcore 10000 = true)) = true)
    ∧ ((let s : State := witState (fun d => { d with pwr := { d.pwr with dip := 2 } }); let dt : Nat := 0; let d : Dev := s.came dt;
    decide ((s.came dt).heldReset = false ∧ d.pwr.dip = 2 ∧ d.dipBack = true)) = true)
    ∧ ((let s : State := witState (fun d => { d with pwr := { d.pwr with tripped := [supNum .vintUv] } }); let dt : Nat := 0;
    let x : Sup := .vintUv; let v : Int := 8401; let d : Dev := s.came dt; decide ((s.came dt).heldReset = false ∧
    supNum x ∈ d.pwr.tripped ∧ d.supClears x v = true)) = true) := by
  decide +kernel

/-- The hypotheses of each clause of `PowerCommandsComplete` are met together. -/
theorem witness_PowerCommandsComplete :
    ((let s : State := witState (fun d => let d := { d with pwr := { d.pwr with por := true } };
    { d with pwr := { d.pwr with step := 0 } }); let dt : Nat := 0; let mv : Nat := 35001; let d : Dev := s.came dt;
    decide (d.pwr.por = true ∧ d.pwr.step = 0 ∧ 35000 < mv)) = true)
    ∧ ((let s : State := witState (fun d => let d := { d with pwr := { d.pwr with por := true } };
    let d := ({ d with pwr := { d.pwr with step := 1 } }).startTimer .power 0; { d with tclk := 2500000 }); let dt : Nat := 0;
    let d : Dev := s.came dt; decide (d.pwr.por = true ∧ d.pwr.step = 1 ∧ d.ranFor .power 10000000 = true)) = true)
    ∧ ((let s : State := witState (fun d => let d := { d with pwr := { d.pwr with por := true } };
    let d := ({ d with pwr := { d.pwr with step := 2 } }).startTimer .power 0; { d with tclk := 25000000 }); let dt : Nat := 0;
    let d : Dev := s.came dt; decide (d.pwr.por = true ∧ d.pwr.step = 2 ∧ d.ranFor .power 100000000 = true)) = true)
    ∧ ((let s : State := witState (fun d => let d := { d with pwr := { d.pwr with por := true } };
    { d with pwr := { d.pwr with step := 1 } }); let dt : Nat := 0; let d : Dev := s.came dt; decide (d.pwr.por = true ∧
    d.pwr.step = 1)) = true)
    ∧ ((let s : State := witState (fun d => { d with pwr := { d.pwr with por := false } }); let dt : Nat := 0; let mv : Nat := 31999;
    let d : Dev := s.came dt; decide (d.pwr.por = false ∧ mv < 32000)) = true)
    ∧ ((let s : State := witState (fun d => { d with pwr := { d.pwr with por := true } }); let dt : Nat := 0; let mv : Nat := 31999;
    let d : Dev := s.came dt; decide (d.pwr.por = true ∧ mv < 32000)) = true)
    ∧ ((let ns : Nat := 10000; decide (10000 ≤ ns)) = true)
    ∧ ((let ns : Nat := 1000; decide (ns ≤ 1000)) = true) := by
  decide +kernel

/-- The hypotheses of each clause of `ManagementEventsComplete` are met together. -/
theorem witness_ManagementEventsComplete :
    ((let s : State := State.reset; let p : Port := .core; let w : Word := 0xc1a5; decide ((s.dev.heldReset = false ∧
    s.dev.portOpen (portNum p) = true) ∧ fget w 15 0 = 0xC1A5)) = true)
    ∧ ((let s : State := witState (fun d => let d := d.put MGMT_WDOG.EN 1; { d with tclk := 2 ^ 40 }); let dt : Nat := 0;
    let d : Dev := s.came dt; decide ((s.came dt).heldReset = false ∧ d.wdogDue = true)) = true)
    ∧ ((let s : State := State.reset; let p : Port := .core; let w : Word := 0x2; decide ((s.dev.heldReset = false ∧
    s.dev.portOpen (portNum p) = true) ∧ fget w 0 0 = 0 ∧ fget w 1 1 = 1)) = true)
    ∧ ((let s : State := witState (fun d => let d := { d with mgmt := { d.mgmt with resetting := true } };
    { d with imageApplied := true }); let dt : Nat := 0; let d : Dev := s.came dt; let e : Dev := d.sramScan memSram d.mgmt.fwLen 64;
    decide ((s.came dt).heldReset = false ∧ d.mgmt.resetting = true ∧ crc32 (d.bytes memSram d.mgmt.fwLen) = d.mgmt.fwCrc ∧
    e.imageApplied = true)) = true)
    ∧ ((let s : State := State.reset; let p : Port := .core; let w : Word := 0x1; decide ((s.dev.heldReset = false ∧
    s.dev.portOpen (portNum p) = true) ∧ fget w 0 0 = 1 ∧ fget w 1 1 = 0)) = true)
    ∧ ((let s : State := State.reset; let p : Port := .core; let w : Word := 24; decide ((s.dev.heldReset = false ∧
    s.dev.portOpen (portNum p) = true) ∧ 24 ≤ fget w 5 0 ∧ fget w 5 0 ≤ 31)) = true)
    ∧ ((let s : State := State.reset; let dt : Nat := 0; let d : Dev := s.came dt; decide ((s.came dt).heldReset = false ∧
    d.pcie = true)) = true)
    ∧ ((let s : State := State.reset; let dt : Nat := 0; let d : Dev := s.came dt; decide (d.pcie = true)) = true)
    ∧ ((let s : State := witState (fun d => { d with mgmt := { d.mgmt with perstLow := false } }); let dt : Nat := 0;
    let d : Dev := s.came dt; decide ((s.came dt).heldReset = false ∧ d.pcie = true ∧ d.mgmt.perstLow = false)) = true)
    ∧ ((let s : State := witState (fun d => { d with mgmt := { d.mgmt with perstLow := false } }); let dt : Nat := 0;
    let d : Dev := s.came dt; decide ((s.came dt).heldReset = false ∧ d.pcie = true ∧ d.mgmt.perstLow = false)) = true) := by
  decide +kernel

/-- The hypotheses of each clause of `RingAndSceneCommandsComplete` are met together. -/
theorem witness_RingAndSceneCommandsComplete :
    ((let s : State := witState (fun d => (d.put MGMT_RING_CFG.EN 1 31).put MGMT_RING_CFG.EN 0 31); let p : Port := .core;
    let i : Fin 32 := 31; let w : Word := 0x80070000; let c : Dev := s.counted p (MGMT_RING_CFG.addr i 0);
    let e : Dev := c.store MGMT_RING_CFG w i; decide ((s.dev.heldReset = false ∧ s.dev.portOpen (portNum p) = true) ∧
    c.is MGMT_RING_CFG.EN i = false ∧ ¬(80 ≤ 64 + i.val ∧ 64 + i.val ≤ 83) ∧ e.is MGMT_RING_CFG.EN i = true ∧
    ringMin (64 + i) ≤ e.ringSize (64 + i) ∧ e.ringBase (64 + i) + e.ringSize (64 + i) ≤ memSram + 0x80000 ∧
    e.ringOverlap (64 + i) = false)) = true)
    ∧ ((let s : State := witState (fun d => (d.put MGMT_RING_CFG.SIZE 7 23).put MGMT_RING_CFG.EN 1 23); let p : Port := .core;
    let i : Fin 32 := 23; let w : Word := 32; let c : Dev := s.counted p (MGMT_RING_WR.addr i 0); let v : Nat := fget w 15 0;
    let sz : Nat := c.ringSize (64 + i); decide ((s.dev.heldReset = false ∧ s.dev.portOpen (portNum p) = true) ∧
    ringSoftProd (64 + i) = true ∧ v < sz ∧ (v + sz - c.ringWr (64 + i) % sz) % sz ≠ 0 ∧
    c.ringFill (64 + i) + (v + sz - c.ringWr (64 + i) % sz) % sz < sz)) = true)
    ∧ ((let s : State := State.reset; let p : Port := .core; let i : Fin 32 := 31; decide ((s.dev.heldReset = false ∧
    s.dev.portOpen (portNum p) = true) ∧ ringSoftCons (64 + i) = true)) = true)
    ∧ ((let s : State := witState (fun d => d.put MGMT_RING_CFG.HOST 1 31); let p : Port := .core; let w : Word := 95;
    let c : Dev := s.counted p (MGMT_HPORT_SEL.addr 0 0); let e : Dev := c.store MGMT_HPORT_SEL w; let q : Nat := 95;
    decide ((s.dev.heldReset = false ∧ s.dev.portOpen (portNum p) = true) ∧ e.hportRing = some q)) = true)
    ∧ ((let s : State := witState (fun d => (d.put MGMT_RING_CFG.HOST 1 31).put MGMT_HPORT_SEL.Q 95); let p : Port := .core;
    let c : Dev := s.counted p (MGMT_HPORT_DATA.addr 0 0); let q : Nat := 95;
    let a : Nat := c.ringBase q + c.get MGMT_HPORT_CTRL.CURSOR; decide ((s.dev.heldReset = false ∧ s.dev.portOpen (portNum p) = true) ∧
    c.hportRing = some q ∧ a ∉ c.eccBad ∧ a ∉ c.eccCor)) = true)
    ∧ ((let s : State := witState (fun d => ((d.put MGMT_RING_CFG.HOST 1 23).put MGMT_HPORT_SEL.Q 87).put MGMT_RING_CFG.SIZE 7 23);
    let p : Port := .core; let c : Dev := s.counted p (MGMT_HPORT_DATA.addr 0 0); let q : Nat := 87;
    let x : Nat := c.get MGMT_HPORT_CTRL.CURSOR; let sz : Nat := c.ringSize q; decide ((s.dev.heldReset = false ∧
    s.dev.portOpen (portNum p) = true) ∧ c.hportRing = some q ∧ c.hostProd q = true ∧ (x + sz - c.ringRd q % sz) % sz + 4 < sz)) = true)
    ∧ ((let s : State := witState (fun d => (d.put MGMT_RING_CFG.HOST 1 31).put MGMT_HPORT_SEL.Q 95); let p : Port := .core;
    let w : Word := 0x10000; let c : Dev := s.counted p (MGMT_HPORT_CTRL.addr 0 0); let e : Dev := c.store MGMT_HPORT_CTRL w;
    let q : Nat := 95; decide ((s.dev.heldReset = false ∧ s.dev.portOpen (portNum p) = true) ∧ fget w 16 16 = 1 ∧ e.hportRing = some q ∧
    e.hostCons q = true ∧ e.onBoundary q (e.get MGMT_HPORT_CTRL.CURSOR) 4096 (e.ringRd q) = true)) = true)
    ∧ ((let s : State := State.reset; let p : Port := .core; let k : Fin 0x100000 := 1048575; let c : Dev := s.counted p (sceneAddr k);
    decide ((s.dev.heldReset = false ∧ s.dev.portOpen (portNum p) = true) ∧
    (p = Port.core ∨ c.scnProtected (sceneAddr k) = false))) = true)
    ∧ ((let s : State := witState (fun d => { d with mgmt := { d.mgmt with sceneBuf := [(0x1FE0000, 1)] } }); let dt : Nat := 0;
    let a : Nat := 0x1FE0000; let w : Word := 1; let rest : List (Nat × Word) := []; let d : Dev := s.came dt;
    decide ((s.came dt).heldReset = false ∧ d.mgmt.sceneBuf = (a, w) :: rest)) = true) := by
  decide +kernel

/-- The hypotheses of each clause of `FaultCommandsComplete` are met together. -/
theorem witness_FaultCommandsComplete :
    ((let s : State := witState (fun d => let d := d.put FLT_GLOG_HEAD.WRAP 0;
    ({ d with flt := { d.flt with log := [List.replicate 32 1, List.replicate 32 2] } }).put FLT_GLOG_HEAD.NEXT 254); let dt : Nat := 0;
    let d : Dev := s.came dt; let n : Nat := d.get FLT_GLOG_HEAD.NEXT; let r : List Byte := List.replicate 32 1;
    let x : List Byte := List.replicate 32 2; let rest : List (List Byte) := []; decide ((s.came dt).heldReset = false ∧
    d.flt.log = r :: x :: rest ∧ n < 255 ∧ d.is FLT_GLOG_HEAD.WRAP = false)) = true)
    ∧ ((let s : State := witState (fun d => let d := d.put FLT_SRC_STAT.STATE 2 191;
    (((({ d with flt := { d.flt with esc := [(191, 0)] }, tclk := 2 ^ 40 }).put FLT_SRC_CFG.ESC 1 191).put FLT_SRC_CFG.ESCR 0 191).put MGMT_RING_CFG.EN 1 24).put MGMT_RING_CFG.SIZE 7 24);
    let dt : Nat := 0; let n : Fin 192 := 191; let d : Dev := s.came dt; let f : Dev := (d.fltSetState n 3).put FLT_SRC_STAT.ESCEV 1 n;
    let e : Dev := (({ f with flt := { f.flt with esc := tabDel f.flt.esc n } }).fltPush n 8 0xFF).2;
    decide ((s.came dt).heldReset = false ∧ d.flt.esc.any (fun kv => kv.1 == n.val) = true ∧ d.fltEsc n ≠ 0 ∧
    99 * 250000 * d.fltEsc n ≤ 100 * (d.tclk - tabGet 0 d.flt.esc n) ∧ d.get FLT_SRC_STAT.STATE n = 2 ∧
    ({ f with flt := { f.flt with esc := tabDel f.flt.esc n } }).fltPush n 8 0xFF = (true, e) ∧ e.get FLT_SRC_CFG.ESCR n = 0)) = true)
    ∧ ((let s : State := witState (fun d => d.put FLT_SRC_STAT.STATE 1 191); let dt : Nat := 0; let n : Fin 192 := 191;
    let d : Dev := s.came dt; decide ((s.came dt).heldReset = false ∧ d.get FLT_SRC_STAT.STATE n = 1 ∧
    inWindow d.tclk (d.fltWin n) (tabGet [] d.flt.events n) = 0)) = true)
    ∧ ((let s : State := witState (fun d => { d with flt := { d.flt with shadows := [(18, { open_ := true })] } }); let dt : Nat := 0;
    let b : Fin 19 := 18; let d : Dev := s.came dt; decide ((s.came dt).heldReset = false ∧ (tabGet {} d.flt.shadows b).open_ = true ∧
    (tabGet {} d.flt.shadows b).inReset = false ∧ d.isDue .shadow (min 1000 (max 1 (d.get FLT_CFG.SHADOW)) * 1000000) b = true)) = true)
    ∧ ((let s : State := State.reset; let p : Port := .core; decide ((s.dev.heldReset = false ∧
    s.dev.portOpen (portNum p) = true))) = true)
    ∧ ((let s : State := State.reset; let p : Port := .core; decide ((s.dev.heldReset = false ∧
    s.dev.portOpen (portNum p) = true))) = true)
    ∧ ((let s : State := witState (fun d => d.put TEST_STAT.FTM 1); let p : Port := .core; let w : Word := 0x80000000;
    let c : Dev := s.counted p (FLT_INJ.addr 0 0); let e : Dev := c.store FLT_INJ w; decide ((s.dev.heldReset = false ∧
    s.dev.portOpen (portNum p) = true) ∧ fget w 31 31 = 1 ∧ e.ftm = true ∧ e.get FLT_INJ.SRC < 169)) = true)
    ∧ ((let s : State := witState (fun d => { d with flt := { d.flt with injLeft := 1 } }); let dt : Nat := 0; let n : Nat := 0;
    let d : Dev := s.came dt; decide ((s.came dt).heldReset = false ∧ d.flt.injLeft = n + 1 ∧ d.isDue .inject 1000 = true)) = true)
    ∧ ((let s : State := witState (fun d => d.put FLT_GRAVE.ACTIVE 0); let p : Port := .core; let w : Word := 0x80000000;
    let c : Dev := s.counted p (FLT_GLOG_CTRL.addr 0 0); let e : Dev := c.store FLT_GLOG_CTRL w; decide ((s.dev.heldReset = false ∧
    s.dev.portOpen (portNum p) = true) ∧ fget w 31 31 = 1 ∧ e.is FLT_GRAVE.ACTIVE = false)) = true)
    ∧ ((let s : State := witState (fun d => { d with tclk := 25000 }); let dt : Nat := 0; let d : Dev := s.came dt;
    decide ((s.came dt).heldReset = false ∧ d.running = false ∧ 100000 ≤ (d.elapsed .pseudo).getD (4 * d.tclk))) = true) := by
  decide +kernel

/-- The hypotheses of each clause of `CandidateCommandsComplete` are met together. -/
theorem witness_CandidateCommandsComplete :
    ((let s : State := witState (fun d => (((d.put RCU_CAND_STAT.STATE 1 4).put RCU_CAND_CFG.EN 1 4).put RCU_CAND_FNOM.FNOM 24576000 4).put RCU_CAND_STAT.STATE 2 4);
    let dt : Nat := 0; let k : Fin 17 := 4; let falling : Bool := false; let short : Nat := 0; let long : Nat := 10000000;
    let d : Dev := s.came dt; let e : Dev := { d with rcu := { d.rcu with gateFault := tabPut false d.rcu.gateFault k true } };
    decide ((s.came dt).heldReset = false ∧ d.candEdges k falling = true ∧ short * d.get RCU_CAND_FNOM.FNOM k < 48000000000000 ∧
    224000000000000 ≤ long * d.get RCU_CAND_FNOM.FNOM k ∧ k.val < 5 ∧ e.cand k ≠ 0)) = true)
    ∧ ((let s : State := witState (fun d => ((d.put RCU_CAND_STAT.STATE 0 4).put RCU_CAND_CFG.EN 1 4).put RCU_CAND_FNOM.FNOM 24576000 4);
    let dt : Nat := 0; let k : Fin 17 := 4; let falling : Bool := false; let short : Nat := 0; let long : Nat := 10000000;
    let d : Dev := s.came dt; let e : Dev := { d with rcu := { d.rcu with gateFault := tabPut false d.rcu.gateFault k true } };
    decide ((s.came dt).heldReset = false ∧ d.candEdges k falling = true ∧ short * d.get RCU_CAND_FNOM.FNOM k < 48000000000000 ∧
    224000000000000 ≤ long * d.get RCU_CAND_FNOM.FNOM k ∧ k.val < 5 ∧ e.cand k = 0 ∧ tabGet 0 d.rcu.gateAt k / 2 ≠ d.tclk + 1)) = true)
    ∧ ((let s : State := witState (fun d => let d := ((d.put RCU_CAND_STAT.STATE 0 4).put RCU_CAND_CFG.EN 1 4).put RCU_CAND_FNOM.FNOM 24576000 4;
    { d with rcu := { d.rcu with gateAt := [(4, 2)] } }); let dt : Nat := 0; let k : Fin 17 := 4; let falling : Bool := false;
    let short : Nat := 0; let long : Nat := 10000000; let d : Dev := s.came dt;
    let e : Dev := { d with rcu := { d.rcu with gateFault := tabPut false d.rcu.gateFault k true } };
    decide ((s.came dt).heldReset = false ∧ d.candEdges k falling = true ∧ short * d.get RCU_CAND_FNOM.FNOM k < 48000000000000 ∧
    224000000000000 ≤ long * d.get RCU_CAND_FNOM.FNOM k ∧ k.val < 5 ∧ e.cand k = 0 ∧ tabGet 0 d.rcu.gateAt k / 2 = d.tclk + 1)) = true)
    ∧ ((let s : State := witState (fun d => d.put RCU_CAND_CFG.EN 1 16); let dt : Nat := 0; let k : Fin 17 := 16;
    let falling : Bool := false; let short : Nat := 0; let long : Nat := 10000000; let d : Dev := s.came dt;
    decide ((s.came dt).heldReset = false ∧ d.candEdges k falling = true ∧ short * d.get RCU_CAND_FNOM.FNOM k < 48000000000000 ∧
    224000000000000 ≤ long * d.get RCU_CAND_FNOM.FNOM k ∧ 5 ≤ k.val)) = true)
    ∧ ((let s : State := witState (fun d => ((d.put RCU_CAND_CFG.EN 1 4).put RCU_CAND_STAT.STATE 0 4).put RCU_CAND_STAT.STATE 2 0);
    let dt : Nat := 0; let k : Fin 17 := 4; let ofs : Int := 0; let d : Dev := s.came dt; let f : Dev := d.startTimer .qualGate k;
    let e : Dev := ({ f with rcu := { f.rcu with gateFault := tabDel f.rcu.gateFault k } }).put RCU_CAND_OFS.OFS (unsW 32 ofs) k;
    decide ((s.came dt).heldReset = false ∧ k ≠ 0 ∧ d.is RCU_CAND_CFG.EN k = true ∧ d.xoQual = true ∧
    d.isDue .qualGate (d.gateNs k) k = true ∧ tabGet false f.rcu.gateFault k = false ∧ e.cand k = 0 ∧ ofs.natAbs ≤ (e.limits k).1 ∧
    e.admitted k = true)) = true)
    ∧ ((let s : State := witState (fun d => (d.put RCU_CAND_STAT.STATE 1 16).put RCU_CAND_STAT.STATE 2 0); let dt : Nat := 0;
    let k : Fin 17 := 16; let d : Dev := s.came dt; decide ((s.came dt).heldReset = false ∧ k ≠ 0 ∧ d.cand k = 1 ∧ d.xoQual = true ∧
    d.isDue .holdoff (d.holdoffNs k) k = true)) = true)
    ∧ ((let s : State := State.reset; let p : Port := .core; decide ((s.dev.heldReset = false ∧
    s.dev.portOpen (portNum p) = true))) = true)
    ∧ ((let s : State := witState (fun d => d.put RCU_LOOP_CFG.HOPOK 1 3); let p : Port := .core; let k : Fin 4 := 3; let w : Word := 0x0;
    let c : Dev := s.counted p (RCU_LOOP_CTRL.addr k 0); decide ((s.dev.heldReset = false ∧ s.dev.portOpen (portNum p) = true) ∧
    fget w 0 0 = 0 ∧ (c.store RCU_LOOP_CTRL w k).is RCU_LOOP_CFG.HOPOK k = true)) = true) := by
  decide +kernel

/-- The hypotheses of each clause of `LoopCommandsComplete` are met together. -/
theorem witness_LoopCommandsComplete :
    ((let s : State := witState (fun d => (((d.put RCU_LOOP_STAT.STATE 1 3).put RCU_CAND_STAT.STATE 2 0).put RCU_LOOP_STAT.SEL 1 3).setLoop 3 { trials := [0] });
    let dt : Nat := 0; let f : Nat := 0; let fine : Nat := 0; let k : Fin 4 := 3; let d : Dev := s.came dt;
    let e : Dev := (d.setLoop k { d.loop k with fine := fine % 2 ^ 24, word := fine % 2 ^ 24, trials := [] }).qsStore k;
    decide ((s.came dt).heldReset = false ∧ d.loopState k = 1 ∧ (d.loop k).trials ≠ [] ∧ d.xoQual = true ∧ d.trialOk k f = true ∧
    e.get RCU_LOOP_STAT.SEL k ≠ noSel)) = true)
    ∧ ((let s : State := witState (fun d => ((d.put RCU_LOOP_STAT.SEL 1 3).put RCU_LOOP_STAT.STATE 3 3).setLoop 3 { edges := 15 });
    let dt : Nat := 0; let n : Nat := 0; let k : Fin 4 := 3; let e0 : Int := 0; let ph : Int := 0; let d : Dev := s.came dt;
    let e : Dev := d.loopHvalid k; decide ((s.came dt).heldReset = false ∧ d.get RCU_LOOP_STAT.SEL k ≠ noSel ∧ e.loopState k = 3 ∧
    e.edgeError k n e0 = some ph ∧ ph.natAbs ≤ 2000 ∧ 15 ≤ (e.loop k).edges)) = true)
    ∧ ((let s : State := witState (fun d => d.put RCU_LOOP_STAT.STATE 4 3); let dt : Nat := 0; let k : Fin 4 := 3;
    let d : Dev := s.came dt; decide ((s.came dt).heldReset = false ∧ d.loopState k = 4 ∧
    d.isDue .narrow (d.dwellNs k) k = true)) = true)
    ∧ ((let s : State := witState (fun d => d.put RCU_LOOP_STAT.STATE 6 3); let dt : Nat := 0; let k : Fin 4 := 3;
    let d : Dev := s.came dt; decide ((s.came dt).heldReset = false ∧ d.loopState k = 6 ∧ (d.loop k).await = .none ∧ d.pullNow k = 0 ∧
    (d.loop k).built = false)) = true)
    ∧ ((let s : State := witState (fun d => (((d.put RCU_LOOP_STAT.STATE 1 3).put RCU_LOOP_CFG.HOPOK 1 3).put RCU_LOOP_FOUT.FOUT (64 * 24576000) 3).put RCU_LOOP_CTRL.MDIV 25 3);
    let p : Port := .core; let k : Fin 4 := 3; let w : Word := 0x1; let c : Dev := s.counted p (RCU_LOOP_CTRL.addr k 0);
    let e : Dev := c.store RCU_LOOP_CTRL w k; decide ((s.dev.heldReset = false ∧ s.dev.portOpen (portNum p) = true) ∧ fget w 0 0 = 1 ∧
    e.is RCU_LOOP_CFG.HOPOK k = true ∧ dcoOk (e.get RCU_LOOP_FOUT.FOUT k) (e.get RCU_LOOP_CTRL.MDIV k) = true ∧
    e.loopState k ≠ 0)) = true)
    ∧ ((let s : State := witState (fun d => (((d.put RCU_LOOP_CFG.HOPOK 1 1).put RCU_LOOP_STAT.STATE 5 1).put RCU_QS_CFG.VALID 1 1 7).put RCU_CAND_STAT.STATE 2 0);
    let p : Port := .core; let k : Fin 2 := 1; let w : Word := 0xF; let c : Dev := s.counted p (RCU_QS_HOP.addr k 0);
    let e : Dev := c.store RCU_QS_HOP w k; let n : Nat := e.get RCU_QS_HOP.ENTRY k; let b : Nat := e.get RCU_QS_CFG.BAND k n;
    let g : Dev := (((e.put RCU_LOOP_FOUT.FOUT (e.get RCU_QS_FOUT.FOUT k n) k).put RCU_LOOP_CTRL.MDIV (e.get RCU_QS_CFG.MDIV k n) k).put RCU_LOOP_STAT.BAND b k).loopTo k 8;
    let x : LoopSt := { g.loop k with fout := e.get RCU_QS_FOUT.FOUT k n, mdiv := e.get RCU_QS_CFG.MDIV k n, fine := 0, word := 0, hopFine := g.get RCU_QS_FINE.FINE k n, code := (g.bandEntry k b).2.1, await := .hopSettle, hopOk := true, pullO := 0, held := .free };
    decide ((s.dev.heldReset = false ∧ s.dev.portOpen (portNum p) = true) ∧ fget w 3 3 = 1 ∧ e.is RCU_LOOP_CFG.HOPOK k = true ∧
    e.is RCU_QS_CFG.VALID k n = true ∧ e.loopState k = 5 ∧ (g.setLoop k x).xoQual = true)) = true)
    ∧ ((let s : State := State.reset; let p : Port := .core; decide ((s.dev.heldReset = false ∧
    s.dev.portOpen (portNum p) = true))) = true)
    ∧ ((let s : State := witState (fun d => (d.put RCU_LOOP_STAT.STATE 1 3).setLoop 3 { waiting := true }); let dt : Nat := 0;
    let k : Fin 4 := 3; let d : Dev := s.came dt; decide ((s.came dt).heldReset = false ∧ d.loopState k = 1 ∧
    (d.loop k).waiting = true ∧ d.isDue .retry 1000000000 k = true)) = true)
    ∧ ((let s : State := witState (fun d => ((d.put RCU_LOOP_STAT.STATE 8 3).put RCU_LOOP_STAT.SEL 1 3).setLoop 3 { await := .hopSettle });
    let dt : Nat := 0; let k : Fin 4 := 3; let d : Dev := s.came dt; let e : Dev := d.setFine k (d.loop k).hopFine;
    decide ((s.came dt).heldReset = false ∧ d.loopState k = 8 ∧ (d.loop k).await = .hopSettle ∧
    e.get RCU_LOOP_STAT.SEL k ≠ noSel)) = true)
    ∧ ((let s : State := witState (fun d => (d.put RCU_LOOP_STAT.STATE 8 3).setLoop 3 { await := .hopCheck, hopOk := true });
    let dt : Nat := 0; let k : Fin 4 := 3; let d : Dev := s.came dt; decide ((s.came dt).heldReset = false ∧ d.loopState k = 8 ∧
    (d.loop k).await = .hopCheck ∧ d.isDue .hop (d.hopCheckNs k) k = true ∧ (d.loop k).hopOk = true)) = true) := by
  decide +kernel

/-- The hypotheses of each clause of `SerialCommandsComplete` are met together. -/
theorem witness_SerialCommandsComplete :
    ((let s : State := witState (fun d => (((d.put SAP_PCFG.EN 1 15).put SAP_PCFG.SYNC 1 15).put SAP_PSTAT.STATE 2 15).put SYS_BLK_STATUS.STATE 4);
    let dt : Nat := 0; let q : Fin 16 := 15; let ofs : Int := 0; let d : Dev := s.came dt;
    let a : Dev := d.captureEvent (12 + q) (!d.frameFalls q); let c : Dev := a.pairFrame q;
    let b : Dev := c.setPort q { c.port q with present := true, lastOfs := ofs };
    let e : Dev := b.setPort q { b.port q with errFrame := false, closing := 0 }; let bclk : Nat := 32 * max 1 (e.get SAP_PCFG.SLOTS q);
    let i : Int := (if e.pState q = 1 then e.framePos q ofs else ((e.port q).rx : Int)); decide ((s.came dt).heldReset = false ∧
    a.leaderOf q = none ∧ (∀ p ∈ List.range 16, a.leaderOf p ≠ some q.val) ∧ c.pOn q = true ∧
    (c.is SAP_PCFG.MASTER q = true → c.dllState (8 + q) = 4) ∧ b.is SAP_GRP_CFG.METHOD (b.pGroup q) = false ∧ e.pSync q = true ∧
    e.pLive q = true ∧ bclk = 32 * max 1 (e.get SAP_PCFG.SLOTS q) ∧ 0 ≤ i ∧ i < (e.nb : Int) ∧ (e.port q).rx < e.nb)) = true)
    ∧ ((let s : State := witState (fun d => (((d.put SAP_PCFG.MASTER 0 15).put SAP_PCFG.EN 1 15).put SAP_PCFG.SYNC 1 15).put SAP_RREF.RREF (48000 * 64) 15);
    let dt : Nat := 0; let rate : Nat := 48000 * 64; let q : Fin 16 := 15; let d : Dev := s.came dt;
    let e : Dev := d.put SAP_RATE.RATE rate q; let f : Dev := e.setPort q { e.port q with present := true };
    decide ((s.came dt).heldReset = false ∧ d.pOn q = true ∧ d.is SAP_PCFG.MASTER q = false ∧ f.pSync q = true ∧
    f.rateWithin q rate = true)) = true)
    ∧ ((let s : State := witState (fun d => (((d.put SAP_PCFG.MASTER 0 15).put SAP_RREF.RREF 1 15).put SAP_PCFG.EN 1 15).put SAP_PCFG.SYNC 1 15);
    let dt : Nat := 0; let q : Fin 16 := 15; let d : Dev := s.came dt; decide ((s.came dt).heldReset = false ∧ d.pOn q = true ∧
    d.is SAP_PCFG.MASTER q = false ∧ d.get SAP_RREF.RREF q ≠ 0)) = true)
    ∧ ((let s : State := witState (fun d => d.put SAP_GRP_STAT.STATE 0 15); let p : Port := .core; let k : Fin 16 := 15;
    let w : Word := 0x1; let c : Dev := s.counted p (SAP_GRP_CTRL.addr k 0); let e : Dev := c.store SAP_GRP_CTRL w k;
    decide ((s.dev.heldReset = false ∧ s.dev.portOpen (portNum p) = true) ∧ (c.mirrored = false ∧ (c.role = 2 → c.pair.link = false)) ∧
    fget w 0 0 = 1 ∧ fget w 1 1 = 0 ∧ e.get SAP_GRP_STAT.STATE k = 0)) = true)
    ∧ ((let s : State := State.reset; let p : Port := .core; let k : Fin 16 := 15; let w : Word := 0x2;
    let c : Dev := s.counted p (SAP_GRP_CTRL.addr k 0); decide ((s.dev.heldReset = false ∧ s.dev.portOpen (portNum p) = true) ∧
    (c.mirrored = false ∧ (c.role = 2 → c.pair.link = false)) ∧ fget w 0 0 = 0 ∧ fget w 1 1 = 1)) = true)
    ∧ ((let s : State := witState (fun d => d.put SAP_PSTAT.STATE 2 15); let p : Port := .core; let q : Fin 16 := 15; let w : Word := 0x1;
    let c : Dev := s.counted p (SAP_PCTRL.addr q 0); let e : Dev := c.store SAP_PCTRL w q; decide ((s.dev.heldReset = false ∧
    s.dev.portOpen (portNum p) = true) ∧ (c.mirrored = false ∧ (c.role = 2 → c.pair.link = false)) ∧ fget w 0 0 = 1 ∧
    (e.pState q = 2 ∨ e.pState q = 4))) = true) := by
  decide +kernel

/-- The hypotheses of each clause of `CrosspointAndConverterCommandsComplete` are met together. -/
theorem witness_CrosspointAndConverterCommandsComplete :
    ((let s : State := witState (fun d => let d := (d.put SYS_BLK_STATUS.STATE 4).put XPT_CMD_SLOT.OP 0;
    { d with xpt := { d.xpt with nx := 1 } }); let p : Port := .core; let w : Word := 0xFFFF;
    let c : Dev := s.counted p (XPT_CMD_DATA.addr 0 0); let k : Nat := c.get XPT_CMD_SLOT.SLOT; decide ((s.dev.heldReset = false ∧
    s.dev.portOpen (portNum p) = true) ∧ (c.mirrored = false ∧ (c.role = 2 → c.pair.link = false)) ∧ k < c.xpt.nx ∧
    c.xpt.staged.length + c.xpt.deferred.length < 4096 ∧ c.running = true ∧ c.get XPT_CMD_SLOT.OP = 0 ∧
    (w.toNat % 65536 = 0xFFFF ∨ c.badSource (w.toNat % 65536) = false))) = true)
    ∧ ((let s : State := witState (fun d => let d := (d.put SYS_BLK_STATUS.STATE 4).put XPT_CMD_SLOT.OP 1;
    { d with xpt := { d.xpt with nx := 1 } }); let p : Port := .core; let c : Dev := s.counted p (XPT_CMD_DATA.addr 0 0);
    let k : Nat := c.get XPT_CMD_SLOT.SLOT; decide ((s.dev.heldReset = false ∧ s.dev.portOpen (portNum p) = true) ∧
    (c.mirrored = false ∧ (c.role = 2 → c.pair.link = false)) ∧ k < c.xpt.nx ∧ c.xpt.staged.length + c.xpt.deferred.length < 4096 ∧
    c.running = true ∧ c.get XPT_CMD_SLOT.OP = 1)) = true)
    ∧ ((let s : State := witState (fun d => let d := d.put XPT_CMD_SLOT.OP 0; { d with xpt := { d.xpt with nx := 1 } });
    let p : Port := .core; let w : Word := 0xFFFF; let c : Dev := s.counted p (XPT_CMD_DATA.addr 0 0);
    let k : Nat := c.get XPT_CMD_SLOT.SLOT; decide ((s.dev.heldReset = false ∧ s.dev.portOpen (portNum p) = true) ∧
    (c.mirrored = false ∧ (c.role = 2 → c.pair.link = false)) ∧ k < c.xpt.nx ∧ c.xpt.staged.length + c.xpt.deferred.length < 4096 ∧
    c.running = false ∧ c.get XPT_CMD_SLOT.OP = 0 ∧ (w.toNat % 65536 = 0xFFFF ∨ c.badSource (w.toNat % 65536) = false))) = true)
    ∧ ((let s : State := witState (fun d => let d := d.put XPT_CMD_SLOT.OP 1; { d with xpt := { d.xpt with nx := 1 } });
    let p : Port := .core; let c : Dev := s.counted p (XPT_CMD_DATA.addr 0 0); let k : Nat := c.get XPT_CMD_SLOT.SLOT;
    decide ((s.dev.heldReset = false ∧ s.dev.portOpen (portNum p) = true) ∧ (c.mirrored = false ∧ (c.role = 2 → c.pair.link = false)) ∧
    k < c.xpt.nx ∧ c.xpt.staged.length + c.xpt.deferred.length < 4096 ∧ c.running = false ∧ c.get XPT_CMD_SLOT.OP = 1)) = true)
    ∧ ((let s : State := witState (fun d => d.put SYS_BLK_STATUS.STATE 4); let p : Port := .core; let x : XptReg := .silCfg 4095;
    let c : Dev := s.counted p (xptRegAddr x); decide ((s.dev.heldReset = false ∧ s.dev.portOpen (portNum p) = true) ∧
    (c.mirrored = false ∧ (c.role = 2 → c.pair.link = false)) ∧ c.xpt.staged.length + c.xpt.deferred.length < 4096 ∧
    c.running = true)) = true)
    ∧ ((let s : State := State.reset; let p : Port := .core; let x : XptReg := .silCfg 4095; let c : Dev := s.counted p (xptRegAddr x);
    decide ((s.dev.heldReset = false ∧ s.dev.portOpen (portNum p) = true) ∧ (c.mirrored = false ∧ (c.role = 2 → c.pair.link = false)) ∧
    c.xpt.staged.length + c.xpt.deferred.length < 4096 ∧ c.running = false)) = true)
    ∧ ((let s : State := witState (fun d => d.put SYS_BLK_STATUS.STATE 4); let p : Port := .core; let w : Word := 0x1;
    let c : Dev := s.counted p (XPT_CTRL.addr 0 0); let e : Dev := c.store XPT_CTRL w; decide ((s.dev.heldReset = false ∧
    s.dev.portOpen (portNum p) = true) ∧ (c.mirrored = false ∧ (c.role = 2 → c.pair.link = false)) ∧ bitOf w.toNat 0 = 1 ∧
    e.running = true)) = true)
    ∧ ((let s : State := State.reset; let dt : Nat := 0; decide ((s.came dt).heldReset = false)) = true)
    ∧ ((let s : State := State.reset; let dt : Nat := 0; decide ((s.came dt).heldReset = false)) = true)
    ∧ ((let s : State := witState (fun d => let d := d.put XPT_SIL_CFG.THR 120 4095;
    { d with xpt := { d.xpt with part := [(4095, (0, 1))], sil := [(4095, 100000)] } }); let dt : Nat := 0; let x : Fin 4096 := 4095;
    let d : Dev := s.came dt; decide ((s.came dt).heldReset = false ∧ d.silThr x ≠ 0 ∧ d.silent x = false ∧
    d.silHold x ≤ tabGet 0 d.xpt.sil x ∧ 0 < (tabGet (0, 0) d.xpt.part x).2)) = true)
    ∧ ((let s : State := witState (fun d => let d := (d.put ASRC_STAT.STATE 0 255).put ASRC_CFG.DIR 1 255;
    d.put ASRC_CFG.CHAN d.sapBase 255); let dt : Nat := 0; let r : Nat := 2 ^ 39; let k : Fin 256 := 255; let d : Dev := s.came dt;
    decide ((s.came dt).heldReset = false ∧ d.convOn k = true ∧ d.convState k = 0 ∧ ratioOk r = true)) = true)
    ∧ ((let s : State := witState (fun d => (d.put ASRC_STAT.STATE 1 255).put ASRC_CFG.DIR 1 255); let dt : Nat := 0;
    let r : Nat := 2 ^ 37; let k : Fin 256 := 255; let d : Dev := s.came dt; decide ((s.came dt).heldReset = false ∧
    (d.convState k = 1 ∨ d.convState k = 3) ∧ ratioOk r = true)) = true)
    ∧ ((let s : State := witState (fun d => (d.put ASRC_STAT.STATE 2 255).put ASRC_CFG.DIR 1 255); let dt : Nat := 0;
    let r : Nat := 2 ^ 37; let k : Fin 256 := 255; let d : Dev := s.came dt; decide ((s.came dt).heldReset = false ∧ d.convState k = 2 ∧
    ratioOk r = true)) = true)
    ∧ ((let s : State := witState (fun d => (d.put ASRC_STAT.STATE 4 255).put ASRC_CFG.DIR 1 255); let dt : Nat := 0;
    let r : Nat := 2 ^ 37; let k : Fin 256 := 255; let d : Dev := s.came dt; decide ((s.came dt).heldReset = false ∧ d.convState k = 4 ∧
    ratioOk r = true)) = true)
    ∧ ((let s : State := witState (fun d => d.put ASRC_STAT.STATE 1 255); let dt : Nat := 0; let k : Fin 256 := 255;
    let d : Dev := s.came dt; decide ((s.came dt).heldReset = false ∧ d.convState k ≠ 0)) = true) := by
  decide +kernel

/-- The hypotheses of each clause of `EthernetCommandsComplete` are met together. -/
theorem witness_EthernetCommandsComplete :
    ((let s : State := witState (fun d => (d.put ETH_PORT_CFG.MODE 0 1).put ETH_PORT_STAT.LINK 1 1); let dt : Nat := 0;
    let q : Fin 2 := 1; let f : List Byte := List.replicate 60 0xFF; let d : Dev := s.came dt; decide ((s.came dt).heldReset = false ∧
    d.ethOn q = true ∧ d.is ETH_PORT_STAT.LINK q = true ∧ 60 ≤ f.length ∧ f.length ≤ 1518 ∧ d.dstOk q (beAt f 0 6) = true ∧
    d.vlanOk q f = true ∧ d.strMatch q f = none)) = true)
    ∧ ((let s : State := witState (fun d => (((((((d.put ETH_PORT_CFG.MODE 0 1).put ETH_PORT_STAT.LINK 1 1).put ETH_STR_CTRL.EN 1 127).put ETH_STR_CFG.LEGS 1 127).put FLOW_CFG.KIND 3 0).put FLOW_CFG.FLOW 127 0).put ETH_STR_UDP.DPORT 0 127).put ETH_STR_HDR.PT 0 127);
    let dt : Nat := 0; let q : Fin 2 := 1;
    let f : List Byte := List.replicate 6 0xFF ++ List.replicate 6 0 ++ [8, 0, 0x45] ++ List.replicate 8 0 ++ [17] ++ List.replicate 36 0;
    let d : Dev := s.came dt; let x := 127; decide ((s.came dt).heldReset = false ∧ d.ethOn q = true ∧
    d.is ETH_PORT_STAT.LINK q = true ∧ 60 ≤ f.length ∧ f.length ≤ 1518 ∧ d.dstOk q (beAt f 0 6) = true ∧ d.vlanOk q f = true ∧
    d.strMatch q f = some x)) = true)
    ∧ ((let s : State := witState (fun d => let d := ((((d.put ETH_PORT_CFG.MODE 0 1).put ETH_PORT_STAT.LINK 1 1).put MGMT_RING_CFG.EN 1 23).put MGMT_RING_CFG.SIZE 7 23).put MGMT_RING_WR.WR 16 23;
    d.setBytes (d.ringBase 87) (leBytes 4 0x20000)); let dt : Nat := 0; let size : Nat := entrySize 0; let q : Fin 2 := 1;
    let h : List Byte := [0, 0, 2] ++ List.replicate 13 0; let f : List Byte := []; let d : Dev := s.came dt;
    let e : Dev := (d.ringFront (86 + q) 2 64).2; decide ((s.came dt).heldReset = false ∧ d.ethOn q = true ∧
    d.is ETH_PORT_STAT.LINK q = true ∧ d.ringFront (86 + q) 2 64 = (some (size, h, f), e) ∧ leAt h 3 1 = 0)) = true)
    ∧ ((let s : State := witState (fun d => { d with txts := [(1, [[0, 0, 0, 0, 0]])] }); let p : Port := .core; let q : Fin 2 := 1;
    let c : Dev := s.counted p (ETH_TXTS_INFO.addr q 0); let x : List Nat := [0, 0, 0, 0, 0]; let xs : List (List Nat) := [];
    decide ((s.dev.heldReset = false ∧ s.dev.portOpen (portNum p) = true) ∧ c.inReset 7 = false ∧ tabGet [] c.txts q = x :: xs)) = true)
    ∧ ((let s : State := witState (fun d => (d.put ETH_PORT_CFG.MODE 0 1).put ETH_PORT_STAT.LINK 1 1); let dt : Nat := 0;
    let q : Fin 2 := 1; let d : Dev := s.came dt; decide ((s.came dt).heldReset = false ∧ d.ethOn q = true ∧
    d.is ETH_PORT_STAT.LINK q = true)) = true)
    ∧ ((let s : State := State.reset; let p : Port := .core; let w : Word := 0x0; decide ((s.dev.heldReset = false ∧
    s.dev.portOpen (portNum p) = true) ∧ fget w 1 1 = 0)) = true)
    ∧ ((let s : State := witState (fun d => let d := d.put ETH_PORT_CFG.MODE 0 1; { d with imageApplied := true }); let dt : Nat := 0;
    let q : Fin 2 := 1; let d : Dev := s.came dt; decide ((s.came dt).heldReset = false ∧ d.ethOn q = true ∧
    d.imageApplied = true)) = true) := by
  decide +kernel

/-- The hypotheses of each clause of `TopologyCommandsComplete` are met together. -/
theorem witness_TopologyCommandsComplete :
    ((let s : State := witState (fun d => d.put HLK_STAT.STATE 3 7); let dt : Nat := 0; let l : Fin 8 := 7; let d : Dev := s.came dt;
    decide ((s.came dt).heldReset = false ∧ d.lActive l = true ∧ d.isDue .hello 990000 l = true)) = true)
    ∧ ((let s : State := witState (fun d => (d.put HLK_STAT.STATE 3 7).put HFB_ADJ.STATE 0 7); let dt : Nat := 0; let l : Fin 8 := 7;
    let bs : List Byte := tCell (mkHdr 2 0 false false 6 0 0 1 0 0 0) (List.replicate 24 0); let d : Dev := s.came dt;
    let e : Dev := (d.freeCell l 2 bs).perfEvent 0x19 1 { k := 2 }; decide ((s.came dt).heldReset = false ∧ d.lActive l = true ∧
    hdrOk 2 bs = true ∧ crcState bs = 0 ∧ hType bs = 0 ∧ hFlow bs = 0 ∧
    beAt (cellPay bs) 16 8 = e.get HFB_FABID_HI.FABID * 2 ^ 32 + e.get HFB_FABID_LO.FABID ∧ e.get HFB_ADJ.STATE l = 0)) = true)
    ∧ ((let s : State := witState (fun d => d.put HFB_ADJ.STATE 2 7); let dt : Nat := 0; let l : Fin 8 := 7; let d : Dev := s.came dt;
    decide ((s.came dt).heldReset = false ∧ d.get HFB_ADJ.STATE l = 2 ∧
    d.isDue .adj (max 3 (d.get HFB_CFG.DEAD) * 1000000) l = true)) = true)
    ∧ ((let s : State := witState (fun d => { d with mgmt := { d.mgmt with fwRunning := true } }); let dt : Nat := 0;
    let d : Dev := s.came dt; decide ((s.came dt).heldReset = false ∧ d.fabricService = true ∧
    (d.hfb.topoDue = true ∨ d.isDue .topo 1000000000 = true))) = true)
    ∧ ((let s : State := witState (fun d => let d := { d with hfb := { d.hfb with topo := [(2 ^ 56, { topoOf (tCell (mkHdr 2 0 false false 4 0 0 1 0 1 0) (1 :: List.replicate 15 0)) with seq := 0 })] } };
    { d with mgmt := { d.mgmt with fwRunning := true } }); let dt : Nat := 0;
    let bs : List Byte := tCell (mkHdr 2 0 false false 4 0 0 1 0 1 0) (1 :: List.replicate 15 0); let d : Dev := s.came dt;
    let r : TopoRec := { topoOf bs with at_ := d.tclk }; let o : TopoRec := { r with seq := 0 }; let k : Nat := r.uid;
    decide ((s.came dt).heldReset = false ∧ d.fabricService = true ∧ r.uid ≠ d.uid ∧
    d.hfb.topo.find? (fun kv => kv.1 == r.uid) = some (k, o) ∧ later16 r.seq o.seq = true)) = true)
    ∧ ((let s : State := witState (fun d => { d with mgmt := { d.mgmt with fwRunning := true } }); let dt : Nat := 0;
    let uid : BitVec 64 := 1; let d : Dev := s.came dt; decide ((s.came dt).heldReset = false ∧ d.fabricService = true ∧
    (∀ kv ∈ d.hfb.topo, kv.1 = uid.toNat → kv.2.at_ + 875000000 ≤ d.tclk))) = true)
    ∧ ((let s : State := State.reset; let dt : Nat := 0; decide ((s.came dt).heldReset = false)) = true) := by
  decide +kernel

/-- The hypotheses of each clause of `NodeAndForwardingCommandsComplete` are met together. -/
theorem witness_NodeAndForwardingCommandsComplete :
    ((let s : State := witState (fun d => let d := d.put HFB_NODE.ID 0xFFE; { d with mgmt := { d.mgmt with fwRunning := true } });
    let dt : Nat := 0; let bs : List Byte := tCell (mkHdr 2 2 false false 3 0 0 1 0 1 0) ([1, 0, 0xF, 0xFE, 1] ++ List.replicate 7 0);
    let d : Dev := s.came dt; decide ((s.came dt).heldReset = false ∧ d.fabricService = true ∧ beAt (cellPay bs) 4 8 ≠ d.uid ∧
    cb (cellPay bs) 0 = 1 ∧ beAt (cellPay bs) 2 2 = d.nodeId ∧ d.nodeId ≠ 0)) = true)
    ∧ ((let s : State := witState (fun d => ({ d with imageApplied := true }).put HFB_NODE.MODE 0); let p : Port := .core;
    let w : Word := 0xFFE; let c : Dev := s.counted p (HFB_NODE.addr 0 0); decide ((s.dev.heldReset = false ∧
    s.dev.portOpen (portNum p) = true) ∧ c.imageApplied = true ∧ c.is HFB_NODE.MODE = false ∧ fget w 15 0 ≠ 0 ∧ fget w 15 0 ≤ 0xFFE ∧
    (c.put HFB_NODE.ID (fget w 15 0)).is HFB_NODE.MODE = false)) = true)
    ∧ ((let s : State := witState (fun d => let d := d.put HFB_NODE.MODE 0;
    let d := ({ d with hfb := { d.hfb with phase := 1 } }).setMemLe mramNode 2 0xFFE;
    { d with mgmt := { d.mgmt with fwRunning := true } }); let dt : Nat := 0; let d : Dev := s.came dt;
    let id : Nat := (d.storedId 64).1; let e : Dev := (d.storedId 64).2; decide ((s.came dt).heldReset = false ∧
    d.is HFB_NODE.MODE = false ∧ d.nodeId = 0 ∧ d.hfb.phase = 1 ∧ (id, e) = d.storedId 64 ∧ id ≠ 0 ∧ e.idTaken id = false ∧
    d.fabricService = true ∧ d.isDue .claim 1500000000 = true)) = true)
    ∧ ((let s : State := witState (fun d => let d := { d with hfb := { d.hfb with phase := 2 } };
    { d with mgmt := { d.mgmt with fwRunning := true } }); let dt : Nat := 0; let d : Dev := s.came dt;
    decide ((s.came dt).heldReset = false ∧ d.hfb.phase = 2 ∧ d.hfb.claims < 3 ∧ d.fabricService = true ∧
    d.isDue .claim 50000000 1 = true)) = true)
    ∧ ((let s : State := witState (fun d => let d := { d with hfb := { d.hfb with phase := 2 } };
    let d := { d with hfb := { d.hfb with beaten := false } };
    let d := ({ d with mgmt := { d.mgmt with fwRunning := true } }).startTimer .claim 2; let d := { d with tclk := 37500000 };
    { d with hfb := { d.hfb with claims := 3 } }); let dt : Nat := 0; let d : Dev := s.came dt; decide ((s.came dt).heldReset = false ∧
    d.hfb.phase = 2 ∧ d.hfb.beaten = false ∧ 3 ≤ d.hfb.claims ∧ d.idTaken d.hfb.cand = false ∧ d.fabricService = true ∧
    d.ranFor .claim 150000000 2 = true)) = true)
    ∧ ((let s : State := witState (fun d => ((d.put HFB_FWD_W0.FLOW 0xFFFFE).put HFB_FWD_W0.VALID 1).put HFB_FWD_W1.DEDUP 1);
    let p : Port := .core; let w : Word := 0x1; let c : Dev := s.counted p (HFB_FWD_CMD.addr 0 0); let e : Dev := c.store HFB_FWD_CMD w;
    let i : Nat := fget w 14 2;
    let x : FwdEnt := { flow := e.get HFB_FWD_W0.FLOW, pri := e.get HFB_FWD_W1.PRI, bkp := e.get HFB_FWD_W1.BKP, mc := e.is HFB_FWD_W0.MC, loc := e.is HFB_FWD_W0.LOCAL, ctx := e.get HFB_FWD_W0.CTX, dedup := e.is HFB_FWD_W1.DEDUP, revert := e.is HFB_FWD_W1.REVERT, valid := e.is HFB_FWD_W0.VALID };
    let bits : Nat → Nat := (fun m => ((List.range 8).filter (fun l => decide (m / 2 ^ l % 2 = 1))).length);
    decide ((s.dev.heldReset = false ∧ s.dev.portOpen (portNum p) = true) ∧ fget w 1 0 = 1 ∧
    (x.valid = false ∨ ∀ kv ∈ e.hfb.fwd, kv.1 ≠ i → kv.2.valid = true → kv.2.flow ≠ x.flow) ∧ x.flow ≠ 0 ∧ x.flow ≠ 0xFFFFF ∧
    x.flow ≠ 0xF0000 + e.nodeId ∧ (x.mc = true ∨ (bits x.pri ≤ 1 ∧ bits x.bkp ≤ 1)) ∧
    (x.valid = false ∨ x.dedup = false ∨ (e.hfb.fwd.filter (fun kv => decide (kv.1 ≠ i) && kv.2.valid && kv.2.dedup)).length < 1024))) = true)
    ∧ ((let s : State := State.reset; let p : Port := .core; let w : Word := 0x1; let c : Dev := s.counted p (HFB_FWD_CMD.addr 0 0);
    let e : Dev := c.store HFB_FWD_CMD w; let i : Nat := fget w 14 2;
    let x : FwdEnt := { flow := e.get HFB_FWD_W0.FLOW, pri := e.get HFB_FWD_W1.PRI, bkp := e.get HFB_FWD_W1.BKP, mc := e.is HFB_FWD_W0.MC, loc := e.is HFB_FWD_W0.LOCAL, ctx := e.get HFB_FWD_W0.CTX, dedup := e.is HFB_FWD_W1.DEDUP, revert := e.is HFB_FWD_W1.REVERT, valid := e.is HFB_FWD_W0.VALID };
    let bits : Nat → Nat := (fun m => ((List.range 8).filter (fun l => decide (m / 2 ^ l % 2 = 1))).length);
    decide ((s.dev.heldReset = false ∧ s.dev.portOpen (portNum p) = true) ∧ fget w 1 0 = 1 ∧ (x.valid = true ∧
    ∃ kv ∈ e.hfb.fwd, kv.1 ≠ i ∧ kv.2.valid = true ∧
    kv.2.flow = x.flow) ∨ x.flow = 0 ∨ x.flow = 0xFFFFF ∨ x.flow = 0xF0000 + e.nodeId ∨ (x.mc = false ∧
    (1 < bits x.pri ∨ 1 < bits x.bkp)) ∨ (x.valid = true ∧ x.dedup = true ∧
    1024 ≤ (e.hfb.fwd.filter (fun kv => decide (kv.1 ≠ i) && kv.2.valid && kv.2.dedup)).length))) = true)
    ∧ ((let s : State := witState (fun d => { d with hfb := { d.hfb with fwd := [(8191, { flow := 1, pri := 0, bkp := 0, mc := false, loc := true, ctx := 0, dedup := false, revert := false })] } });
    let p : Port := .core; let w : Word := 0x7FFE; let c : Dev := s.counted p (HFB_FWD_CMD.addr 0 0);
    let e : Dev := c.store HFB_FWD_CMD w; let i : Nat := fget w 14 2;
    let x : FwdEnt := { flow := 1, pri := 0, bkp := 0, mc := false, loc := true, ctx := 0, dedup := false, revert := false };
    decide ((s.dev.heldReset = false ∧ s.dev.portOpen (portNum p) = true) ∧ fget w 1 0 = 2 ∧
    e.hfb.fwd.find? (fun kv => kv.1 == i) = some (i, x))) = true)
    ∧ ((let s : State := State.reset; let p : Port := .core; let w : Word := 0x2; let c : Dev := s.counted p (HFB_FWD_CMD.addr 0 0);
    let e : Dev := c.store HFB_FWD_CMD w; let i : Nat := fget w 14 2; decide ((s.dev.heldReset = false ∧
    s.dev.portOpen (portNum p) = true) ∧ fget w 1 0 = 2 ∧ (∀ kv ∈ e.hfb.fwd, kv.1 ≠ i))) = true)
    ∧ ((let s : State := witState (fun d => { d with hfb := { d.hfb with fwd := [(8191, { flow := 1, pri := 0, bkp := 0, mc := false, loc := true, ctx := 0, dedup := false, revert := false })] } });
    let p : Port := .core; let w : Word := 0x7FFF; let c : Dev := s.counted p (HFB_FWD_CMD.addr 0 0);
    let e : Dev := c.store HFB_FWD_CMD w; let i : Nat := fget w 14 2;
    let x : FwdEnt := { flow := 1, pri := 0, bkp := 0, mc := false, loc := true, ctx := 0, dedup := false, revert := false };
    decide ((s.dev.heldReset = false ∧ s.dev.portOpen (portNum p) = true) ∧ fget w 1 0 = 3 ∧
    e.hfb.fwd.find? (fun kv => kv.1 == i) = some (i, x))) = true)
    ∧ ((let s : State := State.reset; let p : Port := .core; let w : Word := 0x3; let c : Dev := s.counted p (HFB_FWD_CMD.addr 0 0);
    let e : Dev := c.store HFB_FWD_CMD w; let i : Nat := fget w 14 2; decide ((s.dev.heldReset = false ∧
    s.dev.portOpen (portNum p) = true) ∧ fget w 1 0 = 3 ∧ (∀ kv ∈ e.hfb.fwd, kv.1 ≠ i))) = true) := by
  decide +kernel

/-- The hypotheses of each clause of `LinkTrainingCommandsComplete` are met together. -/
theorem witness_LinkTrainingCommandsComplete :
    ((let s : State := witState (fun d => ((d.put HLK_STAT.STATE 2 7).put HLK_CFG.RATE 1 7).setLnk 7 { good := 7 }); let dt : Nat := 0;
    let l : Fin 8 := 7; let body : BitVec 56 := 0x15000000000000; let d : Dev := s.came dt; decide ((s.came dt).heldReset = false ∧
    d.lState l = 2 ∧ linkVer body = 1 ∧ linkLocked body = true ∧ linkRate body = d.get HLK_CFG.RATE l ∧ 7 ≤ (d.lnk l).good)) = true)
    ∧ ((let s : State := witState (fun d => d.put HLK_STAT.STATE 1 7); let dt : Nat := 0; let l : Fin 8 := 7; let d : Dev := s.came dt;
    decide ((s.came dt).heldReset = false ∧ d.lState l = 1)) = true)
    ∧ ((let s : State := witState (fun d => d.put HLK_STAT.STATE 1 7); let dt : Nat := 0; let l : Fin 8 := 7; let d : Dev := s.came dt;
    decide ((s.came dt).heldReset = false ∧ d.lState l = 1 ∧ d.isDue .link 50000000 l = true)) = true)
    ∧ ((let s : State := witState (fun d => d.put HLK_STAT.STATE 3 7); let dt : Nat := 0; let l : Fin 8 := 7; let d : Dev := s.came dt;
    decide ((s.came dt).heldReset = false ∧ d.lState l = 3)) = true)
    ∧ ((let s : State := witState (fun d => d.put HLK_STAT.STATE 3 7); let dt : Nat := 0; let l : Fin 8 := 7; let d : Dev := s.came dt;
    decide ((s.came dt).heldReset = false ∧ d.lState l = 3)) = true)
    ∧ ((let s : State := witState (fun d => let d := (d.put HLK_STAT.STATE 3 7).setLnk 7 { q := [{ cls := 3, bytes := [] }] };
    { d with tclk := 250000 }); let dt : Nat := 0; let l : Fin 8 := 7; let k : Fin 4 := 3; let cls : Fin 4 := 3;
    let part : List Byte := []; let d : Dev := s.came dt; let c : Dev := d.setLnk l { d.lnk l with part := (cls, part) };
    decide ((s.came dt).heldReset = false ∧ d.lState l = 3 ∧ c.firstOf l k ≠ none ∧ tabGet 0 (c.lnk l).adv k + 250000 ≤ c.tclk)) = true)
    ∧ ((let s : State := witState (fun d => (d.put HLK_STAT.STATE 3 7).put HLK_CTRL.DISABLE 0 7); let p : Port := .core;
    let l : Fin 8 := 7; let cls : Fin 4 := 3; let part : List Byte := []; let w : Word := 0x1;
    let c : Dev := (s.dev.setLnk l { s.dev.lnk l with part := (cls, part) }).busCount (portNum p) (HLK_CTRL.addr l 0);
    decide ((s.dev.heldReset = false ∧ s.dev.portOpen (portNum p) = true) ∧ c.lState l = 3 ∧ c.is HLK_CTRL.DISABLE l = false ∧
    fget w 0 0 = 1 ∧ fget w 1 1 = 0)) = true)
    ∧ ((let s : State := State.reset; let p : Port := .core; let l : Fin 8 := 7; let w : Word := 2;
    let c : Dev := s.counted p (HLK_CTRL.addr l 0); decide ((s.dev.heldReset = false ∧ s.dev.portOpen (portNum p) = true) ∧
    fget w 0 0 = 0 ∧ (fget w 1 1 == 1) ≠ c.is HLK_CTRL.DISABLE l)) = true)
    ∧ ((let s : State := witState (fun d => d.put HLK_STAT.STATE 2 7); let dt : Nat := 0; let l : Fin 8 := 7; let d : Dev := s.came dt;
    decide ((s.came dt).heldReset = false ∧ d.lState l = 2 ∧ d.isDue .link 10000000 l = true)) = true)
    ∧ ((let s : State := witState (fun d => d.put HLK_STAT.STATE 4 7); let dt : Nat := 0; let l : Fin 8 := 7; let d : Dev := s.came dt;
    decide ((s.came dt).heldReset = false ∧ d.lState l = 4 ∧ d.isDue .link 1000000 l = true)) = true) := by
  decide +kernel

/-- The hypotheses of each clause of `LinkCellCommandsComplete` are met together. -/
theorem witness_LinkCellCommandsComplete :
    ((let s : State := witState (fun d => d.put HLK_STAT.STATE 3 7); let dt : Nat := 0; let l : Fin 8 := 7; let ty : Byte := 0x1E;
    let d : Dev := s.came dt; decide ((s.came dt).heldReset = false ∧ d.lActive l = true ∧ ty.toNat = 0x1E)) = true)
    ∧ ((let s : State := witState (fun d => (d.put HLK_STAT.STATE 3 7).setLnk 7 { q := [{ cls := 0, bytes := [] }] }); let dt : Nat := 0;
    let l : Fin 8 := 7; let x : QCell := { cls := 0, bytes := [] }; let d : Dev := s.came dt;
    let e : Dev := (d.ringFront (72 + l) 1 64).2; decide ((s.came dt).heldReset = false ∧ d.lActive l = true ∧
    d.ringFront (72 + l) 1 64 = (none, e) ∧ e.firstOf l 0 = some x ∧ x.cls = 0 ∧ x.cost ≤ e.credit l 0)) = true)
    ∧ ((let s : State := witState (fun d => d.put HLK_STAT.STATE 3 7); let dt : Nat := 0; let l : Fin 8 := 7; let d : Dev := s.came dt;
    decide ((s.came dt).heldReset = false ∧ d.lActive l = true ∧ d.isDue .dreq (d.dreqNs l) l = true)) = true)
    ∧ ((let s : State := witState (fun d => d.put HLK_STAT.STATE 3 7); let dt : Nat := 0; let l : Fin 8 := 7;
    let bs : List Byte := tCell (mkHdr 0 1 false false 0 0 0 1 0 0 0) (List.replicate 0 0); let d : Dev := s.came dt;
    decide ((s.came dt).heldReset = false ∧ d.lActive l = true ∧ hdrOk 0 bs = true ∧ crcState bs = 0 ∧ hType bs = 1 ∧
    hLenw bs = 0)) = true)
    ∧ ((let s : State := witState (fun d => (d.put HLK_STAT.STATE 3 7).setLnk 7 { dreqs := [(7, 0, 0)] }); let dt : Nat := 0;
    let l : Fin 8 := 7; let bs : List Byte := tCell (mkHdr 0 2 false false 6 0 0 1 0 7 0) (List.replicate 24 0);
    let d : Dev := s.came dt; let e : Dev := (d.freeCell l 0 bs).perfEvent 0x19 1; let t1 := 0; let k := 0;
    decide ((s.came dt).heldReset = false ∧ d.lActive l = true ∧ hdrOk 0 bs = true ∧ crcState bs = 0 ∧ hType bs = 2 ∧ hLenw bs = 6 ∧
    (e.dreqsOpen l).find? (fun x => x.1 == hSeq bs) = some (hSeq bs, t1, k))) = true)
    ∧ ((let s : State := witState (fun d => (d.put HLK_STAT.STATE 3 7).put HLK_SYNC_CFG.TXEN 1 7); let dt : Nat := 0; let l : Fin 8 := 7;
    let d : Dev := s.came dt; decide ((s.came dt).heldReset = false ∧ d.lActive l = true ∧ d.is HLK_SYNC_CFG.TXEN l = true ∧
    d.isDue .sync (d.syncNs l) l = true)) = true)
    ∧ ((let s : State := witState (fun d => (((d.put HLK_STAT.STATE 3 7).put HLK_TSYNC.LINK 7).put HLK_TSYNC.EN 1).put HLK_DELAY.VALID 1 7);
    let dt : Nat := 0; let l : Fin 8 := 7; let sub : Fin 64 := 63;
    let bs : List Byte := tCell (mkHdr 0 0 false false 4 0 0 1 0 0 0) (List.replicate 16 0); let d : Dev := s.came dt;
    let e : Dev := (d.freeCell l 0 bs).perfEvent 0x19 1; let g : Dev := e.captureEvent 31 true sub;
    decide ((s.came dt).heldReset = false ∧ d.lActive l = true ∧ hdrOk 0 bs = true ∧ crcState bs = 0 ∧ hType bs = 0 ∧ hLenw bs = 4 ∧
    e.get HLK_TSYNC.LINK = l ∧ g.get HLK_TSYNC.LINK = l ∧ g.is HLK_TSYNC.EN = true ∧ g.is HLK_DELAY.VALID l = true)) = true)
    ∧ ((let s : State := State.reset; let dt : Nat := 0; decide ((s.came dt).heldReset = false)) = true)
    ∧ ((let s : State := State.reset; let p : Port := .core; let l : Fin 8 := 7; let i : Fin 256 := 255; let w : Word := 0;
    let c : Dev := s.counted p (HLK_RSV.addr l i); decide ((s.dev.heldReset = false ∧ s.dev.portOpen (portNum p) = true) ∧
    c.rsvSum l - c.get HLK_RSV.CELLS l i + fget w 28 20 ≤ c.get HLK_RSV_STAT.RCAP l)) = true) := by
  decide +kernel

/-- The hypotheses of each clause of `ReceivedCellCommandsComplete` are met together. -/
theorem witness_ReceivedCellCommandsComplete :
    ((let s : State := witState (fun d => let d := (d.put HLK_STAT.STATE 3 7).put HFB_NODE.ID 0;
    { d with hfb := { d.hfb with fwd := [(0, { flow := 1, pri := 0, bkp := 0, mc := false, loc := true, ctx := 0, dedup := false, revert := false })] } });
    let dt : Nat := 0; let l : Fin 8 := 7; let bs : List Byte := tCell (mkHdr 1 0 false false 0 0 0x1 1 0 0 0) (List.replicate 0 0);
    let id : Nat := 0; let idx : Nat := 0;
    let x : FwdEnt := { flow := 1, pri := 0, bkp := 0, mc := false, loc := true, ctx := 0, dedup := false, revert := false };
    let d : Dev := s.came dt; let e : Dev := ((d.perfEvent 0x19 1 { k := 1 }).cellId).2; decide ((s.came dt).heldReset = false ∧
    d.lActive l = true ∧ hdrOk 1 bs = true ∧ crcState bs = 0 ∧ (id, e) = (d.perfEvent 0x19 1 { k := 1 }).cellId ∧ hFlow bs ≠ 0 ∧
    e.lookup (hFlow bs) = some (idx, x))) = true)
    ∧ ((let s : State := witState (fun d => let d := (d.put HLK_STAT.STATE 3 7).put HFB_NODE.ID 4094;
    { d with hfb := { d.hfb with fwd := [(0, { flow := 1, pri := 0, bkp := 0, mc := false, loc := true, ctx := 0, dedup := false, revert := false })] } });
    let dt : Nat := 0; let l : Fin 8 := 7; let bulk : Bool := true;
    let bs : List Byte := tCell (mkHdr 3 0 false false 0 0 0xf0ffe 1 0 0 0) (List.replicate 0 0);
    let soc : Nat := (if bulk = true then 3 else 2); let id : Nat := 0; let d : Dev := s.came dt;
    let e : Dev := ((d.perfEvent 0x19 1 { k := soc }).cellId).2; decide ((s.came dt).heldReset = false ∧ d.lActive l = true ∧
    hdrOk soc bs = true ∧ crcState bs = 0 ∧ (id, e) = (d.perfEvent 0x19 1 { k := soc }).cellId ∧ hFlow bs = 0xF0000 + e.nodeId ∧
    hFlow bs ≠ 0xFFFFF ∧ e.nodeId ≠ 0)) = true)
    ∧ ((let s : State := witState (fun d => let d := (d.put HLK_STAT.STATE 3 7).put HFB_NODE.ID 0;
    { d with hfb := { d.hfb with fwd := [(0, { flow := 1, pri := 0, bkp := 0, mc := false, loc := true, ctx := 0, dedup := false, revert := false })] } });
    let dt : Nat := 0; let l : Fin 8 := 7; let bulk : Bool := true;
    let bs : List Byte := tCell (mkHdr 3 0 false false 0 0 0x1 1 0 0 0) (List.replicate 0 0);
    let soc : Nat := (if bulk = true then 3 else 2); let id : Nat := 0; let idx : Nat := 0;
    let x : FwdEnt := { flow := 1, pri := 0, bkp := 0, mc := false, loc := true, ctx := 0, dedup := false, revert := false };
    let d : Dev := s.came dt; let e : Dev := ((d.perfEvent 0x19 1 { k := soc }).cellId).2; decide ((s.came dt).heldReset = false ∧
    d.lActive l = true ∧ hdrOk soc bs = true ∧ crcState bs = 0 ∧ (id, e) = (d.perfEvent 0x19 1 { k := soc }).cellId ∧ hFlow bs ≠ 0 ∧
    hFlow bs ≠ 0xFFFFF ∧ hFlow bs ≠ 0xF0000 + e.nodeId ∧ e.lookup (hFlow bs) = some (idx, x))) = true) := by
  decide +kernel

/-- The hypotheses of each clause of `PairRoleCommandsComplete` are met together. -/
theorem witness_PairRoleCommandsComplete :
    ((let s : State := witState (fun d => d.put PAIR_STAT.ROLE 2); let dt : Nat := 0;
    let bs : List Byte := tSeal (List.replicate 0x128 0); let h : Hb := (hbOf bs).getD {}; let d : Dev := s.came dt;
    let now : Bool := d.inWindowOf.1; let early : Bool := d.inWindowOf.2; decide ((s.came dt).heldReset = false ∧ hbOf bs = some h ∧
    d.inWindowOf = (now, early) ∧ d.role = 2 ∧ bitOf h.flags 2 = 0)) = true)
    ∧ ((let s : State := witState (fun d => let d := ((d.put SYS_BLK_STATUS.STATE 4).put PAIR_STAT.ROLE 2).put PAIR_CFG.EN 1;
    { d with tclk := 4000 }); let dt : Nat := 0; let d : Dev := s.came dt;
    let a : Dev := d.setPair { d.pair with evalAt := d.cyc.k + 1 }; let e : Dev := a.judgePaths.judgeHb.countCompare.pleachStep;
    decide ((s.came dt).heldReset = false ∧ d.running = true ∧ d.pairOn = true ∧ d.pair.lastB + d.hbwin ≤ d.tclk ∧
    d.pair.evalAt ≠ d.cyc.k + 1 ∧ e.role = 2)) = true)
    ∧ ((let s : State := witState (fun d => let d := d.put PAIR_CFG.EN 1;
    ((({ d with tclk := 4000 }).put PAIR_STAT.ROLE 3).put SYS_BLK_STATUS.STATE 4).put PAIR_CFG.TAKE_UNHEALTHY 0); let dt : Nat := 0;
    let d : Dev := s.came dt; let a : Dev := d.setPair { d.pair with evalAt := d.cyc.k + 1 };
    let e : Dev := a.judgePaths.judgeHb.countCompare.pleachStep; let lost : Bool := (e.hbLost && e.liveLost);
    let own : Bool := (!e.pair.ownIn && (!e.pair.hbSeen || e.partnerRole != 2) && !e.planned);
    let x : Dev := e.setPair { e.pair with det1 := lost, det2 := own }; decide ((s.came dt).heldReset = false ∧ d.running = true ∧
    d.pairOn = true ∧ d.pair.lastB + d.hbwin ≤ d.tclk ∧ d.pair.evalAt ≠ d.cyc.k + 1 ∧ e.role = 3 ∧ e.pair.backoff = false ∧
    e.pair.inhibit = false ∧ (lost = true ∧ e.pair.det1 = false) ∨ (own = true ∧ e.pair.det2 = false) ∧ x.is PAIR_STAT.READY = false ∧
    x.is PAIR_CFG.TAKE_UNHEALTHY = false)) = true)
    ∧ ((let s : State := witState (fun d => let d := d.put PAIR_CFG.EN 1;
    ((({ d with tclk := 4000 }).put PAIR_STAT.ROLE 3).put SYS_BLK_STATUS.STATE 4).put PAIR_CFG.TAKE_UNHEALTHY 1); let dt : Nat := 0;
    let d : Dev := s.came dt; let a : Dev := d.setPair { d.pair with evalAt := d.cyc.k + 1 };
    let e : Dev := a.judgePaths.judgeHb.countCompare.pleachStep; let lost : Bool := (e.hbLost && e.liveLost);
    let own : Bool := (!e.pair.ownIn && (!e.pair.hbSeen || e.partnerRole != 2) && !e.planned);
    let x : Dev := e.setPair { e.pair with det1 := lost, det2 := own };
    let y : Dev := (((x.put PAIR_TAKE_BLK.BLK x.blk).setRole 2).put PAIR_EV.TAKEEV 1).take 0 (some (x.tclk + 1500));
    let z : Dev := y.setPair { y.pair with ho := none, startTake := none }; decide ((s.came dt).heldReset = false ∧ d.running = true ∧
    d.pairOn = true ∧ d.pair.lastB + d.hbwin ≤ d.tclk ∧ d.pair.evalAt ≠ d.cyc.k + 1 ∧ e.role = 3 ∧ e.pair.backoff = false ∧
    e.pair.inhibit = false ∧ (lost = true ∧ e.pair.det1 = false) ∨ (own = true ∧ e.pair.det2 = false) ∧
    (x.is PAIR_STAT.READY = true ∨ x.is PAIR_CFG.TAKE_UNHEALTHY = true) ∧ (lost = true → z.pair.ownIn = false))) = true)
    ∧ ((let s : State := witState (fun d => let d := d.put PAIR_CFG.EN 1;
    let d := (({ d with tclk := 4000 }).put PAIR_STAT.ROLE 3).put SYS_BLK_STATUS.STATE 4; d.setPair { d.pair with det2 := true });
    let dt : Nat := 0; let d : Dev := s.came dt; let a : Dev := d.setPair { d.pair with evalAt := d.cyc.k + 1 };
    let e : Dev := a.judgePaths.judgeHb.countCompare.pleachStep; let lost : Bool := (e.hbLost && e.liveLost);
    let own : Bool := (!e.pair.ownIn && (!e.pair.hbSeen || e.partnerRole != 2) && !e.planned); decide ((s.came dt).heldReset = false ∧
    d.running = true ∧ d.pairOn = true ∧ d.pair.lastB + d.hbwin ≤ d.tclk ∧ d.pair.evalAt ≠ d.cyc.k + 1 ∧ e.role = 3 ∧
    e.pair.backoff = false ∧ e.pair.inhibit = false ∧ (lost = false ∨ e.pair.det1 = true) ∧ (own = false ∨ e.pair.det2 = true))) = true)
    ∧ ((let s : State := witState (fun d => let d := (d.put PAIR_STAT.ROLE 0).put SYS_BLK_STATUS.STATE 4;
    let d := ({ d with pair := { d.pair with ownIn := true } }).put PAIR_CFG.EN 1; { d with tclk := 4000 }); let dt : Nat := 0;
    let d : Dev := s.came dt; let a : Dev := d.setPair { d.pair with evalAt := d.cyc.k + 1 };
    let e : Dev := a.judgePaths.judgeHb.countCompare.pleachStep; decide ((s.came dt).heldReset = false ∧ d.running = true ∧
    d.pairOn = true ∧ d.pair.lastB + d.hbwin ≤ d.tclk ∧ d.pair.evalAt ≠ d.cyc.k + 1 ∧ e.role = 0 ∧ e.pairOn = true ∧ e.running = true ∧
    e.ftm = false ∧ e.pair.ownIn = true)) = true)
    ∧ ((let s : State := witState (fun d => let d := (d.put SYS_BLK_STATUS.STATE 4).put PAIR_STAT.ROLE 0;
    let d := ({ d with pair := { d.pair with ownIn := false } }).put PAIR_CFG.EN 1; { d with tclk := 4000 }); let dt : Nat := 0;
    let d : Dev := s.came dt; let a : Dev := d.setPair { d.pair with evalAt := d.cyc.k + 1 };
    let e : Dev := a.judgePaths.judgeHb.countCompare.pleachStep; decide ((s.came dt).heldReset = false ∧ d.running = true ∧
    d.pairOn = true ∧ d.pair.lastB + d.hbwin ≤ d.tclk ∧ d.pair.evalAt ≠ d.cyc.k + 1 ∧ e.role = 0 ∧ e.ftm = false ∧
    e.pair.ownIn = false)) = true)
    ∧ ((let s : State := witState (fun d => let d := (d.put SYS_BLK_STATUS.STATE 4).put PAIR_STAT.ROLE 0;
    let d := { d with pair := { d.pair with ownIn := false } };
    let d := ({ d with pair := { d.pair with hbSeen := true } }).put PAIR_CFG.EN 1; let d := { d with tclk := 4000 };
    d.setPair { d.pair with hbSeen := true, hbRun := 0, hb := some { role := 3 } }); let dt : Nat := 0; let d : Dev := s.came dt;
    let a : Dev := d.setPair { d.pair with evalAt := d.cyc.k + 1 }; let e : Dev := a.judgePaths.judgeHb.countCompare.pleachStep;
    let h := { role := 3 }; decide ((s.came dt).heldReset = false ∧ d.running = true ∧ d.pairOn = true ∧
    d.pair.lastB + d.hbwin ≤ d.tclk ∧ d.pair.evalAt ≠ d.cyc.k + 1 ∧ e.role = 0 ∧ e.ftm = false ∧ e.pair.ownIn = false ∧
    e.pair.hbSeen = true ∧ e.pair.hb = some h ∧ (h.role = 3 ∨ h.role = 4))) = true)
    ∧ ((let s : State := witState (fun d => let d := (d.put SYS_BLK_STATUS.STATE 4).put PAIR_STAT.ROLE 0;
    let d := { d with pair := { d.pair with ownIn := false } };
    let d := ({ d with pair := { d.pair with hbSeen := true } }).put PAIR_CFG.EN 1; let d := { d with tclk := 4000 };
    d.setPair { d.pair with hbSeen := true, hbRun := 3, hb := some { role := 0 } }); let dt : Nat := 0; let d : Dev := s.came dt;
    let a : Dev := d.setPair { d.pair with evalAt := d.cyc.k + 1 }; let e : Dev := a.judgePaths.judgeHb.countCompare.pleachStep;
    let h := { role := 0 }; decide ((s.came dt).heldReset = false ∧ d.running = true ∧ d.pairOn = true ∧
    d.pair.lastB + d.hbwin ≤ d.tclk ∧ d.pair.evalAt ≠ d.cyc.k + 1 ∧ e.role = 0 ∧ e.ftm = false ∧ e.pair.ownIn = false ∧
    e.pair.hbSeen = true ∧ e.pair.hb = some h ∧ h.role = 0 ∧ 4 ≤ e.pair.hbRun)) = true)
    ∧ ((let s : State := witState (fun d => let d := (d.put SYS_BLK_STATUS.STATE 4).put PAIR_STAT.ROLE 0;
    let d := { d with pair := { d.pair with ownIn := false } }; let d := { d with pair := { d.pair with hbSeen := false } };
    let d := ({ d with pair := { d.pair with heard := false } }).put PAIR_CFG.EN 1; { d with tclk := 4000 }); let dt : Nat := 0;
    let d : Dev := s.came dt; let a : Dev := d.setPair { d.pair with evalAt := d.cyc.k + 1 };
    let e : Dev := a.judgePaths.judgeHb.countCompare.pleachStep; decide ((s.came dt).heldReset = false ∧ d.running = true ∧
    d.pairOn = true ∧ d.pair.lastB + d.hbwin ≤ d.tclk ∧ d.pair.evalAt ≠ d.cyc.k + 1 ∧ e.role = 0 ∧ e.ftm = false ∧
    e.pair.ownIn = false ∧ e.pair.hbSeen = false ∧ e.pair.heard = false)) = true)
    ∧ ((let s : State := witState (fun d => let d := d.put SYS_BLK_STATUS.STATE 4; d.setPair { d.pair with liveIn := !true });
    let dt : Nat := 0; let level : Bool := true; let d : Dev := s.came dt; let e : Dev := d.captureEvent 29;
    decide (d.pair.liveIn = !level ∧ e.inWindowOf = (true, false))) = true)
    ∧ ((let s : State := witState (fun d => let d := ({ d with pair := { d.pair with ownIn := false } }).put PAIR_STAT.ROLE 2;
    { d with pair := { d.pair with startTake := some 0 }, cyc := { d.cyc with k := 17 } }); let dt : Nat := 0; let k : Nat := 0;
    let d : Dev := s.came dt; let c : Dev := d.captureEvent 30;
    let e : Dev := (c.setPair { c.pair with ownIn := true }).put PAIR_STAT.OWNIN 1; decide (d.pair.ownIn = false ∧ e.role = 2 ∧
    e.planned = false ∧ e.pair.startTake = some k ∧ k + 16 < e.cyc.k)) = true)
    ∧ ((let s : State := witState (fun d => d.put PAIR_STAT.ROLE 2); let p : Port := .core; let w : Word := 0x10;
    let c : Dev := s.counted p (PAIR_CTRL.addr 0 0); decide ((s.dev.heldReset = false ∧ s.dev.portOpen (portNum p) = true) ∧
    w.toNat % 32 = 16 ∧ c.role = 2)) = true)
    ∧ ((let s : State := witState (fun d => d.put PAIR_STAT.ROLE 4); let p : Port := .core; let w : Word := 0x4;
    let c : Dev := s.counted p (PAIR_CTRL.addr 0 0); decide ((s.dev.heldReset = false ∧ s.dev.portOpen (portNum p) = true) ∧
    w.toNat % 32 = 4 ∧ c.role = 4)) = true)
    ∧ ((let s : State := State.reset; let p : Port := .core; let w : Word := 0x2; let c : Dev := s.counted p (PAIR_CTRL.addr 0 0);
    decide ((s.dev.heldReset = false ∧ s.dev.portOpen (portNum p) = true) ∧ w.toNat % 32 = 2 ∧ c.mirrored = false)) = true)
    ∧ ((let s : State := witState (fun d => let d := (d.put PAIR_STAT.ROLE 2).put PAIR_STAT.UNMIRRORED 0;
    (d.setPair { d.pair with hb := some { role := 3, flags := 1 } }).put PAIR_HO_BLK.BLOCK 3); let p : Port := .core; let w : Word := 1;
    let c : Dev := s.counted p (PAIR_CTRL.addr 0 0); let h := { role := 3, flags := 1 }; decide ((s.dev.heldReset = false ∧
    s.dev.portOpen (portNum p) = true) ∧ w.toNat % 32 = 1 ∧ c.role = 2 ∧ c.is PAIR_STAT.UNMIRRORED = false ∧ c.pair.hb = some h ∧
    h.role = 3 ∧ bitOf h.flags 0 = 1 ∧ later32 (c.get PAIR_HO_BLK.BLOCK) (c.blk + 2) = true)) = true)
    ∧ ((let s : State := witState (fun d => let d := d.put PAIR_STAT.ROLE 2;
    ({ d with pair := { d.pair with link := true } }).put PAIR_RESYNC.BLOCK 3); let p : Port := .core; let w : Word := 0x8;
    let c : Dev := s.counted p (PAIR_CTRL.addr 0 0); decide ((s.dev.heldReset = false ∧ s.dev.portOpen (portNum p) = true) ∧
    w.toNat % 32 = 8 ∧ c.role = 2 ∧ c.pair.link = true ∧ later32 (c.get PAIR_RESYNC.BLOCK) (c.blk + 2) = true)) = true)
    ∧ ((let s : State := witState (fun d => let d := d.put SYS_BLK_STATUS.STATE 4; { d with tclk := 50000 }); let dt : Nat := 0;
    let d : Dev := s.came dt; decide ((s.came dt).heldReset = false ∧ d.running = true ∧
    250000000 + d.hbwin * d.bps < (d.tclk - d.cyc.tick) * d.bps)) = true)
    ∧ ((let s : State := witState (fun d => let d := (d.put PAIR_STAT.ROLE 3).put PAIR_STAT.READY 1;
    let d := d.setPair { d.pair with backoff := true, hbMiss := 1 }; { d with cyc := { d.cyc with k := 2 ^ 12 } }); let dt : Nat := 0;
    let d : Dev := s.came dt; let e : Dev := d.setPair { d.pair with backoff := false, det1 := false, det2 := false };
    decide ((s.came dt).heldReset = false ∧ d.role = 3 ∧ d.pair.backoff = true ∧
    d.pair.backoffAt + (16 + d.uid / 256 ^ (d.pair.yields - 1) % 256) ≤ d.cyc.k ∧ e.pair.ownIn = false ∧ e.pair.hbMiss ≠ 0)) = true) := by
  decide +kernel

/-- The hypotheses of each clause of `PairLinkCommandsComplete` are met together. -/
theorem witness_PairLinkCommandsComplete :
    ((let s : State := witState (fun d => ((d.put PSM_PG_CFG.PAIRED 1 3).put PAIR_STAT.ROLE 3).put PAIR_STAT.UNMIRRORED 0);
    let dt : Nat := 0; let g : Fin 4 := 3; let d : Dev := s.came dt; let e : Dev := d.setPair { d.pair with link := true };
    decide ((s.came dt).heldReset = false ∧ e.grpStandby g = true ∧ e.mirrored = true)) = true)
    ∧ ((let s : State := State.reset; let dt : Nat := 0; decide ((s.came dt).heldReset = false)) = true)
    ∧ ((let s : State := witState (fun d => d.put PAIR_STAT.ROLE 3); let dt : Nat := 0; let a : Nat := SYS_SWAP_CTRL.addr 0 0;
    let i : Nat := 0; let j : Nat := 0; let r : Reg := SYS_SWAP_CTRL; let d : Dev := s.came dt; decide ((s.came dt).heldReset = false ∧
    (d.setPair { d.pair with link := true }).role = 3 ∧ a < memShared ∧ decodeReg a = some (r, i, j) ∧ r ≠ XPT_CMD_DATA ∧
    r ≠ PAIR_CTRL ∧ mirrorMask r ≠ 0)) = true)
    ∧ ((let s : State := witState (fun d => (d.put PAIR_STAT.ROLE 3).put PAIR_RESYNC.BLOCK 3); let dt : Nat := 0; let w : Word := 8;
    let d : Dev := s.came dt; let c : Dev := (d.setPair { d.pair with link := true }).busCount 68 (PAIR_CTRL.addr 0 0);
    decide ((s.came dt).heldReset = false ∧ (d.setPair { d.pair with link := true }).role = 3 ∧ fget w 3 3 = 1 ∧
    later32 (c.get PAIR_RESYNC.BLOCK) c.blk = true)) = true)
    ∧ ((let s : State := witState (fun d => (d.put PAIR_STAT.ROLE 3).put PAIR_STAT.UNMIRRORED 0); let dt : Nat := 0;
    let d : Dev := s.came dt; let e : Dev := d.setPair { d.pair with link := true }; decide ((s.came dt).heldReset = false ∧
    e.mirrored = true)) = true)
    ∧ ((let s : State := witState (fun d => d.put PAIR_STAT.ROLE 3); let dt : Nat := 0; let d : Dev := s.came dt;
    decide ((s.came dt).heldReset = false ∧ d.role = 3)) = true)
    ∧ ((let s : State := witState (fun d => d.put PAIR_STAT.ROLE 2); let dt : Nat := 0; let d : Dev := s.came dt;
    decide ((s.came dt).heldReset = false ∧ d.role ≠ 3)) = true)
    ∧ ((let s : State := State.reset; let dt : Nat := 0; let bs : List Byte := tSeal (List.replicate 60 0);
    decide ((s.came dt).heldReset = false ∧ bs.length = 64 ∧ crc32 (bs.take 0x3C) = leAt bs 0x3C 4 ∧ bitOf (leAt bs 5 1) 4 = 0)) = true)
    ∧ ((let s : State := witState (fun d => d.put PAIR_CFG.EN 1); let dt : Nat := 0; let d : Dev := s.came dt;
    let e : Dev := d.setPair { d.pair with link := false, linkRun := 0 }; decide ((s.came dt).heldReset = false ∧
    e.pairOn = true)) = true)
    ∧ ((let s : State := witState (fun d => let d := d.put SYS_BLK_STATUS.STATE 4; { d with pair := { d.pair with link := true } });
    let dt : Nat := 0; let d : Dev := s.came dt; let e : Dev := (d.ringPush (92 + d.get PAIR_HEALTH_CFG.RING) 6 0 0 0 d.healthBytes).2;
    decide ((s.came dt).heldReset = false ∧ d.running = true ∧
    (d.pair.healthAt = 0 ∨ d.pair.healthAt + max 1 (d.get PAIR_HEALTH_CFG.INT) ≤ d.cyc.k + 1) ∧ e.pair.link = true)) = true)
    ∧ ((let s : State := State.reset; let dt : Nat := 0; let a : Nat := memShared + 0xFFFFFC; let err : Fin 3 := 1;
    let d : Dev := s.came dt; let b : Dev := d.eccArise a err; let e : Dev := (if memShared ≤ a ∧
    a < memCode then b.perfEvent 0x22 1 { master := 69, addr := a - memShared } else b); decide ((s.came dt).heldReset = false ∧
    eccWord a = true ∧ a < memSram ∧ a ∉ e.eccBad ∧ a ∈ e.eccCor)) = true)
    ∧ ((let s : State := witState (fun d => d.put PAIR_STAT.ROLE 2); let dt : Nat := 0; let m : Fin 64 := 63; let d : Dev := s.came dt;
    decide ((s.came dt).heldReset = false ∧ d.role ≠ 0 ∧ (d.sprig m).busy = false)) = true) := by
  decide +kernel

/-- The hypotheses of each clause of `GroupCommandsComplete` are met together. -/
theorem witness_GroupCommandsComplete :
    ((let s : State := witState (fun d => (d.put FLT_GRAVE.ACTIVE 0).put PSM_PG_STAT.STATE 0 3); let p : Port := .core;
    let g : Fin 4 := 3; let w : Word := 0x1; let c : Dev := s.counted p (PSM_PG_CTRL.addr g 0); decide ((s.dev.heldReset = false ∧
    s.dev.portOpen (portNum p) = true) ∧ (c.mirrored = false ∧ (c.role = 2 → c.pair.link = false)) ∧ fget w 0 0 = 1 ∧ fget w 1 1 = 0 ∧
    c.is FLT_GRAVE.ACTIVE = false ∧ (c.gState g = 0 ∨ c.gState g = 6))) = true)
    ∧ ((let s : State := State.reset; let p : Port := .core; let g : Fin 4 := 3; let w : Word := 0x2;
    let c : Dev := s.counted p (PSM_PG_CTRL.addr g 0); decide ((s.dev.heldReset = false ∧ s.dev.portOpen (portNum p) = true) ∧
    (c.mirrored = false ∧ (c.role = 2 → c.pair.link = false)) ∧ fget w 0 0 = 0 ∧ fget w 1 1 = 1)) = true)
    ∧ ((let s : State := witState (fun d => ((d.put PSM_PG_STAT.STATE 1 3).setPgrp 3 { vg := 4000 }).put PSM_PG_SENSE.KV 256 3);
    let dt : Nat := 0; let g : Fin 4 := 3; let legs : List (Nat × Nat) := List.replicate 8 (1000000, 1000000); let d : Dev := s.came dt;
    let kv : Nat := d.get PSM_PG_SENSE.KV g; decide ((s.came dt).heldReset = false ∧ d.gState g = 1 ∧ d.grpStandby g = false ∧
    d.isDue .enable 3000000 g = true ∧ legs.length = 8 ∧ (∀ l ∈ legs, 256000 * (d.pgrp g).vg ≤ 4 * (l.1 * kv) ∧
    256000 * (d.pgrp g).vg ≤ 4 * (l.2 * kv)) ∧ (∀ l ∈ legs, 4 * (l.1 * kv) ≤ 768000 * (d.pgrp g).vg ∧
    4 * (l.2 * kv) ≤ 768000 * (d.pgrp g).vg))) = true)
    ∧ ((let s : State := witState (fun d => d.put PSM_PG_STAT.STATE 2 3); let dt : Nat := 0; let g : Fin 4 := 3; let d : Dev := s.came dt;
    decide ((s.came dt).heldReset = false ∧ d.gState g = 2 ∧ d.grpStandby g = false ∧
    d.isDue .enable (max 1 (min 5000 (d.get PSM_PG_TIME.TEN g)) * 1000) g = true)) = true)
    ∧ ((let s : State := witState (fun d => d.put PSM_PG_STAT.STATE 3 3); let dt : Nat := 0; let g : Fin 4 := 3; let d : Dev := s.came dt;
    decide ((s.came dt).heldReset = false ∧ d.gState g = 3 ∧ d.grpStandby g = false ∧
    2 * (d.pgrp g).rampN + (d.pgrp g).holdN ≤ (d.pgrp g).testP)) = true)
    ∧ ((let s : State := witState (fun d => d.put PSM_PG_STAT.STATE 5 3); let dt : Nat := 0; let g : Fin 4 := 3; let d : Dev := s.came dt;
    decide ((s.came dt).heldReset = false ∧ d.gState g = 5 ∧ (d.pgrp g).stopP = 0)) = true)
    ∧ ((let s : State := witState (fun d => d.put PSM_PG_STAT.STATE 1 3); let dt : Nat := 0; let g : Fin 4 := 3; let d : Dev := s.came dt;
    let e : Dev := (d.setPgrp g { d.pgrp g with flt := true }).put PSM_PG_STAT.PSFLT 1 g; decide ((s.came dt).heldReset = false ∧
    e.gState g ≠ 0)) = true)
    ∧ ((let s : State := State.reset; let dt : Nat := 0; decide ((s.came dt).heldReset = false)) = true)
    ∧ ((let s : State := witState (fun d => (((d.put PSM_PG_STAT.STATE 3 (31 / 8)).setPch 31 { under := true }).put PSM_PG_STAT.STATE 3 3).put PSM_PG_SENSE.GI 0 3);
    let dt : Nat := 0; let n : Fin 32 := 31; let uv : Int := 1; let d : Dev := s.came dt; decide ((s.came dt).heldReset = false ∧
    d.gState (n / 8) = 3 ∧ (d.pch n).under = true ∧ d.grpStandby (n / 8) = false ∧
    10 * (d.pgrp (n / 8)).vtest * d.get PSM_PG_SENSE.GI (n / 8) < uv.natAbs)) = true) := by
  decide +kernel

/-- The hypotheses of each clause of `ChannelCommandsComplete` are met together. -/
theorem witness_ChannelCommandsComplete :
    ((let s : State := witState (fun d => ((d.put PSM_PG_CFG.EN 1 3).put PSM_PG_STAT.STATE 4 3).setPgrp 3 { j := 1 });
    let dt : Nat := 0; let uv : Nat := 0; let g : Fin 4 := 3; let d : Dev := s.came dt; let a : Dev := (d.pairCarrier g).dipOwn g;
    let r : Nat := max 1 (a.fcR g); let b : Dev := (a.groupReading g (a.vbsReading g uv)).periodBegin g r; let x : PsmGrp := b.pgrp g;
    let u : Dev := b.eachCh g (fun n d => (let v := d.setPch n { d.pch n with sleepNow := false, blk := (d.pch n).carried x.j };
    if (v.pch n).entering && v.cState n == 1 && v.gState (n / 8) == 4 then (v.setPch n { v.pch n with entering := false, e := [], fadeOn := true, fadeP := 0 }).setCState n 2 else v).slpStep n);
    let c : Dev := (u.dipTick g).dipReport g;
    let e : Dev := (forN 8 (fun k (acc : Bool × Dev) => ((acc.1 || (acc.2.chanPeriod (8 * g + k) r x.j (carP (c.get PSM_PG_CFG.CAR g)) (minTaps (c.get PSM_PG_CFG.MINPW g)) (c.get PSM_PG_CFG.VFS g) x.vg (c.dip g).values.1 65536 (c.dip g).values.2).1), (acc.2.chanPeriod (8 * g + k) r x.j (carP (c.get PSM_PG_CFG.CAR g)) (minTaps (c.get PSM_PG_CFG.MINPW g)) (c.get PSM_PG_CFG.VFS g) x.vg (c.dip g).values.1 65536 (c.dip g).values.2).2)) (false, c)).2;
    let y : PsmGrp := e.pgrp g; let f : Dev := e.setPgrp g { y with j := (y.j + 1) % r };
    let lim : Bool := (forN 8 (fun k (acc : Bool × Dev) => ((acc.1 || (acc.2.chanPeriod (8 * g + k) r x.j (carP (c.get PSM_PG_CFG.CAR g)) (minTaps (c.get PSM_PG_CFG.MINPW g)) (c.get PSM_PG_CFG.VFS g) x.vg (c.dip g).values.1 65536 (c.dip g).values.2).1), (acc.2.chanPeriod (8 * g + k) r x.j (carP (c.get PSM_PG_CFG.CAR g)) (minTaps (c.get PSM_PG_CFG.MINPW g)) (c.get PSM_PG_CFG.VFS g) x.vg (c.dip g).values.1 65536 (c.dip g).values.2).2)) (false, c)).1;
    decide ((s.came dt).heldReset = false ∧ a.is PSM_PG_CFG.EN g = true ∧ c.gState g = 4 ∧
    (lim, e) = forN 8 (fun k (acc : Bool × Dev) => ((acc.1 || (acc.2.chanPeriod (8 * g + k) r x.j (carP (c.get PSM_PG_CFG.CAR g)) (minTaps (c.get PSM_PG_CFG.MINPW g)) (c.get PSM_PG_CFG.VFS g) x.vg (c.dip g).values.1 65536 (c.dip g).values.2).1), (acc.2.chanPeriod (8 * g + k) r x.j (carP (c.get PSM_PG_CFG.CAR g)) (minTaps (c.get PSM_PG_CFG.MINPW g)) (c.get PSM_PG_CFG.VFS g) x.vg (c.dip g).values.1 65536 (c.dip g).values.2).2)) (false, c) ∧
    lim = false ∧ e.gState g = 4 ∧ f.grpDriven g = true)) = true)
    ∧ ((let s : State := witState (fun d => ((d.put PSM_PG_STAT.STATE 4 3).put PSM_PG_TIME.DEEP 1 3).put PSM_PG_STAT.DEEP 0 3);
    let dt : Nat := 0; let g : Fin 4 := 3; let d : Dev := s.came dt; decide ((s.came dt).heldReset = false ∧ d.gState g = 4 ∧
    d.get PSM_PG_TIME.DEEP g ≠ 0 ∧ d.is PSM_PG_STAT.DEEP g = false ∧ (∀ k ∈ List.range 8, d.cState (8 * g + k) ∈ [0, 3, 4, 5]) ∧
    d.isDue .deep (d.get PSM_PG_TIME.DEEP g * 1000000) g = true)) = true)
    ∧ ((let s : State := witState (fun d => d.put PSM_CH_STAT.STATE 2 31); let dt : Nat := 0; let n : Fin 32 := 31;
    let isns : Int := -32768; let d : Dev := s.came dt;
    let recent : List Nat := (d.pch n).trips.filter (fun t => decide (d.tclk ≤ t + 250000)); decide ((s.came dt).heldReset = false ∧
    d.cState n = 2 ∧ d.tripsAt n isns = true ∧ recent.length < 3)) = true)
    ∧ ((let s : State := witState (fun d => d.put PSM_CH_STAT.STATE 5 31); let p : Port := .core; let n : Fin 32 := 31;
    let w : Word := 0x80000000; let c : Dev := s.counted p (PSM_CH_STAT.addr n 0); decide ((s.dev.heldReset = false ∧
    s.dev.portOpen (portNum p) = true) ∧ (c.mirrored = false ∧ (c.role = 2 → c.pair.link = false)) ∧ fget w 31 31 = 1 ∧
    (c.put PSM_CH_STAT.LATCH 0 n).cState n = 5)) = true) := by
  decide +kernel

/-- The hypotheses of each clause of `BootAndLoadCommandsComplete` are met together. -/
theorem witness_BootAndLoadCommandsComplete :
    ((let s : State := witState (fun d => let d := { d with pwr := { d.pwr with por := false } };
    let d := { d with boot := { d.boot with step := 0 } }; { d with imageApplied := false }); let dt : Nat := 0;
    let d : Dev := s.came dt; decide (d.pwr.por = false ∧ d.boot.step = 0 ∧ d.imageApplied = false)) = true)
    ∧ ((let s : State := witState (fun d => let d := { d with boot := { d.boot with step := 1 } };
    { d with boot := { d.boot with staging := false } }); let dt : Nat := 0; let x : List Byte := tDir; let y : List Byte := [];
    let d : Dev := s.came dt; let f : FlashDir := (pickDir x y).getD {}; decide ((s.came dt).heldReset = false ∧ d.boot.step = 1 ∧
    d.boot.staging = false ∧ pickDir x y = some f ∧ (f.slot f.boot).2 ≠ 0 ∧ (f.slot f.boot).1 % 4096 = 0 ∧
    (f.slot f.boot).1 + (f.slot f.boot).2 ≤ 2 ^ 24)) = true)
    ∧ ((let s : State := witState (fun d => let d := { d with boot := { d.boot with step := 2 } };
    let d := { d with boot := { d.boot with host := false } }; let d := { d with boot := { d.boot with staging := false } };
    d.setBoot { d.boot with dir := { len0 := 1024 } }); let dt : Nat := 0; let bs : List Byte := tImage; let d : Dev := s.came dt;
    let e : Dev := d.setBoot { d.boot with img := d.boot.img ++ bs }; decide ((s.came dt).heldReset = false ∧ d.boot.step = 2 ∧
    d.boot.host = false ∧ d.boot.staging = false ∧ checkArrived e.boot.img false (e.boot.dir.slot e.boot.fslot).2 = 0 ∧
    0x40 + 16 * imgSecs e.boot.img ≤ e.boot.img.length)) = true)
    ∧ ((let s : State := witState (fun d => let d := { d with boot := { d.boot with step := 3 } };
    { d with boot := { d.boot with staging := false } }); let dt : Nat := 0; let d : Dev := s.came dt;
    decide ((s.came dt).heldReset = false ∧ d.boot.step = 3 ∧ d.boot.staging = false ∧ checkAuth d.boot.img d.fuse = 0 ∧
    checkContents d.boot.img = 0)) = true)
    ∧ ((let s : State := witState (fun d => let d := { d with boot := { d.boot with step := 4 } };
    { d with boot := { d.boot with staging := false } }); let dt : Nat := 0; let d : Dev := s.came dt;
    decide ((s.came dt).heldReset = false ∧ d.boot.step = 4 ∧ d.boot.staging = false)) = true)
    ∧ ((let s : State := witState (fun d => let d := { d with boot := { d.boot with step := 2 } };
    { d with boot := { d.boot with host := false } }); let dt : Nat := 0; let d : Dev := s.came dt;
    decide ((s.came dt).heldReset = false ∧ d.boot.step = 2 ∧ d.boot.host = false)) = true)
    ∧ ((let s : State := witState (fun d => let d := { d with boot := { d.boot with step := 2 } };
    let d := { d with boot := { d.boot with host := true } };
    let d := ({ d with boot := { d.boot with chunk := none } }).startTimer .hostLoad 0; { d with tclk := 2 ^ 40 }); let dt : Nat := 0;
    let d : Dev := s.came dt; decide ((s.came dt).heldReset = false ∧ d.boot.step = 2 ∧ d.boot.host = true ∧ d.boot.chunk = none ∧
    d.ranFor .hostLoad 1000000001 = true)) = true)
    ∧ ((let s : State := State.reset; let p : Port := .core; decide ((s.dev.heldReset = false ∧
    s.dev.portOpen (portNum p) = true))) = true)
    ∧ ((let s : State := witState (fun d => let d := d.put SYS_LOAD_STATUS.READY 1;
    let d := { d with boot := { d.boot with host := true } }; let d := { d with boot := { d.boot with staging := false } };
    { d with boot := { d.boot with step := 5 } }); let p : Port := .core; let w : Word := 0x8000;
    let c : Dev := s.counted p (SYS_LOAD_CTRL.addr 0 0); decide ((s.dev.heldReset = false ∧ s.dev.portOpen (portNum p) = true) ∧
    fget w 15 0 ≠ 0 ∧ c.is SYS_LOAD_STATUS.READY = true ∧ c.boot.host = true ∧ c.boot.staging = false ∧ c.boot.step = 5)) = true)
    ∧ ((let s : State := witState (fun d => let d := d.put SYS_LOAD_STATUS.READY 1;
    let d := { d with boot := { d.boot with host := true } }; { d with boot := { d.boot with step := 2 } }); let p : Port := .core;
    let w : Word := 0x80008000; let c : Dev := s.counted p (SYS_LOAD_CTRL.addr 0 0); decide ((s.dev.heldReset = false ∧
    s.dev.portOpen (portNum p) = true) ∧ fget w 15 0 ≠ 0 ∧ fget w 31 31 = 1 ∧ c.is SYS_LOAD_STATUS.READY = true ∧ c.boot.host = true ∧
    c.boot.step = 2)) = true)
    ∧ ((let s : State := witState (fun d => let d := d.put SYS_LOAD_STATUS.READY 0; let d := { d with boot := { d.boot with step := 2 } };
    let d := { d with boot := { d.boot with host := true } }; let d := { d with boot := { d.boot with arrived := true } };
    d.setBoot { d.boot with chunk := some (64, true, false), img := List.replicate 64 0 }); let dt : Nat := 0; let n : Nat := 64;
    let last : Bool := true; let lacks : Bool := false; let d : Dev := s.came dt; decide ((s.came dt).heldReset = false ∧
    d.is SYS_LOAD_STATUS.READY = false ∧ d.boot.step = 2 ∧ d.boot.host = true ∧ d.boot.chunk = some (n, last, lacks) ∧
    d.boot.arrived = true ∧ (last = true → imgComplete d.boot.img = true))) = true) := by
  decide +kernel

/-- The hypotheses of each clause of `SwapCommandsComplete` are met together. -/
theorem witness_SwapCommandsComplete :
    ((let s : State := witState (fun d => { d with imageApplied := true }); let p : Port := .core; let w : Word := 0x1;
    let c : Dev := s.counted p (SYS_STAGE_CTRL.addr 0 0); let e : Dev := c.store SYS_STAGE_CTRL w; let k : Nat := e.otherSlot;
    decide ((s.dev.heldReset = false ∧ s.dev.portOpen (portNum p) = true) ∧ fget w 0 0 = 1 ∧ fget w 1 1 = 0 ∧ e.imageApplied = true ∧
    e.slotState k ≠ 1)) = true)
    ∧ ((let s : State := witState (fun d => d.put SYS_SLOT_STATUS.STATE 1 1); let p : Port := .core; let w : Word := 0x2;
    let c : Dev := s.counted p (SYS_STAGE_CTRL.addr 0 0); let e : Dev := c.store SYS_STAGE_CTRL w; decide ((s.dev.heldReset = false ∧
    s.dev.portOpen (portNum p) = true) ∧ fget w 0 0 = 0 ∧ fget w 1 1 = 1 ∧ e.slotState e.otherSlot = 1)) = true)
    ∧ ((let s : State := witState (fun d => let d := { d with boot := { d.boot with step := 4 } };
    { d with boot := { d.boot with staging := true } }); let dt : Nat := 0; let d : Dev := s.dev; let im : List Byte := [];
    let rb : Nat := d.get SYS_SLOT_STATUS.CODE_BANK d.runSlot; let rs : List Region := []; let new : List Region := [];
    decide (d = s.came dt ∧ (s.came dt).heldReset = false ∧ d.boot.step = 4 ∧ d.boot.staging = true ∧ im = d.boot.img ∧
    new = (imgContent im 5).regions ∧ placeRegions d.thk.regions new [] = rs ∧ rb ≠ 2 ∧ bankOf im 0 ≠ 2 ∧
    (d.thk.regions ++ new.filter (fun r => !carried d.thk.regions r)).foldl (fun n r => n + r.size) 0 ≤ 2 ^ 24)) = true)
    ∧ ((let s : State := witState (fun d => d.put SYS_SWAP_CTRL.ARM 0); let p : Port := .core; let w : Word := 0x1;
    let c : Dev := s.counted p (SYS_SWAP_CTRL.addr 0 0); let e : Dev := c.store SYS_SWAP_CTRL (fset w 0 0 0);
    decide ((s.dev.heldReset = false ∧ s.dev.portOpen (portNum p) = true) ∧ (c.mirrored = false ∧ (c.role = 2 → c.pair.link = false)) ∧
    fget w 0 0 = 1 ∧ fget w 1 1 = 0 ∧ e.is SYS_SWAP_CTRL.ARM = false)) = true)
    ∧ ((let s : State := witState (fun d => d.put SYS_SWAP_CTRL.ARM 1); let p : Port := .core; let w : Word := 0x2;
    let c : Dev := s.counted p (SYS_SWAP_CTRL.addr 0 0); let e : Dev := c.store SYS_SWAP_CTRL (fset w 0 0 0);
    decide ((s.dev.heldReset = false ∧ s.dev.portOpen (portNum p) = true) ∧ (c.mirrored = false ∧ (c.role = 2 → c.pair.link = false)) ∧
    fget w 0 0 = 0 ∧ fget w 1 1 = 1 ∧ e.is SYS_SWAP_CTRL.ARM = true)) = true)
    ∧ ((let s : State := witState (fun d => let d := ({ d with boot := { d.boot with restart := true } }).startTimer .fadeDown 0;
    { d with tclk := 2 ^ 40 }); let dt : Nat := 0; let d : Dev := s.came dt; decide ((s.came dt).heldReset = false ∧
    d.boot.restart = true ∧ d.ranFor .fadeDown d.fadedNs = true)) = true) := by
  decide +kernel

/-- The hypotheses of each clause of `TestCommandsComplete` are met together. -/
theorem witness_TestCommandsComplete :
    ((let s : State := witState (fun d => let d := d.put TEST_STAT.TESTEN 1; { d with test := { d.test with key := none } });
    let p : Port := .core; let w : Word := 0x5e7a; let c : Dev := s.counted p (TEST_FTM.addr 0 0); decide ((s.dev.heldReset = false ∧
    s.dev.portOpen (portNum p) = true) ∧ c.is TEST_STAT.TESTEN = true ∧ fget w 15 0 = 0x5E7A ∧ c.test.key = none)) = true)
    ∧ ((let s : State := witState (fun d => let d := d.put TEST_STAT.TESTEN 1;
    { d with test := { d.test with key := some 0 }, tclk := 250000 }); let p : Port := .core; let w : Word := 0xa1c3; let t : Nat := 0;
    let c : Dev := s.counted p (TEST_FTM.addr 0 0); decide ((s.dev.heldReset = false ∧ s.dev.portOpen (portNum p) = true) ∧
    c.is TEST_STAT.TESTEN = true ∧ fget w 15 0 = 0xA1C3 ∧ c.test.key = some t ∧ c.tclk ≤ t + 250000)) = true)
    ∧ ((let s : State := witState (fun d => d.put TEST_STAT.TESTEN 0); let p : Port := .core;
    let c : Dev := s.counted p (TEST_FTM.addr 0 0); decide ((s.dev.heldReset = false ∧ s.dev.portOpen (portNum p) = true) ∧
    c.is TEST_STAT.TESTEN = false)) = true)
    ∧ ((let s : State := witState (fun d => { d with pwr := { d.pwr with por := false } }); let dt : Nat := 0; let d : Dev := s.came dt;
    decide (d.pwr.por = false)) = true)
    ∧ ((let s : State := witState (fun d => { d with pwr := { d.pwr with por := false } }); let dt : Nat := 0; let code : Fin 256 := 255;
    let d : Dev := s.came dt; decide (d.pwr.por = false ∧ 7 ≤ code.val)) = true)
    ∧ ((let s : State := witState (fun d => { d with pwr := { d.pwr with por := false } }); let dt : Nat := 0; let d : Dev := s.came dt;
    decide (d.pwr.por = false)) = true)
    ∧ ((let s : State := witState (fun d => ({ d with pwr := { d.pwr with por := false } }).put TEST_STAT.FTM 1); let dt : Nat := 0;
    let pins : Nat := 0; let shifted : Nat := 0; let code : Nat := 0; let d : Dev := s.came dt;
    let i := ((0, Instr.extest dt pins (some shifted)) : Nat × Instr); decide (d.pwr.por = false ∧ (d.ftm = true ∨ d.noImage = true) ∧
    i.1 = code)) = true)
    ∧ ((let s : State := witState (fun d => ({ d with pwr := { d.pwr with por := false } }).put TEST_STAT.FTM 1); let dt : Nat := 0;
    let pins : Nat := 0; let code : Nat := 4; let d : Dev := s.came dt; let i := ((4, Instr.extestTrain dt pins none) : Nat × Instr);
    decide (d.pwr.por = false ∧ (d.ftm = true ∨ d.noImage = true) ∧ i.1 = code)) = true)
    ∧ ((let s : State := witState (fun d => let d := { d with pwr := { d.pwr with por := false } };
    { d with boot := { d.boot with host := true, step := 5 } }); let dt : Nat := 0; let code : Nat := 6; let d : Dev := s.came dt;
    let i := ((6, Instr.clamp dt) : Nat × Instr); decide (d.pwr.por = false ∧ (d.ftm = true ∨ d.noImage = true) ∧ i.1 = code)) = true)
    ∧ ((let s : State := witState (fun d => { d with pwr := { d.pwr with por := false } }); let dt : Nat := 0; let code : Nat := 5;
    let d : Dev := s.came dt; let i := ((5, Instr.highz dt) : Nat × Instr); decide (d.pwr.por = false ∧ d.ftm = false ∧
    d.noImage = false ∧ i.1 = code)) = true)
    ∧ ((let s : State := witState (fun d => { d with pwr := { d.pwr with por := true } }); let dt : Nat := 0; let d : Dev := s.came dt;
    decide (d.pwr.por = true)) = true)
    ∧ ((let s : State := State.reset; let p : Port := .core; let w : Word := 0x0; decide ((s.dev.heldReset = false ∧
    s.dev.portOpen (portNum p) = true) ∧ fget w 30 30 = 0)) = true)
    ∧ ((let s : State := State.reset; let p : Port := .core; let w : Word := 0x40000000; decide ((s.dev.heldReset = false ∧
    s.dev.portOpen (portNum p) = true) ∧ fget w 30 30 = 1)) = true) := by
  decide +kernel

/-- The hypotheses of each clause of `WindowCommandsComplete` are met together. -/
theorem witness_WindowCommandsComplete :
    ((let s : State := State.reset; let p : Port := .core; let b : Nat := 4; let i : Nat := 31; let j : Nat := 0;
    let r : Reg := TIME_ALM_NS; decide (r ∈ regsOfBlock b ∧ i < r.n1 ∧ j < r.n2 ∧ mirrorMask r = 0 ∧ (s.dev.heldReset = false ∧
    s.dev.portOpen (portNum p) = true))) = true)
    ∧ ((let s : State := State.reset; let p : Port := .core; let b : Nat := 4; let i : Nat := 31; let j : Nat := 0;
    let r : Reg := TIME_ALM_NS; let c : Dev := s.counted p (r.addr i j); let e : Dev := (c.regRead (portNum p) r i j).2;
    let v : Word := (c.regRead (portNum p) r i j).1; decide (r ∈ regsOfBlock b ∧ i < r.n1 ∧ j < r.n2 ∧ r.hasImage = false ∧
    r ≠ MGMT_HPORT_DATA ∧ r ≠ PERF_CNT_LO ∧ (s.dev.heldReset = false ∧ s.dev.portOpen (portNum p) = true) ∧
    (v, e) = c.regRead (portNum p) r i j)) = true)
    ∧ ((let s : State := State.reset; let p : Port := .core; let a : Nat := 0x1000000; decide ((a % 4 ≠ 0 ∨ (0x130000 ≤ a ∧
    a < 0x800000) ∨ 0x1000000 ≤ a) ∧ (s.dev.heldReset = false ∧ s.dev.portOpen (portNum p) = true))) = true)
    ∧ ((let s : State := State.reset; let p : Port := .core; let a : Nat := 0x7FFFFC; decide ((a % 4 ≠ 0 ∨ (0x130000 ≤ a ∧
    a < 0x800000) ∨ 0x1000000 ≤ a) ∧ (s.dev.heldReset = false ∧ s.dev.portOpen (portNum p) = true))) = true)
    ∧ ((let s : State := State.reset; let p : Port := .core; decide ((s.dev.heldReset = false ∧
    s.dev.portOpen (portNum p) = true))) = true)
    ∧ ((let s : State := State.reset; let a : Fin 0x1000000 := 0xFFFFF8; decide (s.dev.heldReset = false ∧ a.val % 4 = 0 ∧
    a.val + 4 < 2 ^ 24)) = true)
    ∧ ((let s : State := State.reset; let a : Fin 0x1000000 := 0xFFFFF8; decide (s.dev.heldReset = false ∧ a.val % 4 = 0 ∧
    a.val + 4 < 2 ^ 24)) = true)
    ∧ ((let s : State := State.reset; let p : Port := .core; decide ((s.dev.heldReset = false ∧
    s.dev.portOpen (portNum p) = true))) = true)
    ∧ ((let s : State := witState (fun d => { d with flt := { d.flt with shadows := [(18, { open_ := true, inReset := true })] } });
    let dt : Nat := 0; let b : Fin 19 := 18; let d : Dev := s.came dt; let x : Shadow := tabGet {} d.flt.shadows b.val;
    decide ((s.came dt).heldReset = false ∧ x.inReset = true ∧ d.isDue .blockReset 1000 b = true)) = true) := by
  decide +kernel

/-- The hypotheses of each clause of `SprigScalarCommandsComplete` are met together. -/
theorem witness_SprigScalarCommandsComplete :
    ((let s : State := witState (fun d => let d := d.setMemW memCode ((⟨0, 0, 0, 31, 31, 31⟩ : RForm).word 0x01);
    ({ d with thk := { d.thk with inst := some 0, codeLen := 4, jobs := [{}] } }).setSprig 63 { busy := true, s := [(31, 0xFFFFFFFF)] });
    let m : Fin 64 := 63; let d : Dev := s.dev; let f : RForm := ⟨0, 0, 0, 31, 31, 31⟩;
    let i := ((0x01, Instr.add m f, fun (a b : Word) => a + b) : Nat × Instr × (Word → Word → Word)); decide (d.heldReset = false ∧
    f.legal .s .s .s false false 0 = true ∧ (d.spReady m = true ∧ (d.sprig m).pc < d.thk.codeLen ∧
    d.eccBad.contains (memCode + d.thk.codeBase + (d.sprig m).pc / 4 * 4) = false ∧ d.codeWord (d.sprig m).pc = (f.word i.1)))) = true)
    ∧ ((let s : State := witState (fun d => let d := d.setMemW memCode ((⟨0xFFFF, 31, 31⟩ : IForm).word 0x0A);
    ({ d with thk := { d.thk with inst := some 0, codeLen := 4, jobs := [{}] } }).setSprig 63 { busy := true }); let m : Fin 64 := 63;
    let d : Dev := s.dev; let f : IForm := ⟨0xFFFF, 31, 31⟩; decide (d.heldReset = false ∧ (d.spReady m = true ∧
    (d.sprig m).pc < d.thk.codeLen ∧ d.eccBad.contains (memCode + d.thk.codeBase + (d.sprig m).pc / 4 * 4) = false ∧
    d.codeWord (d.sprig m).pc = (f.word 0x0A)))) = true)
    ∧ ((let s : State := witState (fun d => let d := d.setMemW memCode ((⟨0xFFFF, 0, 31⟩ : IForm).word 0x0B);
    ({ d with thk := { d.thk with inst := some 0, codeLen := 4, jobs := [{}] } }).setSprig 63 { busy := true }); let m : Fin 64 := 63;
    let d : Dev := s.dev; let f : IForm := ⟨0xFFFF, 0, 31⟩; decide (d.heldReset = false ∧ (d.spReady m = true ∧
    (d.sprig m).pc < d.thk.codeLen ∧ d.eccBad.contains (memCode + d.thk.codeBase + (d.sprig m).pc / 4 * 4) = false ∧
    d.codeWord (d.sprig m).pc = (f.word 0x0B)) ∧ f.a = 0)) = true)
    ∧ ((let s : State := witState (fun d => let d := d.setMemW memCode ((⟨0, 31, 0⟩ : BForm).word 0x10);
    ({ d with thk := { d.thk with inst := some 0, codeLen := 4, jobs := [{}] } }).setSprig 63 { busy := true, s := [(31, 1)] });
    let m : Fin 64 := 63; let d : Dev := s.dev; let t : Dev := d.fetched m; let x : SprigSt := t.sprig m; let f : BForm := ⟨0, 31, 0⟩;
    let i := ((0x10, Instr.beq m f, x.sr f.a.toNat == x.sr f.b.toNat) : Nat × Instr × Bool); decide (d.heldReset = false ∧
    (d.spReady m = true ∧ (d.sprig m).pc < d.thk.codeLen ∧
    d.eccBad.contains (memCode + d.thk.codeBase + (d.sprig m).pc / 4 * 4) = false ∧ d.codeWord (d.sprig m).pc = (f.word i.1)) ∧
    x.lastOfBody = false ∧ i.2.2 = false)) = true)
    ∧ ((let s : State := witState (fun d => let d := d.setMemW memCode ((⟨0, 31, 0⟩ : BForm).word 0x10);
    ({ d with thk := { d.thk with inst := some 0, codeLen := 8, jobs := [{}] } }).setSprig 63 { busy := true }); let m : Fin 64 := 63;
    let d : Dev := s.dev; let t : Dev := d.fetched m; let x : SprigSt := t.sprig m; let f : BForm := ⟨0, 31, 0⟩;
    let r : Dev := (match t.spTaken m x (relTarget x.pc f.off.toInt) with | .ok r _ _ _ _ => r | _ => t); let npc : Nat := 4;
    let i := ((0x10, Instr.beq m f, x.sr f.a.toNat == x.sr f.b.toNat) : Nat × Instr × Bool); decide (d.heldReset = false ∧
    (d.spReady m = true ∧ (d.sprig m).pc < d.thk.codeLen ∧
    d.eccBad.contains (memCode + d.thk.codeBase + (d.sprig m).pc / 4 * 4) = false ∧ d.codeWord (d.sprig m).pc = (f.word i.1)) ∧
    x.lastOfBody = false ∧ i.2.2 = true ∧ t.spTaken m x (relTarget x.pc f.off.toInt) = .ok r npc none false false)) = true)
    ∧ ((let s : State := witState (fun d => let d := d.setMemW memCode ((⟨0, 31⟩ : JForm).word 0x14);
    ({ d with thk := { d.thk with inst := some 0, codeLen := 8, jobs := [{}] } }).setSprig 63 { busy := true }); let m : Fin 64 := 63;
    let d : Dev := s.dev; let t : Dev := d.fetched m; let x : SprigSt := t.sprig m; let f : JForm := ⟨0, 31⟩;
    let r : Dev := (match t.spTaken m (x.setS f.d.toNat (BitVec.ofNat 32 (x.pc + 4))) (relTarget x.pc f.off.toInt) with | .ok r _ _ _ _ => r | _ => t);
    let npc : Nat := 4; decide (d.heldReset = false ∧ (d.spReady m = true ∧ (d.sprig m).pc < d.thk.codeLen ∧
    d.eccBad.contains (memCode + d.thk.codeBase + (d.sprig m).pc / 4 * 4) = false ∧ d.codeWord (d.sprig m).pc = (f.word 0x14)) ∧
    x.lastOfBody = false ∧
    t.spTaken m (x.setS f.d.toNat (BitVec.ofNat 32 (x.pc + 4))) (relTarget x.pc f.off.toInt) = .ok r npc none false false)) = true)
    ∧ ((let s : State := witState (fun d => let d := d.setMemW memCode ((⟨0, 0, 0, 0, 31, 0⟩ : RForm).word 0x15);
    ({ d with thk := { d.thk with inst := some 0, codeLen := 8, jobs := [{}] } }).setSprig 63 { busy := true, s := [(31, 4)] });
    let m : Fin 64 := 63; let d : Dev := s.dev; let t : Dev := d.fetched m; let x : SprigSt := t.sprig m;
    let f : RForm := ⟨0, 0, 0, 0, 31, 0⟩;
    let r : Dev := (match t.spTaken m x (x.sr f.a.toNat).toNat with | .ok r _ _ _ _ => r | _ => t); let npc : Nat := 4;
    decide (d.heldReset = false ∧ (d.spReady m = true ∧ (d.sprig m).pc < d.thk.codeLen ∧
    d.eccBad.contains (memCode + d.thk.codeBase + (d.sprig m).pc / 4 * 4) = false ∧ d.codeWord (d.sprig m).pc = (f.word 0x15)) ∧
    f.legal .none .s .none false false 0 = true ∧ x.lastOfBody = false ∧ (x.sr f.a.toNat).toNat % 4 = 0 ∧
    t.spTaken m x (x.sr f.a.toNat).toNat = .ok r npc none false false)) = true)
    ∧ ((let s : State := witState (fun d => let d := d.setMemW memCode ((⟨1, 1, 0, 1⟩ : LForm).word 0x16);
    ({ d with thk := { d.thk with inst := some 0, codeLen := 4, jobs := [{}] } }).setSprig 63 { busy := true }); let m : Fin 64 := 63;
    let d : Dev := s.dev; let t : Dev := d.fetched m; let x : SprigSt := t.sprig m; let f : LForm := ⟨1, 1, 0, 1⟩;
    decide (d.heldReset = false ∧ (d.spReady m = true ∧ (d.sprig m).pc < d.thk.codeLen ∧
    d.eccBad.contains (memCode + d.thk.codeBase + (d.sprig m).pc / 4 * 4) = false ∧ d.codeWord (d.sprig m).pc = (f.word 0x16)) ∧
    x.lastOfBody = false ∧ f.len ≠ 0 ∧ x.order.contains f.lc.toNat = false)) = true)
    ∧ ((let s : State := witState (fun d => ({ d with thk := { d.thk with inst := some 0, codeLen := 8, jobs := [{}] } }).setSprig 63 { busy := true, iter := true, pc := 8, lc := [(1, ⟨4, 4, 2⟩)], order := [1] });
    let m : Fin 64 := 63; let d : Dev := s.dev; decide (d.heldReset = false ∧ (d.sprig m).busy = true ∧ (d.sprig m).iter = true ∧
    d.thk.inst ≠ none)) = true) := by
  decide +kernel

/-- The hypotheses of each clause of `SprigSystemCommandsComplete` are met together. -/
theorem witness_SprigSystemCommandsComplete :
    ((let s : State := witState (fun d => let d := d.setMemW memCode ((⟨0, 0, 0, 0, 0, 31⟩ : RForm).word 0x38);
    ({ d with thk := { d.thk with inst := some 0, codeLen := 4, jobs := [{ ndet := true }] } }).setSprig 63 { busy := true });
    let m : Fin 64 := 63; let d : Dev := s.dev; let t : Dev := d.fetched m; let x : SprigSt := t.sprig m;
    let f : RForm := ⟨0, 0, 0, 0, 0, 31⟩; decide (d.heldReset = false ∧ (d.spReady m = true ∧ (d.sprig m).pc < d.thk.codeLen ∧
    d.eccBad.contains (memCode + d.thk.codeBase + (d.sprig m).pc / 4 * 4) = false ∧ d.codeWord (d.sprig m).pc = (f.word 0x38)) ∧
    f.legal .s .none .none false false 0 = true ∧ (t.job x.job).ndet = true)) = true)
    ∧ ((let s : State := witState (fun d => let d := d.setMemW memCode ((⟨0, 0x101, 0, 31⟩ : CForm).word 0x39);
    ({ d with thk := { d.thk with inst := some 0, codeLen := 4, jobs := [{ sys := true, ndet := true }] } }).setSprig 63 { busy := true });
    let m : Fin 64 := 63; let d : Dev := s.dev; let t : Dev := d.fetched m; let x : SprigSt := t.sprig m;
    let f : CForm := ⟨0, 0x101, 0, 31⟩; decide (d.heldReset = false ∧ (d.spReady m = true ∧ (d.sprig m).pc < d.thk.codeLen ∧
    d.eccBad.contains (memCode + d.thk.codeBase + (d.sprig m).pc / 4 * 4) = false ∧ d.codeWord (d.sprig m).pc = (f.word 0x39)) ∧
    f.zero = 0 ∧ f.a = 0 ∧ csrKnown f.csr.toNat = true ∧ (0x100 ≤ f.csr.toNat → (t.job x.job).sys = true ∧
    (t.job x.job).ndet = true))) = true)
    ∧ ((let s : State := witState (fun d => let d := d.setMemW memCode ((⟨0, 0, 31, 0⟩ : CForm).word 0x3A);
    ({ d with thk := { d.thk with inst := some 0, codeLen := 4, jobs := [{}] } }).setSprig 63 { busy := true, s := [(31, 0xFFFFFFFF)] });
    let m : Fin 64 := 63; let d : Dev := s.dev; let f : CForm := ⟨0, 0, 31, 0⟩; decide (d.heldReset = false ∧ (d.spReady m = true ∧
    (d.sprig m).pc < d.thk.codeLen ∧ d.eccBad.contains (memCode + d.thk.codeBase + (d.sprig m).pc / 4 * 4) = false ∧
    d.codeWord (d.sprig m).pc = (f.word 0x3A)) ∧ f.zero = 0 ∧ f.d = 0 ∧ f.csr = 0)) = true)
    ∧ ((let s : State := witState (fun d => let d := d.setMemW memCode ((⟨0, 0, 0, 0, 0, 0⟩ : RForm).word 0x3B);
    ({ d with thk := { d.thk with inst := some 0, codeLen := 4, jobs := [{}] } }).setSprig 63 { busy := true }); let m : Fin 64 := 63;
    let d : Dev := s.dev; let f : RForm := ⟨0, 0, 0, 0, 0, 0⟩; decide (d.heldReset = false ∧ (d.spReady m = true ∧
    (d.sprig m).pc < d.thk.codeLen ∧ d.eccBad.contains (memCode + d.thk.codeBase + (d.sprig m).pc / 4 * 4) = false ∧
    d.codeWord (d.sprig m).pc = (f.word 0x3B)) ∧ f.legal .none .none .none false false 0 = true)) = true)
    ∧ ((let s : State := witState (fun d => let d := d.setMemW memCode ((⟨0, 0, 0, 0, 0, 0⟩ : RForm).word 0x3E);
    ({ d with thk := { d.thk with inst := some 0, codeLen := 4, jobs := [{}] } }).setSprig 63 { busy := true }); let m : Fin 64 := 63;
    let d : Dev := s.dev; let t : Dev := d.fetched m; let x : SprigSt := t.sprig m; let f : RForm := ⟨0, 0, 0, 0, 0, 0⟩;
    decide (d.heldReset = false ∧ (d.spReady m = true ∧ (d.sprig m).pc < d.thk.codeLen ∧
    d.eccBad.contains (memCode + d.thk.codeBase + (d.sprig m).pc / 4 * 4) = false ∧ d.codeWord (d.sprig m).pc = (f.word 0x3E)) ∧
    f.legal .none .none .none false false 0 = true ∧ x.lastOfBody = false)) = true)
    ∧ ((let s : State := witState (fun d => let d := d.setMemW memCode ((⟨0, 0, 0, 0, 0, 0⟩ : RForm).word 0x3F);
    ({ d with thk := { d.thk with inst := some 0, codeLen := 4, jobs := [{}] } }).setSprig 63 { busy := true }); let m : Fin 64 := 63;
    let d : Dev := s.dev; let t : Dev := d.fetched m; let x : SprigSt := t.sprig m; let f : RForm := ⟨0, 0, 0, 0, 0, 0⟩;
    decide (d.heldReset = false ∧ (d.spReady m = true ∧ (d.sprig m).pc < d.thk.codeLen ∧
    d.eccBad.contains (memCode + d.thk.codeBase + (d.sprig m).pc / 4 * 4) = false ∧ d.codeWord (d.sprig m).pc = (f.word 0x3F)) ∧
    f.legal .none .none .none false false 0 = true ∧ x.lastOfBody = false)) = true)
    ∧ ((let s : State := witState (fun d => let d := d.setMemW memCode 0xFFFFFFFD;
    ({ d with thk := { d.thk with inst := some 0, codeLen := 4, jobs := [{}] } }).setSprig 63 { busy := true }); let m : Fin 64 := 63;
    let d : Dev := s.dev; let w : Word := 0xFFFFFFFD; decide (d.heldReset = false ∧ (d.spReady m = true ∧
    (d.sprig m).pc < d.thk.codeLen ∧ d.eccBad.contains (memCode + d.thk.codeBase + (d.sprig m).pc / 4 * 4) = false ∧
    d.codeWord (d.sprig m).pc = w) ∧ opAssigned (opcodeOf w).toNat = false)) = true) := by
  decide +kernel

/-- The hypotheses of each clause of `SprigMemoryCommandsComplete` are met together. -/
theorem witness_SprigMemoryCommandsComplete :
    ((let s : State := witState (fun d => let d := d.setMemW memCode ((⟨0xFFFC, 1, 31⟩ : IForm).word 0x18);
    ({ d with thk := { d.thk with inst := some 0, codeLen := 4, jobs := [{}] } }).setSprig 63 { busy := true, s := [(1, 0x20000)] });
    let m : Fin 64 := 63; let d : Dev := s.dev; let t : Dev := d.fetched m; let x : SprigSt := t.sprig m;
    let f : IForm := ⟨0xFFFC, 1, 31⟩; let ws : List Nat := ((t.spLoad m 4 [eaOf x f]).toOption.getD ([], [], 0)).1;
    let cor : List Nat := ((t.spLoad m 4 [eaOf x f]).toOption.getD ([], [], 0)).2.1;
    let w : Nat := ((t.spLoad m 4 [eaOf x f]).toOption.getD ([], [], 0)).2.2; decide (d.heldReset = false ∧ (d.spReady m = true ∧
    (d.sprig m).pc < d.thk.codeLen ∧ d.eccBad.contains (memCode + d.thk.codeBase + (d.sprig m).pc / 4 * 4) = false ∧
    d.codeWord (d.sprig m).pc = (f.word 0x18)) ∧ (t.spLoad m 4 [eaOf x f]).toOption = some (ws, cor, w))) = true)
    ∧ ((let s : State := witState (fun d => let d := d.setMemW memCode ((⟨0xFFF0, 1, 7⟩ : IForm).word 0x1C);
    ({ d with thk := { d.thk with inst := some 0, codeLen := 4, jobs := [{}] } }).setSprig 63 { busy := true, s := [(1, 0x20000)] });
    let m : Fin 64 := 63; let d : Dev := s.dev; let t : Dev := d.fetched m; let x : SprigSt := t.sprig m;
    let f : IForm := ⟨0xFFF0, 1, 7⟩; let ws : List Nat := ((t.spLoad m 16 [eaOf x f]).toOption.getD ([], [], 0)).1;
    let cor : List Nat := ((t.spLoad m 16 [eaOf x f]).toOption.getD ([], [], 0)).2.1;
    let w : Nat := ((t.spLoad m 16 [eaOf x f]).toOption.getD ([], [], 0)).2.2; decide (d.heldReset = false ∧ (d.spReady m = true ∧
    (d.sprig m).pc < d.thk.codeLen ∧ d.eccBad.contains (memCode + d.thk.codeBase + (d.sprig m).pc / 4 * 4) = false ∧
    d.codeWord (d.sprig m).pc = (f.word 0x1C)) ∧ f.d.toNat < 8 ∧ (t.spLoad m 16 [eaOf x f]).toOption = some (ws, cor, w))) = true)
    ∧ ((let s : State := witState (fun d => let d := d.setMemW memCode ((⟨0xFFFC, 1, 7⟩ : IForm).word 0x20);
    ({ d with thk := { d.thk with inst := some 0, codeLen := 4, jobs := [{}] } }).setSprig 63 { busy := true, s := [(1, 0x20000)] });
    let m : Fin 64 := 63; let d : Dev := s.dev; let t : Dev := d.fetched m; let x : SprigSt := t.sprig m;
    let f : IForm := ⟨0xFFFC, 1, 7⟩; let ws : List Nat := ((t.spLoad m 4 [eaOf x f]).toOption.getD ([], [], 0)).1;
    let cor : List Nat := ((t.spLoad m 4 [eaOf x f]).toOption.getD ([], [], 0)).2.1;
    let w : Nat := ((t.spLoad m 4 [eaOf x f]).toOption.getD ([], [], 0)).2.2; decide (d.heldReset = false ∧ (d.spReady m = true ∧
    (d.sprig m).pc < d.thk.codeLen ∧ d.eccBad.contains (memCode + d.thk.codeBase + (d.sprig m).pc / 4 * 4) = false ∧
    d.codeWord (d.sprig m).pc = (f.word 0x20)) ∧ f.d.toNat < 8 ∧ (t.spLoad m 4 [eaOf x f]).toOption = some (ws, cor, w))) = true)
    ∧ ((let s : State := witState (fun d => let d := d.setMemW memCode ((⟨0xFFFC, 1, 31⟩ : IForm).word 0x19);
    ({ d with thk := { d.thk with inst := some 0, codeLen := 4, jobs := [{}] } }).setSprig 63 { busy := true, s := [(1, 0x20000)] });
    let m : Fin 64 := 63; let d : Dev := s.dev; let t : Dev := d.fetched m; let x : SprigSt := t.sprig m;
    let f : IForm := ⟨0xFFFC, 1, 31⟩; let w : Nat := ((t.spMap m (eaOf x f) 4 true).getD (0, 0)).1;
    let k : Nat := ((t.spMap m (eaOf x f) 4 true).getD (0, 0)).2; let u : Dev := t.spDrain m (x.buf.length + 1 - 16);
    decide (d.heldReset = false ∧ (d.spReady m = true ∧ (d.sprig m).pc < d.thk.codeLen ∧
    d.eccBad.contains (memCode + d.thk.codeBase + (d.sprig m).pc / 4 * 4) = false ∧ d.codeWord (d.sprig m).pc = (f.word 0x19)) ∧
    eaOf x f % 4 = 0 ∧ t.spMap m (eaOf x f) 4 true = some (w, k) ∧ u.spMap m (eaOf x f) 4 true = some (w, k))) = true)
    ∧ ((let s : State := witState (fun d => let d := d.setMemW memCode ((⟨0xFFF0, 1, 7⟩ : IForm).word 0x1D);
    ({ d with thk := { d.thk with inst := some 0, codeLen := 4, jobs := [{}] } }).setSprig 63 { busy := true, s := [(1, 0x20000)] });
    let m : Fin 64 := 63; let d : Dev := s.dev; let t : Dev := d.fetched m; let x : SprigSt := t.sprig m;
    let f : IForm := ⟨0xFFF0, 1, 7⟩; let w : Nat := ((t.spMap m (eaOf x f) 16 true).getD (0, 0)).1;
    let k : Nat := ((t.spMap m (eaOf x f) 16 true).getD (0, 0)).2; let u : Dev := t.spDrain m (x.buf.length + 1 - 16);
    decide (d.heldReset = false ∧ (d.spReady m = true ∧ (d.sprig m).pc < d.thk.codeLen ∧
    d.eccBad.contains (memCode + d.thk.codeBase + (d.sprig m).pc / 4 * 4) = false ∧ d.codeWord (d.sprig m).pc = (f.word 0x1D)) ∧
    f.d.toNat < 8 ∧ eaOf x f % 16 = 0 ∧ t.spMap m (eaOf x f) 16 true = some (w, k) ∧
    u.spMap m (eaOf x f) 16 true = some (w, k))) = true)
    ∧ ((let s : State := witState (fun d => let d := d.setMemW memCode ((⟨0x1FFC, 3, 3, 7⟩ : MForm).word 0x1E);
    ({ d with thk := { d.thk with inst := some 0, codeLen := 4, jobs := [{}] } }).setSprig 63 { busy := true, ca := [(3, { base := 0x1FFF0, len := 16, off := 12 })] });
    let m : Fin 64 := 63; let d : Dev := s.dev; let t : Dev := d.fetched m; let x : SprigSt := t.sprig m;
    let f : MForm := ⟨0x1FFC, 3, 3, 7⟩; let c : CaSt := x.car f.c.toNat;
    let ws : List Nat := ((t.spLoad m 4 (c.lanes (f.lanes.toNat + 1))).toOption.getD ([], [], 0)).1;
    let cor : List Nat := ((t.spLoad m 4 (c.lanes (f.lanes.toNat + 1))).toOption.getD ([], [], 0)).2.1;
    let w : Nat := ((t.spLoad m 4 (c.lanes (f.lanes.toNat + 1))).toOption.getD ([], [], 0)).2.2; decide (d.heldReset = false ∧
    (d.spReady m = true ∧ (d.sprig m).pc < d.thk.codeLen ∧
    d.eccBad.contains (memCode + d.thk.codeBase + (d.sprig m).pc / 4 * 4) = false ∧ d.codeWord (d.sprig m).pc = (f.word 0x1E)) ∧
    f.legal = true ∧ c.len ≠ 0 ∧ (t.spLoad m 4 (c.lanes (f.lanes.toNat + 1))).toOption = some (ws, cor, w))) = true)
    ∧ ((let s : State := witState (fun d => let d := d.setMemW memCode ((⟨0x2000, 3, 3, 7⟩ : MForm).word 0x1F);
    ({ d with thk := { d.thk with inst := some 0, codeLen := 4, jobs := [{}] } }).setSprig 63 { busy := true, ca := [(3, { base := 0x1FFF0, len := 16, off := 12 })] });
    let m : Fin 64 := 63; let d : Dev := s.dev; let t : Dev := d.fetched m; let x : SprigSt := t.sprig m;
    let f : MForm := ⟨0x2000, 3, 3, 7⟩; let c : CaSt := x.car f.c.toNat; let n : Nat := f.lanes.toNat + 1;
    let as : List Nat := c.lanes n; let w : Nat := ((t.spMap m (as.headD 0) 4 true).getD (0, 0)).1;
    let k : Nat := ((t.spMap m (as.headD 0) 4 true).getD (0, 0)).2;
    let es : List (Nat × List Byte) := (as.zip ((List.range n).map (fun i => leBytes 4 (laneOf 0 (x.vr f.d.toNat) i)))).map (fun e => (((t.spMap m e.1 4 true).getD (0, 0)).2, e.2));
    let u : Dev := t.spDrain m (x.buf.length + es.length - 16); decide (d.heldReset = false ∧
    u.spMap m (as.headD 0) 4 true = some (w, k) ∧ (d.spReady m = true ∧ (d.sprig m).pc < d.thk.codeLen ∧
    d.eccBad.contains (memCode + d.thk.codeBase + (d.sprig m).pc / 4 * 4) = false ∧ d.codeWord (d.sprig m).pc = (f.word 0x1F)) ∧
    f.legal = true ∧ c.len ≠ 0 ∧ (∀ a ∈ as, a % 4 = 0 ∧ t.spMap m a 4 true ≠ none) ∧
    t.spMap m (as.headD 0) 4 true = some (w, k))) = true)
    ∧ ((let s : State := witState (fun d => let d := d.setMemW memCode ((⟨0, 0, 0, 2, 1, 3⟩ : RForm).word 0x34);
    ({ d with thk := { d.thk with inst := some 0, codeLen := 4, jobs := [{}] } }).setSprig 63 { busy := true, s := [(1, 0x18000), (2, 0x1000000)] });
    let m : Fin 64 := 63; let d : Dev := s.dev; let t : Dev := d.fetched m; let x : SprigSt := t.sprig m;
    let f : RForm := ⟨0, 0, 0, 2, 1, 3⟩; let b : Nat := (x.sr f.a.toNat).toNat; let l : Nat := (x.sr f.b.toNat).toNat;
    decide (d.heldReset = false ∧ (d.spReady m = true ∧ (d.sprig m).pc < d.thk.codeLen ∧
    d.eccBad.contains (memCode + d.thk.codeBase + (d.sprig m).pc / 4 * 4) = false ∧ d.codeWord (d.sprig m).pc = (f.word 0x34)) ∧
    f.legal .ca .s .s false false 0 = true ∧ b % 4 = 0 ∧ l % 4 = 0 ∧ l ≤ 2 ^ 24)) = true)
    ∧ ((let s : State := witState (fun d => let d := d.setMemW memCode ((⟨0, 0, 0, 0, 3, 31⟩ : RForm).word 0x35);
    ({ d with thk := { d.thk with inst := some 0, codeLen := 4, jobs := [{}] } }).setSprig 63 { busy := true, ca := [(3, { base := 0x1FFF0, len := 16, off := 12 })] });
    let m : Fin 64 := 63; let d : Dev := s.dev; let f : RForm := ⟨0, 0, 0, 0, 3, 31⟩; decide (d.heldReset = false ∧
    (d.spReady m = true ∧ (d.sprig m).pc < d.thk.codeLen ∧
    d.eccBad.contains (memCode + d.thk.codeBase + (d.sprig m).pc / 4 * 4) = false ∧ d.codeWord (d.sprig m).pc = (f.word 0x35)) ∧
    f.legal .s .ca .none false false 0 = true)) = true)
    ∧ ((let s : State := witState (fun d => let d := d.setMemW memCode ((⟨0, 0, 1, 0, 31, 3⟩ : RForm).word 0x35);
    ({ d with thk := { d.thk with inst := some 0, codeLen := 4, jobs := [{}] } }).setSprig 63 { busy := true, ca := [(3, { base := 0x1FFF0, len := 16, off := 12 })], s := [(31, 0xFFFFFFFF)] });
    let m : Fin 64 := 63; let d : Dev := s.dev; let t : Dev := d.fetched m; let x : SprigSt := t.sprig m;
    let f : RForm := ⟨0, 0, 1, 0, 31, 3⟩; let c : CaSt := x.car f.d.toNat; decide (d.heldReset = false ∧ (d.spReady m = true ∧
    (d.sprig m).pc < d.thk.codeLen ∧ d.eccBad.contains (memCode + d.thk.codeBase + (d.sprig m).pc / 4 * 4) = false ∧
    d.codeWord (d.sprig m).pc = (f.word 0x35)) ∧ f.aux = 1 ∧ f.legal .ca .s .none false false 1 = true ∧ c.len ≠ 0)) = true) := by
  decide +kernel

/-- The hypotheses of each clause of `SprigVectorCommandsComplete` are met together. -/
theorem witness_SprigVectorCommandsComplete :
    ((let s : State := witState (fun d => let d := d.setMemW memCode ((⟨2, 1, 0, 7, 7, 7⟩ : RForm).word 0x21);
    ({ d with thk := { d.thk with inst := some 0, codeLen := 4, jobs := [{}] } }).setSprig 63 { busy := true }); let m : Fin 64 := 63;
    let d : Dev := s.dev; let f : RForm := ⟨2, 1, 0, 7, 7, 7⟩; let fmt : Nat := f.fmt.toNat;
    let i := ((0x21, Instr.vadd m f, true, if f.neg = 1 then LaneOp.sub else .add) : Nat × Instr × Bool × LaneOp);
    decide (d.heldReset = false ∧ (d.spReady m = true ∧ (d.sprig m).pc < d.thk.codeLen ∧
    d.eccBad.contains (memCode + d.thk.codeBase + (d.sprig m).pc / 4 * 4) = false ∧ d.codeWord (d.sprig m).pc = (f.word i.1)) ∧
    f.legal .v .v .v true i.2.2.1 0 = true ∧ (i.1 = 0x28 → fmt ≠ 0))) = true)
    ∧ ((let s : State := witState (fun d => let d := d.setMemW memCode ((⟨2, 1, 0, 0, 7, 7⟩ : RForm).word 0x27);
    ({ d with thk := { d.thk with inst := some 0, codeLen := 4, jobs := [{}] } }).setSprig 63 { busy := true }); let m : Fin 64 := 63;
    let d : Dev := s.dev; let f : RForm := ⟨2, 1, 0, 0, 7, 7⟩; decide (d.heldReset = false ∧ (d.spReady m = true ∧
    (d.sprig m).pc < d.thk.codeLen ∧ d.eccBad.contains (memCode + d.thk.codeBase + (d.sprig m).pc / 4 * 4) = false ∧
    d.codeWord (d.sprig m).pc = (f.word 0x27)) ∧ f.legal .v .v .none true true 0 = true)) = true)
    ∧ ((let s : State := witState (fun d => let d := d.setMemW memCode ((⟨2, 1, 0, 7, 7, 3⟩ : RForm).word 0x23);
    ({ d with thk := { d.thk with inst := some 0, codeLen := 4, jobs := [{}] } }).setSprig 63 { busy := true, acc := [(3, { tag := 2 })] });
    let m : Fin 64 := 63; let d : Dev := s.dev; let t : Dev := d.fetched m; let x : SprigSt := t.sprig m;
    let f : RForm := ⟨2, 1, 0, 7, 7, 3⟩; let fmt : Nat := f.fmt.toNat; decide (d.heldReset = false ∧ (x.ac f.d.toNat).tag = fmt ∧
    (d.spReady m = true ∧ (d.sprig m).pc < d.thk.codeLen ∧
    d.eccBad.contains (memCode + d.thk.codeBase + (d.sprig m).pc / 4 * 4) = false ∧ d.codeWord (d.sprig m).pc = (f.word 0x23)) ∧
    f.legal .acc .v .v true true 0 = true)) = true)
    ∧ ((let s : State := witState (fun d => let d := d.setMemW memCode ((⟨1, 1, 0, 31, 7, 3⟩ : RForm).word 0x24);
    ({ d with thk := { d.thk with inst := some 0, codeLen := 4, jobs := [{}] } }).setSprig 63 { busy := true, acc := [(3, { tag := 1 })] });
    let m : Fin 64 := 63; let d : Dev := s.dev; let t : Dev := d.fetched m; let x : SprigSt := t.sprig m;
    let f : RForm := ⟨1, 1, 0, 31, 7, 3⟩; let fmt : Nat := f.fmt.toNat; decide (d.heldReset = false ∧ (x.ac f.d.toNat).tag = fmt ∧
    (d.spReady m = true ∧ (d.sprig m).pc < d.thk.codeLen ∧
    d.eccBad.contains (memCode + d.thk.codeBase + (d.sprig m).pc / 4 * 4) = false ∧ d.codeWord (d.sprig m).pc = (f.word 0x24)) ∧
    f.legal .acc .v .s true true 0 = true ∧ fmt ≠ 2)) = true)
    ∧ ((let s : State := witState (fun d => let d := d.setMemW memCode ((⟨2, 0, 255, 0, 7, 7⟩ : RForm).word 0x2A);
    ({ d with thk := { d.thk with inst := some 0, codeLen := 4, jobs := [{}] } }).setSprig 63 { busy := true }); let m : Fin 64 := 63;
    let d : Dev := s.dev; let f : RForm := ⟨2, 0, 255, 0, 7, 7⟩; decide (d.heldReset = false ∧ (d.spReady m = true ∧
    (d.sprig m).pc < d.thk.codeLen ∧ d.eccBad.contains (memCode + d.thk.codeBase + (d.sprig m).pc / 4 * 4) = false ∧
    d.codeWord (d.sprig m).pc = (f.word 0x2A)) ∧ f.legal .v .v .none true false 255 = true)) = true)
    ∧ ((let s : State := witState (fun d => let d := d.setMemW memCode ((⟨2, 0, 2, 0, 7, 7⟩ : RForm).word 0x2B);
    ({ d with thk := { d.thk with inst := some 0, codeLen := 4, jobs := [{}] } }).setSprig 63 { busy := true }); let m : Fin 64 := 63;
    let d : Dev := s.dev; let f : RForm := ⟨2, 0, 2, 0, 7, 7⟩; let dst : Nat := f.aux.toNat % 4; decide (d.heldReset = false ∧
    (d.spReady m = true ∧ (d.sprig m).pc < d.thk.codeLen ∧
    d.eccBad.contains (memCode + d.thk.codeBase + (d.sprig m).pc / 4 * 4) = false ∧ d.codeWord (d.sprig m).pc = (f.word 0x2B)) ∧
    f.legal .v .v .none true false 3 = true ∧ dst ≠ 3)) = true)
    ∧ ((let s : State := witState (fun d => let d := d.setMemW memCode ((⟨0, 0, 3, 0, 31, 7⟩ : RForm).word 0x2C);
    ({ d with thk := { d.thk with inst := some 0, codeLen := 4, jobs := [{}] } }).setSprig 63 { busy := true }); let m : Fin 64 := 63;
    let d : Dev := s.dev; let f : RForm := ⟨0, 0, 3, 0, 31, 7⟩; decide (d.heldReset = false ∧ (d.spReady m = true ∧
    (d.sprig m).pc < d.thk.codeLen ∧ d.eccBad.contains (memCode + d.thk.codeBase + (d.sprig m).pc / 4 * 4) = false ∧
    d.codeWord (d.sprig m).pc = (f.word 0x2C)) ∧ f.legal .v .s .none false false 3 = true)) = true)
    ∧ ((let s : State := witState (fun d => let d := d.setMemW memCode ((⟨0, 0, 3, 0, 7, 31⟩ : RForm).word 0x2D);
    ({ d with thk := { d.thk with inst := some 0, codeLen := 4, jobs := [{}] } }).setSprig 63 { busy := true }); let m : Fin 64 := 63;
    let d : Dev := s.dev; let f : RForm := ⟨0, 0, 3, 0, 7, 31⟩; decide (d.heldReset = false ∧ (d.spReady m = true ∧
    (d.sprig m).pc < d.thk.codeLen ∧ d.eccBad.contains (memCode + d.thk.codeBase + (d.sprig m).pc / 4 * 4) = false ∧
    d.codeWord (d.sprig m).pc = (f.word 0x2D)) ∧ f.legal .s .v .none false false 3 = true)) = true)
    ∧ ((let s : State := witState (fun d => let d := d.setMemW memCode ((⟨2, 0, 0, 0, 0, 3⟩ : RForm).word 0x30);
    ({ d with thk := { d.thk with inst := some 0, codeLen := 4, jobs := [{}] } }).setSprig 63 { busy := true }); let m : Fin 64 := 63;
    let d : Dev := s.dev; let f : RForm := ⟨2, 0, 0, 0, 0, 3⟩; decide (d.heldReset = false ∧ (d.spReady m = true ∧
    (d.sprig m).pc < d.thk.codeLen ∧ d.eccBad.contains (memCode + d.thk.codeBase + (d.sprig m).pc / 4 * 4) = false ∧
    d.codeWord (d.sprig m).pc = (f.word 0x30)) ∧ f.legal .acc .none .none true false 0 = true)) = true)
    ∧ ((let s : State := witState (fun d => let d := d.setMemW memCode ((⟨2, 0, 63, 0, 3, 7⟩ : RForm).word 0x31);
    ({ d with thk := { d.thk with inst := some 0, codeLen := 4, jobs := [{}] } }).setSprig 63 { busy := true, acc := [(3, { tag := 2 })] });
    let m : Fin 64 := 63; let d : Dev := s.dev; let t : Dev := d.fetched m; let x : SprigSt := t.sprig m;
    let f : RForm := ⟨2, 0, 63, 0, 3, 7⟩; let fmt : Nat := f.fmt.toNat; decide (d.heldReset = false ∧ (d.spReady m = true ∧
    (d.sprig m).pc < d.thk.codeLen ∧ d.eccBad.contains (memCode + d.thk.codeBase + (d.sprig m).pc / 4 * 4) = false ∧
    d.codeWord (d.sprig m).pc = (f.word 0x31)) ∧ f.legal .v .acc .none true false 63 = true ∧ (x.ac f.a.toNat).tag = fmt)) = true)
    ∧ ((let s : State := witState (fun d => let d := d.setMemW memCode ((⟨2, 0, 0, 0, 0, 3⟩ : RForm).word 0x32);
    ({ d with thk := { d.thk with inst := some 0, codeLen := 4, jobs := [{}] } }).setSprig 63 { busy := true, acc := [(3, { tag := 2 })] });
    let m : Fin 64 := 63; let d : Dev := s.dev; let t : Dev := d.fetched m; let x : SprigSt := t.sprig m;
    let f : RForm := ⟨2, 0, 0, 0, 0, 3⟩; let fmt : Nat := f.fmt.toNat; decide (d.heldReset = false ∧ (d.spReady m = true ∧
    (d.sprig m).pc < d.thk.codeLen ∧ d.eccBad.contains (memCode + d.thk.codeBase + (d.sprig m).pc / 4 * 4) = false ∧
    d.codeWord (d.sprig m).pc = (f.word 0x32)) ∧ f.legal .acc .none .none true false 0 = true ∧ (x.ac f.d.toNat).tag = fmt)) = true) := by
  decide +kernel

/-- The hypotheses of each clause of `TypedFieldsFollowTheirType` are met together. -/
theorem witness_TypedFieldsFollowTheirType :
    ((let r := TIME_ALM_NS; let f := (⟨29, 0, .rw, false⟩ : Fld); let b : Nat := 29; decide (b + f.lo ≤ f.hi ∧ r ∈ allRegs ∧
    f ∈ r.flds)) = true) := by
  decide +kernel

/-- The hypotheses of each clause of `ReservedBitsReadZero` are met together. -/
theorem witness_ReservedBitsReadZero :
    ((let r := TIME_ALM_NS; let b : Nat := 31; decide ((∀ f ∈ r.flds, b < f.lo ∨ f.hi < b) ∧ r ∈ allRegs ∧ b < 32)) = true) := by
  decide +kernel

/-- The hypotheses of each clause of `BlockNumbersCompareBySignedDifference` are met together. -/
theorem witness_BlockNumbersCompareBySignedDifference :
    ((let m : Nat := 2 ^ 31 - 1; let c : Nat := 0; decide (later32 m c = true)) = true) := by
  decide +kernel

/-- The hypotheses of each clause of `FadeWeightsOfBothLaws` are met together. -/
theorem witness_FadeWeightsOfBothLaws :
    ((let len : Nat := 1024; let j : Nat := 1023; decide (1 ≤ len ∧ len ≤ 1024 ∧ j < len)) = true)
    ∧ ((let len : Nat := 1024; decide (1 ≤ len ∧ len ≤ 1024)) = true)
    ∧ ((let len : Nat := 0; let j : Nat := 0; decide (len ≤ j)) = true) := by
  decide +kernel

/-- The hypotheses of each clause of `CaptureUnitsRecordTheirTimeBase` are met together. -/
theorem witness_CaptureUnitsRecordTheirTimeBase :
    ((let d : Dev := (State.reset.dev.put TIME_CAP_CFG.EN 1 15).put TIME_CAP_CFG.SRC 27 15; let src : Nat := 27;
    let rising : Bool := true; let c : Nat := 15; decide (c < 16 ∧ d.is TIME_CAP_CFG.EN c = true ∧ d.get TIME_CAP_CFG.SRC c = src ∧
    (28 ≤ src ∨ d.get TIME_CAP_CFG.EDGE c = 2 ∨ (d.get TIME_CAP_CFG.EDGE c = 1 ∧ rising = false) ∨ (d.get TIME_CAP_CFG.EDGE c = 0 ∧
    rising = true)))) = true)
    ∧ ((let d : Dev := (State.reset.dev.put TIME_CAP_CFG.EN 1 15).put TIME_CAP_CFG.SRC 27 15; let src : Nat := 28; let c : Nat := 15;
    decide (c < 16 ∧ (d.is TIME_CAP_CFG.EN c = false ∨ d.get TIME_CAP_CFG.SRC c ≠ src))) = true)
    ∧ ((let c : Nat := 15; decide (c < 16)) = true) := by
  decide +kernel

/-- The hypotheses of each clause of `DiscardedChunkWordsEndTheAttempt` are met together. -/
theorem witness_DiscardedChunkWordsEndTheAttempt :
    ((let s : State := witState (fun d => d.put SYS_LOAD_STATUS.READY 0); let p : Port := .core; let i : Fin 8192 := 8191;
    let c : Dev := s.counted p (SYS_CHUNK.addr i 0); decide ((s.dev.heldReset = false ∧ s.dev.portOpen (portNum p) = true) ∧
    c.is SYS_LOAD_STATUS.READY = false)) = true)
    ∧ ((let d : Dev := (State.reset.dev.setBoot { host := true, step := 2 }).put SYS_LOAD_STATUS.READY 1; let len : Nat := 1;
    decide (len ≠ 0 ∧ d.is SYS_LOAD_STATUS.READY = true ∧ d.boot.host = true ∧ d.boot.step = 2)) = true)
    ∧ ((let d : Dev := State.reset.dev.setBoot { chunk := some (1, false, true) }; let n : Nat := 1; let last : Bool := false;
    decide (d.boot.chunk = some (n, last, true) ∧ d.boot.arrived = false)) = true) := by
  decide +kernel

/-- The hypotheses of each clause of `IdentificationRegisterReads` are met together. -/
theorem witness_IdentificationRegisterReads :
    ((let s : State := State.reset; let dt : Nat := 0; decide ((s.came dt).pwr.por = false)) = true) := by
  decide +kernel

/-- The hypotheses of each clause of `ScalarRegistersReadBack` are met together. -/
theorem witness_ScalarRegistersReadBack :
    ((let i : Nat := 31; decide (i ≠ 0)) = true)
    ∧ ((let i : Nat := 31; let j : Nat := 30; decide (j ≠ i)) = true) := by
  decide +kernel

/-- The hypotheses of each clause of `SprigExceptionFailsTheJob` are met together. -/
theorem witness_SprigExceptionFailsTheJob :
    ((let d : Dev := State.reset.dev; let m : Nat := 63; let u : Dev := d.spFlush m; let code : Nat := 8; let addr : Nat := 2 ^ 32 - 1;
    let x : SprigSt := u.sprig m; decide (m < 64 ∧ code < 16 ∧ addr < 2 ^ 32 ∧ x.pc < 2 ^ 32 ∧ x.job < 2 ^ 16)) = true)
    ∧ ((let d : Dev := State.reset.dev; let m : Nat := 63; let u : Dev := d.spFlush m; let code : Nat := 8; let addr : Nat := 2 ^ 32 - 1;
    let x : SprigSt := u.sprig m; decide (m < 64 ∧ code < 16 ∧ addr < 2 ^ 32 ∧ x.pc < 2 ^ 32 ∧ x.job < 2 ^ 16)) = true)
    ∧ ((let d : Dev := State.reset.dev; let m : Nat := 63; let u : Dev := d.spFlush m; let code : Nat := 8; let addr : Nat := 2 ^ 32 - 1;
    let x : SprigSt := u.sprig m; decide (m < 64 ∧ code < 16 ∧ addr < 2 ^ 32 ∧ x.pc < 2 ^ 32 ∧ x.job < 2 ^ 16)) = true)
    ∧ ((let d : Dev := State.reset.dev; let m : Nat := 63; let u : Dev := d.spFlush m; let code : Nat := 8; let addr : Nat := 2 ^ 32 - 1;
    let x : SprigSt := u.sprig m; decide (m < 64 ∧ code < 16 ∧ addr < 2 ^ 32 ∧ x.pc < 2 ^ 32 ∧ x.job < 2 ^ 16 ∧
    u.is THK_EXC_INFO.VALID m = false)) = true)
    ∧ ((let d : Dev := State.reset.dev.put THK_EXC_INFO.VALID 1 63; let m : Nat := 63; let u : Dev := d.spFlush m; let code : Nat := 8;
    let addr : Nat := 2 ^ 32 - 1; let x : SprigSt := u.sprig m; decide (m < 64 ∧ code < 16 ∧ addr < 2 ^ 32 ∧ x.pc < 2 ^ 32 ∧
    x.job < 2 ^ 16 ∧ u.is THK_EXC_INFO.VALID m = true)) = true) := by
  decide +kernel

/-- The hypotheses of each clause of `WindowWordReadsBack` are met together. -/
theorem witness_WindowWordReadsBack :
    ((let s : State := witState (fun d => { d with thk := { d.thk with regions := [{ size := 0x400000 }] } }); let p : Port := .core;
    let k : Fin 1048576 := 1048575; let off : Nat := (s.counted p (sharedAddr k)).ssOffset (portNum p) (sharedAddr k);
    let c : Dev := (s.counted p (sharedAddr k)).perfEvent 0x22 1 { master := portNum p, addr := off };
    decide ((s.dev.heldReset = false ∧ s.dev.portOpen (portNum p) = true) ∧ (c.mirrored = false ∧ (c.role = 2 → c.pair.link = false)) ∧
    c.regionAt off ≠ none ∧ c.running = false)) = true)
    ∧ ((let s : State := witState (fun d => { d with thk := { d.thk with regions := [{ size := 0x400000 }] } }); let p : Port := .core;
    let k : Fin 1048576 := 1048575; let off : Nat := (s.counted p (sharedAddr k)).ssOffset (portNum p) (sharedAddr k);
    let c : Dev := (s.counted p (sharedAddr k)).perfEvent 0x22 1 { master := portNum p, addr := off };
    decide ((s.dev.heldReset = false ∧ s.dev.portOpen (portNum p) = true) ∧ (c.mirrored = false ∧ (c.role = 2 → c.pair.link = false)) ∧
    c.regionAt off ≠ none ∧ c.running = false)) = true)
    ∧ ((let s : State := witState (fun d => { d with thk := { d.thk with regions := [{ size := 0x400000 }] } }); let p : Port := .core;
    let k : Fin 1048576 := 1048575; let off : Nat := (s.counted p (sharedAddr k)).ssOffset (portNum p) (sharedAddr k);
    let c : Dev := (s.counted p (sharedAddr k)).perfEvent 0x22 1 { master := portNum p, addr := off }; let i : Nat := 3;
    decide ((s.dev.heldReset = false ∧ s.dev.portOpen (portNum p) = true) ∧ (c.mirrored = false ∧ (c.role = 2 → c.pair.link = false)) ∧
    c.regionAt off ≠ none ∧ c.running = false ∧ i < 4)) = true)
    ∧ ((let s : State := witState (fun d => { d with thk := { d.thk with regions := [{ size := 0x400000 }] } }); let p : Port := .core;
    let k : Fin 1048576 := 1048575; let off : Nat := (s.counted p (sharedAddr k)).ssOffset (portNum p) (sharedAddr k);
    let c : Dev := (s.counted p (sharedAddr k)).perfEvent 0x22 1 { master := portNum p, addr := off }; let a := memShared + off + 4;
    decide ((s.dev.heldReset = false ∧ s.dev.portOpen (portNum p) = true) ∧ (c.mirrored = false ∧ (c.role = 2 → c.pair.link = false)) ∧
    c.regionAt off ≠ none ∧ c.running = false ∧ (a < memShared + off ∨ memShared + off + 4 ≤ a))) = true)
    ∧ ((let s : State := witState (fun d => { d with thk := { d.thk with regions := [{ size := 0x400000 }] } }); let p : Port := .core;
    let k : Fin 1048576 := 1048575; let off : Nat := (s.counted p (sharedAddr k)).ssOffset (portNum p) (sharedAddr k);
    let c : Dev := (s.counted p (sharedAddr k)).perfEvent 0x22 1 { master := portNum p, addr := off };
    decide ((s.dev.heldReset = false ∧ s.dev.portOpen (portNum p) = true) ∧ (c.mirrored = false ∧ (c.role = 2 → c.pair.link = false)) ∧
    c.regionAt off ≠ none ∧ c.running = false)) = true) := by
  decide +kernel

/-- The hypotheses of each clause of `StandbyIgnoresMirroredWrites` are met together. -/
theorem witness_StandbyIgnoresMirroredWrites :
    ((let s : State := witState (fun d => (d.setPair { d.pair with link := true }).put PAIR_STAT.ROLE 3); let p : Port := .core;
    let b : Nat := 12; let i : Nat := 0; let j : Nat := 0; let r : Reg := THK_PCTRL; let c : Dev := s.counted p (r.addr i j);
    decide (r ∈ regsOfBlock b ∧ i < r.n1 ∧ j < r.n2 ∧ mirrorMask r = 0xFFFFFFFF ∧ (s.dev.heldReset = false ∧
    s.dev.portOpen (portNum p) = true) ∧ c.mirrored = true)) = true)
    ∧ ((let s : State := witState (fun d => (d.setPair { d.pair with link := true }).put PAIR_STAT.ROLE 3); let p : Port := .core;
    let b : Nat := 12; let i : Nat := 0; let j : Nat := 0; let r : Reg := THK_PCTRL; let c : Dev := s.counted p (r.addr i j);
    decide (r ∈ regsOfBlock b ∧ i < r.n1 ∧ j < r.n2 ∧ mirrorMask r = 0xFFFFFFFF ∧ (s.dev.heldReset = false ∧
    s.dev.portOpen (portNum p) = true) ∧ c.mirrored = true)) = true)
    ∧ ((let s : State := witState (fun d => (d.setPair { d.pair with link := true }).put PAIR_STAT.ROLE 3); let p : Port := .core;
    let b : Nat := 12; let i : Nat := 0; let j : Nat := 0; let r : Reg := THK_PCTRL; let c : Dev := s.counted p (r.addr i j);
    let q : Reg := THK_PCTRL; let k : Nat := 0; let l : Nat := 0; decide (r ∈ regsOfBlock b ∧ i < r.n1 ∧ j < r.n2 ∧
    mirrorMask r = 0xFFFFFFFF ∧ (s.dev.heldReset = false ∧ s.dev.portOpen (portNum p) = true) ∧ c.mirrored = true ∧
    q.addr k l ≠ PAIR_EV.addr 0 0)) = true) := by
  decide +kernel

/-- The hypotheses of each clause of `HeldBlockDiscardsAccesses` are met together. -/
theorem witness_HeldBlockDiscardsAccesses :
    ((let d : Dev := { State.reset.dev with flt := { State.reset.dev.flt with shadows := [(12, { open_ := true, inReset := true })] } };
    let b : Nat := 12; let r : Reg := THK_EXC_INFO; decide (r ∈ regsOfBlock b ∧ d.inReset r.blk = true ∧ r.dom = .block)) = true)
    ∧ ((let s : State := witState (fun d => { d with flt := { d.flt with shadows := [(12, { open_ := true, inReset := true })] } });
    let p : Port := .core; let b : Nat := 12; let i : Nat := 63; let j : Nat := 0; let r : Reg := THK_EXC_INFO;
    let c : Dev := s.counted p (r.addr i j); decide (r ∈ regsOfBlock b ∧ i < r.n1 ∧ j < r.n2 ∧ r.dom = .block ∧ r ≠ PERF_CNT_AUX ∧
    (s.dev.heldReset = false ∧ s.dev.portOpen (portNum p) = true) ∧ s.dev.inReset r.blk = true ∧ c.inReset r.blk = true)) = true)
    ∧ ((let s : State := witState (fun d => { d with flt := { d.flt with shadows := [(12, { open_ := true, inReset := true })] } });
    let p : Port := .core; let b : Nat := 12; let i : Nat := 63; let j : Nat := 0; let r : Reg := THK_EXC_INFO;
    let c : Dev := s.counted p (r.addr i j); decide (r ∈ regsOfBlock b ∧ i < r.n1 ∧ j < r.n2 ∧ r.dom = .block ∧
    (s.dev.heldReset = false ∧ s.dev.portOpen (portNum p) = true) ∧ s.dev.inReset r.blk = true ∧ c.inReset r.blk = true)) = true) := by
  decide +kernel

/-- The hypotheses of each clause of `ThresholdReachesTheSevereLevel` are met together. -/
theorem witness_ThresholdReachesTheSevereLevel :
    ((let d : Dev := State.reset.dev; let n : Nat := 191; decide (n < 192 ∧ d.shadowOf n = none ∧ d.get FLT_SRC_STAT.STATE n < 2 ∧
    d.fltN n ≤ inWindow d.tclk (d.fltWin n) ((d.tclk :: tabGet [] d.flt.events n).take 255))) = true)
    ∧ ((let d : Dev := State.reset.dev; let n : Nat := 191; decide (n < 192 ∧ d.shadowOf n = none ∧ d.get FLT_SRC_STAT.STATE n < 2 ∧
    d.fltN n ≤ inWindow d.tclk (d.fltWin n) ((d.tclk :: tabGet [] d.flt.events n).take 255))) = true)
    ∧ ((let d : Dev := State.reset.dev.put FLT_SRC_CFG.SVR 4 191; let n : Nat := 191; decide (n < 192 ∧ d.shadowOf n = none ∧
    d.get FLT_SRC_STAT.STATE n < 2 ∧ d.fltN n ≤ inWindow d.tclk (d.fltWin n) ((d.tclk :: tabGet [] d.flt.events n).take 255) ∧
    bitOf (d.get FLT_SRC_CFG.SVR n) 2 = 1)) = true) := by
  decide +kernel

/-- The hypotheses of each clause of `FirstErrorIsCaptured` are met together. -/
theorem witness_FirstErrorIsCaptured :
    ((let d : Dev := State.reset.dev.put FLT_SRC_CFG.FEC 1 191; let n : Nat := 191; let a : Access := { addr := 2 ^ 32 - 1, ty := 3 };
    decide (n < 192 ∧ d.shadowOf n = none ∧ d.is FLT_SRC_CFG.FEC n = true ∧ a.addr < 2 ^ 32 ∧ a.master < 256 ∧ a.ty < 4 ∧
    d.is FLT_FEC_INFO.VALID = false)) = true)
    ∧ ((let d : Dev := (State.reset.dev.put FLT_SRC_CFG.FEC 1 191).put FLT_FEC_INFO.VALID 1; let n : Nat := 191;
    let a : Access := { addr := 2 ^ 32 - 1, ty := 3 }; decide (n < 192 ∧ d.shadowOf n = none ∧ d.is FLT_SRC_CFG.FEC n = true ∧
    a.addr < 2 ^ 32 ∧ a.master < 256 ∧ a.ty < 4 ∧ d.is FLT_FEC_INFO.VALID = true)) = true) := by
  decide +kernel

/-- The hypotheses of each clause of `TimeBasesAdvanceAtEveryTick` are met together. -/
theorem witness_TimeBasesAdvanceAtEveryTick :
    ((let s : State := State.reset; let dt : Nat := 1; let t : Nat := 3; decide (0 < dt ∧ t < 4 ∧ s.dev.pwr.por = false)) = true) := by
  decide +kernel

/-- The hypotheses of each clause of `ResetsLeaveMemoryAndTap` are met together. -/
theorem witness_ResetsLeaveMemoryAndTap :
    ((let d : Dev := State.reset.dev; let mv : Nat := 31999; decide (d.pwr.por = false ∧ mv < 32000)) = true)
    ∧ ((let d : Dev := State.reset.dev; let mv : Nat := 31999; decide (d.pwr.por = false ∧ mv < 32000)) = true)
    ∧ ((let d : Dev := State.reset.dev; let mv : Nat := 31999; let a := 0; decide (d.pwr.por = false ∧ mv < 32000 ∧
    isMram a = false)) = true)
    ∧ ((let d : Dev := State.reset.dev; let mv : Nat := 31999; decide (d.pwr.por = false ∧ mv < 32000)) = true)
    ∧ ((let d : Dev := { ((State.reset.dev.put ALN_OUT_CFG.FMT 2 7).put TIME_TIO_CFG.DIR 0xFF).put SAP_MCLK_CFG.EN 1 3 with imageApplied := true };
    decide (d.test.drive = false)) = true)
    ∧ ((let d : Dev := { ((State.reset.dev.put ALN_OUT_CFG.FMT 2 7).put TIME_TIO_CFG.DIR 0xFF).put SAP_MCLK_CFG.EN 1 3 with imageApplied := true };
    let mv : Nat := 31999; decide (d.pwr.por = false ∧ mv < 32000)) = true) := by
  decide +kernel

/-- The hypotheses of each clause of `TimeBaseAndReceivedCellCommandsRun` are met together. -/
theorem witness_TimeBaseAndReceivedCellCommandsRun :
    ((let s : State := witState (fun d => d.put TIME_TB_STAT.STATE 0 3); let p : Port := .core; let t : Fin 4 := 3; let w : Word := 0x1;
    let c : Dev := s.counted p (TIME_TB_CTRL.addr t 0); decide ((s.dev.heldReset = false ∧ s.dev.portOpen (portNum p) = true) ∧
    fget w 1 1 = 0 ∧ fget w 0 0 = 1 ∧ c.get TIME_OFS_MNS.NS t < 1000000000 ∧ (c.servo t = 0 ∨ c.servo t = 1))) = true)
    ∧ ((let s : State := State.reset; let p : Port := .core; let t : Fin 4 := 3; let c : Dev := s.counted p (TIME_TB_T0.addr t 0);
    decide ((s.dev.heldReset = false ∧ s.dev.portOpen (portNum p) = true) ∧ c.inReset 4 = false)) = true)
    ∧ ((let s : State := witState (fun d => let d := d.put TIME_TB_STAT.STATE 0 3;
    { d with time := { d.time with rateLo := [(3, 4294967295)] } }); let p : Port := .core; let t : Fin 4 := 3;
    let c : Dev := s.counted p (TIME_TB_RATE_HI.addr t 0); let lo : Nat := 4294967294; decide ((s.dev.heldReset = false ∧
    s.dev.portOpen (portNum p) = true) ∧ c.servo t = 0 ∧ tabGet 0 c.time.rateLo t = lo + 1)) = true)
    ∧ ((let s : State := State.reset; let p : Port := .core; let w : Word := 0x2; decide ((s.dev.heldReset = false ∧
    s.dev.portOpen (portNum p) = true) ∧ fget w 1 1 = 1 ∧ fget w 0 0 = 0)) = true)
    ∧ ((let s : State := witState (fun d => ((((d.put TIME_TB_CTRL.FREE 0 3).put TIME_TB_STAT.STATE 1 3).put TIME_OFS_MNS.FSTEP 0 3).put TIME_TB_CFG.SRC 1 3).put TIME_SRV_THR.LOCK_THR 0 3);
    let p : Port := .core; let t : Fin 4 := 3; let w : Word := 0x3E80; let c : Dev := s.counted p (TIME_OFS_VAL.addr t 0);
    decide ((s.dev.heldReset = false ∧ s.dev.portOpen (portNum p) = true) ∧ c.get TIME_TB_CFG.SRC t = 1 ∧
    c.is TIME_TB_CTRL.FREE t = false ∧ c.servo t = 1 ∧ c.is TIME_OFS_MNS.FSTEP t = false ∧ tabGet 0 c.time.setAt t ≠ c.tclk + 1 ∧
    c.get TIME_OFS_MSEC.SEC t = (c.tb t).sec % 2 ^ 32 ∧ (c.tb t).val % tbSecond = c.get TIME_OFS_MNS.NS t * 2 ^ 46 ∧
    c.lockThr t < w.toInt.natAbs ∧ w.toInt.natAbs ≤ 16000 * max 1 (c.get TIME_SRV_THR.STEP_THR t))) = true)
    ∧ ((let s : State := witState (fun d => let d := (d.put TIME_TB_STAT.STATE 2 3).startTimer .offset 3; { d with tclk := 2 ^ 40 });
    let dt : Nat := 0; let t : Fin 4 := 3; let d : Dev := s.came dt; decide ((s.came dt).heldReset = false ∧ d.servo t = 2 ∧
    d.ranFor .offset (max 1 (d.get TIME_SRV_CFG.HOLD_TMO t) * 1000000) t = true)) = true)
    ∧ ((let s : State := witState (fun d => let d := (((d.put HLK_STAT.STATE 3 7).put SYS_BLK_STATUS.STATE 4).put FLOW_CFG.KIND 1 0).put FLOW_MAP.NCH 1 0;
    { d with hfb := { d.hfb with fwd := [(0, { flow := 1, pri := 0, bkp := 0, mc := false, loc := true, ctx := 0, dedup := false, revert := false })] } });
    let dt : Nat := 0; let l : Fin 8 := 7; let bs : List Byte := tCell (mkHdr 1 0 false false 4 0 1 1 0 0 0) (List.replicate 16 0);
    let idx : Nat := 0; let d : Dev := s.came dt; let e : Dev := (d.perfEvent 0x19 1 { k := 1 }).cellId.2;
    let m : Nat := e.extBlk (hBlk bs);
    let x : FwdEnt := { flow := 1, pri := 0, bkp := 0, mc := false, loc := true, ctx := 0, dedup := false, revert := false };
    decide ((s.came dt).heldReset = false ∧ d.lActive l = true ∧ hdrOk 1 bs = true ∧ crcState bs = 0 ∧ hType bs = 0 ∧ hFlow bs ≠ 0 ∧
    e.lookup (hFlow bs) = some (idx, x) ∧ x.dedup = false ∧ x.egress e.upMask = 0 ∧ x.loc = true ∧ e.get FLOW_CFG.KIND x.ctx = 1 ∧
    e.running = true ∧ later32 m (e.cyc.k + 1) = false ∧ hCidx bs < e.ctxNc x.ctx ∧ 4 * hLenw bs = e.cellLen x.ctx (hCidx bs) ∧
    later32 e.cyc.k (m + (e.get FLOW_CFG.PRES x.ctx + e.get FLOW_CFG.HOLD x.ctx)) = false ∧ (∀ g ∈ (e.ctx x.ctx).got, ¬ (g.1 = m ∧
    g.2.1 = hCidx bs)))) = true)
    ∧ ((let s : State := witState (fun d => (((d.put HLK_STAT.STATE 3 7).put HFB_NODE.ID 0xFFE).put MGMT_RING_CFG.EN 1 7).put MGMT_RING_CFG.SIZE 7 7);
    let dt : Nat := 0; let l : Fin 8 := 7; let bulk : Bool := true;
    let bs : List Byte := tCell (mkHdr 3 0 false false 0 0 0xF0FFE 1 0 0 0) (List.replicate 0 0);
    let soc : Nat := (if bulk = true then 3 else 2); let d : Dev := s.came dt;
    let e : Dev := (d.perfEvent 0x19 1 { k := soc }).cellId.2;
    let g : Dev := (e.ringPush (64 + l) 1 0 l 0 (bs.take 16 ++ cellPay bs)).2; decide ((s.came dt).heldReset = false ∧
    d.lActive l = true ∧ hdrOk soc bs = true ∧ crcState bs = 0 ∧ badType bs = false ∧ hFlow bs = 0xF0000 + e.nodeId ∧
    hFlow bs ≠ 0xFFFFF ∧ e.nodeId ≠ 0 ∧ e.ringFill (64 + l) < e.ringSize (64 + l) * (if bulk = true then e.bulkHw else e.ctrlHw) / 8 ∧
    e.ringPush (64 + l) 1 0 l 0 (bs.take 16 ++ cellPay bs) = (true, g))) = true)
    ∧ ((let s : State := witState (fun d => let d := (d.put HLK_STAT.STATE 3 7).put HFB_ADJ.STATE 2 0;
    { d with hfb := { d.hfb with fwd := [(0, { flow := 1, pri := 1, bkp := 0, mc := false, loc := false, ctx := 0, dedup := false, revert := false })] } });
    let dt : Nat := 0; let l : Fin 8 := 7; let bulk : Bool := true;
    let bs : List Byte := tCell (mkHdr 3 0 false false 0 0 1 1 0 0 0) (List.replicate 0 0);
    let soc : Nat := (if bulk = true then 3 else 2); let idx : Nat := 0;
    let x : FwdEnt := { flow := 1, pri := 1, bkp := 0, mc := false, loc := false, ctx := 0, dedup := false, revert := false };
    let d : Dev := s.came dt; let e : Dev := (d.perfEvent 0x19 1 { k := soc }).cellId.2; decide ((s.came dt).heldReset = false ∧
    d.lActive l = true ∧ hdrOk soc bs = true ∧ crcState bs = 0 ∧ hFlow bs ≠ 0 ∧ hFlow bs ≠ 0xFFFFF ∧ hFlow bs ≠ 0xF0000 + e.nodeId ∧
    e.lookup (hFlow bs) = some (idx, x) ∧ x.dedup = false ∧ x.loc = false ∧ x.egress e.upMask ≠ 0 ∧ bitOf (x.egress e.upMask) l = 0 ∧
    hTtl bs ≠ 0)) = true) := by
  decide +kernel

/-- The hypotheses of `EveryStepKeepsCanonicalForm` are met together, by a state with a byte in memory and a register off its reset word. -/
theorem witness_EveryStepKeepsCanonicalForm :
    ∃ s t : State, s.dev.mem ≠ [] ∧ s.dev.regs ≠ [] ∧ s.Canon ∧ step s = .next t :=
  ⟨{ dev := { mem := [⟨4, 1⟩], regs := [(0x41008, 1)] }, pending := [.idcode 0] }, _, by decide, by decide, ⟨by decide, by simp [Rising]⟩, rfl⟩

end Sys2Proof.Tests
end

section
/-! Discarded words of the chunk buffer (R27): a write while READY is 0 is noted in `gap`, the next chunk handed over carries the
note, and its arrival ends the attempt. -/

namespace Sys2Proof.Machine

/-- A one-bit field that has been set reads 1. -/
theorem Dev.is_put_one (d : Dev) (f : FRef) (i j : Nat) (h : f.hi < 32) (hw : f.hi = f.lo) : (d.put f 1 i j).is f i j = true := by
  have e : f.hi + 1 - f.lo = 1 := by omega
  simp [Dev.is, Dev.get_put_same d f 1 i j h hw.ge, e]

/-- No word of the chunk buffer shares its address with the load status. -/
theorem chunk_addr_ne_loadStatus (k : Nat) : SYS_CHUNK.addr k 0 ≠ SYS_LOAD_STATUS.addr 0 0 := by
  simp only [Reg.addr, SYS_CHUNK, SYS_LOAD_STATUS]; omega

theorem Dev.chunkWrite_of_not_ready {d : Dev} (i : Nat) (w : Word) (h : d.is SYS_LOAD_STATUS.READY = false) :
    d.chunkWrite i w = (d.setBoot { d.boot with gap := true }).put SYS_LOAD_STATUS.ERROR 1 := by
  simp [Dev.chunkWrite, h]

/-- A write of a word of the chunk buffer goes to the loader. -/
theorem Dev.regWrite_chunk (d : Dev) (port i : Nat) (w : Word) : d.regWrite port SYS_CHUNK i 0 w none = d.chunkWrite i w := by
  have hblk : SYS_CHUNK.blk = 0 := by decide
  have h1 : (SYS_CHUNK == SYS_STAGE_CTRL) = false := by decide
  have h2 : (SYS_CHUNK == SYS_SWAP_CTRL) = false := by decide
  have h3 : (SYS_CHUNK == SYS_LOAD_CTRL) = false := by decide
  simp [Dev.regWrite, hblk, Dev.sysWrite, h1, h2, h3]

/-- A served write of a word of the chunk buffer is counted and does what the loader makes of it. -/
theorem exec_chunkWrite_of_served {s : State} {p : Port} (i : Fin 8192) (w : Word) (h : s.served p) :
    exec (.chunkWrite p i w) s = s.ends s.dev ((s.counted p (SYS_CHUNK.addr i 0)).chunkWrite i w) := by
  have hm : SYS_CHUNK ∈ regsOfBlock 0 := by decide
  rw [exec_chunkWrite, State.after_write h hm i.isLt Nat.one_pos (by decide), Dev.regWrite_chunk]

/-- While READY is 0 a write leaves every word of the chunk buffer. -/
theorem Dev.rd_chunk_chunkWrite_of_not_ready {d : Dev} (i : Nat) (w : Word) (k : Nat) (h : d.is SYS_LOAD_STATUS.READY = false) :
    (d.chunkWrite i w).rd SYS_CHUNK k = d.rd SYS_CHUNK k := by
  rw [Dev.chunkWrite_of_not_ready i w h]
  exact Dev.rd_wr_addr_ne (d.setBoot { d.boot with gap := true }) _ (chunk_addr_ne_loadStatus k)

theorem Dev.is_error_chunkWrite_of_not_ready {d : Dev} (i : Nat) (w : Word) (h : d.is SYS_LOAD_STATUS.READY = false) :
    (d.chunkWrite i w).is SYS_LOAD_STATUS.ERROR = true := by
  rw [Dev.chunkWrite_of_not_ready i w h]
  exact Dev.is_put_one _ SYS_LOAD_STATUS.ERROR 0 0 (by decide) rfl

theorem Dev.gap_chunkWrite_of_not_ready {d : Dev} (i : Nat) (w : Word) (h : d.is SYS_LOAD_STATUS.READY = false) :
    (d.chunkWrite i w).boot.gap = true := by
  rw [Dev.chunkWrite_of_not_ready i w h]
  rfl

/-- A chunk handed over within an attempt carries the note that words were discarded. -/
theorem Dev.loadChunk_chunk_of_ready {d : Dev} {len : Nat} (last : Bool) (hl : len ≠ 0) (hr : d.is SYS_LOAD_STATUS.READY = true)
    (hh : d.boot.host = true) (hs : d.boot.step = 2) :
    (d.loadChunk len last).boot.chunk = some (min len 0x8000, last, d.boot.gap) := by
  simp [Dev.loadChunk, Dev.setBoot, hl, hr, hh, hs]

/-- The arrival of a chunk that lacks discarded bytes ends the attempt with reason 0x05. -/
theorem Dev.chunkArrive_of_lacks {d : Dev} {n : Nat} {last : Bool} (hc : d.boot.chunk = some (n, last, true))
    (ha : d.boot.arrived = false) :
    d.chunkArrive = (d.setBoot { d.boot with arrived := true, img := d.boot.img ++ d.chunkBytes n }).failAttempt 5 := by
  simp [Dev.chunkArrive, hc, ha]

/-- Settles O49: the note of the discarded words goes from the write to the chunk, and from the chunk to the end of the attempt. The
chunk's length is cut to the 0x8000 bytes of the buffer, which is the model's choice (log entry 66). -/
theorem discardedChunkWordsEndTheAttempt : Obligations.DiscardedChunkWordsEndTheAttempt := by
  unfold Obligations.DiscardedChunkWordsEndTheAttempt
  refine ⟨?write, ?handOver, ?arrival⟩
  case write =>
    intro s p i k w c e hc hs hr he
    rw [he]
    refine ⟨?_, Dev.rd_chunk_chunkWrite_of_not_ready i w k hr, Dev.is_error_chunkWrite_of_not_ready i w hr,
      Dev.gap_chunkWrite_of_not_ready i w hr⟩
    rw [hc]
    exact exec_chunkWrite_of_served i w hs
  case handOver =>
    intro d len last hl hr hh hst
    exact Dev.loadChunk_chunk_of_ready last hl hr hh hst
  case arrival =>
    intro d e n last hc ha he
    rw [he]
    exact Dev.chunkArrive_of_lacks hc ha

end Sys2Proof.Machine
end

section
/-! The identification register (R409). The test block stands apart from the resets (R319, R408): no reset that a command calls for, and
nothing that follows it in the other blocks, changes what the TAP has selected. One lemma for each function that a due reset runs, in the
order of the model, says that it leaves `Dev.testSt` alone; so the register stands, after the resets of the command IDCODE, as the command
has selected it. -/

namespace Sys2Proof.Machine

/-- The state of the test block, under a name of its own: of two terms `d.testSt` the kernel compares the devices first, where of two
projections `d.test` it computes the devices, which runs the model on addresses it can only count up to. For the same reason the laws
below are closed by `(rfl)`: in parentheses `simp` rewrites with them and does not leave them to computation. -/
def Dev.testSt (d : Dev) : TestSt := d.test

theorem Dev.testSt_eq_test (d : Dev) : d.testSt = d.test := rfl

section

variable (d o : Dev)

/-! ### The shapes in which steps are put together -/

@[simp] theorem Dev.testSt_ite (c : Prop) [Decidable c] (a b : Dev) : (if c then a else b).testSt = if c then a.testSt else b.testSt :=
  apply_ite Dev.testSt c a b

@[simp] theorem Dev.testSt_ite_snd {α : Type} (c : Prop) [Decidable c] (a b : α × Dev) :
    (if c then a else b).2.testSt = if c then a.2.testSt else b.2.testSt :=
  apply_ite (fun x : α × Dev => x.2.testSt) c a b

theorem forN_testSt (n : Nat) {f : Nat → Dev → Dev} (h : ∀ k d, (f k d).testSt = d.testSt) : (forN n f d).testSt = d.testSt := by
  induction n with
  | zero => rfl
  | succ n ih => exact (h n _).trans ih

theorem foldl_testSt {α : Type} (l : List α) {f : Dev → α → Dev} (h : ∀ d x, (f d x).testSt = d.testSt) :
    (l.foldl f d).testSt = d.testSt := by
  induction l generalizing d with
  | nil => rfl
  | cons x l ih => exact (ih _).trans (h d x)

/-! ### Updates of the other parts of the device -/

@[simp] theorem Dev.with_flt_testSt (x : FltSt) : { d with flt := x }.testSt = d.testSt := (rfl)
@[simp] theorem Dev.with_free_testSt (x : Nat) : { d with free := x }.testSt = d.testSt := (rfl)
@[simp] theorem Dev.with_mgmt_testSt (x : MgmtSt) : { d with mgmt := x }.testSt = d.testSt := (rfl)
@[simp] theorem Dev.with_time_testSt (x : TimeSt) : { d with time := x }.testSt = d.testSt := (rfl)
@[simp] theorem Dev.with_rcu_testSt (x : RcuSt) : { d with rcu := x }.testSt = d.testSt := (rfl)
@[simp] theorem Dev.with_dllLost_testSt (x : List Nat) : { d with dllLost := x }.testSt = d.testSt := (rfl)
@[simp] theorem Dev.with_dll_dllLost_testSt (x : Tab DllSt) (y : List Nat) : { d with dll := x, dllLost := y }.testSt = d.testSt := (rfl)
@[simp] theorem Dev.with_xpt_testSt (x : XptSt) : { d with xpt := x }.testSt = d.testSt := (rfl)
@[simp] theorem Dev.with_psm_testSt (x : PsmSt) : { d with psm := x }.testSt = d.testSt := (rfl)
@[simp] theorem Dev.with_cyc_testSt (x : CycSt) : { d with cyc := x }.testSt = d.testSt := (rfl)
@[simp] theorem Dev.with_sap_sapG_testSt (x : Tab SapSt) (y : Tab SapGrp) : { d with sap := x, sapG := y }.testSt = d.testSt := (rfl)
@[simp] theorem Dev.with_hfb_testSt (x : HfbSt) : { d with hfb := x }.testSt = d.testSt := (rfl)
@[simp] theorem Dev.with_pair_testSt (x : PairSt) : { d with pair := x }.testSt = d.testSt := (rfl)
@[simp] theorem Dev.with_thk_testSt (x : ThkSt) : { d with thk := x }.testSt = d.testSt := (rfl)

/-! ### Registers, memory, timers and vectors -/

@[simp] theorem Dev.put_testSt (f : FRef) (v i j : Nat) : (d.put f v i j).testSt = d.testSt := d.put_test f v i j
@[simp] theorem Dev.setBytes_testSt (a : Nat) (bs : List Byte) : (d.setBytes a bs).testSt = d.testSt := d.setBytes_test a bs
@[simp] theorem Dev.clearRange_testSt (lo hi : Nat) : (d.clearRange lo hi).testSt = d.testSt := d.clearRange_test lo hi
@[simp] theorem Dev.emit_testSt (e : Emit) : (d.emit e).testSt = d.testSt := d.emit_test e
@[simp] theorem Dev.draw_testSt : d.draw.2.testSt = d.testSt := d.draw_test
@[simp] theorem Dev.addDue_testSt (x : Due) : (d.addDue x).testSt = d.testSt := d.addDue_test x
@[simp] theorem Dev.pins_testSt : d.pins.testSt = d.testSt := d.pins_test
@[simp] theorem Dev.setBit_testSt (f : FRef) (b i j : Nat) : (d.setBit f b i j).testSt = d.testSt := (rfl)
@[simp] theorem Dev.clrBit_testSt (f : FRef) (b i j : Nat) : (d.clrBit f b i j).testSt = d.testSt := by simp [Dev.clrBit]
@[simp] theorem Dev.inc_testSt (f : FRef) (i j : Nat) : (d.inc f i j).testSt = d.testSt := (rfl)
@[simp] theorem Dev.startTimer_testSt (t : Timer) (i : Nat) : (d.startTimer t i).testSt = d.testSt := (rfl)
@[simp] theorem Dev.stopTimer_testSt (t : Timer) (i : Nat) : (d.stopTimer t i).testSt = d.testSt := (rfl)
@[simp] theorem Dev.setPending_testSt (v : Nat) (on : Bool) : (d.setPending v on).testSt = d.testSt := (rfl)
@[simp] theorem Dev.msixTry_testSt (v : Nat) : (d.msixTry v).testSt = d.testSt := by simp [Dev.msixTry]
@[simp] theorem Dev.raiseVecTo_testSt (v : Nat) (host core : Bool) : (d.raiseVecTo v host core).testSt = d.testSt := by
  simp [Dev.raiseVecTo]
@[simp] theorem Dev.raiseVec_testSt (v : Nat) : (d.raiseVec v).testSt = d.testSt := by simp [Dev.raiseVec]

/-! ### Rings -/

@[simp] theorem Dev.ringSet_testSt (q wr rd : Nat) : (d.ringSet q wr rd).testSt = d.testSt := by simp [Dev.ringSet, Dev.putFill]
@[simp] theorem Dev.ringNotify_testSt (q : Nat) : (d.ringNotify q).testSt = d.testSt := by simp [Dev.ringNotify]
@[simp] theorem Dev.ringPad_testSt (q : Nat) : (d.ringPad q).testSt = d.testSt := by simp [Dev.ringPad, Dev.ringSeqNext]
@[simp] theorem Dev.ringPush_testSt (q kind flags aux0 aux1 : Nat) (pay : List Byte) :
    (d.ringPush q kind flags aux0 aux1 pay).2.testSt = d.testSt := by
  unfold Dev.ringPush
  split
  · simp
  · simp [Dev.ringSeqNext]

/-! ### Faults: what a raised source records and calls for -/

@[simp] theorem Dev.setSev_testSt (n : Nat) (on : Bool) : (d.setSev n on).testSt = d.testSt := (rfl)
@[simp] theorem Dev.setErrh_testSt (n : Nat) : (d.setErrh n).testSt = d.testSt := (rfl)
@[simp] theorem Dev.fltSetState_testSt (n st : Nat) : (d.fltSetState n st).testSt = d.testSt := by simp [Dev.fltSetState]
@[simp] theorem Dev.fltPush_testSt (n flags cause : Nat) : (d.fltPush n flags cause).2.testSt = d.testSt := by simp [Dev.fltPush]
@[simp] theorem Dev.fecCapture_testSt (n : Nat) (a : Access) : (d.fecCapture n a).testSt = d.testSt := by simp [Dev.fecCapture]
@[simp] theorem Dev.react_testSt (n bits : Nat) (errh : Bool) (kind : Nat) : (d.react n bits errh kind).testSt = d.testSt := by
  simp [Dev.react, Dev.reactI]
@[simp] theorem Dev.senseVbus_testSt : d.senseVbus.testSt = d.testSt := by simp [Dev.senseVbus, Dev.draw]
@[simp] theorem Dev.senseTj_testSt : d.senseTj.testSt = d.testSt := by simp [Dev.senseTj, Dev.draw]
@[simp] theorem Dev.graveLatch_testSt (n : Nat) (c : Bool) : (d.graveLatch n c).testSt = d.testSt := by simp [Dev.graveLatch]
@[simp] theorem Dev.reactOnce_testSt (n bits : Nat) (inj : Bool) : (d.reactOnce n bits inj).2.testSt = d.testSt := (rfl)
@[simp] theorem Dev.fltConseq_testSt (n cause : Nat) (rec : Bool) : (d.fltConseq n cause rec).2.testSt = d.testSt := by
  unfold Dev.fltConseq
  dsimp only
  split
  · simp
  · split <;> simp
@[simp] theorem Dev.fltCounted_testSt (n : Nat) (a : Access) (rec capture : Bool) : (d.fltCounted n a rec capture).2.testSt = d.testSt := by
  simp [Dev.fltCounted]
@[simp] theorem Dev.raise0_testSt (n : Nat) (a : Access) (rec capture : Bool) : (d.raise0 n a rec capture).2.testSt = d.testSt := by
  unfold Dev.raise0
  split
  · exact d.fltConseq_testSt n _ rec
  · exact d.fltCounted_testSt n a rec capture
@[simp] theorem Dev.raise1_testSt (n : Nat) (a : Access) (capture : Bool) : (d.raise1 n a capture).testSt = d.testSt := by
  unfold Dev.raise1
  have h := d.raise0_testSt n a true capture
  split
  next e he => simpa [he] using h
  next e he => simpa [he] using h
@[simp] theorem Dev.raiseAt_testSt (n : Nat) (a : Access) : (d.raiseAt n a).testSt = d.testSt := by simp [Dev.raiseAt]
@[simp] theorem Dev.raise_testSt (n : Nat) : (d.raise n).testSt = d.testSt := by simp [Dev.raise]
@[simp] theorem Dev.corrected_testSt (n : Nat) (a : Access) : (d.corrected n a).testSt = d.testSt := by simp [Dev.corrected]
@[simp] theorem Dev.eccRead_testSt (a cor unc master : Nat) : (d.eccRead a cor unc master).2.testSt = d.testSt := by simp [Dev.eccRead]

/-! ### Time bases, servos and alarms -/

@[simp] theorem Dev.setTb_testSt (t : Nat) (b : TbSt) : (d.setTb t b).testSt = d.testSt := (rfl)
@[simp] theorem Dev.setAdj_testSt (t : Nat) (z : Int) : (d.setAdj t z).testSt = d.testSt := by simp [Dev.setAdj]
@[simp] theorem Dev.almArm_testSt (a sec ns sub : Nat) : (d.almArm a sec ns sub).testSt = d.testSt :=
  (Dev.with_time_testSt (d.put TIME_ALM_CFG.ARMED 1 a) _).trans (d.put_testSt TIME_ALM_CFG.ARMED 1 a 0)
@[simp] theorem Dev.almDisarm_testSt (a : Nat) : (d.almDisarm a).testSt = d.testSt := by simp [Dev.almDisarm]
@[simp] theorem Dev.servoMove_testSt (t st : Nat) : (d.servoMove t st).testSt = d.testSt := by simp [Dev.servoMove]
@[simp] theorem Dev.servosFree_testSt : d.servosFree.testSt = d.testSt := forN_testSt d 4 fun t d => d.servoMove_testSt t 0
@[simp] theorem Dev.timeBlockReset_testSt : d.timeBlockReset.testSt = d.testSt := by
  unfold Dev.timeBlockReset
  refine (forN_testSt _ 32 fun a d => ?_).trans (forN_testSt d 4 fun t d => d.servoMove_testSt t 0)
  simp
@[simp] theorem Dev.timeChipReset_testSt : d.timeChipReset.testSt = d.testSt := by
  unfold Dev.timeChipReset
  exact (Dev.with_time_testSt _ _).trans (forN_testSt d 4 fun t d => d.setTb_testSt t _)

/-! ### Reference loops -/

@[simp] theorem Dev.setLoop_testSt (k : Nat) (l : LoopSt) : (d.setLoop k l).testSt = d.testSt := (rfl)
@[simp] theorem Dev.loopBits_testSt (k : Nat) : (d.loopBits k).testSt = d.testSt := by simp [Dev.loopBits]
@[simp] theorem Dev.loopHvalid_testSt (k : Nat) : (d.loopHvalid k).testSt = d.testSt := by simp [Dev.loopHvalid]
@[simp] theorem Dev.loopTo_testSt (k st : Nat) : (d.loopTo k st).testSt = d.testSt := by simp [Dev.loopTo]
@[simp] theorem Dev.setBw_testSt (k bw : Nat) : (d.setBw k bw).testSt = d.testSt := by simp [Dev.setBw]
@[simp] theorem Dev.setFine_testSt (k w : Nat) : (d.setFine k w).testSt = d.testSt := by simp [Dev.setFine]
@[simp] theorem Dev.control_testSt (k : Nat) : (d.control k).testSt = d.testSt := by simp [Dev.control, Dev.draw]
@[simp] theorem Dev.applyBand_testSt (k b : Nat) (trials : List Nat) : (d.applyBand k b trials).testSt = d.testSt := by
  simp [Dev.applyBand]
@[simp] theorem Dev.searchFail_testSt (k : Nat) : (d.searchFail k).testSt = d.testSt := by simp [Dev.searchFail]
@[simp] theorem Dev.searchBegin_testSt (k : Nat) : (d.searchBegin k).testSt = d.testSt := by
  unfold Dev.searchBegin
  dsimp only
  split
  · simp
  · split <;> simp
@[simp] theorem Dev.limitFine_testSt (k : Nat) : (d.limitFine k).testSt = d.testSt := by simp [Dev.limitFine]
@[simp] theorem Dev.toSearch_testSt (k : Nat) : (d.toSearch k).testSt = d.testSt := by simp [Dev.toSearch]
@[simp] theorem Dev.holdAt_testSt (k r : Nat) : (d.holdAt k r).testSt = d.testSt := by simp [Dev.holdAt]
@[simp] theorem Dev.toFreerun_testSt (k : Nat) : (d.toFreerun k).testSt = d.testSt := by simp [Dev.toFreerun]
@[simp] theorem Dev.putPhase_testSt (k : Nat) (ps : Int) : (d.putPhase k ps).testSt = d.testSt := by simp [Dev.putPhase]
@[simp] theorem Dev.beginPull_testSt (k : Nat) : (d.beginPull k).testSt = d.testSt := by simp [Dev.beginPull]
@[simp] theorem Dev.ratioMean_testSt (k : Nat) : (d.ratioMean k).2.testSt = d.testSt := by
  unfold Dev.ratioMean
  dsimp only
  split
  · exact d.draw_testSt
  · rfl
/-- The definition is unfolded before it is applied, and the device after `loopTo` made opaque, so that the kernel does not decide the test
of HVALID on which the body matches. -/
@[simp] theorem Dev.toHoldover_testSt (k : Nat) : (d.toHoldover k).testSt = d.testSt := by
  generalize hF : Dev.toHoldover = F
  delta Dev.toHoldover at hF
  subst hF
  beta_reduce
  obtain ⟨e, he⟩ : ∃ e, e = d.loopTo k 7 := ⟨_, rfl⟩
  have h : e.testSt = d.testSt := by rw [he, Dev.loopTo_testSt]
  rw [← he]
  simp [h]
@[simp] theorem Dev.toAcquire_testSt (k : Nat) : (d.toAcquire k).testSt = d.testSt := by simp [Dev.toAcquire]
@[simp] theorem Dev.selAct_testSt (k new : Nat) : (d.selAct k new).testSt = d.testSt := by
  unfold Dev.selAct
  dsimp only
  split <;> simp
@[simp] theorem Dev.selLoop_testSt (k : Nat) : (d.selLoop k).testSt = d.testSt := by simp [Dev.selLoop]
@[simp] theorem Dev.conflictUpdate_testSt : d.conflictUpdate.testSt = d.testSt := by
  unfold Dev.conflictUpdate
  refine (foldl_testSt _ _ fun d _ => ?_).trans ((Dev.with_rcu_testSt _ _).trans (d.put_testSt RCU_CONFLICT.C _ 0 0))
  simp
@[simp] theorem Dev.qualUpdate_testSt : d.qualUpdate.testSt = d.testSt :=
  (forN_testSt _ 4 fun k d => d.selLoop_testSt k).trans d.conflictUpdate_testSt
@[simp] theorem Dev.setCand_testSt (c st : Nat) : (d.setCand c st).testSt = d.testSt := by simp [Dev.setCand]
@[simp] theorem Dev.xoLoss_testSt : d.xoLoss.testSt = d.testSt := by
  unfold Dev.xoLoss
  rw [Dev.raise_testSt, Dev.raise_testSt]
  refine (forN_testSt _ 4 fun k d => ?_).trans (d.startTimer_testSt .xoLost 0)
  simp
@[simp] theorem Dev.candDisq_testSt (c : Nat) (freq : Bool) : (d.candDisq c freq).testSt = d.testSt := by simp [Dev.candDisq]
@[simp] theorem Dev.rcuSync_testSt : d.rcuSync.testSt = d.testSt := by
  refine forN_testSt d 17 fun c d => ?_
  simp
@[simp] theorem Dev.rcuStepped_testSt (t : Nat) : (d.rcuStepped t).testSt = d.testSt := by
  refine forN_testSt d 4 fun k d => ?_
  simp
@[simp] theorem Dev.rcuBlockReset_testSt : (d.rcuBlockReset o).testSt = d.testSt := by
  unfold Dev.rcuBlockReset
  refine (forN_testSt _ 4 fun k d => ?loop).trans ?cands
  case loop => simp
  case cands =>
    rw [Dev.put_testSt, Dev.put_testSt]
    exact forN_testSt _ 16 fun c d => d.setCand_testSt (c + 1) 0

/-! ### DLLs -/

@[simp] theorem Dev.dllTo_testSt (x st : Nat) : (d.dllTo x st).testSt = d.testSt := by simp [Dev.dllTo]
@[simp] theorem Dev.alnSync_testSt : d.alnSync.testSt = d.testSt := by
  refine forN_testSt d 28 fun x d => ?_
  simp
@[simp] theorem Dev.alnBlockReset_testSt : (d.alnBlockReset o).testSt = d.testSt := by
  unfold Dev.alnBlockReset
  refine (forN_testSt _ 28 fun x d => ?_).trans (d.with_dll_dllLost_testSt [] d.dllLost)
  simp only [Dev.testSt_ite, Dev.with_dllLost_testSt, Dev.startTimer_testSt, Dev.put_testSt, ite_self]

/-! ### Converters and crosspoint -/

@[simp] theorem Dev.asrcBlockReset_testSt : d.asrcBlockReset.testSt = d.testSt := (rfl)
@[simp] theorem Dev.setSlot_testSt (s : Nat) (x : XSlot) : (d.setSlot s x).testSt = d.testSt := (rfl)
@[simp] theorem Dev.applySteps_testSt (ps : List XPend) : (d.applySteps ps).testSt = d.testSt :=
  foldl_testSt d ps fun d p => d.setSlot_testSt p.slot _
@[simp] theorem Dev.putStaged_testSt : d.putStaged.testSt = d.testSt := by simp [Dev.putStaged]
@[simp] theorem Dev.xptFinish_testSt : d.xptFinish.testSt = d.testSt := by simp [Dev.xptFinish, Dev.putFades]
@[simp] theorem Dev.xptBlockReset_testSt : d.xptBlockReset.testSt = d.testSt := by simp [Dev.xptBlockReset]

/-! ### Power stages -/

@[simp] theorem Dev.setPch_testSt (n : Nat) (c : PsmCh) : (d.setPch n c).testSt = d.testSt := (rfl)
@[simp] theorem Dev.setPgrp_testSt (g : Nat) (x : PsmGrp) : (d.setPgrp g x).testSt = d.testSt := (rfl)
@[simp] theorem Dev.sleepBits_testSt (g : Nat) : (d.sleepBits g).testSt = d.testSt := by simp [Dev.sleepBits]
@[simp] theorem Dev.setCState_testSt (n st : Nat) : (d.setCState n st).testSt = d.testSt := by simp [Dev.setCState]
@[simp] theorem Dev.setGState_testSt (g st : Nat) : (d.setGState g st).testSt = d.testSt := by simp [Dev.setGState]
@[simp] theorem Dev.setPsen_testSt (g : Nat) (on : Bool) : (d.setPsen g on).testSt = d.testSt := by simp [Dev.setPsen]
theorem Dev.eachCh_testSt (g : Nat) {f : Nat → Dev → Dev} (h : ∀ n d, (f n d).testSt = d.testSt) : (d.eachCh g f).testSt = d.testSt :=
  forN_testSt d 8 fun j => h (8 * g + j)
@[simp] theorem Dev.chansOff_testSt (g : Nat) : (d.chansOff g).testSt = d.testSt := by
  refine d.eachCh_testSt g fun n d => ?_
  simp
@[simp] theorem Dev.diagNone_testSt (g : Nat) : (d.diagNone g).testSt = d.testSt := by
  refine d.eachCh_testSt g fun n d => ?_
  simp
@[simp] theorem Dev.groupDown_testSt (g st : Nat) : (d.groupDown g st).testSt = d.testSt := by simp [Dev.groupDown]
@[simp] theorem Dev.psmDllLost_testSt (g : Nat) : (d.psmDllLost g).testSt = d.testSt := by simp [Dev.psmDllLost]
@[simp] theorem Dev.psmBlockReset_testSt : d.psmBlockReset.testSt = d.testSt := by
  unfold Dev.psmBlockReset
  refine (Dev.with_psm_testSt _ _).trans (forN_testSt d 4 fun g d => ?_)
  simp
@[simp] theorem Dev.psmGrave_testSt : d.psmGrave.testSt = d.testSt := by
  refine forN_testSt d 4 fun g d => ?_
  simp

/-! ### The alarms of the block cycle, serial ports and their groups -/

@[simp] theorem Dev.armOwned_testSt (a k : Nat) : (d.armOwned a k).testSt = d.testSt := by simp [Dev.armOwned]
@[simp] theorem Dev.armCycle_testSt : d.armCycle.testSt = d.testSt := by simp [Dev.armCycle]
@[simp] theorem Dev.setPort_testSt (p : Nat) (x : SapSt) : (d.setPort p x).testSt = d.testSt := (rfl)
@[simp] theorem Dev.setSapGrp_testSt (k : Nat) (x : SapGrp) : (d.setSapGrp k x).testSt = d.testSt := (rfl)
@[simp] theorem Dev.setPState_testSt (p st : Nat) : (d.setPState p st).testSt = d.testSt := by simp [Dev.setPState]
@[simp] theorem Dev.grpArm_testSt (k : Nat) : (d.grpArm k).testSt = d.testSt := by
  unfold Dev.grpArm
  split
  · rfl
  · dsimp only
    split <;> simp
@[simp] theorem Dev.toPending_testSt (p : Nat) : (d.toPending p).testSt = d.testSt := by simp [Dev.toPending]
@[simp] theorem Dev.grpStart_testSt (k : Nat) : (d.grpStart k).testSt = d.testSt := by simp [Dev.grpStart]
@[simp] theorem Dev.slip_testSt (p : Nat) (event : Bool) : (d.slip p event).testSt = d.testSt := by simp [Dev.slip]
@[simp] theorem Dev.sapDllLost_testSt (p : Nat) : (d.sapDllLost p).testSt = d.testSt := by simp [Dev.sapDllLost]
@[simp] theorem Dev.sapRates_testSt : d.sapRates.testSt = d.testSt := by
  refine forN_testSt d 16 fun p d => ?_
  simp
@[simp] theorem Dev.sapBlockReset_testSt : d.sapBlockReset.testSt = d.testSt := by
  unfold Dev.sapBlockReset
  refine (forN_testSt _ 16 fun k d => ?group).trans ((forN_testSt _ 16 fun p d => ?port).trans
    ((Dev.sapRates_testSt _).trans (d.with_sap_sapG_testSt [] [])))
  case group => simp
  case port => simp
@[simp] theorem Dev.grpMissed_testSt (k : Nat) : (d.grpMissed k).testSt = d.testSt := by simp [Dev.grpMissed]

/-! ### Mesh links, flows and Ethernet -/

@[simp] theorem Dev.setLnk_testSt (l : Nat) (x : HlkSt) : (d.setLnk l x).testSt = d.testSt := (rfl)
@[simp] theorem Dev.freeWords_testSt (l cls n : Nat) : (d.freeWords l cls n).testSt = d.testSt := by simp [Dev.freeWords]
@[simp] theorem Dev.release_testSt (c : QCell) : (d.release c).testSt = d.testSt := by simp [Dev.release]
@[simp] theorem Dev.setLState_testSt (l st : Nat) : (d.setLState l st).testSt = d.testSt := by simp [Dev.setLState]
@[simp] theorem Dev.setAdj0_testSt (l : Nat) (x : AdjSt) : (d.setAdj0 l x).testSt = d.testSt := (rfl)
@[simp] theorem Dev.reroute_testSt (l : Nat) : (d.reroute l).testSt = d.testSt := by simp [Dev.reroute]
@[simp] theorem Dev.adjNone_testSt (l : Nat) (dead : Bool) : (d.adjNone l dead).testSt = d.testSt := by simp [Dev.adjNone]
@[simp] theorem Dev.flushLink_testSt (l : Nat) : (d.flushLink l).testSt = d.testSt := by
  refine (foldl_testSt _ _ fun d c => ?_).trans ?_
  · simp
  · simp
@[simp] theorem Dev.leaveActive_testSt (l : Nat) : (d.leaveActive l).testSt = d.testSt := by simp [Dev.leaveActive]
@[simp] theorem Dev.hlkBlockReset_testSt : (d.hlkBlockReset o).testSt = d.testSt := by
  refine forN_testSt d 8 fun l d => ?_
  simp
@[simp] theorem Dev.hfbBlockReset_testSt : (d.hfbBlockReset o).testSt = d.testSt :=
  foldl_testSt _ _ fun d l => d.reroute_testSt l
@[simp] theorem Dev.flowBlockReset_testSt : d.flowBlockReset.testSt = d.testSt := (rfl)
@[simp] theorem Dev.ethBlockReset_testSt : d.ethBlockReset.testSt = d.testSt := (rfl)

/-! ### Counters, Thicket and the management core -/

@[simp] theorem Dev.perfBlockReset_testSt : d.perfBlockReset.testSt = d.testSt := (rfl)
@[simp] theorem Dev.perfMgmtReset_testSt : d.perfMgmtReset.testSt = d.testSt := (rfl)
@[simp] theorem Dev.thkBlockReset_testSt : d.thkBlockReset.testSt = d.testSt := by
  unfold Dev.thkBlockReset
  refine (foldl_testSt _ _ fun d r => ?region).trans ((foldl_testSt _ _ fun d h => d.setBytes_testSt _ _).trans
    ((forN_testSt _ 64 fun m d => d.clearRange_testSt _ _).trans ?stage))
  case region => simp
  case stage => simp [Dev.putStagedStore]
@[simp] theorem Dev.mgmtReset_testSt : d.mgmtReset.testSt = d.testSt := by simp [Dev.mgmtReset]
@[simp] theorem Dev.putPend_testSt : d.putPend.testSt = d.testSt := by simp [Dev.putPend]

/-! ### The pair and the loader -/

@[simp] theorem Dev.setPair_testSt (p : PairSt) : (d.setPair p).testSt = d.testSt := (rfl)
@[simp] theorem Dev.setOwnOut_testSt (high : Bool) : (d.setOwnOut high).testSt = d.testSt := by simp [Dev.setOwnOut]
@[simp] theorem Dev.setRole_testSt (r : Nat) : (d.setRole r).testSt = d.testSt := by
  unfold Dev.setRole
  split
  · refine (forN_testSt _ 4 fun g d => ?_).trans (d.put_testSt PAIR_STAT.ROLE r 0 0)
    simp
  · exact d.put_testSt PAIR_STAT.ROLE r 0 0
@[simp] theorem Dev.releaseNow_testSt : d.releaseNow.testSt = d.testSt := by simp [Dev.releaseNow]
@[simp] theorem Dev.pairFail_testSt : d.pairFail.testSt = d.testSt := by simp [Dev.pairFail]
@[simp] theorem Dev.diverge_testSt : d.diverge.testSt = d.testSt := by simp [Dev.diverge]
@[simp] theorem Dev.pairLinkDown_testSt : d.pairLinkDown.testSt = d.testSt := by simp [Dev.pairLinkDown]
@[simp] theorem Dev.pairBlockReset_testSt : d.pairBlockReset.testSt = d.testSt := by simp [Dev.pairBlockReset]
@[simp] theorem Dev.setBoot_testSt (b : BootSt) : (d.setBoot b).testSt = d.testSt := (rfl)
@[simp] theorem Dev.discardStaged_testSt (s : Nat) : (d.discardStaged s).testSt = d.testSt := by
  simp only [Dev.discardStaged, Dev.setSlotState, Dev.setSlotImg, Dev.put_testSt, Dev.setBoot_testSt]
@[simp] theorem Dev.stageAbort_testSt : d.stageAbort.testSt = d.testSt := by simp [Dev.stageAbort]
@[simp] theorem Dev.swapCancel_testSt : d.swapCancel.testSt = d.testSt := by simp [Dev.swapCancel]

/-! ### What follows a change of a clock -/

@[simp] theorem Dev.keepRegs_testSt (p : Reg → Bool) : (d.keepRegs p).testSt = d.testSt := (rfl)
@[simp] theorem Dev.missedAlarms_testSt : d.missedAlarms.testSt = d.testSt := by
  unfold Dev.missedAlarms
  refine (forN_testSt _ 16 fun k d => ?group).trans ?cycle
  case group => simp
  case cycle => simp
@[simp] theorem Dev.stepSettle_testSt (t : Nat) : (d.stepSettle t).testSt = d.testSt := by simp [Dev.stepSettle]
@[simp] theorem Dev.dllSettle_testSt : d.dllSettle.testSt = d.testSt := by
  refine foldl_testSt _ _ fun d x => ?_
  simp
@[simp] theorem Dev.clockSync_testSt : d.clockSync.testSt = d.testSt := by
  unfold Dev.clockSync
  rw [Dev.dllSettle_testSt, Dev.alnSync_testSt, Dev.rcuSync_testSt]
  exact foldl_testSt _ _ fun d t => d.stepSettle_testSt t

/-! ### The resets -/

@[simp] theorem Dev.shadowOpen_testSt (b cause : Nat) : (d.shadowOpen b cause).testSt = d.testSt := by simp [Dev.shadowOpen, Dev.putBusy]
@[simp] theorem Dev.blockResetEffect_testSt (b : Nat) : (d.blockResetEffect o b).testSt = d.testSt := by
  unfold Dev.blockResetEffect
  split <;> simp
@[simp] theorem Dev.mgmtBegin_testSt (cause : Nat) : (d.mgmtBegin cause).testSt = d.testSt := by simp [Dev.mgmtBegin]
@[simp] theorem Dev.blockReset_testSt (b cause : Nat) (resync : Bool) : (d.blockReset b cause resync).testSt = d.testSt := by
  simp [Dev.blockReset]
@[simp] theorem Dev.loadFixed_testSt : d.loadFixed.testSt = d.testSt := by
  simp only [Dev.loadFixed, Dev.put_testSt, Dev.eccRead_testSt]
@[simp] theorem Dev.fuseCheck_testSt : d.fuseCheck.testSt = d.testSt := by simp [Dev.fuseCheck]
@[simp] theorem Dev.psfltKeep_testSt : (d.psfltKeep o).testSt = d.testSt := by
  refine forN_testSt d 4 fun g d => ?_
  simp
/-- A CHIP reset takes the test block over from the device before it (R319). -/
@[simp] theorem Dev.chipReset_testSt (cause : Option (Nat × Nat)) : (d.chipReset cause).testSt = d.testSt := by
  obtain ⟨e, he⟩ : ∃ e, e = d.servosFree.timeChipReset.keepRegs (fun r => r.dom == .por) := ⟨_, rfl⟩
  have h : e.testSt = d.testSt := by simp [he]
  unfold Dev.chipReset
  rw [← he]
  dsimp only
  split
  all_goals
    simp only [Dev.put_testSt, Dev.fuseCheck_testSt, Dev.psfltKeep_testSt, Dev.putPend_testSt, Dev.loadFixed_testSt,
      Dev.startTimer_testSt]
    exact h

/-! ### Once a command has been handled -/

@[simp] theorem Dev.settleOne_testSt (x : Due) : (d.settleOne x).testSt = d.testSt := by
  cases x with
  | block b cause => simp [Dev.settleOne]
  | chip src kind => simp [Dev.settleOne]
  | grave n => simp [Dev.settleOne]
  | mgmt => simp [Dev.settleOne]
@[simp] theorem Dev.settleN_testSt (n : Nat) : (d.settleN n).testSt = d.testSt := by
  induction n generalizing d with
  | zero => rfl
  | succ n ih =>
    unfold Dev.settleN
    split
    · rfl
    · rw [ih, Dev.settleOne_testSt, Dev.with_flt_testSt]
@[simp] theorem Dev.graveHold_testSt : d.graveHold.testSt = d.testSt := by simp [Dev.graveHold]
@[simp] theorem Dev.settle_testSt : d.settle.testSt = d.testSt := by simp [Dev.settle]

end

/-! ### IDCODE (R409) -/

theorem Dev.settle_test (d : Dev) : d.settle.test = d.test := by
  rw [← Dev.testSt_eq_test, Dev.settle_testSt, Dev.testSt_eq_test]

theorem Dev.tapIdcode_of_released {d : Dev} (h : d.pwr.por = false) :
    d.tapIdcode.test = { d.test with ir := 1, dr := 1, dreg := 0x110242AF, drive := false } := by
  simp [Dev.tapIdcode, Dev.tapObserve, Dev.tapLoad, h]

/-- The state that such a command answers, with its device kept opaque. -/
theorem State.settles_next (s : State) (e : Dev) : ∃ t : State, s.settles e = .next t ∧ t.dev = e.settle := ⟨_, rfl, rfl⟩

/-- Settles O50: with POR released the scan of IDCODE selects the identification register, and the resets then due leave the TAP as the
scan has left it. -/
theorem identificationRegisterReads : Obligations.IdentificationRegisterReads := by
  unfold Obligations.IdentificationRegisterReads
  intro s dt hpor
  obtain ⟨t, hnext, hdev⟩ := s.settles_next (s.came dt).tapIdcode
  have htest : t.dev.test = { (s.came dt).test with ir := 1, dr := 1, dreg := 0x110242AF, drive := false } := by
    rw [hdev, Dev.settle_test, Dev.tapIdcode_of_released hpor]
  refine ⟨t, ?_, ?_⟩
  · rw [exec_idcode, State.after_pin, hnext]
  · simp [htest]

end Sys2Proof.Machine
end

section
/-! The queue and the step, the reset state, and what a held reset lets through. -/

namespace Sys2Proof.Machine

/-! ### A command acts on the device and leaves the queue -/

/-- What a command makes of the device, whatever waits behind it. -/
def Instr.effect (c : Instr) (d : Dev) : Dev :=
  match exec c { dev := d } with
  | .next t => t.dev
  | _ => d

/-- Every command is one action on the device. -/
theorem exec_eq_after (c : Instr) (s : State) : exec c s = s.after (Instr.effect c) := by
  cases c <;> rfl

/-- Settles O3: every command is one action on the device, and leaves the queue. -/
theorem everyCommandAnswersNext : Obligations.EveryCommandAnswersNext := by
  unfold Obligations.EveryCommandAnswersNext
  intro c s
  exact ⟨Instr.effect c s.dev, exec_eq_after c s⟩

/-- Settles O1: the queue's rest is what the command at its front finds. -/
theorem stepRunsFrontCommand : Obligations.StepRunsFrontCommand := by
  unfold Obligations.StepRunsFrontCommand
  intro c s
  rfl

/-- A step that serves a command acts on the device alike, whatever waits behind the command. -/
theorem State.later_succ_cons (n : Nat) (d : Dev) (c : Instr) (l : List Instr) :
    State.later (n + 1) { dev := d, pending := c :: l } = State.later n { dev := Instr.effect c d, pending := l } := by
  have h : step { dev := d, pending := c :: l } = .next { dev := Instr.effect c d, pending := l } := exec_eq_after c { dev := d, pending := l }
  simp [State.later, h]

/-- Settles O4, by induction on the number of steps: each takes the front command of either queue, and acts on the device alike. -/
theorem queueIsFirstInFirstOut : Obligations.QueueIsFirstInFirstOut := by
  unfold Obligations.QueueIsFirstInFirstOut
  intro n
  induction n with
  | zero =>
    intro s _
    exact ⟨rfl, rfl⟩
  | succ n ih =>
    rintro ⟨d, pending⟩ hn
    cases pending with
    | nil => simp at hn
    | cons c l =>
      have hl : n ≤ l.length := Nat.le_of_succ_le_succ hn
      obtain ⟨hq, hd⟩ := ih { dev := Instr.effect c d, pending := l } hl
      exact ⟨by rw [State.later_succ_cons, hq]; rfl, by rw [List.take_succ_cons, State.later_succ_cons, State.later_succ_cons, hd]⟩

/-! ### The reset state -/

/-- Settles O5: no element has been written, so that each reads its reset word, and no byte of memory is listed. -/
theorem resetHoldsEveryResetWord : Obligations.ResetHoldsEveryResetWord := by
  unfold Obligations.ResetHoldsEveryResetWord
  exact ⟨fun _ _ _ _ _ _ => rfl, fun _ => rfl, rfl⟩

/-- Settles O7: neither table of the reset state lists anything. -/
theorem resetStateIsCanonical : Obligations.ResetStateIsCanonical := by
  unfold Obligations.ResetStateIsCanonical
  exact ⟨rfl, trivial⟩

/-! ### What pace ticks leave alone

The counters, the registers and vectors by which they report, what leaves the chip, and the draw counter are all that the performance
counters change. -/

/-- The device without what the performance counters change. -/
def Dev.sansCounts (d : Dev) : Dev := { d with regs := [], mgmt := {}, out := [], perf := {}, free := 0 }

section

variable (d : Dev)

@[simp] theorem Dev.sansCounts_with_perf (x : PerfSt) : { d with perf := x }.sansCounts = d.sansCounts := (rfl)
@[simp] theorem Dev.sansCounts_with_mgmt (x : MgmtSt) : { d with mgmt := x }.sansCounts = d.sansCounts := (rfl)
@[simp] theorem Dev.sansCounts_put (f : FRef) (v i j : Nat) : (d.put f v i j).sansCounts = d.sansCounts := (rfl)
@[simp] theorem Dev.sansCounts_emit (e : Emit) : (d.emit e).sansCounts = d.sansCounts := (rfl)
@[simp] theorem Dev.sansCounts_draw : d.draw.2.sansCounts = d.sansCounts := (rfl)
@[simp] theorem Dev.sansCounts_setBit (f : FRef) (b i j : Nat) : (d.setBit f b i j).sansCounts = d.sansCounts := (rfl)
@[simp] theorem Dev.sansCounts_setPending (v : Nat) (on : Bool) : (d.setPending v on).sansCounts = d.sansCounts := (rfl)

@[simp] theorem Dev.sansCounts_ite (c : Prop) [Decidable c] (a b : Dev) :
    (if c then a else b).sansCounts = if c then a.sansCounts else b.sansCounts :=
  apply_ite Dev.sansCounts c a b

theorem forN_sansCounts (n : Nat) {f : Nat → Dev → Dev} (h : ∀ k d, (f k d).sansCounts = d.sansCounts) :
    (forN n f d).sansCounts = d.sansCounts := by
  induction n with
  | zero => rfl
  | succ n ih => exact (h n _).trans ih

theorem foldl_sansCounts {α : Type} (l : List α) {f : Dev → α → Dev} (h : ∀ d x, (f d x).sansCounts = d.sansCounts) :
    (l.foldl f d).sansCounts = d.sansCounts := by
  induction l generalizing d with
  | nil => rfl
  | cons x l ih => exact (ih _).trans (h d x)

@[simp] theorem Dev.sansCounts_msixTry (v : Nat) : (d.msixTry v).sansCounts = d.sansCounts := by simp [Dev.msixTry]
@[simp] theorem Dev.sansCounts_raiseVecTo (v : Nat) (host core : Bool) : (d.raiseVecTo v host core).sansCounts = d.sansCounts := by
  simp [Dev.raiseVecTo]
@[simp] theorem Dev.sansCounts_raiseVec (v : Nat) : (d.raiseVec v).sansCounts = d.sansCounts := by simp [Dev.raiseVec]
@[simp] theorem Dev.sansCounts_cntAdd (i n : Nat) : (d.cntAdd i n).sansCounts = d.sansCounts := by simp [Dev.cntAdd]

@[simp] theorem Dev.sansCounts_perfEvent (code n : Nat) (e : PerfEv) : (d.perfEvent code n e).sansCounts = d.sansCounts := by
  unfold Dev.perfEvent
  split
  · rfl
  · exact forN_sansCounts d 32 fun i d => by simp

@[simp] theorem Dev.sansCounts_busCount (port a : Nat) : (d.busCount port a).sansCounts = d.sansCounts := by simp [Dev.busCount]
@[simp] theorem Dev.sansCounts_slotAdd (m c n : Nat) : (d.slotAdd m c n).sansCounts = d.sansCounts := by simp [Dev.slotAdd]
@[simp] theorem Dev.sansCounts_perfUpTo (n : Nat) : (d.perfUpTo n).2.sansCounts = d.sansCounts := (rfl)
@[simp] theorem Dev.sansCounts_drawUpTo (n : Nat) : (d.drawUpTo n).2.sansCounts = d.sansCounts := (rfl)

@[simp] theorem Dev.sansCounts_snd_ite {α : Type} (c : Prop) [Decidable c] (a b : α × Dev) :
    (if c then a else b).2.sansCounts = if c then a.2.sansCounts else b.2.sansCounts :=
  apply_ite (fun x : α × Dev => x.2.sansCounts) c a b

@[simp] theorem Dev.sansCounts_slotSplit (m p : Nat) : (d.slotSplit m p).2.sansCounts = d.sansCounts := by
  simp [Dev.slotSplit]

@[simp] theorem Dev.sansCounts_slotTicks (m p : Nat) : (d.slotTicks m p).sansCounts = d.sansCounts := by
  simp [Dev.slotTicks]

@[simp] theorem Dev.sansCounts_perfTicks (p : Nat) : (d.perfTicks p).sansCounts = d.sansCounts := by
  unfold Dev.perfTicks
  extract_lets c u
  have hc : c.sansCounts = d.sansCounts := by
    refine forN_sansCounts d 32 fun i d => ?_
    split
    · rfl
    · split <;> simp
  have hu : u.sansCounts = d.sansCounts := (foldl_sansCounts c _ fun d m => by simp).trans hc
  simp [hu]

/-- What the passage of time leaves of the parts that no pace tick touches is what `pass` leaves of them. -/
theorem Dev.sansCounts_elapse (n : Nat) : (d.elapse n).sansCounts = (d.pass n).sansCounts := by
  simp [Dev.elapse]

end

end Sys2Proof.Machine
end

section
/-! The passage of time: what it leaves, the time clock and the time bases (R7, R244). -/

namespace Sys2Proof.Machine

/-! ### Iteration over numbered parts -/

/-- What every step of an iteration keeps, the iteration keeps. -/
theorem forN_keeps {α β : Type} (g : α → β) (n : Nat) {f : Nat → α → α} (h : ∀ k a, g (f k a) = g a) (a : α) : g (forN n f a) = g a := by
  induction n with
  | zero => rfl
  | succ n ih => exact (h n _).trans ih

/-! ### One time base advances -/

@[simp] theorem Dev.tb_setTb_same (d : Dev) (t : Nat) (b : TbSt) : (d.setTb t b).tb t = b := by
  rw [Dev.tb, Dev.setTb, tabGet_tabPut_same]
theorem Dev.tb_setTb_ne (d : Dev) {t u : Nat} (b : TbSt) (h : u ≠ t) : (d.setTb t b).tb u = d.tb u := by
  rw [Dev.tb, Dev.setTb, tabGet_tabPut_ne _ _ _ _ h, Dev.tb]
@[simp] theorem Dev.adj_setTb (d : Dev) (t u : Nat) (b : TbSt) : (d.setTb t b).adj u = d.adj u := rfl

/-- Each of the first `k` time bases has advanced, the others have not, and no ADJ has changed. -/
theorem forN_tbAdvance (d : Dev) (n k t : Nat) {e : Dev}
    (he : e = forN k (fun t d => d.setTb t ((d.tb t).load ((d.tb t).val + n * (2 ^ 48 + d.adj t)))) d) :
    e.tb t = (if t < k then (d.tb t).load ((d.tb t).val + n * (2 ^ 48 + d.adj t)) else d.tb t) ∧ e.adj t = d.adj t := by
  induction k generalizing e with
  | zero => subst he; exact ⟨rfl, rfl⟩
  | succ k ih =>
    obtain ⟨htb, hadj⟩ := ih rfl
    subst he
    rw [forN]
    refine ⟨?_, by rw [Dev.adj_setTb, hadj]⟩
    by_cases h : t = k
    · subst h
      rw [if_neg (lt_irrefl t)] at htb
      rw [Dev.tb_setTb_same, htb, hadj, if_pos (Nat.lt_succ_self t)]
    · rw [Dev.tb_setTb_ne _ _ h, htb]
      simp only [show t < k + 1 ↔ t < k by omega]

theorem Dev.tb_tbAdvance (d : Dev) (n : Nat) {t : Nat} (ht : t < 4) (h : d.pwr.por = false) :
    (d.tbAdvance n).tb t = (d.tb t).load ((d.tb t).val + n * (2 ^ 48 + d.adj t)) := by
  have e : d.tbAdvance n = forN 4 (fun t d => d.setTb t ((d.tb t).load ((d.tb t).val + n * (2 ^ 48 + d.adj t)))) d := by
    simp [Dev.tbAdvance, h]
  rw [(forN_tbAdvance d n 4 t e).1, if_pos ht]

/-- A loaded value is the value modulo 2^48 seconds. -/
theorem TbSt.val_load (b : TbSt) (v : Int) : ((b.load v).val : Int) = v % (2 ^ 48 * (1000000000 * 2 ^ 46)) := by
  have hu : ((v % ((2 ^ 48 * tbSecond : Nat) : Int)).toNat : Int) = v % (2 ^ 48 * (1000000000 * 2 ^ 46)) := by
    rw [Int.toNat_of_nonneg (Int.emod_nonneg _ (by simp [tbSecond]))]
    norm_num [tbSecond]
  rw [← hu]
  simp only [TbSt.load, TbSt.val, tbSecond]
  omega

/-- The parts of a loaded value lie within their widths. -/
theorem TbSt.load_bounds (b : TbSt) (v : Int) :
    (b.load v).ns < 1000000000 ∧ (b.load v).sec < 2 ^ 48 ∧ (b.load v).frac < 2 ^ 16 ∧ (b.load v).hid < 2 ^ 30 := by
  have hu : (v % ((2 ^ 48 * tbSecond : Nat) : Int)).toNat < 2 ^ 48 * tbSecond := by
    have hpos : (0 : Int) < ((2 ^ 48 * tbSecond : Nat) : Int) := by simp [tbSecond]
    exact (Int.toNat_lt (Int.emod_nonneg v hpos.ne')).2 (Int.emod_lt_of_pos v hpos)
  simp only [TbSt.load, tbSecond] at hu ⊢
  omega

/-! ### The device as time passes -/

/-- The device without what the passage of time changes. -/
def Dev.sansTime (d : Dev) : Dev := { d with regs := [], mgmt := {}, out := [], perf := {}, free := 0, time := {}, tclk := 0, pace := 0 }

section

variable (d : Dev)

@[simp] theorem Dev.tclk_sansCounts : d.sansCounts.tclk = d.tclk := rfl
@[simp] theorem Dev.time_sansCounts : d.sansCounts.time = d.time := rfl
@[simp] theorem Dev.sansTime_sansCounts : d.sansCounts.sansTime = d.sansTime := rfl
@[simp] theorem Dev.pwr_sansTime : d.sansTime.pwr = d.pwr := rfl
@[simp] theorem Dev.resetN_sansTime : d.sansTime.resetN = d.resetN := rfl

@[simp] theorem Dev.sansTime_with_time (x : TimeSt) : { d with time := x }.sansTime = d.sansTime := (rfl)
@[simp] theorem Dev.sansTime_with_clocks (t p : Nat) : { d with tclk := t, pace := p }.sansTime = d.sansTime := (rfl)
@[simp] theorem Dev.sansTime_draw : d.draw.2.sansTime = d.sansTime := (rfl)
@[simp] theorem Dev.sansTime_put (f : FRef) (v i j : Nat) : (d.put f v i j).sansTime = d.sansTime := (rfl)
@[simp] theorem Dev.sansTime_setTb (t : Nat) (b : TbSt) : (d.setTb t b).sansTime = d.sansTime := (rfl)
@[simp] theorem Dev.tclk_setTb (t : Nat) (b : TbSt) : (d.setTb t b).tclk = d.tclk := (rfl)

@[simp] theorem Dev.sansTime_setBo (z : Int) : (d.setBo z).sansTime = d.sansTime := (Dev.sansTime_put _ _ _ _ _).trans (d.sansTime_put _ _ _ _)

@[simp] theorem Dev.sansTime_tbAdvance (n : Nat) : (d.tbAdvance n).sansTime = d.sansTime := by
  unfold Dev.tbAdvance
  split
  · rfl
  · exact forN_keeps Dev.sansTime 4 (fun t d => d.sansTime_setTb t _) d

@[simp] theorem Dev.sansTime_selBleed (n : Nat) : (d.selBleed n).sansTime = d.sansTime := by
  unfold Dev.selBleed
  dsimp only
  split
  · rfl
  · exact (Dev.sansTime_with_time _ _).trans (d.sansTime_setBo _)

@[simp] theorem Dev.sansTime_pass (n : Nat) : (d.pass n).sansTime = d.sansTime := by
  unfold Dev.pass
  split
  · rfl
  · exact (Dev.sansTime_selBleed _ n).trans ((Dev.sansTime_tbAdvance _ n).trans ((Dev.sansTime_with_clocks _ _ _).trans d.sansTime_draw))

@[simp] theorem Dev.sansTime_elapse (n : Nat) : (d.elapse n).sansTime = d.sansTime := by
  have h := congrArg Dev.sansTime (d.sansCounts_elapse n)
  rwa [Dev.sansTime_sansCounts, Dev.sansTime_sansCounts, Dev.sansTime_pass] at h

@[simp] theorem Dev.pwr_elapse (n : Nat) : (d.elapse n).pwr = d.pwr := by
  rw [← Dev.pwr_sansTime, Dev.sansTime_elapse, Dev.pwr_sansTime]
@[simp] theorem Dev.resetN_elapse (n : Nat) : (d.elapse n).resetN = d.resetN := by
  rw [← Dev.resetN_sansTime, Dev.sansTime_elapse, Dev.resetN_sansTime]

/-- Time does not end a held reset. -/
@[simp] theorem Dev.heldReset_elapse (n : Nat) : (d.elapse n).heldReset = d.heldReset := by simp only [Dev.heldReset, Dev.pwr_elapse, Dev.resetN_elapse]

/-! ### The time clock -/

theorem Dev.tclk_tbAdvance (n : Nat) : (d.tbAdvance n).tclk = d.tclk := by
  unfold Dev.tbAdvance
  split
  · rfl
  · exact forN_keeps Dev.tclk 4 (fun t d => d.tclk_setTb t _) d

theorem Dev.tclk_setBo (z : Int) : (d.setBo z).tclk = d.tclk := (Dev.put_tclk _ _ _ _ _).trans (d.put_tclk _ _ _ _)
theorem Dev.tbs_with_bleedRem (e : Dev) (r : Nat) : { e with time := { d.time with bleedRem := r } }.time.tbs = d.time.tbs := rfl
theorem Dev.tclk_with_time (x : TimeSt) : { d with time := x }.tclk = d.tclk := rfl

/-- Bleeding the build-out leaves the time bases and the time clock. -/
theorem Dev.selBleed_frame (n : Nat) : (d.selBleed n).time.tbs = d.time.tbs ∧ (d.selBleed n).tclk = d.tclk := by
  unfold Dev.selBleed
  dsimp only
  split
  · exact ⟨rfl, rfl⟩
  · exact ⟨Dev.tbs_with_bleedRem d _ _, (Dev.tclk_with_time _ _).trans (d.tclk_setBo _)⟩

theorem Dev.tclk_pass (n : Nat) : (d.pass n).tclk = d.tclk + n := by
  unfold Dev.pass
  split
  next h => rw [h]; rfl
  next => exact (Dev.selBleed_frame _ n).2.trans (Dev.tclk_tbAdvance _ n)

/-- The time clock counts the ticks that pass. -/
@[simp] theorem Dev.tclk_elapse (n : Nat) : (d.elapse n).tclk = d.tclk + n := by
  rw [← Dev.tclk_sansCounts, Dev.sansCounts_elapse, Dev.tclk_sansCounts, Dev.tclk_pass]

/-! ### The time bases -/

theorem Dev.tb_selBleed (n t : Nat) : (d.selBleed n).tb t = d.tb t := by
  rw [Dev.tb, (d.selBleed_frame n).1, Dev.tb]

/-- While POR does not hold the device, each time base advances by the ticks that pass. -/
theorem Dev.tb_pass {n t : Nat} (hn : n ≠ 0) (ht : t < 4) (h : d.pwr.por = false) :
    (d.pass n).tb t = (d.tb t).load ((d.tb t).val + n * (2 ^ 48 + d.adj t)) := by
  unfold Dev.pass
  rw [if_neg hn]
  exact (Dev.tb_selBleed _ n t).trans (Dev.tb_tbAdvance _ n ht h)

theorem Dev.tb_elapse (n t : Nat) : (d.elapse n).tb t = (d.pass n).tb t := by
  rw [Dev.tb, ← Dev.time_sansCounts, Dev.sansCounts_elapse, Dev.time_sansCounts, Dev.tb]

end

/-- Settles O2: the time clock counts the one tick that passes. -/
theorem idleStepLetsOneTickPass : Obligations.IdleStepLetsOneTickPass := by
  unfold Obligations.IdleStepLetsOneTickPass
  intro s hs
  refine ⟨?_, s.dev.tclk_elapse 1⟩
  unfold step
  rw [hs]

/-- Settles O58: the time base that the command finds has been loaded with its old value plus what the ticks add to it. -/
theorem timeBasesAdvanceAtEveryTick : Obligations.TimeBasesAdvanceAtEveryTick := by
  unfold Obligations.TimeBasesAdvanceAtEveryTick
  intro s dt t b c hdt ht hpor hb hc
  have hload : c = b.load (b.val + dt * (2 ^ 48 + s.dev.adj t)) := by
    rw [hc, hb]
    exact (s.dev.tb_elapse dt t).trans (s.dev.tb_pass hdt.ne' ht hpor)
  obtain ⟨hns, hsec, hfrac, hhid⟩ := b.load_bounds (b.val + dt * (2 ^ 48 + s.dev.adj t))
  rw [hload]
  exact ⟨b.val_load _, hns, hsec, hfrac, hhid, s.dev.tclk_elapse dt⟩

/-! ### A held reset -/

/-- No time passes in no ticks. -/
theorem Dev.elapse_zero (d : Dev) : d.elapse 0 = d := by
  have h : (d.pace + 2 ^ 48 - d.pace % 2 ^ 48) % 2 ^ 48 = 0 := by omega
  simp only [Dev.elapse, Dev.pass, if_true, h]

/-- The commands that a held reset masks: an event after a time, an access, or an issued instruction. -/
theorem exec_of_not_ofPins {c : Instr} (h : c.ofPins = false) (s : State) :
    (∃ dt op, exec c s = s.after (fun d => d.event dt op)) ∨ (∃ op, exec c s = s.after (fun d => d.access op)) ∨
      ∃ op, exec c s = s.after (fun d => d.issued op) := by
  cases c
  case dllLock | dllAnchor | dllUnlock | blockCycleArm | syncTimeout | blockBoundary | realignStop | sealComplete | xptPassDone |
    deadline | flashDirectoryRead | imageDataArrive | signatureVerified | sectionsApplied | flashReadError | hostLoadTimeout |
    chunkTaken | stagingComplete | restartSilent | asrcStart | asrcLock | asrcSlip | asrcRangeClear | asrcIdle | counterWrap |
    sampleRecord | fadeComplete | zcTimeout | silenceEnter | frameReceive | rtpReceive | frameTransmit | ethLinkLoss | ethLinkUp |
    helloSend | helloReceive | adjDeadTimeout | topoOriginate | topoReceive | electReceive | floodKeyExpire | topoExpire |
    electWaitDone | claimSend | claimWindowEnd | graveLogWritten | escalationExpire | faultWindowExpire | shadowClose | injectNext
    | pseudoBlock | sprigTakeJob | stealRetry | jobComplete | linkBlockReceive | creditReturn | cellTransmit | blockLock |
    lossOfSignal | headerErrorLimit | creditTimeout | dreqSend | dreqReceive | drspReceive | syncSend | syncReceive |
    isoCellReceive | ringCellReceive | transitCellReceive | polarityInvert | initTimeout | downTimeout | drspTimeout | wdogExpire
    | mgmtResetDone | sceneWordDone | pcieReset | pcieLinkDown | pcieError | msixUnmask | heartbeatReceive | pairEvaluate |
    pairVbusReceive | pairAsrcReceive | mirrorReceive | pairPsmReceive | healthReceive | pairLinkDown | boundaryMissed |
    healthRecord | scrub | pleachKernel | startupBackoffExpire | carrierPeriod | deepSleep | legtestDone | enableTimeDone |
    loadtestDone | stopRampDone | psfltAssert | ilimTrip | loadtestAbort | candGlitch | candActivityTimeout | qualGateEnd |
    holdoffExpire | bandTrialDone | comparisonEdge | narrowStep | pullComplete | bandSearchRetry | hopSettled | hopCheckDone |
    frameStart | rateGateEnd | clockStop | vbusWarn | vbusRecover | supervisorTrip | vcoreSetStep | dipRestoreDone |
    supervisorClear | servoHoldTimeout | selectorTick | selectorRevert | alarmFire | captureEvent | blockResetEnd =>
    exact .inl ⟨_, _, rfl⟩
  case dllRealign | outOfsWrite | blockRealign | chunkWrite | loadChunk | loadLastChunk | stageStart | stageAbort | swapArm |
    swapDisarm | cntLoRead | cntHiWrite | cntLoWrite | slotClear | slotLoRead | xptRouteCmd | xptGainCmd | xptStagedWrite | xptArm
    | txtsPop | streamEnable | nodeIdWrite | fwdWrite | fwdRead | fwdInvalidate | faultAck | errhClear | faultInject | glogErase |
    avsEnable | sharedStoreWrite | pcommitArm | linkRetrain | linkDisable | rsvWrite | wdogKick | mgmtReset | doorbell |
    vectorRaise | ringEnable | ringWrWrite | ringRdWrite | hportSelect | hportRead | hportWrite | hportCommit | sceneWrite | yield
    | resync | pairClear | pairFail | handover | psmStart | psmStop | latchClear | loopRankWrite | retune | qsHop |
    ditherSeedWrite | sapGroupStart | sapGroupStop | sapRestart | vcoreSetWrite | ftmKey | atbSelect | atbForce | tbSet | tbRead |
    rateCommit | offsetSubmit | servoFree | selectorSwitch | alarmArm | alarmDisarm | captureRead | regWrite | undecodedAccess |
    spiWrite | spiRead | blockResetCmd | regRead =>
    exact .inr (.inl ⟨_, rfl⟩)
  case ldw | stw | vld | vst | vldc | vstc | vlds | setca | caoff | caoffW | loopIterate | add | sub | and | or | xor | sll | srl
    | sra | mul | addi | lui | beq | bne | blt | bge | jal | jr | loop | rdpace | csrr | csrw | fence | brk | endJob |
    unassignedOpcode | vadd | vmul | vmac | vmacs | vmin | vmax | vabs | vdiv | vshf | vcvt | vins | vext | accz | accrd | accred =>
    exact .inr (.inr ⟨_, rfl⟩)
  all_goals cases h

/-- Settles O6: a held reset lets the time of an event pass, and refuses accesses and instructions, which take none. -/
theorem heldResetOnlyLetsTimePass : Obligations.HeldResetOnlyLetsTimePass := by
  unfold Obligations.HeldResetOnlyLetsTimePass
  intro c s hpins hheld
  obtain ⟨dt, op, h⟩ | ⟨op, h⟩ | ⟨op, h⟩ := exec_of_not_ofPins hpins s
  · exact ⟨dt, by rw [h, State.after_event_held op ((s.dev.heldReset_elapse dt).trans hheld)]; rfl⟩
  · exact ⟨0, by rw [h, State.after_access_held op hheld, Dev.elapse_zero]⟩
  · exact ⟨0, by rw [h, State.after_issued_held op hheld, Dev.elapse_zero]⟩

end Sys2Proof.Machine
end

section
/-! Rules of the whole block: register fields, block numbers, crossfade weights, scalar registers. -/

namespace Sys2Proof.Machine

/-! ### Single bits -/

theorem bitOf_eq_toNat_testBit (n b : Nat) : bitOf n b = (n.testBit b).toNat := by
  rw [Nat.toNat_testBit, bitOf, Nat.shiftRight_eq_div_pow]

theorem bitOf_eq_one_iff {n b : Nat} : bitOf n b = 1 ↔ n.testBit b = true := by
  rw [bitOf_eq_toNat_testBit]
  cases n.testBit b <;> simp

/-- One bit of a word is the field of that one bit. -/
theorem bitOf_toNat_eq_fget (w : Word) (b : Nat) : bitOf w.toNat b = fget w b b := by
  rw [bitOf, fget, Nat.add_sub_cancel_left, Nat.pow_one]

theorem fget_lt (w : Word) (hi lo : Nat) : fget w hi lo < 2 ^ (hi + 1 - lo) := Nat.mod_lt _ (by positivity)

/-- Taking out of a number the bits that it shares with another. -/
theorem testBit_sub_and (c v b : Nat) : (c - (c &&& v)).testBit b = (c.testBit b && !v.testBit b) := by
  induction b generalizing c v with
  | zero =>
    have hle : c &&& v ≤ c := Nat.and_le_left
    have hmod : (c &&& v) % 2 = (c % 2) &&& (v % 2) := Nat.and_mod_two_pow (n := 1)
    have hsub : ∀ x ≤ c, (c - x) % 2 = (c % 2 + x % 2) % 2 := by omega
    rw [Nat.testBit_zero, Nat.testBit_zero, Nat.testBit_zero, hsub _ hle, hmod]
    rcases Nat.mod_two_eq_zero_or_one c with hc | hc <;> rcases Nat.mod_two_eq_zero_or_one v with hv | hv <;> simp [hc, hv]
  | succ b ih =>
    have hle : c &&& v ≤ c := Nat.and_le_left
    have hmod : (c &&& v) % 2 = (c % 2) &&& (v % 2) := Nat.and_mod_two_pow (n := 1)
    have hand : (c &&& v) % 2 ≤ c % 2 := hmod ▸ Nat.and_le_left
    have hdiv : (c - (c &&& v)) / 2 = c / 2 - (c / 2 &&& v / 2) := by
      have hsub : ∀ x, x ≤ c → x % 2 ≤ c % 2 → (c - x) / 2 = c / 2 - x / 2 := by omega
      rw [hsub _ hle hand, Nat.and_div_two]
    rw [Nat.testBit_succ, hdiv, ih, ← Nat.testBit_succ, ← Nat.testBit_succ]

/-! ### The fields of a register lie apart, the highest first -/

/-- The fields of every register lie within the word, the highest first, without overlap. -/
theorem flds_apart {r : Reg} (hr : r ∈ allRegs) :
    r.flds.Pairwise (fun f g => g.hi < f.lo) ∧ ∀ f ∈ r.flds, f.lo ≤ f.hi ∧ f.hi < 32 := by
  have h : ∀ r ∈ allRegs, r.flds.Pairwise (fun f g => g.hi < f.lo) ∧ ∀ f ∈ r.flds, f.lo ≤ f.hi ∧ f.hi < 32 := by decide +kernel
  exact h r hr

/-- Setting fields that lie beside a bit range leaves the range. -/
theorem fget_foldl_fset_other (g : Fld → Nat) {hi lo : Nat} (hl : lo ≤ hi) (l : List Fld) (acc : Word)
    (h : ∀ f ∈ l, f.lo ≤ f.hi ∧ f.hi < 32 ∧ (hi < f.lo ∨ f.hi < lo)) :
    fget (l.foldl (fun acc f => fset acc f.hi f.lo (g f)) acc) hi lo = fget acc hi lo := by
  induction l generalizing acc with
  | nil => rfl
  | cons f l ih =>
    obtain ⟨hf, h32, hout⟩ := h f (List.mem_cons_self ..)
    rw [List.foldl_cons, ih _ (fun x hx => h x (List.mem_cons_of_mem _ hx)), fget_fset_other _ _ h32 hf hl hout]

/-- After fields that lie apart have been set, each reads what it was set to. -/
theorem fget_foldl_fset_mem (g : Fld → Nat) {f : Fld} (l : List Fld) (acc : Word) (hp : l.Pairwise (fun f g => g.hi < f.lo))
    (hw : ∀ f ∈ l, f.lo ≤ f.hi ∧ f.hi < 32) (hf : f ∈ l) :
    fget (l.foldl (fun acc f => fset acc f.hi f.lo (g f)) acc) f.hi f.lo = g f % 2 ^ (f.hi + 1 - f.lo) := by
  induction l generalizing acc with
  | nil => cases hf
  | cons x l ih =>
    obtain ⟨hx, hl⟩ := List.pairwise_cons.1 hp
    have hw' := fun y hy => hw y (List.mem_cons_of_mem x hy)
    rw [List.foldl_cons]
    rcases List.mem_cons.1 hf with rfl | hf
    · obtain ⟨hlo, h32⟩ := hw f (List.mem_cons_self ..)
      rw [fget_foldl_fset_other g hlo l _ (fun y hy => ⟨(hw' y hy).1, (hw' y hy).2, .inr (hx y hy)⟩), fget_fset_same _ _ h32 hlo]
    · exact ih _ hl hw' hf

/-- The mask of the fields that satisfy a test holds the bits of those fields, and of what it was begun with. -/
theorem testBit_foldl_fldMask (p : Fld → Bool) (l : List Fld) (acc k i : Nat) (hp : l.Pairwise (fun f g => g.hi < f.lo))
    (hw : ∀ f ∈ l, f.lo ≤ f.hi ∧ f.hi < k) (hacc : acc % 2 ^ k = 0) :
    (l.foldl (fun acc f => if p f then acc + (2 ^ (f.hi + 1 - f.lo) - 1) * 2 ^ f.lo else acc) acc).testBit i =
      (acc.testBit i || l.any (fun f => p f && decide (f.lo ≤ i ∧ i ≤ f.hi))) := by
  induction l generalizing acc k with
  | nil => simp
  | cons f l ih =>
    obtain ⟨hf, hl⟩ := List.pairwise_cons.1 hp
    obtain ⟨hlo, hk⟩ := hw f (List.mem_cons_self ..)
    have hw' : ∀ g ∈ l, g.lo ≤ g.hi ∧ g.hi < f.lo := fun g hg => ⟨(hw g (List.mem_cons_of_mem f hg)).1, hf g hg⟩
    have hdvd : acc % 2 ^ f.lo = 0 :=
      Nat.mod_eq_zero_of_dvd ((Nat.pow_dvd_pow 2 (by omega)).trans (Nat.dvd_of_mod_eq_zero hacc))
    rw [List.foldl_cons, List.any_cons]
    by_cases hpf : p f = true
    · rw [if_pos hpf, ih _ f.lo hl hw' (by rw [Nat.add_mul_mod_self_right, hdvd]), hpf, Bool.true_and, ← Bool.or_assoc]
      congr 1
      obtain ⟨q, hq⟩ := (Nat.pow_dvd_pow 2 hk).trans (Nat.dvd_of_mod_eq_zero hacc)
      have hlt : (2 ^ (f.hi + 1 - f.lo) - 1) * 2 ^ f.lo < 2 ^ (f.hi + 1) := by
        have e : 2 ^ (f.hi + 1 - f.lo) * 2 ^ f.lo = 2 ^ (f.hi + 1) := by rw [← Nat.pow_add]; congr 1; omega
        rw [Nat.sub_mul, e, Nat.one_mul]
        have := Nat.two_pow_pos f.lo
        have := Nat.two_pow_pos (f.hi + 1)
        omega
      rw [hq, Nat.two_pow_add_eq_or_of_lt hlt, Nat.testBit_or, Nat.mul_comm (_ - 1), Nat.testBit_two_pow_mul,
        Nat.testBit_two_pow_mul, Nat.testBit_two_pow_sub_one, ← Bool.decide_and]
      congr 2
      exact propext (by omega)
    · rw [if_neg hpf, ih acc f.lo hl hw' hdvd]
      simp [hpf]

theorem testBit_fldMask {r : Reg} (hr : r ∈ allRegs) (p : Fld → Bool) (i : Nat) :
    (fldMask p r.flds).testBit i = r.flds.any (fun f => p f && decide (f.lo ≤ i ∧ i ≤ f.hi)) := by
  obtain ⟨hp, hw⟩ := flds_apart hr
  rw [fldMask, testBit_foldl_fldMask p r.flds 0 32 i hp hw (Nat.zero_mod _), Nat.zero_testBit, Bool.false_or]

/-- A bit of a field lies in no other field of the register. -/
theorem any_at_field {r : Reg} (hr : r ∈ allRegs) {f : Fld} (hf : f ∈ r.flds) (p : Fld → Bool) {i : Nat} (hlo : f.lo ≤ i) (hhi : i ≤ f.hi) :
    r.flds.any (fun f => p f && decide (f.lo ≤ i ∧ i ≤ f.hi)) = p f := by
  have hbeside : r.flds.Pairwise (fun f g => g.hi < f.lo ∨ f.hi < g.lo) := (flds_apart hr).1.imp Or.inl
  have huniq : ∀ g ∈ r.flds, g.lo ≤ i → i ≤ g.hi → g = f := by
    intro g hg h1 h2
    by_contra hne
    have : Std.Symm (fun f g : Fld => g.hi < f.lo ∨ f.hi < g.lo) := ⟨fun _ _ => Or.symm⟩
    have := hbeside.forall hg hf hne
    omega
  rw [Bool.eq_iff_iff, List.any_eq_true]
  simp only [Bool.and_eq_true, decide_eq_true_eq]
  exact ⟨fun ⟨g, hg, hpg, h1, h2⟩ => huniq g hg h1 h2 ▸ hpg, fun h => ⟨f, hf, h, hlo, hhi⟩⟩

/-! ### A word cut down to the fields that satisfy a test -/

/-- A bit of a word cut down to a mask. -/
theorem bitOf_and_mask (cur : Word) (m b : Nat) : bitOf (BitVec.ofNat 32 (cur.toNat &&& m)).toNat b = (cur.toNat.testBit b && m.testBit b).toNat := by
  have hlt : cur.toNat &&& m < 2 ^ 32 := lt_of_le_of_lt Nat.and_le_left cur.isLt
  rw [bitOf_eq_toNat_testBit, BitVec.toNat_ofNat, Nat.mod_eq_of_lt hlt, Nat.testBit_and]

/-- A field of a word cut down to the fields that satisfy a test: itself where it satisfies the test, and 0 where it does not. -/
theorem fget_and_fldMask {r : Reg} (hr : r ∈ allRegs) {f : Fld} (hf : f ∈ r.flds) (p : Fld → Bool) (cur : Word) :
    fget (BitVec.ofNat 32 (cur.toNat &&& fldMask p r.flds)) f.hi f.lo = if p f then fget cur f.hi f.lo else 0 := by
  have hlt : cur.toNat &&& fldMask p r.flds < 2 ^ 32 := lt_of_le_of_lt Nat.and_le_left cur.isLt
  apply Nat.eq_of_testBit_eq
  intro i
  rw [fget, BitVec.toNat_ofNat, Nat.mod_eq_of_lt hlt, Nat.testBit_mod_two_pow, Nat.testBit_shiftRight, Nat.testBit_and, testBit_fldMask hr]
  by_cases hi : i < f.hi + 1 - f.lo
  · rw [any_at_field hr hf p (by omega) (by omega)]
    by_cases hpf : p f = true
    · simp [hpf, fget, Nat.testBit_mod_two_pow, Nat.testBit_shiftRight]
    · simp [hpf]
  · by_cases hpf : p f = true <;> simp [hpf, hi, fget, Nat.testBit_mod_two_pow]

/-! ### What a write makes of one field -/

/-- The value a write gives a field lies within the field's width. -/
theorem fldStore_lt (applied : Bool) (w cur : Word) (f : Fld) : fldStore applied w cur f < 2 ^ (f.hi + 1 - f.lo) := by
  have hc := fget_lt cur f.hi f.lo
  have hv := fget_lt w f.hi f.lo
  unfold fldStore
  dsimp only
  split
  · exact hc
  · split
    · exact hv
    · exact lt_of_le_of_lt (Nat.sub_le _ _) hc
    · exact Nat.or_lt_two_pow hc hv
    · exact hc

/-- The bits of a written field follow its type. -/
theorem bitOf_fldStore (applied : Bool) (w cur : Word) (f : Fld) (b : Nat) :
    bitOf (fldStore applied w cur f) b =
      if f.img = true ∧ applied = false then bitOf (fget cur f.hi f.lo) b else match f.ty with
        | .rw => bitOf (fget w f.hi f.lo) b
        | .w1c => if bitOf (fget w f.hi f.lo) b = 1 then 0 else bitOf (fget cur f.hi f.lo) b
        | .w1s => if bitOf (fget w f.hi f.lo) b = 1 then 1 else bitOf (fget cur f.hi f.lo) b
        | .ro | .wo | .rc => bitOf (fget cur f.hi f.lo) b := by
  have hcond : (f.img && !applied) = true ↔ f.img = true ∧ applied = false := by simp
  unfold fldStore
  simp only [hcond]
  split
  · rfl
  · cases f.ty with
    | w1c =>
      simp only [bitOf_eq_toNat_testBit, testBit_sub_and]
      cases (fget w f.hi f.lo).testBit b <;> simp
    | w1s =>
      simp only [bitOf_eq_toNat_testBit, Nat.testBit_or]
      cases (fget w f.hi f.lo).testBit b <;> simp
    | _ => rfl

/-- Settles O44: a write sets the fields apart from each other, and a read keeps the fields that its mask names. -/
theorem typedFieldsFollowTheirType : Obligations.TypedFieldsFollowTheirType := by
  unfold Obligations.TypedFieldsFollowTheirType
  intro r hr f hf w cur applied b old new v _ hold hv hnew
  obtain ⟨hp, hw⟩ := flds_apart hr
  refine ⟨?write, ?load, ?afterRead⟩
  case write =>
    have hstore : new = fldStore applied w cur f := by
      rw [hnew, regStore, fget_foldl_fset_mem _ r.flds 0 hp hw hf, Nat.mod_eq_of_lt (fldStore_lt applied w cur f)]
    rw [hstore, hold, hv, bitOf_fldStore] <;> cases f.ty <;> rfl
  case load =>
    rw [regLoad, fget_and_fldMask hr hf, hold] <;> cases f.img <;> cases applied <;> cases f.ty <;> rfl
  case afterRead =>
    rw [regAfterRead, fget_and_fldMask hr hf, hold] <;> cases f.ty <;> rfl

/-- Settles O45: a write sets the fields alone over 0, and a read masks every other bit out. -/
theorem reservedBitsReadZero : Obligations.ReservedBitsReadZero := by
  unfold Obligations.ReservedBitsReadZero
  intro r hr b hb hout applied w cur
  obtain ⟨_, hw⟩ := flds_apart hr
  refine ⟨?_, ?_⟩
  · rw [bitOf_toNat_eq_fget, regStore, fget_foldl_fset_other _ le_rfl r.flds 0 (fun f hf => ⟨(hw f hf).1, (hw f hf).2, hout f hf⟩)]
    simp [fget]
  · have hany : r.flds.any (fun f => (f.ty != .wo && (applied || !f.img)) && decide (f.lo ≤ b ∧ b ≤ f.hi)) = false := by
      rw [List.any_eq_false]
      intro f hf
      have := hout f hf
      simp only [Bool.and_eq_true, decide_eq_true_eq, not_and]
      omega
    rw [regLoad, bitOf_and_mask, testBit_fldMask hr, hany, Bool.and_false]
    rfl

/-! ### Block numbers, crossfade weights, scalar registers -/

theorem later32_iff (m c : Nat) : later32 m c = true ↔ 1 ≤ ((m : Int) - c) % 2 ^ 32 ∧ ((m : Int) - c) % 2 ^ 32 ≤ 2 ^ 31 - 1 := by
  simp only [later32, decide_eq_true_eq]
  omega

/-- Settles O46: a difference and its opposite do not both lie in the lower half of the range. -/
theorem blockNumbersCompareBySignedDifference : Obligations.BlockNumbersCompareBySignedDifference := by
  unfold Obligations.BlockNumbersCompareBySignedDifference
  refine ⟨later32_iff, fun m c h => ?_, fun m => ?_⟩
  · rw [later32_iff] at h
    rw [Bool.eq_false_iff, Ne, later32_iff]
    omega
  · rw [Bool.eq_false_iff, Ne, later32_iff]
    omega

/-- The ends of the equal-power law: the sine table holds exactly 0 and 2^30 there. -/
theorem fadeS_ends : fadeS 0 = 0 ∧ fadeS (2 ^ 26) = 2 ^ 30 := by decide +kernel

/-- Settles O47: at the last sample the quotient is the full scale, and the tables hold both ends exactly. -/
theorem fadeWeightsOfBothLaws : Obligations.FadeWeightsOfBothLaws := by
  unfold Obligations.FadeWeightsOfBothLaws
  refine ⟨fun len j _ _ hj => ?_, fun ep len hlen _ => ?_, fun ep len j h => ?_⟩
  · have h : ¬ len ≤ j := Nat.not_le.2 hj
    simp [fadeWeights, h]
  · have h : ¬ len ≤ len - 1 := by omega
    have e : len - 1 + 1 = len := by omega
    obtain ⟨h0, h1⟩ := fadeS_ends
    cases ep
    · simp [fadeWeights, h, e, Nat.mul_div_cancel_left _ hlen]
    · simp only [fadeWeights, h, e, if_false, if_true, Nat.mul_div_cancel_left _ hlen, Nat.sub_self, h0, h1]
  · simp [fadeWeights, h]

/-- Settles O51: the registers stand in a table of their own, which register 0 does not enter. -/
theorem scalarRegistersReadBack : Obligations.ScalarRegistersReadBack := by
  unfold Obligations.ScalarRegistersReadBack
  intro x y i j w hy
  subst hy
  by_cases hi : i = 0
  · simp [SprigSt.setS, SprigSt.sr, hi]
  · have hsame : (x.setS i w).sr i = w := by simp [SprigSt.setS, SprigSt.sr, hi, tabGet_tabPut_same]
    have hother : j ≠ i → (x.setS i w).sr j = x.sr j := fun hj => by
      simp [SprigSt.setS, SprigSt.sr, hi, tabGet_tabPut_ne _ _ _ _ hj]
    exact ⟨rfl, fun h => absurd h hi, fun _ => hsame, hother, by simp [SprigSt.setS, hi]⟩

end Sys2Proof.Machine
end

section
/-! Fields of registers: which writes leave a field alone. Registers are read from the register table alone, so that updates of other
parts of the device leave every field; and a write of a field leaves the fields beside it. -/

namespace Sys2Proof.Machine

/-! ### Updates of other parts of the device -/

section

variable (d : Dev)

/-- Devices with one register table read alike. -/
theorem Dev.get_congr {d e : Dev} (h : e.regs = d.regs) (g : FRef) (k l : Nat) : e.get g k l = d.get g k l := by
  simp only [Dev.get, Dev.rd, h]

@[simp] theorem Dev.regs_startTimer (t : Timer) (i : Nat) : (d.startTimer t i).regs = d.regs := rfl
@[simp] theorem Dev.get_startTimer (t : Timer) (i : Nat) (g : FRef) (k l : Nat) : (d.startTimer t i).get g k l = d.get g k l :=
  Dev.get_congr (d.regs_startTimer t i) g k l
@[simp] theorem Dev.is_startTimer (t : Timer) (i : Nat) (g : FRef) (k l : Nat) : (d.startTimer t i).is g k l = d.is g k l := by
  simp only [Dev.is, Dev.get_startTimer]
@[simp] theorem Dev.regs_setTb (t : Nat) (b : TbSt) : (d.setTb t b).regs = d.regs := rfl
@[simp] theorem Dev.get_setTb (t : Nat) (b : TbSt) (g : FRef) (k l : Nat) : (d.setTb t b).get g k l = d.get g k l :=
  Dev.get_congr (d.regs_setTb t b) g k l
@[simp] theorem Dev.time_startTimer (t : Timer) (i : Nat) : (d.startTimer t i).time = d.time := rfl

/-- What a typed write leaves: everything but the register table. -/
theorem Dev.store_eq_self_or_wr (r : Reg) (w : Word) (i j : Nat) : d.store r w i j = d ∨ ∃ v, d.store r w i j = d.wr r v i j := by
  unfold Dev.store
  split
  · exact .inl rfl
  · exact .inr ⟨_, rfl⟩

@[simp] theorem Dev.time_store (r : Reg) (w : Word) (i j : Nat) : (d.store r w i j).time = d.time := by
  obtain h | ⟨v, h⟩ := d.store_eq_self_or_wr r w i j <;> simp [h]
@[simp] theorem Dev.tb_store (r : Reg) (w : Word) (i j t : Nat) : (d.store r w i j).tb t = d.tb t := by simp [Dev.tb]
@[simp] theorem Dev.tb_put (f : FRef) (v i j t : Nat) : (d.put f v i j).tb t = d.tb t := by simp [Dev.tb]
@[simp] theorem Dev.tb_startTimer (x : Timer) (i t : Nat) : (d.startTimer x i).tb t = d.tb t := by simp [Dev.tb]

end

/-! ### Fields beside each other -/

/-- Do the elements of two fields lie beside each other, each below its count: in registers apart from each other? -/
def FRef.apart (f g : FRef) (n m : Nat) : Bool :=
  g.reg.apart f.reg && decide (n ≤ f.reg.n1) && decide (m ≤ g.reg.n1) && decide (0 < f.reg.n2) && decide (0 < g.reg.n2)

/-- The same, for elements with one index: in registers apart from each other, or in different bits of one register. -/
def FRef.beside (f g : FRef) (n : Nat) : Bool :=
  if g.reg = f.reg then decide (f.hi < 32 ∧ f.lo ≤ f.hi ∧ g.lo ≤ g.hi ∧ (g.hi < f.lo ∨ f.hi < g.lo)) else f.apart g n n

theorem FRef.addr_ne_of_apart {f g : FRef} {n m : Nat} (h : f.apart g n m = true) {i k : Nat} (hi : i < n) (hk : k < m) :
    g.reg.addr k 0 ≠ f.reg.addr i 0 := by
  simp only [FRef.apart, Bool.and_eq_true, decide_eq_true_eq] at h
  obtain ⟨⟨⟨⟨hap, hn⟩, hm⟩, hf⟩, hg⟩ := h
  exact Reg.addr_ne_of_apart hap (hk.trans_le hm) hg (hi.trans_le hn) hf

section

variable (d : Dev) {f g : FRef} {n m : Nat} (i : Fin n) (k : Fin m) (v : Nat)

theorem Dev.get_put_beside (h : f.beside g n = true) : (d.put f v i).get g i = d.get g i := by
  unfold FRef.beside at h
  split at h
  next hr =>
    obtain ⟨h1, h2, h3, h4⟩ := of_decide_eq_true h
    exact d.get_put_field f g v i 0 hr h1 h2 h3 h4
  next => exact d.get_put_addr_ne f g v (FRef.addr_ne_of_apart h i.isLt i.isLt)

theorem Dev.get_put_apart (h : f.apart g n m = true) : (d.put f v i).get g k = d.get g k :=
  d.get_put_addr_ne f g v (FRef.addr_ne_of_apart h i.isLt k.isLt)

theorem Dev.get_put_apart_left (h : f.apart g 1 m = true) : (d.put f v).get g k = d.get g k :=
  d.get_put_addr_ne f g v (FRef.addr_ne_of_apart h Nat.one_pos k.isLt)

theorem Dev.get_put_apart_right (h : f.apart g n 1 = true) : (d.put f v i).get g = d.get g :=
  d.get_put_addr_ne f g v (FRef.addr_ne_of_apart h i.isLt Nat.one_pos)

theorem Dev.get_put_beside_zero (h : f.beside g 1 = true) : (d.put f v).get g = d.get g :=
  d.get_put_beside (0 : Fin 1) v h

theorem Dev.is_put_beside (h : f.beside g n = true) : (d.put f v i).is g i = d.is g i := by
  rw [Dev.is, d.get_put_beside i v h, Dev.is]

theorem Dev.is_put_beside_zero (h : f.beside g 1 = true) : (d.put f v).is g = d.is g := by
  rw [Dev.is, d.get_put_beside_zero v h, Dev.is]

theorem Dev.get_store_addr_ne (r : Reg) (w : Word) (g : FRef) {i j k l : Nat} (h : g.reg.addr k l ≠ r.addr i j) :
    (d.store r w i j).get g k l = d.get g k l := by
  obtain e | ⟨v, e⟩ := d.store_eq_self_or_wr r w i j
  · rw [e]
  · rw [e, Dev.get, Dev.rd_wr_addr_ne _ _ h, Dev.get]

/-- A typed write of a register leaves the fields of registers apart from it. -/
theorem Dev.get_store_apart (w : Word) {r : Reg} (h : (⟨r, 0, 0⟩ : FRef).apart g n m = true) : (d.store r w i).get g k = d.get g k :=
  d.get_store_addr_ne r w g (FRef.addr_ne_of_apart h i.isLt k.isLt)

theorem Dev.get_store_apart_left (w : Word) {r : Reg} (h : (⟨r, 0, 0⟩ : FRef).apart g 1 m = true) : (d.store r w).get g k = d.get g k :=
  d.get_store_addr_ne r w g (FRef.addr_ne_of_apart h Nat.one_pos k.isLt)

theorem Dev.get_store_apart_right (w : Word) {r : Reg} (h : (⟨r, 0, 0⟩ : FRef).apart g n 1 = true) : (d.store r w i).get g = d.get g :=
  d.get_store_addr_ne r w g (FRef.addr_ne_of_apart h i.isLt Nat.one_pos)

theorem Dev.get_store_apart_zero (w : Word) {r : Reg} (h : (⟨r, 0, 0⟩ : FRef).apart g 1 1 = true) : (d.store r w).get g = d.get g :=
  d.get_store_addr_ne r w g (FRef.addr_ne_of_apart h Nat.one_pos Nat.one_pos)

theorem Dev.is_store_apart (w : Word) {r : Reg} (h : (⟨r, 0, 0⟩ : FRef).apart g n m = true) : (d.store r w i).is g k = d.is g k := by
  rw [Dev.is, d.get_store_apart i k w h, Dev.is]

end

end Sys2Proof.Machine
end

section
/-! The alignment DLLs (R285 to R293). -/

namespace Sys2Proof.Machine

/-! ### What a write of their registers does -/

theorem Dev.regWrite_dllCtrl (d : Dev) (port i j : Nat) (w : Word) : d.regWrite port ALN_DLL_CTRL i j w none =
    if fget w 0 0 == 1 then (d.store ALN_DLL_CTRL w i j).dllRealign i else d.store ALN_DLL_CTRL w i j := rfl

theorem Dev.regWrite_outOfs (d : Dev) (port i j : Nat) (w : Word) :
    d.regWrite port ALN_OUT_OFS i j w none = (d.store ALN_OUT_OFS w i j).dllRealign i := rfl

section

variable (d : Dev) (x : Nat)

/-! ### Entering ALIGNING from LOCKING -/

theorem Dev.dllTo_aligning_of_locking (h : d.dllState x = 2) :
    d.dllTo x 3 = ((d.put ALN_DLL_STAT.STATE 3 x).put ALN_DLL_STAT.ALIGNED 0 x).startTimer .align x := by
  simp [Dev.dllTo, h, b2n]

/-- The status of a DLL lies in a register of its own. -/
theorem Dev.get_putStatus (f g : FRef) (v k : Nat) (hf : f.reg = ALN_DLL_STAT)
    (hg : g.reg = ALN_OUT_CFG ∨ g.reg = SAP_PCFG ∨ g.reg = PSM_PG_CFG) (_hk : k < 28) (_hx : x < 28) :
    (d.put f v x).get g k = d.get g k := by
  refine d.get_put_addr_ne f g v ?_
  rw [hf]
  rcases hg with hg | hg | hg <;>
    simp only [hg, Reg.addr, ALN_DLL_STAT, ALN_OUT_CFG, SAP_PCFG, PSM_PG_CFG] <;> omega

theorem Dev.dllLoop_dllTo_aligning (hx : x < 28) (h : d.dllState x = 2) : (d.dllTo x 3).dllLoop x = d.dllLoop x := by
  have hget : ∀ (g : FRef) (k : Nat), g.reg = ALN_OUT_CFG ∨ g.reg = SAP_PCFG ∨ g.reg = PSM_PG_CFG → k < 28 →
      (d.dllTo x 3).get g k = d.get g k := fun g k hg hk => by
    rw [d.dllTo_aligning_of_locking x h, Dev.get_startTimer]
    exact (Dev.get_putStatus _ x _ g 0 k rfl hg hk hx).trans (d.get_putStatus x _ g 3 k rfl hg hk hx)
  unfold Dev.dllLoop
  rw [hget _ _ (.inl rfl) hx, hget _ _ (.inr (.inl rfl)) (by omega), hget _ _ (.inr (.inr rfl)) (by omega)]

theorem Dev.dllState_dllTo_aligning (h : d.dllState x = 2) : (d.dllTo x 3).dllState x = 3 := by
  rw [d.dllTo_aligning_of_locking x h, Dev.dllState, Dev.get_startTimer]
  exact (Dev.get_put_field _ ALN_DLL_STAT.ALIGNED ALN_DLL_STAT.STATE 0 x 0 rfl (by decide) (by decide) (by decide) (by decide)).trans
    (d.get_put_same ALN_DLL_STAT.STATE 3 x 0 (by decide) (by decide))

/-- The lock of a DLL reports the tap size of its loop's present MCLK. -/
theorem Dev.dllLock_of_locking (hx : x < 28) (h : d.dllState x = 2) (hf : (d.dllTo x 3).mclkNow (d.dllLoop x) ≠ 0) :
    d.dllLock x = (d.dllTo x 3).put ALN_DLL_TSZ.TSZ (rhe 6400000000000000 ((d.dllTo x 3).mclkNow (d.dllLoop x) * 1024)).toNat x := by
  simp [Dev.dllLock, h, Dev.putTsz, Dev.tapSize, d.dllLoop_dllTo_aligning x hx h, d.dllState_dllTo_aligning x h, hf]

/-! ### Anchors -/

theorem Dev.dllAnchor_of_aligning {a edge f : Nat} {err : Int} {e : Dev} (h : d.dllState x = 3) (hanch : d.hasAnchors x = true)
    (ha : d.anchorHere x = some a) (hf : f = (d.loop (d.dllLoop x)).fout) (hedge : (125 * edge + 4000000) * f ≤ 2 * a)
    (hran : d.ranFor .align 2000 x = true)
    (he : e = (d.put ALN_DLL_STAT.TAP (rhe ((2 * a - 125 * edge * f) % 128000000000000 * 1024 : Nat) 128000000000000 % 1024).toNat x).dllTo x 4) :
    d.dllAnchor x edge err =
      { e with dll := tabPut {} e.dll x { edge := 4000 * e.tclk + (a - (e.tb (e.anchorTb x)).val * 1000 * f / 2 ^ 46) / max 1 f } } := by
  rw [Nat.add_mul] at hedge
  have hlate : ¬ 2 * a < 125 * edge * f + 4000000 * f := Nat.not_lt.2 hedge
  subst he hf
  simp [Dev.dllAnchor, Dev.alignAt, h, hanch, ha, hlate, hran]

/-- Without TRACK and within LIMIT an error is reported and nothing else. -/
theorem Dev.dllAnchor_of_run {a edge : Nat} {err : Int} {e : Dev} (hx : x < 28) (h : d.dllState x = 4) (hanch : d.hasAnchors x = true)
    (ha : d.anchorHere x = some a) (htrack : d.is ALN_DLL_CTRL.TRACK x = false) (herr : err.natAbs ≤ max 100 (d.get ALN_CFG.LIMIT))
    (he : e = d.put ALN_DLL_ERR.ERR (unsW 16 (clampI (-32768) 32767 err)) x) :
    d.dllAnchor x edge err = { e with dll := tabPut {} e.dll x { tabGet {} e.dll x with beyond := false } } := by
  have hne : ∀ (g : FRef) (k : Nat), g.reg = ALN_DLL_CTRL ∧ k = x ∨ g.reg = ALN_CFG ∧ k = 0 → e.get g k = d.get g k := by
    intro g k hg
    rw [he]
    refine d.get_put_addr_ne _ g _ ?_
    rcases hg with ⟨hg, hk⟩ | ⟨hg, hk⟩ <;>
      simp only [hg, hk, Reg.addr, ALN_DLL_ERR.ERR, ALN_DLL_ERR, ALN_DLL_CTRL, ALN_CFG] <;> omega
  have htrack' : e.is ALN_DLL_CTRL.TRACK x = false := by rw [Dev.is, hne _ _ (.inl ⟨rfl, rfl⟩)]; exact htrack
  have hlimit : e.get ALN_CFG.LIMIT = d.get ALN_CFG.LIMIT := hne _ _ (.inr ⟨rfl, rfl⟩)
  have hstep : e.trackStep x err = e := by simp [Dev.trackStep, htrack']
  have hbeyond : ¬ max 100 (d.get ALN_CFG.LIMIT) < err.natAbs := Nat.not_lt.2 herr
  simp only [Dev.dllAnchor, hanch, ha, h, Dev.anchorError, ← he, hstep, hlimit, hbeyond]
  simp

/-! ### Realigning -/

theorem Dev.dllRealign_of_run (hx : x < 24) (h : d.dllState x = 4) : d.dllRealign x = d.dllTo x 3 := by
  have : ¬ 24 ≤ x := by omega
  simp [Dev.dllRealign, h, this]

end

/-- Settles O9: each clause names the branch of the DLL's operation that its hypotheses select. -/
theorem alignmentCommandsComplete : Obligations.AlignmentCommandsComplete := by
  unfold Obligations.AlignmentCommandsComplete
  refine ⟨?lock, ?aligning, ?run, ?unlock, ?realign, ?offset⟩
  case lock =>
    intro s dt x d hd ha hst hf
    rw [exec_dllLock, State.after_event _ ha, ← hd, d.dllLock_of_locking x x.isLt hst hf]
  case aligning =>
    intro s dt x sec frac edge a f err d e hedge hd ha hst hanch hhere hf hle hran he
    rw [exec_dllAnchor, State.after_event _ ha, ← hd, ← hedge, d.dllAnchor_of_aligning x hst hanch hhere hf hle hran he]
  case run =>
    intro s dt x sec frac a err d e hd ha hst hanch hhere htrack herr he
    rw [exec_dllAnchor, State.after_event _ ha, ← hd, d.dllAnchor_of_run x x.isLt hst hanch hhere htrack herr he]
  case unlock =>
    intro s dt x d hd ha hst
    rw [exec_dllUnlock, State.after_event _ ha, ← hd, Dev.dllUnlock, if_pos hst]
  case realign =>
    intro s p x w d hd hs hw hst hx
    have hst' : (d.store ALN_DLL_CTRL w x).dllState x = 4 :=
      (d.get_store_addr_ne _ w ALN_DLL_STAT.STATE (by simp only [Reg.addr, ALN_DLL_STAT.STATE, ALN_DLL_STAT, ALN_DLL_CTRL]; omega)).trans hst
    rw [exec_dllRealign, State.after_write hs (b := 3) (by decide) x.isLt Nat.one_pos (by decide), ← hd, Dev.regWrite_dllCtrl, hw,
      if_pos (beq_self_eq_true 1), Dev.dllRealign_of_run _ x hx hst']
  case offset =>
    intro s p o w d hd hs hst
    have hst' : (d.store ALN_OUT_OFS w o).dllState o = 4 :=
      (d.get_store_addr_ne _ w ALN_DLL_STAT.STATE (by simp only [Reg.addr, ALN_DLL_STAT.STATE, ALN_DLL_STAT, ALN_OUT_OFS]; omega)).trans hst
    rw [exec_outOfsWrite, State.after_write hs (b := 3) (by decide) o.isLt Nat.one_pos (by decide), ← hd, Dev.regWrite_outOfs,
      Dev.dllRealign_of_run _ o (by omega) hst']

end Sys2Proof.Machine
end

section
/-! Every command keeps the canonical form of memory and register table: the tables change by writes and by leaving entries out, and every
function of the device keeps the form because those that it is made of do. One lemma per function of the model, in the model's order. -/

namespace Sys2Proof.Machine

/-! ### Tables of rising keys -/

namespace Rising

variable {α β : Type} {t : Tab α}

theorem tabDel {q : Nat} (h : Rising t) : Rising (tabDel t q) ∧ ∀ x ∈ Machine.tabDel t q, x ∈ t := by
  induction t with
  | nil => exact ⟨trivial, fun _ hx => hx⟩
  | cons y t ih =>
    obtain ⟨hy, ht⟩ := h
    obtain ⟨hr, hm⟩ := ih ht
    unfold Machine.tabDel
    split
    · exact ⟨hr, fun x hx => .tail _ (hm x hx)⟩
    · exact ⟨⟨fun x hx => hy x (hm x hx), hr⟩, List.cons_subset_cons y hm⟩

theorem tabIns {q : Nat} {v : α} (h : Rising t) : Rising (tabIns t q v) ∧ ∀ x ∈ Machine.tabIns t q v, x.1 = q ∨ x ∈ t := by
  induction t with
  | nil => exact ⟨⟨fun _ hx => absurd hx List.not_mem_nil, trivial⟩, fun x hx => .inl (by rw [List.mem_singleton.1 hx])⟩
  | cons y t ih =>
    obtain ⟨hy, ht⟩ := h
    obtain ⟨hr, hm⟩ := ih ht
    unfold Machine.tabIns
    split
    next hq =>
      refine ⟨⟨fun x hx => ?_, hy, ht⟩, fun x hx => ?_⟩
      · obtain rfl | hx := List.mem_cons.1 hx
        · exact hq
        · exact hq.trans (hy x hx)
      · obtain rfl | hx := List.mem_cons.1 hx
        · exact .inl rfl
        · exact .inr hx
    next hq =>
      split
      next he =>
        refine ⟨⟨hy, ht⟩, fun x hx => ?_⟩
        obtain rfl | hx := List.mem_cons.1 hx
        · exact .inl he.symm
        · exact .inr (.tail _ hx)
      next he =>
        refine ⟨⟨fun x hx => ?_, hr⟩, fun x hx => ?_⟩
        · obtain hx | hx := hm x hx
          · omega
          · exact hy x hx
        · obtain rfl | hx := List.mem_cons.1 hx
          · exact .inr (.head _)
          · exact (hm x hx).imp_right (.tail _)

theorem tabPut [DecidableEq α] {d : α} {q : Nat} {v : α} (h : Rising t) : Rising (tabPut d t q v) := by
  unfold Machine.tabPut
  split
  · exact h.tabDel.1
  · exact h.tabIns.1

/-- Leaving entries out, and changing values, keeps rising keys. -/
theorem filterMap {f : Nat × α → Option (Nat × β)} (h : Rising t) (hf : ∀ x y, f x = some y → y.1 = x.1) : Rising (t.filterMap f) := by
  induction t with
  | nil => trivial
  | cons x t ih =>
    obtain ⟨hx, ht⟩ := h
    rw [List.filterMap_cons]
    split
    · exact ih ht
    next y hy =>
      refine ⟨fun z hz => ?_, ih ht⟩
      obtain ⟨w, hw, hz⟩ := List.mem_filterMap.1 hz
      rw [hf x y hy, hf w z hz]
      exact hx w hw

theorem filter (p : Nat × α → Bool) (h : Rising t) : Rising (t.filter p) := by
  rw [← List.filterMap_eq_filter]
  exact h.filterMap fun x y hy => by rw [(Option.guard_eq_some_iff.1 hy).1]

end Rising

/-! ### How functions of the device are put together

A record update of other parts, a choice, a pair taken apart, a repetition. -/

namespace Dev

variable {α β : Type} {d e : Dev}

/-- A record update of other parts than memory and register table. -/
theorem Canon.same
    {eccCor eccBad fuse tclk pace free period once timers imageApplied sections build out flt mgmt time perf pwr rcu dll dllLost aud
    asrc xpt psm dips pair cyc sap sapG hlk hfb flow retained str txts ethRetained thk boot test errN irqN resetN} (h : d.Canon) :
    (Dev.mk d.regs d.mem eccCor eccBad fuse tclk pace free period once timers imageApplied sections build out flt mgmt time perf pwr
      rcu dll dllLost aud asrc xpt psm dips pair cyc sap sapG hlk hfb flow retained str txts ethRetained thk boot test errN irqN
      resetN).Canon := h

theorem Canon.pair {a : α} (h : d.Canon) : (a, d).2.Canon := h

theorem Canon.of_pair {p : α × Dev} {a : α} (h : p.2.Canon) (hp : p = (a, d)) : d.Canon := by
  rw [hp] at h
  exact h

theorem Canon.ite {c : Prop} [Decidable c] (hd : d.Canon) (he : e.Canon) : (if c then d else e).Canon := by
  split <;> assumption

theorem Canon.ite_snd {c : Prop} [Decidable c] {p q : α × Dev} (hp : p.2.Canon) (hq : q.2.Canon) : (if c then p else q).2.Canon := by
  split <;> assumption

theorem Canon.bind {p : α × Dev} {f : α → Dev → Dev} (hp : p.2.Canon) (hf : ∀ a d, d.Canon → (f a d).Canon) :
    (match p with | (a, d) => f a d).Canon := hf _ _ hp

theorem Canon.bind_snd {p : α × Dev} {f : α → Dev → β × Dev} (hp : p.2.Canon) (hf : ∀ a d, d.Canon → (f a d).2.Canon) :
    (match p with | (a, d) => f a d).2.Canon := hf _ _ hp

theorem Canon.forN {n : Nat} {f : Nat → Dev → Dev} (h : d.Canon) (hf : ∀ i d, d.Canon → (f i d).Canon) : (forN n f d).Canon := by
  induction n with
  | zero => exact h
  | succ n ih => exact hf n _ ih

theorem Canon.forN_snd {n : Nat} {p : β × Dev} {f : Nat → β × Dev → β × Dev} (h : p.2.Canon)
    (hf : ∀ i p, p.2.Canon → (f i p).2.Canon) : (Machine.forN n f p).2.Canon := by
  induction n with
  | zero => exact h
  | succ n ih => exact hf n _ ih

theorem Canon.foldl {l : List α} {f : Dev → α → Dev} (h : d.Canon) (hf : ∀ d, d.Canon → ∀ a, (f d a).Canon) : (l.foldl f d).Canon := by
  induction l generalizing d with
  | nil => exact h
  | cons a l ih => exact ih (hf d h a)

theorem Canon.foldl_snd {l : List α} {p : β × Dev} {f : β × Dev → α → β × Dev} (h : p.2.Canon)
    (hf : ∀ p, p.2.Canon → ∀ a, (f p a).2.Canon) : (l.foldl f p).2.Canon := by
  induction l generalizing p with
  | nil => exact h
  | cons a l ih => exact ih (hf p h a)

/-! The answer of an instruction: the device that it leaves is canonical. -/

end Dev

def SRes.Canon : SRes → Prop
  | .ok d _ _ _ _ => d.Canon
  | _ => True

namespace SRes.Canon

theorem exc {code addr bad} : (SRes.exc code addr bad).Canon := trivial

theorem wait : SRes.wait.Canon := trivial

theorem illegal : SRes.illegal.Canon := trivial

theorem ite {c : Prop} [Decidable c] {r s : SRes} (hr : r.Canon) (hs : s.Canon) : (if c then r else s).Canon := by
  split <;> assumption

end SRes.Canon

namespace Dev

variable {d e : Dev}

theorem Canon.ok {npc mem load store} (h : d.Canon) : (SRes.ok d npc mem load store).Canon := h

theorem Canon.of_ok {r : SRes} {npc mem load store} (h : r.Canon) (hr : r = .ok d npc mem load store) : d.Canon := by
  rw [hr] at h
  exact h

/-! ### Ops -/

theorem Canon.wr {r w i j} (h : d.Canon) : (d.wr r w i j).Canon := ⟨h.1, h.2.tabPut⟩

theorem Canon.put {f v i j} (h : d.Canon) : (d.put f v i j).Canon := h.wr

theorem Canon.setBit {f b i j} (h : d.Canon) : (d.setBit f b i j).Canon := h.put

theorem Canon.clrBit {f b i j} (h : d.Canon) : (d.clrBit f b i j).Canon := .ite h.put h

theorem Canon.inc {f i j} (h : d.Canon) : (d.inc f i j).Canon := h.put

theorem Canon.store {r w i j} (h : d.Canon) : (d.store r w i j).Canon := .ite h h.wr

theorem Canon.draw (h : d.Canon) : (d.draw).2.Canon := h.same.pair

theorem Canon.emit {e} (h : d.Canon) : (d.emit e).Canon := h.same

theorem Canon.useOnce {kind i} (h : d.Canon) : (d.useOnce kind i).Canon := .ite h h.same

theorem Canon.startTimer {t i} (h : d.Canon) : (d.startTimer t i).Canon := h.same

theorem Canon.stopTimer {t i} (h : d.Canon) : (d.stopTimer t i).Canon := h.same

theorem Canon.newPeriod (h : d.Canon) : (d.newPeriod).Canon := h.same

theorem Canon.pseudoFrom (h : d.Canon) : (d.pseudoFrom).Canon := h.newPeriod.startTimer

theorem Canon.setBytes {a bs} (h : d.Canon) : (d.setBytes a bs).Canon := ⟨d.setBytes_wf a bs h.1, h.2⟩

theorem Canon.setMemLe {a n v} (h : d.Canon) : (d.setMemLe a n v).Canon := h.setBytes

theorem Canon.setMemW {a w} (h : d.Canon) : (d.setMemW a w).Canon := h.setMemLe

theorem Canon.clearRange {lo hi} (h : d.Canon) : (d.clearRange lo hi).Canon := ⟨memFilter_wf d.mem _ h.1, h.2⟩

theorem Canon.setPending {v on} (h : d.Canon) : (d.setPending v on).Canon := h.wr

theorem Canon.msixTry {v} (h : d.Canon) : (d.msixTry v).Canon := .ite h (.ite (.ite h h.same) h.setPending.same.emit)

theorem Canon.raiseVecTo {v host core} (h : d.Canon) : (d.raiseVecTo v host core).Canon :=
  .ite (Canon.ite h.emit h).setPending.msixTry (.ite h.emit h)

theorem Canon.raiseVec {v} (h : d.Canon) : (d.raiseVec v).Canon := h.raiseVecTo

theorem Canon.cntAdd {i n} (h : d.Canon) : (d.cntAdd i n).Canon := .ite (.ite h.same.put.raiseVec h.same.put) h.same

theorem Canon.perfEvent {code n e} (h : d.Canon) : (d.perfEvent code n e).Canon := .ite h (h.forN (fun _ _ h1 => .ite h1.cntAdd h1))

theorem Canon.putFill {q} (h : d.Canon) : (d.putFill q).Canon := h.put

theorem Canon.ringSet {q wr rd} (h : d.Canon) : (d.ringSet q wr rd).Canon := h.put.put.putFill

theorem Canon.ringSeqNext {q} (h : d.Canon) : (d.ringSeqNext q).2.Canon := h.same.pair

theorem Canon.ringNotify {q} (h : d.Canon) : (d.ringNotify q).Canon := .ite h.raiseVecTo h.emit

theorem Canon.ringPad {q} (h : d.Canon) : (d.ringPad q).Canon := Canon.bind h.ringSeqNext fun _ _ h1 => h1.setBytes.ringSet

theorem Canon.ringPush {q kind flags aux0 aux1 pay} (h : d.Canon) : (d.ringPush q kind flags aux0 aux1 pay).2.Canon :=
  .ite_snd h.put.pair (Canon.bind_snd (Canon.ite h.ringPad h).ringSeqNext fun _ _ h1 => h1.setBytes.ringSet.ringNotify.pair)

theorem Canon.setTb {t b} (h : d.Canon) : (d.setTb t b).Canon := h.same

/-! ### Flags -/

theorem Canon.setSev {n on} (h : d.Canon) : (d.setSev n on).Canon := h.wr

theorem Canon.setErrh {n} (h : d.Canon) : (d.setErrh n).Canon := h.wr

theorem Canon.fltSetState {n st} (h : d.Canon) : (d.fltSetState n st).Canon := h.put.put

theorem Canon.fltPush {n flags cause} (h : d.Canon) : (d.fltPush n flags cause).2.Canon :=
  Canon.bind_snd h.ringPush fun _ _ h1 => .ite_snd h1.pair h1.put.pair

theorem Canon.fecCapture {n a} (h : d.Canon) : (d.fecCapture n a).Canon := .ite h (.ite h.put h.put.put.put.put.put.put.put.put)

theorem Canon.addDue {x} (h : d.Canon) : (d.addDue x).Canon := h.same

theorem Canon.reactI {n} (h : d.Canon) : (d.reactI n).Canon := h.raiseVec

theorem Canon.react {n bits errh kind} (h : d.Canon) : (d.react n bits errh kind).Canon := by
  unfold Dev.react
  extract_lets _ _ d2 d3 d4
  have h2 : d2.Canon := .ite (Canon.ite h.reactI h).same (.ite h.reactI h)
  have h3 : d3.Canon := .ite h2.setErrh h2
  have h4 : d4.Canon := .ite h3.addDue h3
  exact .ite h4.addDue h4

theorem Canon.senseVbus (h : d.Canon) : (d.senseVbus).Canon := .ite h (Canon.bind h.draw fun _ _ h1 => h1.put.startTimer)

theorem Canon.senseTj (h : d.Canon) : (d.senseTj).Canon := .ite h (Canon.bind h.draw fun _ _ h1 => h1.put.startTimer)

theorem Canon.graveLatch {n c} (h : d.Canon) : (d.graveLatch n c).Canon := (Canon.ite h h.put.put).inc.senseVbus.senseTj.same

theorem Canon.reactOnce {n bits inj} (h : d.Canon) : (d.reactOnce n bits inj).2.Canon := h.same.pair

theorem Canon.fltCounted {n a rec capture} (h : d.Canon) : (d.fltCounted n a rec capture).2.Canon := by
  unfold Dev.fltCounted
  extract_lets _ _ _ _ _ _ _ d3 _ _ _ _ d4 d5 _ d6 _ _ d7
  have h3 : d3.Canon := .ite h.same.inc.put.fecCapture h.same.inc.put
  have h4 : d4.Canon := .ite h3.graveLatch h3
  have h5 : d5.Canon := h4.fltSetState.setSev
  have h6 : d6.Canon := .ite (.ite h5 h5.same) (.ite h4.fltSetState h4)
  have h7 : d7.Canon := .ite h6.same h6
  exact Canon.bind_snd (.ite_snd h7.pair (.ite_snd h7.fltPush h7.put.pair)) fun _ _ h1 => Canon.bind_snd h1.reactOnce fun _ _ h2 =>
    h2.react.pair

theorem Canon.fltConseq {n cause rec} (h : d.Canon) : (d.fltConseq n cause rec).2.Canon :=
  .ite_snd h.inc.pair (.ite_snd (Canon.bind_snd h.inc.same.fltPush fun _ _ h1 => h1.pair) h.inc.same.put.pair)

theorem Canon.raise0 {n a rec capture} (h : d.Canon) : (d.raise0 n a rec capture).2.Canon := by
  unfold Dev.raise0
  split
  · exact h.fltConseq
  · exact h.fltCounted

theorem Canon.raise1 {n a capture} (h : d.Canon) : (d.raise1 n a capture).Canon := by
  unfold Dev.raise1
  split
  · rename_i hp
    have h1 := Canon.of_pair h.raise0 hp
    exact h1.raise0
  · rename_i hp
    have h1 := Canon.of_pair h.raise0 hp
    exact h1

theorem Canon.raiseAt {n a} (h : d.Canon) : (d.raiseAt n a).Canon := h.raise1

theorem Canon.raise {n} (h : d.Canon) : (d.raise n).Canon := h.raise1

theorem Canon.corrected {n a} (h : d.Canon) : (d.corrected n a).Canon := h.same.raiseAt

theorem Canon.eccRead {a cor unc master} (h : d.Canon) : (d.eccRead a cor unc master).2.Canon :=
  (Canon.ite h.raiseAt (.ite h.corrected h)).pair

theorem Canon.sramScan {a n master} (h : d.Canon) : (d.sramScan a n master).Canon :=
  (h.foldl (fun _ h1 _ => h1.raiseAt)).foldl (fun _ h1 _ => h1.corrected)

theorem Canon.raiseAll {evs} (h : d.Canon) : (d.raiseAll evs).Canon :=
  (h.foldl (fun _ h1 _ => .ite h1.fecCapture h1)).foldl (fun _ h1 _ => h1.raise1)

theorem Canon.raiseOnce {n} (h : d.Canon) : (d.raiseOnce n).Canon := .ite h h.useOnce.raise

theorem Canon.fltAck {n} (h : d.Canon) : (d.fltAck n).Canon := .ite h.fltSetState.setSev.put.same h.setSev

theorem Canon.fltEscalation {n} (h : d.Canon) : (d.fltEscalation n).Canon := by
  suffices hf : ∀ f, f = Dev.fltEscalation → (f d n).Canon from hf _ rfl
  delta Dev.fltEscalation
  rintro _ rfl
  beta_reduce
  extract_lets d1
  have h1 : d1.Canon := h.put
  split
  next hp =>
    have h2 := h1.fltPush.of_pair hp
    extract_lets d3
    have h3 : d3.Canon := .ite h2 h2.raise0
    split
    · exact h3.addDue
    · exact h3.addDue
    · exact h3

theorem Canon.fltEscalate {n} (h : d.Canon) : (d.fltEscalate n).Canon := .ite h.fltSetState.same.fltEscalation h

theorem Canon.fltWindowExpire {n} (h : d.Canon) : (d.fltWindowExpire n).Canon := .ite h.fltSetState.put h.put

theorem Canon.inject1 {n} (h : d.Canon) : (d.inject1 n).Canon := by
  unfold Dev.inject1
  extract_lets _ _ _ _ _ _ _ _ _ d3 d4 _
  have h3 : d3.Canon := .ite h.same.inc.put.same h.same.inc.put
  have h4 : d4.Canon := by
    refine .ite ?_ h3
    split
    rename_i hp
    have h1 := Canon.of_pair h3.fltPush hp
    exact .ite h1 h1.raise0
  split
  rename_i hp
  have h1 := Canon.of_pair h4.reactOnce hp
  exact h1.react

/-! ### Time -/

theorem Canon.setAdj {t z} (h : d.Canon) : (d.setAdj t z).Canon := h.put.put

theorem Canon.tbAdvance {n} (h : d.Canon) : (d.tbAdvance n).Canon := .ite h (h.forN (fun _ _ h1 => h1.setTb))

theorem Canon.capRecord {c sub} (h : d.Canon) : (d.capRecord c sub).Canon :=
  .ite (.ite h.setBit h) (Canon.ite h.setBit h).same.setBit.put.put

theorem Canon.captureEvent {src rising sub} (h : d.Canon) : (d.captureEvent src rising sub).Canon :=
  h.forN (fun _ _ h1 => .ite h1.capRecord h1)

theorem Canon.pinEdge {pin rising sub} (h : d.Canon) : (d.pinEdge pin rising sub).Canon :=
  .ite h.captureEvent (.ite h ((Canon.ite h.setBit h.clrBit).captureEvent))

theorem Canon.capRead {c} (h : d.Canon) : (d.capRead c).Canon := h.put.put

theorem Canon.almArm {a sec ns sub} (h : d.Canon) : (d.almArm a sec ns sub).Canon := h.put.same

theorem Canon.almDisarm {a} (h : d.Canon) : (d.almDisarm a).Canon := h.put

theorem Canon.tioAct {a} (h : d.Canon) : (d.tioAct a).Canon := by
  unfold Dev.tioAct
  extract_lets _
  refine .ite h ?_
  split
  · exact .ite h.clrBit h.setBit
  · exact h.setBit
  · exact h.clrBit
  · exact h

theorem Canon.almLate {a} (h : d.Canon) : (d.almLate a).Canon := h.setBit.raise

theorem Canon.almFire {a late} (h : d.Canon) : (d.almFire a late).Canon := by
  unfold Dev.almFire
  extract_lets _ _ _ _ _ d4 _ _
  have h4 : d4.Canon := (Canon.ite (Canon.ite h.almLate h).setBit.raiseVec (Canon.ite h.almLate h).setBit).tioAct.captureEvent
  exact .ite h4.almDisarm h4.almArm

theorem Canon.almArmFw {a} (h : d.Canon) : (d.almArmFw a).Canon := .ite h.almArm.almFire h.almArm

theorem Canon.almAfterStep {t} (h : d.Canon) : (d.almAfterStep t).Canon := h.forN (fun _ _ h1 => .ite h1.almFire h1)

theorem Canon.setBo {z} (h : d.Canon) : (d.setBo z).Canon := h.put.put

theorem Canon.selSwitch (h : d.Canon) : (d.selSwitch).Canon := .ite h.put h.setBo.put.put.raise

theorem Canon.selAuto {t} (h : d.Canon) : (d.selAuto t).Canon := .ite h.selSwitch h

theorem Canon.servoMove {t st} (h : d.Canon) : (d.servoMove t st).Canon := by
  unfold Dev.servoMove
  extract_lets _ _ _ _ _ d4 d5
  have h4 : d4.Canon := .ite (Canon.ite h.setAdj h).setTb.put.startTimer (Canon.ite h.setAdj h).setTb.put.stopTimer
  have h5 : d5.Canon := .ite h4.put.raise h4
  exact .ite h (.ite h5.put.raise h5)

theorem Canon.servoTo {t st} (h : d.Canon) : (d.servoTo t st).Canon := .ite h (.ite h.servoMove.selAuto h.servoMove)

theorem Canon.noteStep {t} (h : d.Canon) : (d.noteStep t).Canon := h.same

theorem Canon.tbStep {t theta} (h : d.Canon) : (d.tbStep t theta).Canon := h.setTb.noteStep.put.raise.almAfterStep

theorem Canon.servoUpdate {t theta fstep} (h : d.Canon) : (d.servoUpdate t theta fstep).Canon := by
  unfold Dev.servoUpdate
  extract_lets _ _ _ _ _ _ _ _ d4
  have h4 : d4.Canon := .ite (Canon.ite h.inc.put.startTimer.put h.inc.put.startTimer).tbStep h.inc.put.startTimer.setTb.setAdj
  exact .ite h4.servoTo (.ite h4.servoTo h4)

theorem Canon.offset {t src theta timely fstep} (h : d.Canon) : (d.offset t src theta timely fstep).Canon :=
  .ite h.inc (.ite (.ite h.inc.servoTo h.inc) ((Canon.ite h.setTb.servoTo (.ite h.servoTo h)).servoUpdate))

theorem Canon.offsetFw {t theta} (h : d.Canon) : (d.offsetFw t theta).Canon := h.offset

theorem Canon.tbSet {t} (h : d.Canon) : (d.tbSet t).Canon := by
  unfold Dev.tbSet
  refine .ite h ?_
  extract_lets _ _ _ _ d3
  have h3 : d3.Canon := h.setTb.noteStep.same.put.raise.almAfterStep
  exact .ite h3.servoTo h3

theorem Canon.tbRead {t} (h : d.Canon) : (d.tbRead t).Canon := h.put.put.put.put

theorem Canon.rateLoWrite {t v} (h : d.Canon) : (d.rateLoWrite t v).Canon := .ite h.same h

theorem Canon.rateCommit {t hi} (h : d.Canon) : (d.rateCommit t hi).Canon := .ite h.same.setAdj h

theorem Canon.holdTimeout {t} (h : d.Canon) : (d.holdTimeout t).Canon := .ite h.servoTo h

theorem Canon.selTick (h : d.Canon) : (d.selTick).Canon := .ite h (.ite h.startTimer h.startTimer.offset)

theorem Canon.selCommand (h : d.Canon) : (d.selCommand).Canon := .ite h.selSwitch h.put

theorem Canon.selRevert (h : d.Canon) : (d.selRevert).Canon := .ite h.selSwitch h

theorem Canon.timeBlockReset (h : d.Canon) : (d.timeBlockReset).Canon :=
  ((h.forN (fun _ _ h1 => h1.servoMove)).forN (fun _ _ h1 => .ite h1.almDisarm h1)).same

theorem Canon.servosFree (h : d.Canon) : (d.servosFree).Canon := h.forN (fun _ _ h1 => h1.servoMove)

theorem Canon.timeChipReset (h : d.Canon) : (d.timeChipReset).Canon := (h.forN (fun _ _ h1 => h1.setTb)).same

theorem Canon.tioAdopt {o} (h : d.Canon) : (d.tioAdopt o).Canon := h.forN (fun _ _ h1 => .ite h1.clrBit h1)

theorem Canon.selBleed {n} (h : d.Canon) : (d.selBleed n).Canon := .ite h h.setBo.same

theorem Canon.pass {n} (h : d.Canon) : (d.pass n).Canon := .ite h (Canon.bind h.draw fun _ _ h1 => h1.same.tbAdvance.selBleed)

/-! ### Rcu -/

theorem Canon.setLoop {k l} (h : d.Canon) : (d.setLoop k l).Canon := h.same

theorem Canon.loopBits {k} (h : d.Canon) : (d.loopBits k).Canon := h.put.put

theorem Canon.loopHvalid {k} (h : d.Canon) : (d.loopHvalid k).Canon := .ite h.put h

theorem Canon.loopTo {k st} (h : d.Canon) : (d.loopTo k st).Canon := by
  unfold Dev.loopTo
  extract_lets _ _ _ d3 _ _
  have h3 : d3.Canon := .ite h.loopHvalid.put.put h.loopHvalid.put
  exact (Canon.ite h3.setLoop.put h3).loopBits

theorem Canon.setBw {k bw} (h : d.Canon) : (d.setBw k bw).Canon := h.setLoop.startTimer

theorem Canon.bwFollow {k} (h : d.Canon) : (d.bwFollow k).Canon := .ite h.setBw h

theorem Canon.setFine {k w} (h : d.Canon) : (d.setFine k w).Canon := h.setLoop

theorem Canon.control {k} (h : d.Canon) : (d.control k).Canon := Canon.bind h.draw fun _ _ h1 => .ite h1.setFine h1.setFine.setLoop

theorem Canon.applyBand {k b trials} (h : d.Canon) : (d.applyBand k b trials).Canon := h.setLoop.put

theorem Canon.searchFail {k} (h : d.Canon) : (d.searchFail k).Canon := h.setLoop.startTimer.raise

theorem Canon.searchBegin {k} (h : d.Canon) : (d.searchBegin k).Canon := by
  unfold Dev.searchBegin
  extract_lets _ _
  refine .ite h.setLoop ?_
  split
  · exact h.setLoop.searchFail
  · exact h.setLoop.applyBand

theorem Canon.limitFine {k} (h : d.Canon) : (d.limitFine k).Canon := h.setLoop

theorem Canon.toSearch {k} (h : d.Canon) : (d.toSearch k).Canon := h.loopTo.limitFine.setLoop.searchBegin

theorem Canon.qsStore {k} (h : d.Canon) : (d.qsStore k).Canon := by
  unfold Dev.qsStore
  refine .ite h ?_
  extract_lets _ same inv _
  clear_value same inv
  refine Canon.bind ?_ fun _ _ h1 => h1.put.put.put.put.put
  split
  · exact h.pair
  · exact h.pair
  · exact h.put.pair

theorem Canon.holdAt {k r} (h : d.Canon) : (d.holdAt k r).Canon := h.setLoop

theorem Canon.toFreerun {k} (h : d.Canon) : (d.toFreerun k).Canon := h.holdAt.loopTo

theorem Canon.bandTrial {k f fine} (h : d.Canon) : (d.bandTrial k f fine).Canon := by
  unfold Dev.bandTrial
  refine .ite h (.ite (.ite h.setLoop.qsStore.toFreerun h.setLoop.qsStore.loopTo.setBw) ?_)
  split
  · exact h.applyBand
  · exact h.searchFail

theorem Canon.searchRetry {k} (h : d.Canon) : (d.searchRetry k).Canon := .ite h.searchBegin h

theorem Canon.slopeWrite {k w} (h : d.Canon) : (d.slopeWrite k w).Canon := .ite h.store.setLoop h.store

theorem Canon.putPhase {k ps} (h : d.Canon) : (d.putPhase k ps).Canon := h.put

theorem Canon.phaseRead {k} (h : d.Canon) : (d.phaseRead k).Canon := .ite h.putPhase h

theorem Canon.beginPull {k} (h : d.Canon) : (d.beginPull k).Canon := (Canon.ite h.loopTo.put.setLoop h.loopTo.setLoop).setBw

theorem Canon.ratioMeasure {k r} (h : d.Canon) : (d.ratioMeasure k r).Canon := .ite h.setLoop h

theorem Canon.ratioMean {k} (h : d.Canon) : (d.ratioMean k).2.Canon := by
  unfold Dev.ratioMean
  extract_lets _
  split
  · exact Canon.bind_snd h.draw fun _ _ h1 => h1.pair
  · exact h.pair

theorem Canon.toHoldover {k} (h : d.Canon) : (d.toHoldover k).Canon := by
  suffices hf : ∀ f, f = Dev.toHoldover → (f d k).Canon from hf _ rfl
  delta Dev.toHoldover
  rintro _ rfl
  beta_reduce
  obtain ⟨is, his⟩ : ∃ f, f = @Dev.is := ⟨_, rfl⟩
  rw [← his]
  exact (Canon.ite_snd h.loopTo.ratioMean h.loopTo.pair).setLoop.holdAt.putPhase.put.raise

theorem Canon.toAcquire {k} (h : d.Canon) : (d.toAcquire k).Canon := h.loopTo.limitFine.setLoop.setBw

theorem Canon.selAct {k new} (h : d.Canon) : (d.selAct k new).Canon := by
  unfold Dev.selAct
  extract_lets _ _
  split
  · exact .ite h.put h.put.toAcquire
  · exact .ite h.put.toFreerun h.put.toAcquire
  · exact .ite h.put.toHoldover h.put.beginPull.put
  · exact .ite h.put.toHoldover h.put.beginPull.put
  · exact .ite h.put.toHoldover h.put.setLoop.setBw.put
  · exact .ite h.put h.put.beginPull
  · exact .ite h.put (.ite h.put.setLoop.toFreerun h.put.setLoop)
  · exact h.put

theorem Canon.selLoop {k} (h : d.Canon) : (d.selLoop k).Canon := .ite h (.ite h h.selAct)

theorem Canon.conflictUpdate (h : d.Canon) : (d.conflictUpdate).Canon := h.put.same.foldl (fun _ h1 _ => h1.put.raise)

theorem Canon.qualUpdate (h : d.Canon) : (d.qualUpdate).Canon := h.conflictUpdate.forN (fun _ _ h1 => h1.selLoop)

theorem Canon.setCand {c st} (h : d.Canon) : (d.setCand c st).Canon := by
  unfold Dev.setCand
  extract_lets _ d2
  have h2 : d2.Canon := .ite h.put.startTimer h.put.stopTimer
  exact .ite h2.setBit h2.clrBit

theorem Canon.xoLoss (h : d.Canon) : (d.xoLoss).Canon :=
  (h.startTimer.forN (fun _ _ h1 => .ite h1.put.searchBegin (.ite h1.put.toSearch (.ite h1.put.control.setLoop.loopBits
    h1.put.loopBits)))).raise.raise

theorem Canon.holdoffResume (h : d.Canon) : (d.holdoffResume).Canon := by
  unfold Dev.holdoffResume
  split
  · exact h
  · refine (h.forN (fun _ _ h1 => ?_)).stopTimer
    split
    · exact h1
    · exact h1.same

theorem Canon.xoBack (h : d.Canon) : (d.xoBack).Canon :=
  h.holdoffResume.forN (fun _ _ h1 => .ite h1.put.searchBegin (.ite h1.put.holdAt.loopBits h1.put.loopBits))

theorem Canon.noteGate {c} (h : d.Canon) : (d.noteGate c).Canon := h.same

theorem Canon.candDisq {c freq} (h : d.Canon) : (d.candDisq c freq).Canon := by
  unfold Dev.candDisq
  extract_lets _ _ _ d3 _ _
  have h3 : d3.Canon := .ite h.setCand.setBit.put h.setCand.setBit.put
  exact .ite (Canon.ite h3.raise.xoLoss h3.raise).qualUpdate (.ite h.setCand.qualUpdate h.setCand)

theorem Canon.candFault {c} (h : d.Canon) : (d.candFault c).Canon := .ite h (.ite h.same.candDisq (.ite h.same.put.put h.same))

theorem Canon.candGlitch {c falling ps} (h : d.Canon) : (d.candGlitch c falling ps).Canon := .ite h.candFault h

theorem Canon.candSilence {c falling ps} (h : d.Canon) : (d.candSilence c falling ps).Canon := .ite h.candFault h

theorem Canon.rcuSync (h : d.Canon) : (d.rcuSync).Canon := h.forN (fun _ _ h1 => .ite h1.candDisq h1)

theorem Canon.gateEnd {c ofs} (h : d.Canon) : (d.gateEnd c ofs).Canon := by
  unfold Dev.gateEnd
  refine .ite h ?_
  extract_lets _ _ _ _ d3
  have h3 : d3.Canon := .ite h.startTimer.same h.startTimer.same.put
  split
  split
  · exact .ite h3.setCand.qualUpdate h3.qualUpdate
  · exact .ite h3.setCand.qualUpdate h3.qualUpdate
  · exact .ite h3.noteGate.candDisq h3.qualUpdate

theorem Canon.holdoffEnd {c} (h : d.Canon) : (d.holdoffEnd c).Canon := .ite ((Canon.ite h.setCand.xoBack h.setCand).qualUpdate) h

theorem Canon.toNarrow {k} (h : d.Canon) : (d.toNarrow k).Canon := h.loopTo.put.setLoop.setBw.putPhase

theorem Canon.phaseCompare {k e} (h : d.Canon) : (d.phaseCompare k e).Canon := by
  unfold Dev.phaseCompare
  split
  · exact .ite h.setLoop.toNarrow h.setLoop
  · exact .ite h.setLoop.loopTo.put.putPhase h.setLoop.putPhase
  · exact .ite h.setLoop.loopTo.put.putPhase h.putPhase
  · exact h.setLoop.putPhase
  · exact h.setLoop.startTimer
  · exact .ite h.setLoop h
  · exact h

theorem Canon.compEdge {k n e0 r} (h : d.Canon) : (d.compEdge k n e0 r).Canon := by
  unfold Dev.compEdge
  refine .ite h ?_
  extract_lets _ _
  split
  · exact h.loopHvalid
  · extract_lets d3
    have h3 : d3.Canon := h.loopHvalid.ratioMeasure.phaseCompare
    exact .ite h3 h3.control

theorem Canon.pullDone {k} (h : d.Canon) : (d.pullDone k).Canon := .ite ((Canon.ite h.loopTo h.loopTo.put).setLoop.putPhase) h

theorem Canon.narrowStep {k} (h : d.Canon) : (d.narrowStep k).Canon := .ite (.ite h.setBw.loopTo h.setBw) h

theorem Canon.retune {k} (h : d.Canon) : (d.retune k).Canon := .ite h.put (.ite h h.setLoop.toSearch)

theorem Canon.qsHop {k} (h : d.Canon) : (d.qsHop k).Canon :=
  .ite (.ite h.put.put.put.loopTo.setLoop h.put.put.put.loopTo.setLoop.toSearch) h.put

theorem Canon.hopSettled {k} (h : d.Canon) : (d.hopSettled k).Canon := .ite (.ite h.setFine.setLoop.toFreerun h.setFine.setLoop) h

theorem Canon.hopCheckDone {k} (h : d.Canon) : (d.hopCheckDone k).Canon := .ite (.ite h.toNarrow h.toAcquire.put) h

theorem Canon.rcuStepped {t} (h : d.Canon) : (d.rcuStepped t).Canon :=
  h.forN (fun _ _ h1 => .ite (.ite h1.setLoop h1.beginPull) (.ite h1.setLoop h1))

theorem Canon.rcuStart (h : d.Canon) : (d.rcuStart).Canon := h.forN (fun _ _ h1 => .ite h1.setLoop.toSearch.selLoop h1)

theorem Canon.rcuRestart {o v} (h : d.Canon) : (d.rcuRestart o v).Canon :=
  h.forN (fun _ _ h1 => .ite h1 (.ite h1.loopTo.put (.ite h1.setLoop.toSearch h1.put.put.bwFollow)))

theorem Canon.rcuSwap {o} (h : d.Canon) : (d.rcuSwap o).Canon :=
  (h.forN (fun _ _ h1 => h1.put)).forN (fun _ _ h1 => (Canon.ite h1.put.put.put.setLoop h1.put.put.put).bwFollow)

theorem Canon.rcuWrite {r i j w} (h : d.Canon) : (d.rcuWrite r i j w).Canon := by
  unfold Dev.rcuWrite
  refine .ite (.ite h.store h) (.ite ?_ ?_)
  · extract_lets _ _ d2 _
    have h2 : d2.Canon := .ite h.store h.store.put
    exact (Canon.ite h2.retune h2).selLoop
  · split
    · exact h.store.selLoop
    · exact .ite h.store.bwFollow (.ite h.slopeWrite (.ite (.ite h.store.qsHop h.store) (.ite h.store.setLoop h.store)))

theorem Canon.rcuBlockReset {o} (h : d.Canon) : (d.rcuBlockReset o).Canon :=
  (h.same.forN (fun _ _ h1 => h1.setCand)).put.put.forN (fun _ _ h1 => .ite h1.put.put.put.put.toHoldover (.ite h1.put.put.put.toSearch
    h1.put.put.put.put.loopBits))

theorem Canon.rcuChipReset (h : d.Canon) : (d.rcuChipReset).Canon := h.same

/-! ### Aln -/

theorem Canon.dllTo {x st} (h : d.Canon) : (d.dllTo x st).Canon := by
  unfold Dev.dllTo
  extract_lets _ _ d2 d3 _ _
  have h2 : d2.Canon := .ite h.put.put.put h.put.put
  have h3 : d3.Canon := .ite h2.startTimer h2
  exact .ite h3.put.startTimer.same h3

theorem Canon.alnSync (h : d.Canon) : (d.alnSync).Canon := h.forN (fun _ _ h1 => .ite h1 (.ite (.ite h1.dllTo h1) (.ite h1 h1.dllTo)))

theorem Canon.alnStart (h : d.Canon) : (d.alnStart).Canon := h.forN (fun _ _ h1 => .ite h1.dllTo h1)

theorem Canon.alnRestart {o} (h : d.Canon) : (d.alnRestart o).Canon := h.forN (fun _ _ h1 => .ite h1 (.ite h1.dllTo (.ite h1.dllTo h1)))

theorem Canon.putTsz {x} (h : d.Canon) : (d.putTsz x).Canon := h.put

theorem Canon.dllLock {x} (h : d.Canon) : (d.dllLock x).Canon := .ite h.dllTo.putTsz h

theorem Canon.dllUnlock {x} (h : d.Canon) : (d.dllUnlock x).Canon := .ite h.dllTo.put.raise h

theorem Canon.dllRealign {x} (h : d.Canon) : (d.dllRealign x).Canon := .ite h (.ite h h.dllTo)

theorem Canon.alnWrite {r i j w} (h : d.Canon) : (d.alnWrite r i j w).Canon :=
  .ite (.ite h.store.dllRealign h.store) (.ite h.store.dllRealign h.store)

theorem Canon.alnBlockReset {o} (h : d.Canon) : (d.alnBlockReset o).Canon :=
  h.same.forN (fun _ _ h1 => .ite h1 (.ite h1.put.startTimer.same h1.put))

/-! ### Xpt -/

theorem Canon.capture {src i z} (h : d.Canon) : (d.capture src i z).Canon := h.same

theorem Canon.setConv {c a} (h : d.Canon) : (d.setConv c a).Canon := h.same

theorem Canon.setRatio {c ratio} (h : d.Canon) : (d.setRatio c ratio).Canon := h.setConv.put

theorem Canon.convBw {c bw} (h : d.Canon) : (d.convBw c bw).Canon := h.setConv

theorem Canon.convRange {c} (h : d.Canon) : (d.convRange c).Canon := h.put.raise

theorem Canon.convStart {c ratio} (h : d.Canon) : (d.convStart c ratio).Canon := by
  unfold Dev.convStart
  refine .ite ?_ h
  extract_lets _ _ d2
  have h2 : d2.Canon := h.setRatio.setConv.put
  exact .ite h2 h2.convRange

theorem Canon.convLock {c ratio dly} (h : d.Canon) : (d.convLock c ratio dly).Canon :=
  .ite (.ite h.setRatio.convBw.put.put h.setRatio.convRange) h

theorem Canon.convRetrack {c} (h : d.Canon) : (d.convRetrack c).Canon := .ite h.convBw.put.put h

theorem Canon.convRate {c} (h : d.Canon) : (d.convRate c).Canon := .ite h.convRetrack.setConv h.convRetrack

theorem Canon.convSlip {c ratio} (h : d.Canon) : (d.convSlip c ratio).Canon := by
  unfold Dev.convSlip
  refine .ite ?_ h
  extract_lets _ _ d2
  have h2 : d2.Canon := .ite h.convRetrack.setRatio.setConv h.convRetrack.setRatio.raise
  exact .ite h2 h2.convRange

theorem Canon.convSlips (h : d.Canon) : (d.convSlips).Canon := h.foldl (fun _ h1 _ => h1.setConv.raise)

theorem Canon.convRangeClear {c ratio} (h : d.Canon) : (d.convRangeClear c ratio).Canon := .ite h.setRatio.convBw.put h

theorem Canon.convIdle {c} (h : d.Canon) : (d.convIdle c).Canon := .ite h h.put

theorem Canon.convRateChange {srcs outs} (h : d.Canon) : (d.convRateChange srcs outs).Canon := by
  unfold Dev.convRateChange
  refine h.forN (fun _ _ h1 => ?_)
  extract_lets _
  split
  · exact .ite h1.convRate h1
  · exact .ite h1.convRate h1
  · exact h1

theorem Canon.convTake {c t z} (h : d.Canon) : (d.convTake c t z).Canon := h.setConv

theorem Canon.convWords {c} (h : d.Canon) : (d.convWords c).Canon := h.setConv

theorem Canon.convBlock {c src} (h : d.Canon) : (d.convBlock c src).Canon := h.same.setConv

theorem Canon.convFeed {src t z} (h : d.Canon) : (d.convFeed src t z).Canon := by
  unfold Dev.convFeed
  split
  · exact .ite h h.convTake
  · exact h

theorem Canon.convPush {c ch} (h : d.Canon) : (d.convPush c ch).Canon := (h.forN (fun _ _ h1 => h1.convTake)).setConv

theorem Canon.convTurnover (h : d.Canon) : (d.convTurnover).Canon := by
  unfold Dev.convTurnover
  extract_lets d1
  have h1 : d1.Canon := by
    refine h.forN (fun _ _ h1 => ?_)
    split
    · exact h1
    · exact h1.convWords
    · exact h1.convPush.convWords
  exact h1.convSlips

theorem Canon.convFirst (h : d.Canon) : (d.convFirst).Canon := (h.forN (fun _ _ h1 => .ite h1.setConv h1)).convTurnover

theorem Canon.asrcBlockReset (h : d.Canon) : (d.asrcBlockReset).Canon := h.same

theorem Canon.setSlot {s x} (h : d.Canon) : (d.setSlot s x).Canon := h.same

theorem Canon.genBlock (h : d.Canon) : (d.genBlock).2.Canon := h.pair.forN_snd (fun _ _ h1 => .ite_snd h1.same.pair h1)

theorem Canon.silChange {x blk on} (h : d.Canon) : (d.silChange x blk on).Canon := by
  unfold Dev.silChange
  extract_lets _ _
  split
  rename_i hp
  have h1 := Canon.of_pair h.wr.wr.ringPush hp
  exact (Canon.ite h1 h1.put.raise).forN (fun _ _ h2 => .ite h2.same h2)

theorem Canon.silStep {x blk zs} (h : d.Canon) : (d.silStep x blk zs).Canon :=
  .ite (.ite h.same.silChange h.same) (.ite (.ite h.same.silChange h.same) h.same)

theorem Canon.silEnter {x} (h : d.Canon) : (d.silEnter x).Canon := .ite h.silChange h

theorem Canon.silDrop {blk} (h : d.Canon) : (d.silDrop blk).Canon :=
  h.forN (fun _ _ h1 => .ite h1 (h1.forN (fun _ _ h2 => .ite h2.silChange h2)))

theorem Canon.applySteps {ps} (h : d.Canon) : (d.applySteps ps).Canon := h.foldl (fun _ h1 _ => h1.setSlot)

theorem Canon.passDest {gen x first n blk} (h : d.Canon) : (d.passDest gen x first n blk).Canon :=
  (Canon.ite h.same.applySteps.same.wr.perfEvent.raiseOnce h.same.applySteps.same).silStep

theorem Canon.xptPass (h : d.Canon) : (d.xptPass).Canon := by
  unfold Dev.xptPass
  split
  rename_i hp
  have h1 := Canon.of_pair h.genBlock hp
  exact ((h1.same.foldl (fun _ h2 _ => h2.passDest)).silDrop).same

theorem Canon.fadeAllBegin {dir} (h : d.Canon) : (d.fadeAllBegin dir).Canon := h.same

theorem Canon.putFades (h : d.Canon) : (d.putFades).Canon := h.put

theorem Canon.putStaged (h : d.Canon) : (d.putStaged).Canon := h.put.put

theorem Canon.gainCmd {c} (h : d.Canon) : (d.gainCmd c).Canon := .ite h.setSlot.same (.ite h.same h.applySteps.same)

theorem Canon.routeStart {c gains} (h : d.Canon) : (d.routeStart c gains).Canon :=
  .ite (Canon.ite h h.same).setSlot.same.perfEvent (Canon.ite h h.same).setSlot

theorem Canon.routesRun {cs d full} (h : d.Canon) : (routesRun cs d full).1.Canon := by
  induction cs generalizing d full with
  | nil => exact h
  | cons c cs ih =>
    unfold Dev.routesRun
    split
    · exact ih h.inc.same
    · split
      · exact ih h.inc.same
      · exact ih h.routeStart

theorem Canon.cmdsRun {cs} (h : d.Canon) : (d.cmdsRun cs).Canon := by
  unfold Dev.cmdsRun
  extract_lets routes gains own
  have h1 : (Dev.routesRun (sortSlot (withGains gains routes)) d false).1.Canon := h.routesRun
  split
  next hp =>
    rw [hp] at h1
    have h2 := h1.foldl (l := own) (f := fun d g => d.gainCmd g) fun _ h _ => h.gainCmd
    exact .ite h2.raise h2

theorem Canon.genRestart {g seedOnly} (h : d.Canon) : (d.genRestart g seedOnly).Canon := h.same

theorem Canon.stagedReg {a w} (h : d.Canon) : (d.stagedReg a w).Canon := by
  unfold Dev.stagedReg
  split
  · exact .ite h.store.genRestart (.ite h.store.same (.ite h.store.same h.store))
  · exact h

theorem Canon.genAdopt {o} (h : d.Canon) : (d.genAdopt o).Canon := h.forN (fun _ _ h1 => .ite h1 h1.genRestart)

theorem Canon.xptCommit (h : d.Canon) : (d.xptCommit).Canon := by
  unfold Dev.xptCommit
  extract_lets _ _ _ d2 _
  have h2 : d2.Canon := by
    refine (h.same.foldl (fun _ h1 _ => ?_)).genAdopt
    split
    · exact h1.stagedReg
    · exact h1
  exact h2.cmdsRun.put.putStaged.putFades

theorem Canon.xptWaiting (h : d.Canon) : (d.xptWaiting).Canon := h.same.same.routesRun.put.put.putStaged.putFades

theorem Canon.xptJudge {w} (h : d.Canon) : (d.xptJudge w).Canon := .ite h.same h

theorem Canon.xptMiss {after n} (h : d.Canon) : (d.xptMiss after n).Canon := .ite h.same h

theorem Canon.xptBoundary {b} (h : d.Canon) : (d.xptBoundary b).Canon := by
  suffices hf : ∀ f, f = Dev.xptBoundary → (f d b).Canon from hf _ rfl
  delta Dev.xptBoundary
  rintro _ rfl
  beta_reduce
  obtain ⟨get, hget⟩ : ∃ f, f = @Dev.get := ⟨_, rfl⟩
  rw [← hget]
  extract_lets d1
  have h1 : d1.Canon := h.xptWaiting
  split
  · exact .ite h1 h1.xptCommit
  · exact .ite h1.put.xptCommit (.ite h1.xptCommit (.ite h1 h1.xptMiss))
  · exact .ite h1.xptCommit h1

theorem Canon.xptStage {s} (h : d.Canon) : (d.xptStage s).Canon :=
  .ite h.put.put (.ite h.same.putStaged h.same.same.xptCommit.put.same.putStaged)

theorem Canon.xptCmdData {v} (h : d.Canon) : (d.xptCmdData v).Canon := .ite h (.ite h.put h.xptStage)

theorem Canon.fadeComplete {s lone} (h : d.Canon) : (d.fadeComplete s lone).Canon := h.same.putFades

theorem Canon.zcTimeout {s} (h : d.Canon) : (d.zcTimeout s).Canon := h.applySteps.same

theorem Canon.xptFinish (h : d.Canon) : (d.xptFinish).Canon := h.applySteps.same.putFades

theorem Canon.xptDiscardWaiting (h : d.Canon) : (d.xptDiscardWaiting).Canon := .ite h.same.putStaged.put h.same.putStaged

theorem Canon.xptStop (h : d.Canon) : (d.xptStop).Canon := h.xptFinish.same

theorem Canon.xptBlockReset (h : d.Canon) : (d.xptBlockReset).Canon := by
  unfold Dev.xptBlockReset
  extract_lets _ _ _ _ d3
  have h3 : d3.Canon := h.xptFinish.same.put.putStaged
  exact .ite h3.put h3

theorem Canon.xptRecheck (h : d.Canon) : (d.xptRecheck).Canon := .ite h.same.put.put h

theorem Canon.xptLoad {part nx slots sink} (h : d.Canon) : (d.xptLoad part nx slots sink).Canon :=
  (Canon.ite h h.xptDiscardWaiting).same.xptRecheck.putStaged.putFades

theorem Canon.xptSwap {part nx slots sink} (h : d.Canon) : (d.xptSwap part nx slots sink).Canon := by
  unfold Dev.xptSwap
  extract_lets _ _ _ _ _ _ _ _ _ _ _ d4 _
  have h4 : d4.Canon := by
    refine (Canon.ite h.xptFinish h.xptFinish.xptDiscardWaiting).same.foldl (fun _ h1 _ => ?_)
    extract_lets _ _ _ _ _ d7 _
    have h7 : d7.Canon := .ite h1.setSlot.same h1
    exact .ite h7 (.ite h7.same.perfEvent h7.put)
  exact (h4.foldl (fun _ h1 _ => .ite h1 (.ite h1.same.perfEvent h1.put))).xptRecheck.putStaged.putFades

theorem Canon.xptWrite {r i j w} (h : d.Canon) : (d.xptWrite r i j w).Canon :=
  .ite h.xptCmdData (.ite h.xptStage (.ite (.ite h.store.xptJudge.xptCommit h.store.xptJudge) h.store))

theorem Canon.xptRead {r} (h : d.Canon) : (d.xptRead r).Canon := .ite h.put.put.put.put (.ite h.put h)

/-! ### Psm -/

theorem Canon.setPch {n c} (h : d.Canon) : (d.setPch n c).Canon := h.same

theorem Canon.setPgrp {g x} (h : d.Canon) : (d.setPgrp g x).Canon := h.same

theorem Canon.sleepBits {g} (h : d.Canon) : (d.sleepBits g).Canon := h.put

theorem Canon.setCState {n st} (h : d.Canon) : (d.setCState n st).Canon := .ite h.put.sleepBits.startTimer h.put.sleepBits

theorem Canon.setGState {g st} (h : d.Canon) : (d.setGState g st).Canon := h.put.startTimer

theorem Canon.zeroState {n} (h : d.Canon) : (d.zeroState n).Canon := h.setPch

theorem Canon.eachCh {g f} (h : d.Canon) (hf : ∀ x1, ∀ d, d.Canon → (f x1 d).Canon) : (d.eachCh g f).Canon :=
  h.forN (fun _ _ h1 => hf _ _ h1)

theorem Canon.setPsen {g on} (h : d.Canon) : (d.setPsen g on).Canon := h.setPgrp

theorem Canon.setDip {g x} (h : d.Canon) : (d.setDip g x).Canon := h.same

theorem Canon.dipTick {g} (h : d.Canon) : (d.dipTick g).Canon := .ite (Canon.bind h.draw fun _ _ h1 => h1.setDip) h.setDip

theorem Canon.psmSample {g} (h : d.Canon) : (d.psmSample g).Canon := (h.eachCh (fun _ _ h1 => h1.setPch)).setPgrp

theorem Canon.slpDrop {n} (h : d.Canon) : (d.slpDrop n).Canon := h.same

theorem Canon.slpStep {n} (h : d.Canon) : (d.slpStep n).Canon := by
  unfold Dev.slpStep
  split
  · exact h
  · exact .ite h (.ite (.ite h.slpDrop.setPch.setCState (.ite h.slpDrop h)) (.ite h.slpDrop (.ite h.slpDrop.setCState h.put)))

theorem Canon.testPeriod {n p w vg} (h : d.Canon) : (d.testPeriod n p w vg).Canon := h.setPch

theorem Canon.chanPeriod {n r j p w vfs vg ceil stop dip} (h : d.Canon) : (d.chanPeriod n r j p w vfs vg ceil stop dip).2.Canon :=
  .ite_snd h.setPch.testPeriod.pair (.ite_snd h.setPch.pair h.setPch.pair)

theorem Canon.fadeRestart {g} (h : d.Canon) : (d.fadeRestart g).Canon := h.eachCh (fun _ _ h1 => .ite h1.setPch h1)

theorem Canon.groupReading {g v} (h : d.Canon) : (d.groupReading g v).Canon := by
  unfold Dev.groupReading
  extract_lets _ _ _ _ _ _ _ _
  split
  · exact .ite (h.put.put.setPgrp.put.setPgrp.eachCh (fun _ _ h1 => .ite h1.setPch.put.setCState h1)) h.put.put.setPgrp.put.setPgrp
  · exact .ite h.put.put.setPgrp.put.setPgrp.fadeRestart h.put.put.setPgrp.put

theorem Canon.dipReport {g} (h : d.Canon) : (d.dipReport g).Canon := .ite h.put h

theorem Canon.chanEnter {j n} (h : d.Canon) : (d.chanEnter j n).Canon := (Canon.ite h.setPch.setPch.setCState h.setPch).slpStep

theorem Canon.periodBegin {g r} (h : d.Canon) : (d.periodBegin g r).Canon := by
  unfold Dev.periodBegin
  extract_lets _ d1 _ _
  have h1 : d1.Canon := by
    unfold d1
    split
    · exact h
    · exact h.setPsen
    · exact h.setPgrp
  exact (Canon.ite h1.psmSample h1).setPgrp

theorem Canon.periodNext {g r} (h : d.Canon) : (d.periodNext g r).Canon := h.setPgrp

theorem Canon.carrierPeriod {g uv} (h : d.Canon) : (d.carrierPeriod g uv).Canon := by
  unfold Dev.carrierPeriod
  refine .ite h ?_
  extract_lets _ _ d1 _ _ _ d4
  have h1 : d1.Canon := h.groupReading.periodBegin
  have h4 : d4.Canon := (h1.eachCh fun _ _ h => h.chanEnter).dipTick.dipReport
  split
  split
  next hp =>
    have h6 := Canon.of_pair (h4.pair.forN_snd fun _ _ h => h.chanPeriod.pair) hp
    extract_lets _ d8
    have h8 : d8.Canon := (Canon.ite h6.useOnce.put.raise h6).periodNext
    exact .ite h8.emit h8

theorem Canon.psmWake (h : d.Canon) : (d.psmWake).Canon := h.forN (fun _ _ h1 => .ite h1.put.setPsen.setPgrp h1)

theorem Canon.deepSleep {g} (h : d.Canon) : (d.deepSleep g).Canon := .ite h.setPsen.put.psmWake h

theorem Canon.psmStart {g} (h : d.Canon) : (d.psmStart g).Canon := .ite h (.ite h.setPgrp h)

theorem Canon.chansOff {g} (h : d.Canon) : (d.chansOff g).Canon := h.eachCh (fun _ _ h1 => .ite h1.setPch.setCState h1.setPch)

theorem Canon.diagNone {g} (h : d.Canon) : (d.diagNone g).Canon := h.eachCh (fun _ _ h1 => .ite h1.put.put.setCState h1.put.put)

theorem Canon.legtestBegin {g} (h : d.Canon) : (d.legtestBegin g).Canon := (Canon.ite h.diagNone h).setPsen.setGState.setPgrp.chansOff

theorem Canon.psmBoundary {first} (h : d.Canon) : (d.psmBoundary first).Canon := by
  unfold Dev.psmBoundary
  refine h.forN (fun _ _ h1 => .ite h1 ?_)
  extract_lets _ _ d2 _ d3 d4 _
  have h2 : d2.Canon := .ite h1.setPgrp.psmStart h1.setPgrp
  have h3 : d3.Canon := .ite (.ite h2.legtestBegin h2) h2
  have h4 : d4.Canon := .ite (h3.eachCh (fun _ _ h2 => .ite h2.setPch h2)) h3
  exact .ite h4.setPgrp.fadeRestart h4

theorem Canon.legResult {n res} (h : d.Canon) : (d.legResult n res).Canon := .ite h.put.put.setCState (.ite h.put.put.setCState h.put.put)

theorem Canon.legtestDone {g legs} (h : d.Canon) : (d.legtestDone g legs).Canon := by
  unfold Dev.legtestDone
  refine .ite h ?_
  extract_lets _ d1
  have h1 : d1.Canon := h.forN (fun _ _ h1 => h1.legResult)
  exact .ite h1.setGState.setPsen.raise h1.setGState.setPsen

theorem Canon.enableDone {g} (h : d.Canon) : (d.enableDone g).Canon := .ite h (h.setGState.setPgrp.eachCh (fun _ _ h1 => h1.setPch))

theorem Canon.loadtestAbort {n uv} (h : d.Canon) : (d.loadtestAbort n uv).Canon := .ite h.setPch.put.put.setCState h

theorem Canon.chanReady {n} (h : d.Canon) : (d.chanReady n).Canon := h.setCState.put

theorem Canon.loadResult {n m} (h : d.Canon) : (d.loadResult n m).Canon :=
  .ite h (.ite h.setPch.put.put.setCState h.setPch.put.put.chanReady)

theorem Canon.loadtestDone {g meas} (h : d.Canon) : (d.loadtestDone g meas).Canon := by
  unfold Dev.loadtestDone
  refine .ite h ?_
  extract_lets _ d2
  have h2 : d2.Canon := (h.forN (fun _ _ h1 => h1.loadResult)).setGState
  exact .ite h2.raise h2

theorem Canon.stopRamp {g ms} (h : d.Canon) : (d.stopRamp g ms).Canon := .ite h (h.setGState.setPgrp.eachCh (fun _ _ h1 => h1.setPch))

theorem Canon.psmStop {g} (h : d.Canon) : (d.psmStop g).Canon := h.stopRamp

theorem Canon.psmStopAll (h : d.Canon) : (d.psmStopAll).Canon := h.forN (fun _ _ h1 => h1.stopRamp)

theorem Canon.stopDone {g} (h : d.Canon) : (d.stopDone g).Canon := .ite h.setGState.put.setPgrp.chansOff h

theorem Canon.groupDown {g st} (h : d.Canon) : (d.groupDown g st).Canon := (Canon.ite h.diagNone h).setGState.put.setPsen.setPgrp.chansOff

theorem Canon.psfltAssert {g low} (h : d.Canon) : (d.psfltAssert g low).Canon :=
  .ite h.setPgrp (.ite h.setPgrp.put h.setPgrp.put.groupDown.raise)

theorem Canon.psmDllLost {g} (h : d.Canon) : (d.psmDllLost g).Canon := .ite h.put.groupDown.raise (.ite h.put.setPgrp.raise h.put)

theorem Canon.ilimTrip {n isns va vb} (h : d.Canon) : (d.ilimTrip n isns va vb).Canon :=
  .ite h (.ite (.ite h.inc.setPch.raiseOnce.setCState.put.setPch.put.put.put.put.put.raise h.inc.setPch.raiseOnce) h.inc)

theorem Canon.latchClear {n} (h : d.Canon) : (d.latchClear n).Canon := .ite h.put.setCState.zeroState h.put

theorem Canon.psmWrite {r i j w} (h : d.Canon) : (d.psmWrite r i j w).Canon :=
  .ite (.ite (Canon.ite h.psmStart h).psmStop (.ite h.psmStart h)) (.ite (.ite h.latchClear h) h.store)

theorem Canon.psmBlockReset (h : d.Canon) : (d.psmBlockReset).Canon := (h.forN (fun _ _ h1 => h1.setPgrp.chansOff)).same

theorem Canon.psmGrave (h : d.Canon) : (d.psmGrave).Canon := h.forN (fun _ _ h1 => .ite h1.setPgrp h1.groupDown)

/-! ### Cycle -/

theorem Canon.armOwned {a k} (h : d.Canon) : (d.armOwned a k).Canon := h.almArm

theorem Canon.armCycle (h : d.Canon) : (d.armCycle).Canon := h.same.put.armOwned

/-! ### Anchor -/

theorem Canon.alignAt {x a edge} (h : d.Canon) : (d.alignAt x a edge).Canon := .ite h h.put.dllTo.same

theorem Canon.startFree {x} (h : d.Canon) : (d.startFree x).Canon := Canon.bind h.draw fun _ _ h1 => h1.put.dllTo.same

theorem Canon.trackStep {x err} (h : d.Canon) : (d.trackStep x err).Canon := .ite h.put.same h

theorem Canon.anchorError {x err} (h : d.Canon) : (d.anchorError x err).Canon := by
  unfold Dev.anchorError
  extract_lets _ _ _ _ d3
  have h3 : d3.Canon := .ite h.put.trackStep.same.put h.put.trackStep.same
  exact .ite h3.raise h3

theorem Canon.dllAnchor {x edge err} (h : d.Canon) : (d.dllAnchor x edge err).Canon := by
  unfold Dev.dllAnchor
  extract_lets _
  refine .ite (.ite h.startFree h) ?_
  split
  · exact h
  · exact .ite h.alignAt (.ite h.anchorError h)

/-! ### Sap -/

theorem Canon.setPort {p x} (h : d.Canon) : (d.setPort p x).Canon := h.same

theorem Canon.setSapGrp {k x} (h : d.Canon) : (d.setSapGrp k x).Canon := h.same

theorem Canon.setPState {p st} (h : d.Canon) : (d.setPState p st).Canon := .ite h.put.setBit h.put.clrBit.setPort

theorem Canon.grpArm {k} (h : d.Canon) : (d.grpArm k).Canon := by
  unfold Dev.grpArm
  refine .ite h ?_
  extract_lets _ _ wants
  clear_value wants
  split
  · exact h
  · exact h.setSapGrp.armOwned

theorem Canon.toPending {p} (h : d.Canon) : (d.toPending p).Canon := h.setPState.setPort.grpArm

theorem Canon.attach {p m} (h : d.Canon) : (d.attach p m).Canon :=
  .ite h.setPState.setPort (.ite h.setPState.setPort.put (.ite h.setPState.setPort.put.setPort h.setPState.setPort.put.setPort))

theorem Canon.toMismatch {p} (h : d.Canon) : (d.toMismatch p).Canon := .ite h.setPState.setPort.toPending h.setPState.setPort

theorem Canon.joinMember {p m start} (h : d.Canon) : (d.joinMember p m start).Canon :=
  .ite h.attach (.ite h.toMismatch.raise (.ite h h.toMismatch))

theorem Canon.rejoin {k m} (h : d.Canon) : (d.rejoin k m).Canon :=
  ((Canon.ite h.setSapGrp.put h.setSapGrp).forN (fun _ _ h1 => .ite (.ite h1.joinMember (.ite h1.joinMember h1)) h1)).grpArm

theorem Canon.grpAlarm {k} (h : d.Canon) : (d.grpAlarm k).Canon := .ite h.setSapGrp h.rejoin

theorem Canon.grpStart {k} (h : d.Canon) : (d.grpStart k).Canon := .ite h h.put.setSapGrp.grpArm

theorem Canon.sapFirst (h : d.Canon) : (d.sapFirst).Canon :=
  h.forN (fun _ _ h1 => .ite h1.put.setSapGrp.grpAlarm (.ite h1.setSapGrp.grpArm h1))

theorem Canon.portOff {p} (h : d.Canon) : (d.portOff p).Canon := .ite h h.setPState.setPort

theorem Canon.grpStop {k} (h : d.Canon) : (d.grpStop k).Canon := by
  unfold Dev.grpStop
  extract_lets d1 _
  have h1 : d1.Canon := h.forN (fun _ _ h1 => .ite h1.portOff h1)
  exact (Canon.ite h1.almDisarm h1).put.setSapGrp

theorem Canon.sapStop (h : d.Canon) : (d.sapStop).Canon :=
  (h.forN (fun _ _ h1 => h1.portOff)).forN (fun _ _ h1 => .ite h1.grpStop.put.setSapGrp h1.grpStop)

theorem Canon.sapRestart {p} (h : d.Canon) : (d.sapRestart p).Canon := .ite (Canon.ite h.setPort h).toPending h

theorem Canon.slip {p event} (h : d.Canon) : (d.slip p event).Canon := by
  unfold Dev.slip
  refine .ite h ?_
  extract_lets _ _ _ d3
  have h3 : d3.Canon := .ite h.setPState.put.setPort.toPending h.setPState.put.setPort
  exact .ite h3.raise h3

theorem Canon.rateChange {p stopped} (h : d.Canon) : (d.rateChange p stopped).Canon := by
  unfold Dev.rateChange
  extract_lets _ _ _ _ _ _ d4
  have h4 : d4.Canon := by
    unfold d4
    split
    · exact .ite h.put.setPort.setPort.toMismatch h.put.setPort
    · refine .ite (h.put.setPort.setPort.forN (fun _ _ h1 => ?_)) h.put.setPort.setPort.convRateChange
      extract_lets _
      split
      · exact .ite h1.convIdle h1
      · exact .ite h1.convIdle h1
      · exact h1
  exact h4.raise

theorem Canon.gateDone {p rate} (h : d.Canon) : (d.gateDone p rate).Canon := by
  unfold Dev.gateDone
  split
  · exact h
  · exact .ite (.ite h.put.setPort h.put.setPort.put.setPort) (.ite h.put.setPort.setPort (.ite h.put.setPort.setPort.rateChange
    h.put.setPort.setPort))

theorem Canon.clockStop {p} (h : d.Canon) : (d.clockStop p).Canon := .ite h h.setPort.put.rateChange

theorem Canon.takeSlots {p i ws} (h : d.Canon) : (d.takeSlots p i ws).Canon := (h.forN (fun _ _ h1 => .ite h1.capture h1)).setPort

theorem Canon.feedSlots {p t ws} (h : d.Canon) : (d.feedSlots p t ws).Canon := h.forN (fun _ _ h1 => .ite h1.convFeed h1)

theorem Canon.scaleSlots {p n} (h : d.Canon) : (d.scaleSlots p n).Canon := (h.foldl (fun _ h1 _ => h1.same)).setPort

theorem Canon.sendSlots {p i buf ofs} (h : d.Canon) : (d.sendSlots p i buf ofs).Canon := .ite h.emit h

theorem Canon.framingError {p} (h : d.Canon) : (d.framingError p).Canon :=
  .ite h.setPort.put.put.raise (.ite h.setPort.put.slip h.setPort)

theorem Canon.frameAt {p bclk ofs ws} (h : d.Canon) : (d.frameAt p bclk ofs ws).Canon := by
  unfold Dev.frameAt
  extract_lets _ _ d2 d3 _ _ _ _ _
  have h2 : d2.Canon := .ite h.setPort h.setPort.feedSlots
  have h3 : d3.Canon := .ite h2.framingError h2
  exact .ite h2 (.ite h3.sendSlots (.ite h3 (.ite h3.setPort.sendSlots (Canon.ite h3.setPort.takeSlots h3.setPort).sendSlots)))

theorem Canon.memberFrame {p l bclk ofs} (h : d.Canon) : (d.memberFrame p l bclk ofs).Canon := h.setPort.frameAt

theorem Canon.frameStart {p bclk ofs ws} (h : d.Canon) : (d.frameStart p bclk ofs ws).Canon := by
  unfold Dev.frameStart
  refine .ite h (.ite h.setPort ?_)
  extract_lets _ _ _ _ d2 d3 _
  have h2 : d2.Canon := .ite (h.setPort.forN (fun _ _ h1 => .ite h1.setPort h1)) h.setPort
  have h3 : d3.Canon := by
    refine .ite ?_ h2
    split
    · exact h2.rejoin
    · exact h2
  exact .ite (h3.frameAt.forN (fun _ _ h1 => .ite h1.memberFrame h1)) h3.frameAt

theorem Canon.sapSeal {n} (h : d.Canon) : (d.sapSeal n).Canon := by
  unfold Dev.sapSeal
  refine h.forN (fun _ _ h1 => ?_)
  split
  · exact h1
  · exact (Canon.ite (Canon.ite h1 h1.scaleSlots).inc.slip (.ite (Canon.ite h1 h1.scaleSlots).inc.slip (.ite h1
    h1.scaleSlots))).setPort.foldl (fun _ h2 _ => .ite h2.takeSlots h2)

theorem Canon.sapDllLost {p} (h : d.Canon) : (d.sapDllLost p).Canon := .ite h.slip h

theorem Canon.sapRates (h : d.Canon) : (d.sapRates).Canon :=
  h.forN (fun _ _ h1 => .ite h1 (.ite (Canon.ite h1.put h1).put (.ite h1.put h1)))

theorem Canon.sapWrite {r i j w} (h : d.Canon) : (d.sapWrite r i j w).Canon := by
  unfold Dev.sapWrite
  refine .ite (.ite h.store.sapRestart h.store) (.ite ?_ h.store)
  extract_lets _ d3
  have h3 : d3.Canon := .ite h.store.grpStop h.store
  exact .ite h3.grpStart h3

theorem Canon.sapBlockReset (h : d.Canon) : (d.sapBlockReset).Canon :=
  (h.same.sapRates.forN (fun _ _ h1 => .ite h1.setPort h1)).forN (fun _ _ h1 => .ite h1 (.ite h1.almDisarm.grpStart h1.almDisarm))

theorem Canon.grpMissed {k} (h : d.Canon) : (d.grpMissed k).Canon := h.almDisarm.grpArm

/-! ### Hlk -/

theorem Canon.setLnk {l x} (h : d.Canon) : (d.setLnk l x).Canon := h.same

theorem Canon.freeWords {l cls n} (h : d.Canon) : (d.freeWords l cls n).Canon := h.setLnk

theorem Canon.queueCell {l c} (h : d.Canon) : (d.queueCell l c).Canon := h.setLnk

theorem Canon.release {c} (h : d.Canon) : (d.release c).Canon := .ite h (.ite h h.freeWords)

theorem Canon.sendCell {l sub c} (h : d.Canon) : (d.sendCell l sub c).Canon := h.setLnk.emit.release.perfEvent

theorem Canon.ringPop {q size} (h : d.Canon) : (d.ringPop q size).Canon := .ite h.ringSet.emit (.ite h.ringSet.raiseVecTo h.ringSet)

theorem Canon.ringFront {q kind f} (h : d.Canon) : (d.ringFront q kind f).2.Canon := by
  induction f generalizing d with
  | zero => exact h
  | succ f ih =>
    unfold Dev.ringFront
    exact .ite_snd h.pair (.ite_snd h.sramScan.pair (ih (Canon.ite h.sramScan h.sramScan.put).ringPop))

theorem Canon.cellTransmit {l sub} (h : d.Canon) : (d.cellTransmit l sub).Canon := by
  unfold Dev.cellTransmit
  refine .ite h ?_
  split
  rename_i hp
  have h1 := Canon.of_pair h.ringFront hp
  extract_lets _ _
  split
  · exact h1
  · exact (Canon.ite h1.ringPop h1.setLnk).sendCell

theorem Canon.sendSync {l sub c} (h : d.Canon) : (d.sendSync l sub c).Canon := .ite h.sendCell h.queueCell

theorem Canon.creditReturn {l cs} (h : d.Canon) : (d.creditReturn l cs).Canon := .ite h h.setLnk

theorem Canon.creditBlock {l ty body} (h : d.Canon) : (d.creditBlock l ty body).Canon := .ite h.creditReturn (.ite h.inc.raise h)

theorem Canon.setLState {l st} (h : d.Canon) : (d.setLState l st).Canon := h.put.startTimer

theorem Canon.blockLock {l} (h : d.Canon) : (d.blockLock l).Canon := .ite h.setLState.setLnk h

theorem Canon.polarityInvert {l} (h : d.Canon) : (d.polarityInvert l).Canon := .ite h.setLState.put h

theorem Canon.initTimeout {l} (h : d.Canon) : (d.initTimeout l).Canon := .ite h.setLState h

theorem Canon.downTimeout {l} (h : d.Canon) : (d.downTimeout l).Canon := .ite h.setLState h

theorem Canon.toActive {l} (h : d.Canon) : (d.toActive l).Canon := h.setLState.setLnk.stopTimer.stopTimer.put.put

theorem Canon.linkBlockInit {l locked rate} (h : d.Canon) : (d.linkBlockInit l locked rate).Canon :=
  .ite h (.ite h.setLState (.ite h.toActive h.setLnk))

theorem Canon.hlkStart (h : d.Canon) : (d.hlkStart).Canon := h.forN (fun _ _ h1 => .ite h1.setLState h1)

theorem Canon.headerError {l soc bs} (h : d.Canon) : (d.headerError l soc bs).Canon := h.inc.freeWords.raise

theorem Canon.crcError {l st} (h : d.Canon) : (d.crcError l st).Canon := .ite h.inc (.ite h.inc.raise h)

theorem Canon.typeError {l} (h : d.Canon) : (d.typeError l).Canon := h.inc.raise

theorem Canon.freeCell {l soc bs} (h : d.Canon) : (d.freeCell l soc bs).Canon := h.freeWords

theorem Canon.syncCell {l bs ty len f} (h : d.Canon) (hf : ∀ d, d.Canon → (f d).Canon) : (d.syncCell l bs ty len f).Canon := by
  unfold Dev.syncCell
  refine .ite h ?_
  split
  · exact h.headerError
  · exact .ite h.freeCell.crcError (.ite (.ite h.freeCell.perfEvent.typeError h.freeCell.perfEvent) (.ite h.freeCell.perfEvent (hf _
    h.freeCell.perfEvent)))

theorem Canon.dreqSend {l sub} (h : d.Canon) : (d.dreqSend l sub).Canon :=
  .ite h (Canon.bind h.startTimer.draw fun _ _ h1 => h1.setLnk.sendSync)

theorem Canon.dreqReceive {l sub bs} (h : d.Canon) : (d.dreqReceive l sub bs).Canon := h.syncCell (fun _ h1 => h1.sendSync)

theorem Canon.delaySample {l s} (h : d.Canon) : (d.delaySample l s).Canon := .ite h (Canon.ite h.setLnk.put.put h.setLnk.put).put

theorem Canon.drspReceive {l sub bs} (h : d.Canon) : (d.drspReceive l sub bs).Canon := by
  unfold Dev.drspReceive
  refine h.syncCell (fun _ h1 => ?_)
  split
  · exact h1
  · exact h1.setLnk.delaySample

theorem Canon.drspTimeout {l} (h : d.Canon) : (d.drspTimeout l).Canon := h.setLnk

theorem Canon.syncSend {l sub} (h : d.Canon) : (d.syncSend l sub).Canon := .ite h (Canon.bind h.startTimer.draw fun _ _ h1 => h1.sendSync)

theorem Canon.syncReceive {l sub bs} (h : d.Canon) : (d.syncReceive l sub bs).Canon :=
  h.syncCell (fun _ h1 => .ite (.ite h1.captureEvent h1) (.ite (Canon.ite h1.captureEvent h1).inc (Canon.ite h1.captureEvent
    h1).inc.offset))

theorem Canon.toRing {l bs} (h : d.Canon) : (d.toRing l bs).Canon := by
  unfold Dev.toRing
  refine .ite h.typeError ?_
  extract_lets _ _ _ _
  split
  rename_i hp
  have h1 := Canon.of_pair (.ite_snd h.pair h.ringPush) hp
  exact .ite h1 (((Canon.ite h1.inc h1.inc).perfEvent).raiseOnce)

theorem Canon.rsvWrite {l r w} (h : d.Canon) : (d.rsvWrite l r w).Canon := .ite h.put h.store

theorem Canon.rsvApply (h : d.Canon) : (d.rsvApply).Canon := h.same.same.forN (fun _ _ h1 => h1.put)

theorem Canon.hlkStore {r i j w} (h : d.Canon) : (d.hlkStore r i j w).Canon := .ite h.rsvWrite h.store

/-! ### Hfb -/

theorem Canon.setAdj0 {l x} (h : d.Canon) : (d.setAdj0 l x).Canon := h.same

theorem Canon.reroute {l} (h : d.Canon) : (d.reroute l).Canon := by
  unfold Dev.reroute
  extract_lets _ _ _ _ _ d2 _
  have h2 : d2.Canon := .ite h.same.raise h.same
  exact .ite h2.raise h2

theorem Canon.adjNone {l dead} (h : d.Canon) : (d.adjNone l dead).Canon :=
  .ite (Canon.ite h.put.setAdj0.put.raise h.put.setAdj0.put).reroute h.put.setAdj0

theorem Canon.helloReceive {l bs} (h : d.Canon) : (d.helloReceive l bs).Canon := by
  unfold Dev.helloReceive
  refine .ite h (.ite h.headerError ?_)
  extract_lets _ _ _ _ _ _ _ _ d4 _ _ _ _
  have h4 : d4.Canon := h.freeCell.perfEvent.startTimer.put.put.put
  refine .ite h.freeCell.crcError (.ite h.freeCell.perfEvent.typeError (.ite h.freeCell.perfEvent (.ite h.freeCell.perfEvent.put.adjNone
    ?_)))
  split
  · exact h.freeCell.perfEvent.startTimer.put.setAdj0
  · exact .ite h.freeCell.perfEvent.startTimer.adjNone (.ite (Canon.ite h4.put.same.startTimer h4.put).setAdj0
    h.freeCell.perfEvent.startTimer.setAdj0)
  · exact .ite h.freeCell.perfEvent.startTimer.adjNone h.freeCell.perfEvent.startTimer.put

theorem Canon.adjDead {l} (h : d.Canon) : (d.adjDead l).Canon := by
  unfold Dev.adjDead
  refine .ite h ?_
  split
  · exact h
  · exact h.adjNone
  · exact h.adjNone

theorem Canon.isoTo {l flow c} (h : d.Canon) : (d.isoTo l flow c).Canon := .ite h.same.queueCell h.inc.raise

theorem Canon.sendTo {mask flow c} (h : d.Canon) : (d.sendTo mask flow c).Canon :=
  h.foldl (fun _ h1 _ => .ite (.ite h1.isoTo h1.queueCell) h1)

theorem Canon.forward {i mask flow st bs id} (h : d.Canon) : (d.forward i mask flow st bs id).Canon :=
  .ite h (.ite h.inc h.sendTo.perfEvent)

theorem Canon.setFwd {idx e} (h : d.Canon) : (d.setFwd idx e).Canon := h.same

theorem Canon.cellId (h : d.Canon) : (d.cellId).2.Canon := h.same.pair

theorem Canon.settleCell {i soc id bs} (h : d.Canon) : (d.settleCell i soc id bs).Canon := h.release

theorem Canon.floodExpire (h : d.Canon) : (d.floodExpire).Canon := h.same

theorem Canon.floodCell {i bs id} (h : d.Canon) : (d.floodCell i bs id).Canon := .ite h.same.inc h.same.toRing.forward

theorem Canon.setCtx {x f} (h : d.Canon) : (d.setCtx x f).Canon := h.same

theorem Canon.ctxAccept {x bs} (h : d.Canon) : (d.ctxAccept x bs).Canon :=
  .ite h (.ite h.inc (.ite h.inc (.ite h.inc (.ite h.inc h.setCtx))))

theorem Canon.deliverIso {ctx bs} (h : d.Canon) : (d.deliverIso ctx bs).Canon := .ite h.ctxAccept h

theorem Canon.passWindow {idx e bs} (h : d.Canon) : (d.passWindow idx e bs).2.Canon := (Canon.ite h.setFwd.inc h.setFwd).pair

theorem Canon.hitCell {i st idx e bs id} (h : d.Canon) : (d.hitCell i st idx e bs id).Canon := by
  unfold Dev.hitCell
  extract_lets _
  split
  rename_i hp
  have h1 := Canon.of_pair h.passWindow hp
  exact .ite h1 (.ite h1.inc (.ite (.ite (.ite h1.forward.typeError h1.forward.deliverIso) h1.forward.toRing) h1.forward))

theorem Canon.localCell {i soc st bs} (h : d.Canon) : (d.localCell i soc st bs).Canon := .ite h.typeError h

theorem Canon.cellReceive {i soc bs} (h : d.Canon) : (d.cellReceive i soc bs).Canon := by
  unfold Dev.cellReceive
  refine .ite h (.ite h.headerError ?_)
  extract_lets _ _ _
  split
  rename_i hp
  have h1 := Canon.of_pair h.crcError.perfEvent.cellId hp
  extract_lets d2
  have h2 : d2.Canon := by
    refine .ite h1.localCell (.ite (.ite h1.floodCell h1) (.ite (.ite h1.toRing h1) ?_))
    split
    · exact h1.inc
    · exact h1.hitCell
  exact h2.settleCell

theorem Canon.flushLink {l} (h : d.Canon) : (d.flushLink l).Canon := (Canon.ite h.inc h).setLnk.foldl (fun _ h1 _ => h1.inc.release)

theorem Canon.leaveActive {l} (h : d.Canon) : (d.leaveActive l).Canon := h.flushLink.setLnk.adjNone

theorem Canon.withPart {l soc part f} (h : d.Canon) (hf : ∀ d, d.Canon → (f d).Canon) : (d.withPart l soc part f).Canon :=
  (hf _ h.setLnk).setLnk

theorem Canon.partCell {i} (h : d.Canon) : (d.partCell i).Canon := by
  unfold Dev.partCell
  extract_lets _ _
  refine .ite h (.ite h ?_)
  split
  · exact h
  · exact Canon.bind h.passWindow fun _ _ h1 => .ite h1 h1.forward

theorem Canon.linkDown {l cause} (h : d.Canon) : (d.linkDown l cause).Canon := .ite h h.partCell.setLState.put.put.emit.raise.leaveActive

theorem Canon.linkBlock {l body} (h : d.Canon) : (d.linkBlock l body).Canon := .ite h (.ite (.ite h.linkDown h) h.linkBlockInit)

theorem Canon.creditTimeout {l cls} (h : d.Canon) : (d.creditTimeout l cls).Canon := by
  unfold Dev.creditTimeout
  split
  rename_i hp
  have h1 := Canon.of_pair h.ringFront hp
  exact .ite h1.linkDown h

theorem Canon.linkToDisabled {l} (h : d.Canon) : (d.linkToDisabled l).Canon := .ite h (.ite h.setLState.leaveActive h.setLState)

theorem Canon.linkDisable {l on} (h : d.Canon) : (d.linkDisable l on).Canon := .ite h.put.linkToDisabled (.ite h.put.setLState h.put)

theorem Canon.linkRestart {o l} (h : d.Canon) : (d.linkRestart o l).Canon := .ite h.linkToDisabled (.ite h.linkToDisabled.setLState h)

theorem Canon.ctxPresentWith {x f} (h : d.Canon) : (d.ctxPresentWith x f).Canon := .ite h.same.setCtx.inc.raise h.same.setCtx

theorem Canon.ctxPresent {x by_ bs} (h : d.Canon) : (d.ctxPresent x by_ bs).Canon := h.ctxPresentWith

theorem Canon.flowSeal {n} (h : d.Canon) : (d.flowSeal n).Canon := h.forN (fun _ _ h1 => .ite h1 h1.ctxPresent.setCtx.put.put)

theorem Canon.flowQueue {cells} (h : d.Canon) : (d.flowQueue cells).Canon :=
  (h.foldl (fun _ h1 _ => .ite h1.inc h1)).foldl (fun _ h1 _ => h1.foldl (fun _ h2 _ => .ite h2 (h2.foldl (fun _ h3 _ => h3.isoTo))))

theorem Canon.sentBlock {m} (h : d.Canon) : (d.sentBlock m).Canon := h.same

theorem Canon.flowTransmit {m} (h : d.Canon) : (d.flowTransmit m).Canon := by
  unfold Dev.flowTransmit
  refine .ite h ?_
  extract_lets _ _ d1 d2
  have h1 : d1.Canon := h.foldl (fun _ h1 _ => h1.put.put)
  have h2 : d2.Canon := .ite h1.same h1
  exact .ite h2.flowQueue.sentBlock h2

theorem Canon.replay {from_} (h : d.Canon) : (d.replay from_).Canon := h.foldl (fun _ h1 _ => h1.flowQueue.sentBlock)

theorem Canon.fwdWrite {idx} (h : d.Canon) : (d.fwdWrite idx).Canon := .ite h.put h.setFwd

theorem Canon.fwdInvalidate {idx} (h : d.Canon) : (d.fwdInvalidate idx).Canon := by
  unfold Dev.fwdInvalidate
  split
  · exact h
  · exact h.setFwd

theorem Canon.fwdRead {idx} (h : d.Canon) : (d.fwdRead idx).Canon := by
  unfold Dev.fwdRead
  split
  · exact h.wr.wr
  · exact h.wr.wr

theorem Canon.fwdCommand {w} (h : d.Canon) : (d.fwdCommand w).Canon := by
  unfold Dev.fwdCommand
  extract_lets _ _
  split
  · exact h.store.fwdWrite
  · exact h.store.fwdRead
  · exact h.store.fwdInvalidate
  · exact h.store

theorem Canon.revert (h : d.Canon) : (d.revert).Canon := h.same

theorem Canon.broadcast {ty seq pay} (h : d.Canon) : (d.broadcast ty seq pay).Canon := h.sendTo

theorem Canon.topoCall (h : d.Canon) : (d.topoCall).Canon := h.same

theorem Canon.topoOriginate (h : d.Canon) : (d.topoOriginate).Canon := .ite h h.same.startTimer.same.broadcast

theorem Canon.helloSend {l} (h : d.Canon) : (d.helloSend l).Canon := .ite h (Canon.bind h.startTimer.draw fun _ _ h1 => h1.queueCell)

theorem Canon.timeElect (h : d.Canon) : (d.timeElect).Canon := by
  unfold Dev.timeElect
  split
  · exact h.put.forN (fun _ _ h1 => h1.put)
  · extract_lets _ _ _ _ _ _ d2
    have h2 : d2.Canon := by
      refine .ite h.same.put ?_
      split
      · exact h.same.put.put
      · exact h.same
    exact h2.forN (fun _ _ h1 => h1.put)

theorem Canon.storedId {master} (h : d.Canon) : (d.storedId master).2.Canon := Canon.bind_snd h.eccRead fun _ _ h1 => h1.pair

theorem Canon.nodeIdWrite {v} (h : d.Canon) : (d.nodeIdWrite v).2.Canon :=
  .ite_snd h.pair ((Canon.ite h.put.topoCall.setMemLe h.put.topoCall).pair)

theorem Canon.claimWith {c} (h : d.Canon) : (d.claimWith c).Canon := .ite h.same h.same.stopTimer.stopTimer

theorem Canon.electWaitDone (h : d.Canon) : (d.electWaitDone).Canon := by
  unfold Dev.electWaitDone
  refine .ite h (.ite h ?_)
  split
  rename_i hp
  have h1 := Canon.of_pair h.storedId hp
  exact h1.claimWith

theorem Canon.claimSend (h : d.Canon) : (d.claimSend).Canon :=
  .ite h (Canon.bind (Canon.ite h.startTimer h).startTimer.draw fun _ _ h1 => h1.same.broadcast)

theorem Canon.claimWindowEnd (h : d.Canon) : (d.claimWindowEnd).Canon := .ite h (.ite h.claimWith (.ite h h.same.nodeIdWrite))

theorem Canon.electReceive {bs} (h : d.Canon) : (d.electReceive bs).Canon :=
  .ite h (.ite (Canon.bind h.draw fun _ _ h1 => h1.broadcast) (.ite h.same h))

theorem Canon.idConflict {r} (h : d.Canon) : (d.idConflict r).Canon :=
  .ite h (.ite (.ite h.put.raise h.put.raise.claimWith) (.ite h.raise h))

theorem Canon.candShown {r} (h : d.Canon) : (d.candShown r).Canon := .ite h.same h

theorem Canon.topoReceive {bs} (h : d.Canon) : (d.topoReceive bs).Canon := .ite h (.ite h.same.candShown.idConflict.timeElect h)

theorem Canon.topoExpire {uid} (h : d.Canon) : (d.topoExpire uid).Canon := .ite h h.same.timeElect

theorem Canon.hlkWrite {r i j w} (h : d.Canon) : (d.hlkWrite r i j w).Canon :=
  .ite (.ite (Canon.ite h h.linkDisable).linkDown (.ite h h.linkDisable)) h.hlkStore

theorem Canon.hfbWrite {r i j w} (h : d.Canon) : (d.hfbWrite r i j w).Canon := .ite (.ite h.nodeIdWrite h) (.ite h.fwdCommand h.store)

theorem Canon.hlkBlockReset {o} (h : d.Canon) : (d.hlkBlockReset o).Canon :=
  h.forN (fun _ _ h1 => (Canon.ite h1.setLState.leaveActive h1.setLState.setLnk).put)

theorem Canon.fabricAdopt {o swap} (h : d.Canon) : (d.fabricAdopt o swap).Canon := by
  unfold Dev.fabricAdopt
  extract_lets d1 _
  have h1 : d1.Canon := h.forN (fun _ _ h1 => h1.put)
  exact .ite h1.put (.ite h1.same (.ite h1.put (Canon.bind h1.storedId fun _ _ h1 => h1.put)))

theorem Canon.electOnChange {o} (h : d.Canon) : (d.electOnChange o).Canon := .ite (Canon.ite h h.topoCall).timeElect (.ite h h.topoCall)

theorem Canon.hfbBlockReset {o} (h : d.Canon) : (d.hfbBlockReset o).Canon := h.same.foldl (fun _ h1 _ => h1.reroute)

theorem Canon.flowBlockReset (h : d.Canon) : (d.flowBlockReset).Canon := h.same

/-! ### Eth -/

theorem Canon.ethToRing {p f} (h : d.Canon) : (d.ethToRing p f).Canon := by
  unfold Dev.ethToRing
  extract_lets _ _ _
  split
  rename_i hp
  have h1 := Canon.of_pair (.ite_snd h.pair h.ringPush) hp
  exact .ite h1 h1.inc.perfEvent.raiseOnce

theorem Canon.setStrm {s x} (h : d.Canon) : (d.setStrm s x).Canon := h.same

theorem Canon.rtpDrop {s f g} (h : d.Canon) : (d.rtpDrop s f g).Canon := h.inc.inc

theorem Canon.rtpReceive {p s f} (h : d.Canon) : (d.rtpReceive p s f).Canon := by
  unfold Dev.rtpReceive
  extract_lets _ _ _ _ _ _ _ _ _ _ _ _ _ _ _ _ _ _
  refine .ite (Canon.ite h.put h).setStrm.rtpDrop (.ite (Canon.ite h.put h).setStrm ?_)
  split
  · exact (Canon.ite h.put h).setStrm.setStrm.rtpDrop
  · exact .ite (Canon.ite h.put h).setStrm.rtpDrop (.ite (Canon.ite h.put h).setStrm.inc (.ite (Canon.ite h.put h).setStrm.setStrm.setCtx
    (Canon.ite h.put h).setStrm.setStrm.setCtx))

theorem Canon.ethReceive {p fcs f} (h : d.Canon) : (d.ethReceive p fcs f).Canon := by
  unfold Dev.ethReceive
  refine .ite h (.ite h.inc (.ite h ?_))
  split
  · exact h.rtpReceive
  · exact h.ethToRing

theorem Canon.strLosses {s n} (h : d.Canon) : (d.strLosses s n).Canon := by
  unfold Dev.strLosses
  extract_lets _ _ d1 _
  have h1 : d1.Canon := by
    refine h.foldl (fun _ h1 _ => ?_)
    extract_lets _ _ d2 d3 _ _
    have h2 : d2.Canon := h1.forN (fun _ _ h2 => .ite (Canon.ite h2.inc h2).inc (.ite h2.inc h2))
    have h3 : d3.Canon := .ite h2.inc h2
    exact (Canon.ite h3.inc h3).setStrm
  exact h1.setStrm

theorem Canon.strFeed {n} (h : d.Canon) : (d.strFeed n).Canon :=
  h.forN (fun _ _ h1 => .ite h1 (h1.forN (fun _ _ h2 => h2.forN (fun _ _ h3 => h3.convFeed))))

theorem Canon.strSeal {n} (h : d.Canon) : (d.strSeal n).Canon :=
  h.forN (fun _ _ h1 => .ite h1 (.ite h1.strLosses.ctxPresentWith.setStrm.setCtx h1.strLosses.ctxPresent.setCtx))

theorem Canon.rtpEmit {s m} (h : d.Canon) : (d.rtpEmit s m).Canon :=
  h.foldl (fun _ h1 _ => .ite (.ite (Canon.ite h1.same h1).emit (.ite h1.same h1)) h1)

theorem Canon.rtpTake {s m n bytes} (h : d.Canon) : (d.rtpTake s m n bytes).Canon := .ite h.setStrm.rtpEmit.setStrm h.setStrm

theorem Canon.rtpTransmit {m} (h : d.Canon) : (d.rtpTransmit m).Canon := by
  unfold Dev.rtpTransmit
  refine h.forN (fun _ _ h1 => ?_)
  extract_lets _ _ _ _ _ _
  refine .ite h1 (.ite (.ite h1.setStrm h1) ?_)
  split
  extract_lets _
  refine (Canon.ite (.ite h1.setStrm h1) (Canon.ite h1.setStrm h1).setStrm).forN (fun _ _ h2 => Canon.bind (h2.pair.foldl_snd (fun _ h4 _
    => ?_)) fun _ _ h3 => h3.rtpTake)
  extract_lets _
  refine .ite_snd h4.pair ?_
  split
  · exact h4.pair
  · exact h4.pair

theorem Canon.ethReplay {from_} (h : d.Canon) : (d.ethReplay from_).Canon := h.foldl (fun _ h1 _ => h1.emit)

theorem Canon.strRestart (h : d.Canon) : (d.strRestart).Canon := h.forN (fun _ _ h1 => .ite h1.setStrm h1)

theorem Canon.streamEnable {s on} (h : d.Canon) : (d.streamEnable s on).Canon := .ite h.put h.put.setStrm

theorem Canon.strStop (h : d.Canon) : (d.strStop).Canon := h.same

theorem Canon.frameTransmit {p} (h : d.Canon) : (d.frameTransmit p).Canon := by
  unfold Dev.frameTransmit
  refine .ite h ?_
  split
  · rename_i hp
    have h1 := Canon.of_pair h.ringFront hp
    exact h1
  · rename_i hp
    have h1 := Canon.of_pair h.ringFront hp
    exact .ite h1.ringPop.emit (.ite h1.ringPop.emit.put.raise h1.ringPop.emit.same)

theorem Canon.txtsPop {p} (h : d.Canon) : (d.txtsPop p).Canon := by
  unfold Dev.txtsPop
  split
  · exact h.put
  · exact h.same.put.put.put.put.put.put

theorem Canon.ethLinkLoss {p} (h : d.Canon) : (d.ethLinkLoss p).Canon := .ite h.put.put.raise h

theorem Canon.ethLinkUp {p} (h : d.Canon) : (d.ethLinkUp p).Canon := .ite h.put h

theorem Canon.ethWrite {r i j w} (h : d.Canon) : (d.ethWrite r i j w).Canon :=
  .ite ((Canon.ite h.put h).streamEnable) (.ite h.put h.store)

theorem Canon.ethBlockReset (h : d.Canon) : (d.ethBlockReset).Canon := h.same

/-! ### Perf -/

theorem Canon.setSprig {m x} (h : d.Canon) : (d.setSprig m x).Canon := h.same

theorem Canon.slotAdd {m c n} (h : d.Canon) : (d.slotAdd m c n).Canon := .ite h.same.setBit h.same

theorem Canon.drawUpTo {n} (h : d.Canon) : (d.drawUpTo n).2.Canon := Canon.bind_snd h.draw fun _ _ h1 => h1.pair

theorem Canon.perfUpTo {n} (h : d.Canon) : (d.perfUpTo n).2.Canon := h.same.pair

theorem Canon.slotSplit {m p} (h : d.Canon) : (d.slotSplit m p).2.Canon := by
  unfold Dev.slotSplit
  extract_lets x
  split
  · exact h.pair
  · split
    · exact h.pair
    · split
      split
      next hp =>
        have h1 := Canon.of_pair (.ite_snd h.perfUpTo h.pair) hp
        split
        next hp =>
          have h2 := Canon.of_pair (.ite_snd h1.perfUpTo h1.pair) hp
          split
          next hp =>
            have h3 := Canon.of_pair (.ite_snd h2.perfUpTo h2.pair) hp
            exact Canon.bind_snd h3.perfUpTo fun _ _ h => h.pair

theorem Canon.slotTicks {m p} (h : d.Canon) : (d.slotTicks m p).Canon := by
  unfold Dev.slotTicks
  have h1 : (d.slotSplit m p).2.Canon := h.slotSplit
  generalize d.slotSplit m p = q at h1 ⊢
  obtain ⟨⟨near, far, fet, load⟩, d1⟩ := q
  have h2 : (d1.perfUpTo ((d1.spWaits m).1.length - 1)).2.Canon := Canon.perfUpTo h1
  dsimp only
  generalize d1.perfUpTo ((d1.spWaits m).1.length - 1) = q at h2 ⊢
  have h3 : (if q.2.perf.effFreeze = 0 then
      (((q.2.slotAdd m 0 (p - near - far - fet)).slotAdd m 1 near).slotAdd m 2 far).slotAdd m 3 fet
    else q.2).Canon := .ite h2.slotAdd.slotAdd.slotAdd.slotAdd h2
  exact h3.perfUpTo.perfEvent.perfEvent

theorem Canon.perfTicks {p} (h : d.Canon) : (d.perfTicks p).Canon := by
  unfold Dev.perfTicks
  extract_lets d1 d2
  have h1 : d1.Canon := by
    refine h.forN (fun _ _ h1 => .ite h1 ?_)
    split
    · exact .ite h1.cntAdd h1
    · exact h1.cntAdd
    · exact h1
  have h2 : d2.Canon := h1.foldl (fun _ h1 _ => .ite h1.slotTicks h1)
  refine .ite ?_ h2
  split
  rename_i hp
  have h1 := Canon.of_pair h2.drawUpTo hp
  exact h1.same.perfEvent

theorem Canon.elapse {n} (h : d.Canon) : (d.elapse n).Canon := .ite h.pass h.pass.perfTicks

theorem Canon.setCntPort {i c} (h : d.Canon) : (d.setCntPort i c).Canon := h.same

theorem Canon.cntLoRead {port i} (h : d.Canon) : (d.cntLoRead port i).2.Canon := h.setCntPort.pair

theorem Canon.cntHiWrite {port i w} (h : d.Canon) : (d.cntHiWrite port i w).Canon := h.setCntPort

theorem Canon.tickLost {i} (h : d.Canon) : (d.tickLost i).2.Canon :=
  .ite_snd h.pair (.ite_snd h.pair (.ite_snd (Canon.bind_snd h.perfUpTo fun _ _ h1 => h1.pair) h.pair))

theorem Canon.cntLoWrite {port i w} (h : d.Canon) : (d.cntLoWrite port i w).Canon :=
  Canon.bind h.tickLost fun _ _ h1 => (Canon.ite h1.put h1).same.setCntPort

theorem Canon.slotLoRead {port m c} (h : d.Canon) : (d.slotLoRead port m c).2.Canon := h.same.pair

theorem Canon.slotClear (h : d.Canon) : (d.slotClear).Canon := h.same.foldl (fun _ h1 _ => .ite h1.slotSplit.setBit h1)

theorem Canon.slotClrWrite (h : d.Canon) : (d.slotClrWrite).Canon := .ite h.same h.slotClear

theorem Canon.freezeWrite (h : d.Canon) : (d.freezeWrite).Canon := .ite h.same h.same

theorem Canon.enWrite {i} (h : d.Canon) : (d.enWrite i).Canon := .ite h.same h.same

theorem Canon.perfBoundary (h : d.Canon) : (d.perfBoundary).Canon := by
  unfold Dev.perfBoundary
  extract_lets _ _ d2 _ d3 _ _
  have h2 : d2.Canon := .ite h.slotClear.same h
  have h3 : d3.Canon := by
    unfold d3
    split
    · exact h2.same
    · exact h2
  exact h3.same

theorem Canon.perfWrite {r i j port w} (h : d.Canon) : (d.perfWrite r i j port w).Canon := by
  unfold Dev.perfWrite
  split
  · exact h
  · exact .ite h.cntLoWrite (.ite h.cntHiWrite (.ite h.store.freezeWrite (.ite h.store.enWrite (.ite h.store.slotClrWrite h.store))))

theorem Canon.perfBlockReset (h : d.Canon) : (d.perfBlockReset).Canon := h.same

theorem Canon.perfMgmtReset (h : d.Canon) : (d.perfMgmtReset).Canon := h.same

theorem Canon.smpInterval (h : d.Canon) : (d.smpInterval).2.Canon := by
  unfold Dev.smpInterval
  extract_lets _
  refine .ite_snd ?_ h.pair
  split
  rename_i hp
  have h1 := Canon.of_pair h.perfUpTo hp
  exact h1.pair

theorem Canon.smpRecord {x} (h : d.Canon) : (d.smpRecord x).2.Canon := by
  unfold Dev.smpRecord
  extract_lets _ _ _ _
  split
  rename_i hp
  have h1 := Canon.of_pair h.perfUpTo hp
  split
  rename_i hp
  have h2 := Canon.of_pair (.ite_snd h1.perfUpTo h1.pair) hp
  split
  rename_i hp
  have h3 := Canon.of_pair h2.perfUpTo hp
  exact h3.pair

theorem Canon.smpDrop (h : d.Canon) : (d.smpDrop).Canon := h.inc.raiseOnce

theorem Canon.smpRetire {x} (h : d.Canon) : (d.smpRetire x).Canon := by
  unfold Dev.smpRetire
  split
  · exact h
  · exact Canon.bind (.ite_snd h.smpInterval h.pair) fun _ _ h1 => .ite (Canon.bind h1.same.smpRecord fun _ _ h2 => .ite h2.smpDrop
    h2.same) h1.same

theorem Canon.sampleRecord (h : d.Canon) : (d.sampleRecord).Canon := by
  unfold Dev.sampleRecord
  split
  · exact h
  · exact Canon.bind h.same.ringPush fun _ _ h1 => .ite h1.inc h1.smpDrop

theorem Canon.retire {x load store} (h : d.Canon) : (d.retire x load store).Canon := by
  unfold Dev.retire
  extract_lets _ _ d2
  have h2 : d2.Canon := by
    unfold d2
    split
    · extract_lets _ d3 d4
      have h3 : d3.Canon := .ite h.perfEvent.perfEvent h.perfEvent
      have h4 : d4.Canon := .ite h3.perfEvent h3
      exact .ite h4.perfEvent h4
    · exact h.perfEvent
  exact h2.smpRetire

/-! ### Sprig -/

theorem Canon.setFate {j v} (h : d.Canon) : (d.setFate j v).Canon := h.same

theorem Canon.setDeque {m q} (h : d.Canon) : (d.setDeque m q).Canon := h.same

theorem Canon.pushJob {j} (h : d.Canon) : (d.pushJob j).Canon := .ite h.setDeque.setSprig h.setDeque

theorem Canon.readyDec {j} (h : d.Canon) : (d.readyDec j).Canon := .ite h.same.pushJob h.same

theorem Canon.jobOver {j v} (h : d.Canon) : (d.jobOver j v).Canon := by
  unfold Dev.jobOver
  extract_lets _ d2 _
  have h2 : d2.Canon := h.setFate.foldl (fun _ h1 _ => h1.readyDec)
  exact .ite h2.same h2

theorem Canon.spOut {m k bs} (h : d.Canon) : (d.spOut m k bs).Canon := .ite h (h.forN (fun _ _ h1 => h1.same))

theorem Canon.spStore {m e} (h : d.Canon) : (d.spStore m e).Canon :=
  .ite h.spOut (.ite (Canon.ite h h.setBytes.setSprig).setBytes h.setBytes)

theorem Canon.spDrain {m n} (h : d.Canon) : (d.spDrain m n).Canon := by
  induction n generalizing d with
  | zero => exact h
  | succ n ih =>
    unfold Dev.spDrain
    split
    · exact h
    · exact ih h.setSprig.spStore

theorem Canon.spFlush {m} (h : d.Canon) : (d.spFlush m).Canon := h.spDrain

theorem Canon.spTick {m} (h : d.Canon) : (d.spTick m).Canon := by
  unfold Dev.spTick
  extract_lets _
  refine .ite h ?_
  split
  rename_i hp
  have h1 := Canon.of_pair h.drawUpTo hp
  exact h1.spDrain

theorem Canon.next {m x} (h : d.Canon) : (SRes.next d m x).Canon := h.setSprig.ok



theorem Canon.spExcept {m code addr ty bad} (h : d.Canon) : (d.spExcept m code addr ty bad).Canon := by
  unfold Dev.spExcept
  extract_lets _ _ _ _ _ _ d4 _ d5 _ _ _ _ _
  have h4 : d4.Canon := (Canon.ite h.spFlush.put h.spFlush.put.put.put.put.put.put.put).perfEvent.perfEvent
  have h5 : d5.Canon := by
    unfold d5
    split
    · exact h4.raiseAll
    · exact h4.raiseAt
  exact h5.setSprig.same.same.jobOver

theorem Canon.issue {m is ty f} (h : d.Canon) (hf : ∀ d, d.Canon → ∀ x1, (f d x1).Canon) : (d.issue m is ty f).Canon := by
  unfold Dev.issue
  refine .ite h ?_
  extract_lets _ _ _ _ _ _ _
  refine .ite h.spExcept (.ite h.spExcept (.ite h ?_))
  split
  · exact h
  · exact (Canon.ite h.corrected h).spTick.spExcept
  · rename_i hp
    have h1 := Canon.of_ok (hf _ (Canon.ite h.corrected h).spTick _) hp
    exact h1.setSprig.retire

theorem Canon.loopIterate {m} (h : d.Canon) : (d.loopIterate m).Canon := .ite h.setSprig h

theorem Canon.spAlu {m op f g} (h : d.Canon) : (d.spAlu m op f g).Canon := h.issue (fun _ h1 _ => .ite .illegal h1.next)

theorem Canon.spAddi {m f} (h : d.Canon) : (d.spAddi m f).Canon := h.issue (fun _ h1 _ => h1.next)

theorem Canon.spLui {m f} (h : d.Canon) : (d.spLui m f).Canon := h.issue (fun _ h1 _ => .ite .illegal h1.next)

theorem Canon.spTaken {m x t} (h : d.Canon) : (d.spTaken m x t).Canon := .ite .exc h.setSprig.ok

theorem Canon.spBranch {m op f c} (h : d.Canon) : (d.spBranch m op f c).Canon :=
  h.issue (fun _ h1 _ => .ite .illegal (.ite h1.spTaken h1.next))

theorem Canon.spJal {m f} (h : d.Canon) : (d.spJal m f).Canon := h.issue (fun _ h1 _ => .ite .illegal h1.spTaken)

theorem Canon.spJr {m f} (h : d.Canon) : (d.spJr m f).Canon := h.issue (fun _ h1 _ => .ite .illegal (.ite .exc h1.spTaken))

theorem Canon.spLoop {m f} (h : d.Canon) : (d.spLoop m f).Canon := h.issue (fun _ h1 _ => .ite .illegal (.ite h1.ok h1.next))

theorem Canon.spLoadTo {m n as g} (h : d.Canon) : (d.spLoadTo m n as g).Canon := by
  unfold Dev.spLoadTo
  split
  · exact .ite .wait .exc
  · exact (h.foldl (fun _ h1 _ => h1.corrected)).setSprig.ok

theorem Canon.spStoreAt {m n as vals g} (h : d.Canon) : (d.spStoreAt m n as vals g).Canon := by
  unfold Dev.spStoreAt
  split
  · exact .exc
  · split
    · exact .exc
    · exact h.spDrain.setSprig.ok

theorem Canon.spLdw {m f} (h : d.Canon) : (d.spLdw m f).Canon := h.issue (fun _ h1 _ => h1.spLoadTo)

theorem Canon.spStw {m f} (h : d.Canon) : (d.spStw m f).Canon := h.issue (fun _ h1 _ => h1.spStoreAt)

theorem Canon.spVld {m f} (h : d.Canon) : (d.spVld m f).Canon := h.issue (fun _ h1 _ => .ite .illegal h1.spLoadTo)

theorem Canon.spVst {m f} (h : d.Canon) : (d.spVst m f).Canon := h.issue (fun _ h1 _ => .ite .illegal h1.spStoreAt)

theorem Canon.spVlds {m f} (h : d.Canon) : (d.spVlds m f).Canon := h.issue (fun _ h1 _ => .ite .illegal h1.spLoadTo)

theorem Canon.spVldc {m f} (h : d.Canon) : (d.spVldc m f).Canon := h.issue (fun _ h1 _ => .ite .illegal (.ite .exc h1.spLoadTo))

theorem Canon.spVstc {m f} (h : d.Canon) : (d.spVstc m f).Canon := h.issue (fun _ h1 _ => .ite .illegal (.ite .exc h1.spStoreAt))

theorem Canon.spSetca {m f} (h : d.Canon) : (d.spSetca m f).Canon := h.issue (fun _ h1 _ => .ite .illegal (.ite .exc h1.next))

theorem Canon.spCaoff {m f} (h : d.Canon) : (d.spCaoff m f).Canon := h.issue (fun _ h1 _ => .ite .illegal h1.next)

theorem Canon.spCaoffW {m f} (h : d.Canon) : (d.spCaoffW m f).Canon := h.issue (fun _ h1 _ => .ite .illegal h1.next)

theorem Canon.spLanes {m op f neg fixed g} (h : d.Canon) : (d.spLanes m op f neg fixed g).Canon :=
  h.issue (fun _ h1 _ => .ite .illegal (.ite .exc h1.next))

theorem Canon.spVabs {m f} (h : d.Canon) : (d.spVabs m f).Canon := h.issue (fun _ h1 _ => .ite .illegal h1.next)

theorem Canon.spMac {m op scalar f} (h : d.Canon) : (d.spMac m op scalar f).Canon :=
  h.issue (fun _ h1 _ => .ite .illegal (.ite .exc h1.perfEvent.next))

theorem Canon.spVshf {m f} (h : d.Canon) : (d.spVshf m f).Canon := h.issue (fun _ h1 _ => .ite .illegal h1.next)

theorem Canon.spVcvt {m f} (h : d.Canon) : (d.spVcvt m f).Canon := h.issue (fun _ h1 _ => .ite .illegal h1.next)

theorem Canon.spVins {m f} (h : d.Canon) : (d.spVins m f).Canon := h.issue (fun _ h1 _ => .ite .illegal h1.next)

theorem Canon.spVext {m f} (h : d.Canon) : (d.spVext m f).Canon := h.issue (fun _ h1 _ => .ite .illegal h1.next)

theorem Canon.spAccz {m f} (h : d.Canon) : (d.spAccz m f).Canon := h.issue (fun _ h1 _ => .ite .illegal h1.next)

theorem Canon.spAccrd {m f} (h : d.Canon) : (d.spAccrd m f).Canon := h.issue (fun _ h1 _ => .ite .illegal (.ite .exc h1.next))

theorem Canon.spAccred {m f} (h : d.Canon) : (d.spAccred m f).Canon := h.issue (fun _ h1 _ => .ite .illegal (.ite .exc h1.next))

theorem Canon.spRdpace {m f} (h : d.Canon) : (d.spRdpace m f).Canon := h.issue (fun _ h1 _ => .ite .illegal (.ite .exc h1.next))

theorem Canon.spCsrr {m f} (h : d.Canon) : (d.spCsrr m f).Canon := h.issue (fun _ h1 _ => .ite .illegal (.ite .exc (.ite .exc h1.next)))

theorem Canon.spCsrw {m f} (h : d.Canon) : (d.spCsrw m f).Canon :=
  h.issue (fun _ h1 _ => .ite .illegal (.ite .exc (.ite .illegal h1.next)))

theorem Canon.spFence {m f} (h : d.Canon) : (d.spFence m f).Canon := h.issue (fun _ h1 _ => .ite .illegal h1.spFlush.next)

theorem Canon.spBrk {m f} (h : d.Canon) : (d.spBrk m f).Canon := h.issue (fun _ _ _ => .ite .illegal .exc)

theorem Canon.spEnd {m f} (h : d.Canon) : (d.spEnd m f).Canon := h.issue (fun _ h1 _ => .ite .illegal h1.next)

theorem Canon.spUnassigned {m w} (h : d.Canon) : (d.spUnassigned m w).Canon := h.issue (fun _ _ _ => .illegal)

/-! ### Thicket -/

theorem Canon.startJob {m j stolen} (h : d.Canon) : (d.startJob m j stolen).Canon :=
  .ite h.setFate.setSprig.perfEvent.perfEvent h.setFate.setSprig.perfEvent

theorem Canon.probe {m} (h : d.Canon) : (d.probe m).Canon := by
  unfold Dev.probe
  refine .ite h.setSprig ?_
  split
  · exact h.setDeque.startJob
  · exact h.setSprig.startTimer.perfEvent

theorem Canon.takeJob {m} (h : d.Canon) : (d.takeJob m).Canon := by
  unfold Dev.takeJob
  refine .ite h ?_
  split
  · exact h.setDeque.startJob
  · exact .ite h h.probe

theorem Canon.stealRetry {m} (h : d.Canon) : (d.stealRetry m).Canon := .ite h.probe h

theorem Canon.jobComplete {m} (h : d.Canon) : (d.jobComplete m).Canon := .ite h.spFlush.setSprig.same.jobOver h

theorem Canon.sealComplete (h : d.Canon) : (d.sealComplete).Canon :=
  .ite h (.ite h.same.same (h.same.same.foldl (fun _ h1 _ => .ite h1.pushJob h1)))

theorem Canon.xinReady (h : d.Canon) : (d.xinReady).Canon := .ite h.same (h.same.foldl (fun _ h1 _ => .ite h1.readyDec h1))

theorem Canon.stopSprigs (h : d.Canon) : (d.stopSprigs).Canon := by
  unfold Dev.stopSprigs
  refine h.foldl (fun _ h1 _ => ?_)
  extract_lets _
  refine .ite ?_ h1.setSprig
  split
  rename_i hp
  have h2 := Canon.of_pair h1.drawUpTo hp
  extract_lets _
  split
  rename_i hp
  have h3 := Canon.of_pair (.ite_snd h2.spDrain.pair h2.spDrain.perfUpTo) hp
  exact h3.perfEvent.setSprig

theorem Canon.loseJobs (h : d.Canon) : (d.loseJobs).2.Canon := by
  unfold Dev.loseJobs
  extract_lets _ d1 _ _ _ _
  have h1 : d1.Canon := h.foldl (fun _ h1 _ => h1.setFate)
  exact .ite_snd h1.same.put.pair h1.same.perfEvent.perfEvent.put.inc.put.raise.pair

theorem Canon.recordLoss (h : d.Canon) : (d.recordLoss).Canon :=
  .ite h ((h.forN (fun _ _ h1 => h1.wr)).foldl (fun _ h1 _ => h1.setBit)).put

theorem Canon.treatChan {c good} (h : d.Canon) : (d.treatChan c good).Canon := h.same

theorem Canon.stageJobs (h : d.Canon) : (d.stageJobs).Canon :=
  h.foldl (fun _ h1 _ => h1.foldl (fun _ h2 _ => .ite h2.treatChan h2.treatChan.same))

theorem Canon.stageOthers (h : d.Canon) : (d.stageOthers).Canon :=
  (h.foldl (fun _ h1 _ => h1.same)).foldl (fun _ h1 _ => .ite h1.same h1.same.same)

theorem Canon.avsRestart (h : d.Canon) : (d.avsRestart).Canon := h.same.put

theorem Canon.slackStep {beyond} (h : d.Canon) : (d.slackStep beyond).2.Canon :=
  .ite_snd h.put.put.same.pair (.ite_snd h.put.put.same.avsRestart.pair (.ite_snd h.put.put.same.avsRestart.pair h.put.put.same.pair))

theorem Canon.paceRate (h : d.Canon) : (d.paceRate).Canon := h.same.put

theorem Canon.thkDeadline (h : d.Canon) : (d.thkDeadline).2.Canon := by
  suffices hf : ∀ f, f = Dev.thkDeadline → (f d).2.Canon from hf _ rfl
  delta Dev.thkDeadline
  rintro _ rfl
  beta_reduce
  obtain ⟨lose, hlose, hc⟩ : ∃ f, f = Dev.loseJobs ∧ ∀ {d : Dev}, d.Canon → (f d).2.Canon := ⟨_, rfl, Canon.loseJobs⟩
  obtain ⟨slack, hslack, hs⟩ : ∃ f, f = Dev.slackStep ∧ ∀ {d : Dev} {b}, d.Canon → (f d b).2.Canon := ⟨_, rfl, Canon.slackStep⟩
  rw [← hlose, ← hslack]
  exact (hs (hc h.stopSprigs).recordLoss.same.stageJobs.stageOthers).same.pair

theorem Canon.thkAbandon (h : d.Canon) : (d.thkAbandon).Canon := h.same

theorem Canon.putStagedStore (h : d.Canon) : (d.putStagedStore).Canon := h.put.put

theorem Canon.storeWrite {off w} (h : d.Canon) : (d.storeWrite off w).Canon := by
  unfold Dev.storeWrite
  split
  · exact h.put
  · exact .ite h.setMemW (.ite h.put (.ite h.put.put h.same.putStagedStore))

theorem Canon.pcommitApply {late} (h : d.Canon) : (d.pcommitApply late).Canon := by
  unfold Dev.pcommitApply
  extract_lets _ _ d2
  have h2 : d2.Canon := (h.foldl (fun _ h1 _ => h1.setMemW)).same.putStagedStore.put
  exact .ite h2.put h2

theorem Canon.pcommitJudge {w} (h : d.Canon) : (d.pcommitJudge w).Canon := .ite h.same h

theorem Canon.pcommitMiss {after n} (h : d.Canon) : (d.pcommitMiss after n).Canon := .ite h.same h

theorem Canon.pcommitBoundary {b} (h : d.Canon) : (d.pcommitBoundary b).2.Canon :=
  .ite_snd h.pcommitApply.pair ((Canon.ite h.pcommitMiss h).pair)

theorem Canon.pcommitKeep {kept} (h : d.Canon) : (d.pcommitKeep kept).Canon := .ite h h.same.putStagedStore.put

theorem Canon.thkBlockReset (h : d.Canon) : (d.thkBlockReset).Canon :=
  (((Canon.ite h.same.putStagedStore.put.put h.same).forN (fun _ _ h1 => h1.clearRange)).foldl (fun _ h1 _ => h1.setBytes)).foldl (fun _
    h1 _ => .ite h1.clearRange.setBytes (.ite h1.clearRange h1))

theorem Canon.thkWrite {r i j w} (h : d.Canon) : (d.thkWrite r i j w).Canon := .ite h.store.avsRestart (.ite h.store.pcommitJudge h.store)

/-! ### Pwr -/

theorem Canon.dipApply {g anew} (h : d.Canon) : (d.dipApply g anew).Canon := by
  unfold Dev.dipApply
  extract_lets _ _
  split
  · exact .ite h.setDip h.setDip
  · exact h.setDip
  · exact h

theorem Canon.dipRestore {g} (h : d.Canon) : (d.dipRestore g).Canon := .ite h.setDip h.setDip

theorem Canon.dipPut {st} (h : d.Canon) : (d.dipPut st).Canon := .ite h.same h.same.put.put

theorem Canon.dipGroups {mask f} (h : d.Canon) (hf : ∀ x1, ∀ d, d.Canon → (f x1 d).Canon) : (d.dipGroups mask f).Canon :=
  h.forN (fun _ _ h1 => .ite (hf _ _ h1) h1)

theorem Canon.putVbus {mv} (h : d.Canon) : (d.putVbus mv).Canon := h.put.startTimer

theorem Canon.putTj {v} (h : d.Canon) : (d.putTj v).Canon := h.put.startTimer

theorem Canon.dipSelect {g} (h : d.Canon) : (d.dipSelect g).Canon := h.same

theorem Canon.dipOwn {g} (h : d.Canon) : (d.dipOwn g).Canon := by
  unfold Dev.dipOwn
  refine .ite h ?_
  extract_lets _ _ d2
  have h2 : d2.Canon := .ite h.setPgrp.dipApply h.setPgrp.dipRestore
  exact .ite h2 h2.put.dipPut

theorem Canon.vbusWarn {mv} (h : d.Canon) : (d.vbusWarn mv).Canon :=
  .ite h (.ite h.putVbus.put.inc.raise (((h.putVbus.put.inc.raise.dipGroups (fun _ _ h1 => h1.dipApply)).dipSelect).dipPut))

theorem Canon.vbusRecover {mv} (h : d.Canon) : (d.vbusRecover mv).Canon :=
  .ite h (.ite h.putVbus.put ((h.putVbus.put.dipGroups (fun _ _ h1 => h1.dipRestore)).dipPut))

theorem Canon.dipRestoreDone (h : d.Canon) : (d.dipRestoreDone).Canon := .ite h ((h.dipGroups (fun _ _ h1 => h1.setDip)).same.dipPut)

theorem Canon.dipRewrite (h : d.Canon) : (d.dipRewrite).Canon :=
  .ite h ((((h.dipGroups (fun _ _ h1 => h1.dipRestore)).dipGroups (fun _ _ h1 => h1.dipApply)).dipSelect).dipPut)

theorem Canon.supShow {s v on} (h : d.Canon) : (d.supShow s v on).Canon := by
  unfold Dev.supShow
  extract_lets d1
  have h1 : d1.Canon := by
    unfold d1
    split
    · exact h.putVbus.put
    · exact h.put
    · exact h.put
    · exact h.put
    · exact h.putTj.put
    · exact h.putTj
    · exact h
  split
  · exact .ite h1.clrBit h1.setBit
  · exact h1

theorem Canon.supervisorTrip {s v} (h : d.Canon) : (d.supervisorTrip s v).Canon := .ite h h.same.supShow.raise

theorem Canon.supervisorClear {s v} (h : d.Canon) : (d.supervisorClear s v).Canon := .ite h h.same.supShow

theorem Canon.setVcore {mv} (h : d.Canon) : (d.setVcore mv).Canon := h.same.put.startTimer

theorem Canon.lowerVcore {mv} (h : d.Canon) : (d.lowerVcore mv).Canon := h.same.setVcore

theorem Canon.vcoreRequest {up} (h : d.Canon) : (d.vcoreRequest up).Canon :=
  .ite (.ite h.same.raise h.same.setVcore) (.ite h.same h.same.lowerVcore)

theorem Canon.vcoreStep (h : d.Canon) : (d.vcoreStep).Canon := by
  unfold Dev.vcoreStep
  refine .ite h ?_
  extract_lets _ _ _ d1 _
  have h1 : d1.Canon := .ite h (.ite h.setVcore h.lowerVcore)
  exact .ite h1.same h1

theorem Canon.powerUp {mv} (h : d.Canon) : (d.powerUp mv).Canon := .ite h.same.startTimer h

theorem Canon.railTimeout (h : d.Canon) : (d.railTimeout).Canon := .ite h.same.startTimer.inc h

theorem Canon.powerUpRetry (h : d.Canon) : (d.powerUpRetry).Canon := .ite h.same.startTimer h

theorem Canon.pwrWrite {r i j w} (h : d.Canon) : (d.pwrWrite r i j w).Canon := .ite (.ite h h.store) (.ite h.store.dipRewrite h.store)

/-! ### Mgmt -/

theorem Canon.vecRaise {v} (h : d.Canon) : (d.vecRaise v).Canon := .ite h.raiseVec h

theorem Canon.setMsix {v e} (h : d.Canon) : (d.setMsix v e).Canon := h.same

theorem Canon.msixAccess {v addr x} (h : d.Canon) : (d.msixAccess v addr x).Canon := by
  unfold Dev.msixAccess
  refine .ite h ?_
  split
  · exact h.setMsix.msixTry
  · exact h.setMsix
  · exact (h.foldl (fun _ h1 _ => h1.emit)).emit.emit

theorem Canon.ringCfgWrite {q w} (h : d.Canon) : (d.ringCfgWrite q w).Canon := by
  unfold Dev.ringCfgWrite
  extract_lets _ _ _ d2
  have h2 : d2.Canon := .ite h.store.put h.store
  exact .ite h (.ite h2.putFill (.ite h2.put.put.putFill h2.putFill))

theorem Canon.softAdvance {q} (h : d.Canon) : (d.softAdvance q).Canon := .ite h.raiseVecTo h

theorem Canon.ringWrWrite {q v} (h : d.Canon) : (d.ringWrWrite q v).Canon := .ite h (.ite h.put (.ite h.ringSet h.ringSet.softAdvance))

theorem Canon.ringRdWrite {q v} (h : d.Canon) : (d.ringRdWrite q v).Canon := .ite h.ringSet h

theorem Canon.hportHome (h : d.Canon) : (d.hportHome).Canon := by
  unfold Dev.hportHome
  split
  · exact h.put
  · exact h

theorem Canon.hportSelect {w} (h : d.Canon) : (d.hportSelect w).Canon := h.store.hportHome

theorem Canon.hportStep {q} (h : d.Canon) : (d.hportStep q).Canon := h.put

theorem Canon.hportRead {master} (h : d.Canon) : (d.hportRead master).2.Canon := by
  unfold Dev.hportRead
  split
  · exact Canon.bind_snd h.eccRead fun _ _ h1 => h1.hportStep.pair
  · exact h.pair

theorem Canon.hportWrite {w} (h : d.Canon) : (d.hportWrite w).Canon := by
  unfold Dev.hportWrite
  split
  · exact .ite h.put h.setMemW.hportStep
  · exact h

theorem Canon.hportCommit (h : d.Canon) : (d.hportCommit).Canon := by
  unfold Dev.hportCommit
  split
  · exact .ite (.ite h.ringSet h.put) (.ite (.ite h.ringSet.softAdvance h.ringSet) h.put)
  · exact h

theorem Canon.endpointReset (h : d.Canon) : (d.endpointReset).Canon := h.same.hportHome

theorem Canon.pcieReset (h : d.Canon) : (d.pcieReset).Canon := .ite h.endpointReset h

theorem Canon.pcieLinkDown (h : d.Canon) : (d.pcieLinkDown).Canon := .ite h.raise h

theorem Canon.pcieError (h : d.Canon) : (d.pcieError).Canon := .ite h.raise h

theorem Canon.perstChange {low} (h : d.Canon) : (d.perstChange low).Canon := .ite h.same.endpointReset h.same

theorem Canon.wdogStart (h : d.Canon) : (d.wdogStart).Canon := h.same

theorem Canon.wdogKick {key} (h : d.Canon) : (d.wdogKick key).Canon := .ite h.same h.put

theorem Canon.wdogWrite {w} (h : d.Canon) : (d.wdogWrite w).Canon := .ite h.store.wdogStart h.store

theorem Canon.mgmtReset (h : d.Canon) : (d.mgmtReset).Canon := h.same.perfMgmtReset

theorem Canon.mgmtResetDone (h : d.Canon) : (d.mgmtResetDone).Canon := .ite h h.sramScan.same.wdogStart.put.put.raiseVec

theorem Canon.loadLatch (h : d.Canon) : (d.loadLatch).Canon := h.same.put.put.put

theorem Canon.putPend (h : d.Canon) : (d.putPend).Canon := h.put

theorem Canon.sceneWrite {port a w} (h : d.Canon) : (d.sceneWrite port a w).Canon := .ite h.raiseAt h.same.putPend

theorem Canon.sceneWordDone {bad} (h : d.Canon) : (d.sceneWordDone bad).Canon := by
  unfold Dev.sceneWordDone
  split
  · exact h
  · exact .ite (Canon.bind h.same.putPend.draw fun _ _ h1 => h1.setMemW.put.raise) h.same.putPend.setMemW

theorem Canon.sceneRead {a port} (h : d.Canon) : (d.sceneRead a port).2.Canon := by
  unfold Dev.sceneRead
  split
  · exact h.pair
  · exact h.eccRead

theorem Canon.scenePor (h : d.Canon) : (d.scenePor).Canon := by
  unfold Dev.scenePor
  split
  · exact h
  · exact Canon.bind h.draw fun _ _ h1 => .ite h1.same.setMemW h1.same

/-! ### Pair -/

theorem Canon.setPair {p} (h : d.Canon) : (d.setPair p).Canon := h.same

theorem Canon.setOwnOut {high} (h : d.Canon) : (d.setOwnOut high).Canon := h.setPair

theorem Canon.setRole {r} (h : d.Canon) : (d.setRole r).Canon := .ite (h.put.forN (fun _ _ h1 => .ite h1.groupDown h1)) h.put

theorem Canon.take {m ports} (h : d.Canon) : (d.take m ports).Canon := h.setPair.setOwnOut

theorem Canon.releaseNow (h : d.Canon) : (d.releaseNow).Canon := h.setPair.setOwnOut

theorem Canon.releaseGroups (h : d.Canon) : (d.releaseGroups).Canon := .ite h.setPair.setOwnOut h.setPair

theorem Canon.groupReleased {g} (h : d.Canon) : (d.groupReleased g).Canon := .ite h (.ite h.setPair h.setPair.setPair.setOwnOut)

theorem Canon.groupTaken {g} (h : d.Canon) : (d.groupTaken g).Canon := .ite h.setPair (.ite h.setPair.setOwnOut h)

theorem Canon.pairCarrier {g} (h : d.Canon) : (d.pairCarrier g).Canon := h.groupReleased.groupTaken

theorem Canon.pairFrame {p} (h : d.Canon) : (d.pairFrame p).Canon := .ite (.ite h.setPair h) h.setPair

theorem Canon.yieldNow {split} (h : d.Canon) : (d.yieldNow split).Canon := by
  unfold Dev.yieldNow
  extract_lets _ _ d2 _
  have h2 : d2.Canon := h.setRole.setPair.releaseGroups
  exact .ite h2.setPair h2

theorem Canon.pairFail (h : d.Canon) : (d.pairFail).Canon := .ite h.setRole.releaseNow.setPair h

theorem Canon.pairNone (h : d.Canon) : (d.pairNone).Canon := .ite h.setRole.releaseNow.setPair.setRole.take h.setRole.releaseNow.setPair

theorem Canon.pairCycleStop (h : d.Canon) : (d.pairCycleStop).Canon := .ite h.setPair h.pairNone

theorem Canon.pairStart (h : d.Canon) : (d.pairStart).Canon := h.pairNone

theorem Canon.pairSees (h : d.Canon) : (d.pairSees).Canon := .ite h.setRole.setPair h

theorem Canon.liveEdge {level} (h : d.Canon) : (d.liveEdge level).Canon :=
  .ite h (.ite h.captureEvent.setPair.put (.ite h.captureEvent.setPair.put h.captureEvent.setPair))

theorem Canon.diverge (h : d.Canon) : (d.diverge).Canon := .ite h.put h

theorem Canon.pairStaged (h : d.Canon) : (d.pairStaged).Canon := h.setPair

theorem Canon.compare (h : d.Canon) : (d.compare).Canon := by
  unfold Dev.compare
  split
  · exact h
  · exact .ite h (.ite h.setPair h.setPair.wr.wr.put.inc.raise)

theorem Canon.heartbeatReceive {bs} (h : d.Canon) : (d.heartbeatReceive bs).Canon := by
  unfold Dev.heartbeatReceive
  split
  · exact h
  · split
    extract_lets _ _ _ _ d3
    have h3 : d3.Canon := .ite h.setPair.put.put.diverge h.setPair.put.put
    exact .ite h3.compare h3

theorem Canon.takeover {both} (h : d.Canon) : (d.takeover both).Canon :=
  (Canon.ite h.setRole.put.take.setPair.setPair.put h.setRole.put.take.setPair).replay.ethReplay.raise

theorem Canon.detected {both} (h : d.Canon) : (d.detected both).Canon := .ite h.put.put h.put.takeover

theorem Canon.pleachReady (h : d.Canon) : (d.pleachReady).Canon := h.put

theorem Canon.pleachPut {pass fail} (h : d.Canon) : (d.pleachPut pass fail).Canon :=
  .ite h.put.put.pleachReady.raise h.put.put.pleachReady

theorem Canon.pleachStep (h : d.Canon) : (d.pleachStep).Canon := .ite h h.pleachPut

theorem Canon.pleachCont (h : d.Canon) : (d.pleachCont).Canon := .ite h (.ite h h.pleachPut)

theorem Canon.pleachKernel {m good} (h : d.Canon) : (d.pleachKernel m good).Canon := .ite h h.setPair

theorem Canon.judgePaths (h : d.Canon) : (d.judgePaths).Canon := by
  unfold Dev.judgePaths
  extract_lets _ d2 _ d4 _ d6 _
  have h2 : d2.Canon := .ite (.ite h h.inc) (Canon.ite h h.inc).inc
  have h4 : d4.Canon := .ite h2.setPair.raise h2.setPair
  have h6 : d6.Canon := .ite h4.put.put.put h4.put.put
  exact (Canon.ite h6.raise h6).put

theorem Canon.judgeHb (h : d.Canon) : (d.judgeHb).Canon := by
  unfold Dev.judgeHb
  split
  · exact .ite ((Canon.ite h.put.put.diverge h.put.put).setPair.compare) h
  · exact h

theorem Canon.countCompare (h : d.Canon) : (d.countCompare).Canon := .ite (.ite h.inc h.inc) h

theorem Canon.detect (h : d.Canon) : (d.detect).Canon := .ite h (.ite h.setPair.detected h.setPair)

theorem Canon.pairEvaluate (h : d.Canon) : (d.pairEvaluate).Canon := by
  unfold Dev.pairEvaluate
  refine .ite h ?_
  extract_lets _ _ d2 _ _
  have h2 : d2.Canon := h.setPair.judgePaths.judgeHb.countCompare.pleachStep
  exact .ite h.setPair.pleachStep (.ite (.ite h2.pairSees.setPair h2.pairSees) (.ite h2.detect h2))

theorem Canon.backoffExpire (h : d.Canon) : (d.backoffExpire).Canon := .ite (.ite h.setPair.takeover.setPair h.setPair) h

theorem Canon.ownInChange {high} (h : d.Canon) : (d.ownInChange high).Canon := by
  unfold Dev.ownInChange
  extract_lets _ _ d2 _ _ _ _
  have h2 : d2.Canon := (Canon.ite h h.captureEvent).setPair.put
  exact .ite (Canon.ite h2.yieldNow.setPair h2.yieldNow.setPair).put.raise h2.pairSees

theorem Canon.pairYield (h : d.Canon) : (d.pairYield).Canon := .ite h.yieldNow.setPair h

theorem Canon.pairHandover (h : d.Canon) : (d.pairHandover).Canon := .ite h.put h.setPair

theorem Canon.pairResync (h : d.Canon) : (d.pairResync).Canon := .ite h.setPair h

theorem Canon.pairClear (h : d.Canon) : (d.pairClear).Canon := .ite h.pairNone h

theorem Canon.pairResyncMirrored (h : d.Canon) : (d.pairResyncMirrored).Canon := .ite h.setPair h

theorem Canon.pairCtrl {w} (h : d.Canon) : (d.pairCtrl w).Canon := by
  unfold Dev.pairCtrl
  extract_lets _ d1 d2 d3
  have h1 : d1.Canon := .ite (.ite h.pairYield.put h.pairYield) (.ite h.pairHandover h)
  have h2 : d2.Canon := .ite h1.pairResync h1
  have h3 : d3.Canon := .ite h2.pairFail h2
  exact .ite h3.pairClear h3

theorem Canon.pairVbus {g v val st ceil} (h : d.Canon) : (d.pairVbus g v val st ceil).Canon :=
  .ite h.setPair.setPgrp.setDip.put.put.put h.setPair

theorem Canon.pairAsrc {b ws} (h : d.Canon) : (d.pairAsrc b ws).Canon := h.setPair.foldl (fun _ h1 _ => h1.setConv)

theorem Canon.psmKnown {f} (h : d.Canon) : (d.psmKnown f).Canon := h.setPair

theorem Canon.pairPsm {f} (h : d.Canon) : (d.pairPsm f).Canon := .ite h.setPair.setPair h.setPair.psmKnown

theorem Canon.psmAdopt {f} (h : d.Canon) : (d.psmAdopt f).Canon := by
  unfold Dev.psmAdopt
  refine .ite h ?_
  extract_lets d1 _ _ _
  have h1 : d1.Canon := by
    refine h.forN (fun _ _ h1 => ?_)
    extract_lets _
    split
    · exact .ite h1.put.put.put (.ite h1.put.put.put.setCState h1.put.put.put.setCState.zeroState)
    · exact h1
  exact .ite h1 (.ite h1.setPgrp.groupDown (.ite h1.setPgrp.stopRamp h1.setPgrp.setGState.setPsen))

theorem Canon.psmAdoptAll (h : d.Canon) : (d.psmAdoptAll).Canon := (Canon.ite (h.foldl (fun _ h1 _ => h1.psmAdopt.psmKnown)) h).setPair

theorem Canon.healthReceive {bs} (h : d.Canon) : (d.healthReceive bs).Canon := .ite h (.ite h.setPair.diverge h.setPair)

theorem Canon.pairLinkDown (h : d.Canon) : (d.pairLinkDown).Canon := .ite h.setPair.put.raise h.setPair

theorem Canon.boundaryMissed (h : d.Canon) : (d.boundaryMissed).Canon := .ite h.pairFail h

theorem Canon.healthRecord (h : d.Canon) : (d.healthRecord).Canon :=
  .ite h (Canon.bind h.ringPush fun _ _ h1 => .ite h1.setPair.emit h1.setPair)

theorem Canon.asrcMirror {b} (h : d.Canon) : (d.asrcMirror b).Canon := by
  unfold Dev.asrcMirror
  refine h.forN (fun _ _ h1 => .ite h1 ?_)
  split
  · exact h1.setRatio.put.setConv
  · exact .ite h1.setConv.put h1.setConv

theorem Canon.pairBoundaryRole {b} (h : d.Canon) : (d.pairBoundaryRole b).Canon := by
  unfold Dev.pairBoundaryRole
  extract_lets _ _ _ _ _ d4 _ _ _ _
  have h4 : d4.Canon := .ite (Canon.ite h.setPair h).pairSees.setRole.take.setPair (Canon.ite h.setPair h).pairSees
  split
  · exact .ite (.ite h4.setRole.setPair.releaseGroups (.ite h4.setRole.take.setPair h4)) (.ite h4.setPair h4)
  · exact h4

theorem Canon.pairBoundary (h : d.Canon) : (d.pairBoundary).Canon := .ite h.setPair.emit.emit h.setPair.emit

theorem Canon.pairSendVbus {g} (h : d.Canon) : (d.pairSendVbus g).Canon := .ite h.emit h

theorem Canon.pairSendPsm {o} (h : d.Canon) : (d.pairSendPsm o).Canon := h.forN (fun _ _ h1 => .ite h1.emit h1)

theorem Canon.pairBlockReset (h : d.Canon) : (d.pairBlockReset).Canon := h.setPair.pairLinkDown

/-! ### Image -/

theorem Canon.imgPut {w} (h : d.Canon) : (d.imgPut w).Canon := by
  unfold Dev.imgPut
  split
  · exact h.wr
  · exact h



/-! ### Boot -/

theorem Canon.setBoot {b} (h : d.Canon) : (d.setBoot b).Canon := h.same

theorem Canon.setPhase {p} (h : d.Canon) : (d.setPhase p).Canon := .ite h (.ite h.put.raiseVec h.put)

theorem Canon.setSlotState {s st} (h : d.Canon) : (d.setSlotState s st).Canon := h.put

theorem Canon.setSlotImg {s im} (h : d.Canon) : (d.setSlotImg s im).Canon := h.setBoot

theorem Canon.awaitHost (h : d.Canon) : (d.awaitHost).Canon := h.put.setBoot.setPhase

theorem Canon.readDirectory (h : d.Canon) : (d.readDirectory).Canon := h.emit.emit

theorem Canon.readSlot {off} (h : d.Canon) : (d.readSlot off).Canon := h.emit

theorem Canon.bootStart {sel} (h : d.Canon) : (d.bootStart sel).Canon :=
  .ite h.same (.ite h.same.wr.put.setBoot.awaitHost h.same.wr.put.setBoot.setBoot.setPhase.readDirectory)

theorem Canon.rejectImg {code} (h : d.Canon) : (d.rejectImg code).Canon := h.put.setSlotState.put.put.setBoot.raise

theorem Canon.nextFlash {fuel d} (h : d.Canon) : (nextFlash fuel d).Canon := by
  induction fuel generalizing d with
  | zero => exact h
  | succ fuel ih =>
    unfold Machine.nextFlash
    split
    · exact .ite h.setBoot h.awaitHost
    · split
      refine .ite (ih (.ite h.setBoot.setBoot.setSlotState.put h.setBoot.setBoot)) ?_
      extract_lets d1 d2
      have h2 : d2.Canon := .ite h.setBoot h.setBoot.put.setPhase
      exact .ite (ih h2.rejectImg) h2.setBoot.readSlot

theorem Canon.failAttempt {code} (h : d.Canon) : (d.failAttempt code).Canon :=
  .ite h.rejectImg.setBoot (.ite h.rejectImg.awaitHost h.rejectImg.nextFlash)

theorem Canon.directoryRead {a b} (h : d.Canon) : (d.directoryRead a b).Canon := by
  unfold Dev.directoryRead
  refine .ite h ?_
  split
  · exact h.setBoot.nextFlash
  · exact .ite h.put.setBoot h.put.setBoot.awaitHost

theorem Canon.judgeImg (h : d.Canon) : (d.judgeImg).Canon :=
  .ite h.failAttempt (.ite (Canon.ite (.ite h.setPhase h) (Canon.ite h.setPhase h).setPhase).setBoot (.ite h.setPhase h))

theorem Canon.chunkArrive (h : d.Canon) : (d.chunkArrive).Canon := by
  unfold Dev.chunkArrive
  split
  · exact .ite h (.ite h.setBoot.failAttempt h.setBoot.judgeImg)
  · exact h

theorem Canon.imageData {bs} (h : d.Canon) : (d.imageData bs).Canon := .ite h (.ite h.chunkArrive h.setBoot.judgeImg)

theorem Canon.loadChunk {len last} (h : d.Canon) : (d.loadChunk len last).Canon := .ite h (.ite h.setBoot.put.put.setPhase h.setBoot.put)

theorem Canon.chunkTaken (h : d.Canon) : (d.chunkTaken).Canon :=
  .ite h ((Canon.ite (Canon.ite h.chunkArrive h).failAttempt (.ite h.chunkArrive h)).setBoot.startTimer.put.raiseVec)

theorem Canon.chunkWrite {i w} (h : d.Canon) : (d.chunkWrite i w).Canon := .ite h.wr h.setBoot.put

theorem Canon.flashError (h : d.Canon) : (d.flashError).Canon := .ite h.directoryRead (.ite h.failAttempt h)

theorem Canon.hostTimeout (h : d.Canon) : (d.hostTimeout).Canon := .ite h.failAttempt h

theorem Canon.signatureVerified (h : d.Canon) : (d.signatureVerified).Canon := by
  unfold Dev.signatureVerified
  refine .ite h ?_
  extract_lets _ _ _ d2 _ _
  have h2 : d2.Canon := .ite (.ite h h.put) (Canon.ite h h.put).setPhase
  exact .ite (Canon.ite h h.put).failAttempt (.ite h2.failAttempt h2.setBoot)

theorem Canon.regionCount {r} (h : d.Canon) : (d.regionCount r).Canon := .ite (h.forN (fun _ _ h1 => h1.perfEvent)) h

theorem Canon.initRegions {rs} (h : d.Canon) : (d.initRegions rs).Canon := h.foldl (fun _ h1 _ => h1.regionCount.clearRange.setBytes)

theorem Canon.loadCode {im bank} (h : d.Canon) : (d.loadCode im bank).Canon := h.clearRange.setBytes

theorem Canon.imgLoad {w} (h : d.Canon) : (d.imgLoad w).Canon := .ite h.perfEvent.raiseAt h.perfEvent.imgPut

theorem Canon.applyRegs {im live} (h : d.Canon) : (d.applyRegs im live).Canon :=
  ((h.forN (fun _ _ h1 => h1.wr)).wr.wr.foldl (fun _ h1 _ => h1.foldl (fun _ h2 _ => h2.imgLoad))).genAdopt

theorem Canon.dropImageFields (h : d.Canon) : d.dropImageFields.Canon := by
  refine ⟨h.1, h.2.filterMap fun kv y hy => ?_⟩
  split at hy
  · obtain ⟨-, hy⟩ := Option.ite_none_left_eq_some.1 hy
    rw [← Option.some.inj hy]
  · rw [← Option.some.inj hy]

theorem Canon.dropSections {old im live} (h : d.Canon) : (d.dropSections old im live).Canon := by
  unfold Dev.dropSections
  refine h.foldl (fun _ h1 _ => h1.foldl (fun _ h2 _ => ?_))
  split
  · exact h2.imgPut
  · exact h2

theorem Canon.applyGraph {im bank rs} (h : d.Canon) : (d.applyGraph im bank rs).Canon := h.same.put.put

theorem Canon.loadFirmware {im} (h : d.Canon) : (d.loadFirmware im).Canon := h.setBytes.same

theorem Canon.armAlarms {im} (h : d.Canon) : (d.armAlarms im).Canon := h.forN (fun _ _ h1 => .ite h1.almArmFw h1)

theorem Canon.timeSwap {o old im} (h : d.Canon) : (d.timeSwap o old im).Canon :=
  (h.forN (fun _ _ h1 => .ite h1 h1.servoTo)).forN (fun _ _ h1 => .ite h1 (.ite (Canon.ite h1.almDisarm h1).almArmFw (.ite h1.almDisarm
    h1)))

theorem Canon.addSections {im} (h : d.Canon) : (d.addSections im).Canon := h.same

theorem Canon.setImage {im} (h : d.Canon) : (d.setImage im).Canon := h.same

theorem Canon.applyImage {im bank rs} (h : d.Canon) : (d.applyImage im bank rs).Canon :=
  (((Canon.ite h h.put).applyRegs.fabricAdopt.addSections.setImage.applyGraph.loadFirmware.forN (fun _ _ h1 => h1.clearRange)).foldl (fun
    _ h1 _ => h1.setBytes)).xptLoad.same.tioAdopt.same.put.rcuStart.alnStart.hlkStart.armAlarms.sapRates

theorem Canon.sectionsApplied (h : d.Canon) : (d.sectionsApplied).Canon :=
  .ite h h.loadCode.initRegions.applyImage.put.put.setSlotState.setSlotImg.put.put.put.setBoot.put.same.pairStart.setPhase

theorem Canon.discardStaged {s} (h : d.Canon) : (d.discardStaged s).Canon := h.setSlotState.put.put.setSlotImg.setBoot.put

theorem Canon.stageStart (h : d.Canon) : (d.stageStart).Canon := by
  unfold Dev.stageStart
  extract_lets _ d1 _ _ _
  have h1 : d1.Canon := h.discardStaged.setSlotState
  exact .ite h (.ite h1.setBoot h1.setBoot.readDirectory)

theorem Canon.stageAbort (h : d.Canon) : (d.stageAbort).Canon := .ite h.discardStaged.setBoot h

theorem Canon.stagingComplete (h : d.Canon) : (d.stagingComplete).Canon :=
  .ite h (.ite h.failAttempt h.loadCode.initRegions.put.put.setSlotState.setSlotImg.setBoot.put)

theorem Canon.swapResult {code} (h : d.Canon) : (d.swapResult code).Canon := h.put.put.put.raiseVec

theorem Canon.swapArm (h : d.Canon) : (d.swapArm).Canon := .ite h.swapResult (.ite h.swapResult h.put)

theorem Canon.swapArmMirrored {build} (h : d.Canon) : (d.swapArmMirrored build).Canon := .ite h.put.swapResult h.swapArm

theorem Canon.swapDisarm (h : d.Canon) : (d.swapDisarm).Canon := .ite h.swapResult h

theorem Canon.swapCancel (h : d.Canon) : (d.swapCancel).Canon := .ite h.setBoot h

theorem Canon.exchange {oldRegions} (h : d.Canon) : (d.exchange oldRegions).Canon := h.setSlotState.setSlotState.put.setBoot.put

theorem Canon.seqsCarry {o} (h : d.Canon) : (d.seqsCarry o).Canon := by
  unfold Dev.seqsCarry
  refine h.forN (fun _ _ h1 => .ite h1 ?_)
  split
  · exact h1.wr
  · exact h1

theorem Canon.flowsCarry {o} (h : d.Canon) : (d.flowsCarry o).Canon := h.seqsCarry.same

theorem Canon.faultsCarry {o} (h : d.Canon) : (d.faultsCarry o).Canon :=
  h.forN (fun _ _ h1 => .ite (.ite h1.same h1) (.ite (Canon.ite h1.same h1).same.put.put.fltSetState (Canon.ite h1.same h1).same.put.put))

theorem Canon.swapHitless (h : d.Canon) : (d.swapHitless).Canon := by
  unfold Dev.swapHitless
  extract_lets _ _ _ _ _ _ _ _ _ _ _ d7 _
  have h7 : d7.Canon :=
    h.dropSections.applyRegs.fabricAdopt.addSections.same.initRegions.applyGraph.pcommitKeep.xptSwap.flowsCarry.faultsCarry.tioAdopt.timeSwap.rcuSwap
  exact (Canon.ite h7 h7.loadFirmware.addDue).exchange.swapResult

theorem Canon.restartBegin (h : d.Canon) : (d.restartBegin).Canon := h.put.put.fadeAllBegin.psmStopAll.startTimer.setBoot

theorem Canon.swapBoundary {b} (h : d.Canon) : (d.swapBoundary b).Canon :=
  .ite h (.ite h.swapResult (.ite h.swapResult (.ite h.swapResult (.ite h.swapHitless (.ite h.restartBegin h.swapResult)))))

theorem Canon.cycleStop (h : d.Canon) : (d.cycleStop).Canon := by
  unfold Dev.cycleStop
  extract_lets _ d2 _ _ _ _
  have h2 : d2.Canon := h.put.put.pseudoFrom.thkAbandon.xptStop.sapStop
  exact h2.same.flowBlockReset.strStop.pairCycleStop.perfBoundary

theorem Canon.restartSilent (h : d.Canon) : (d.restartSilent).Canon := by
  unfold Dev.restartSilent
  refine .ite h ?_
  extract_lets _ _ _ _ _ _ _ _ _ d7 _ _ _ _
  have h7 : d7.Canon := (h.forN (fun _ _ h1 => .ite h1
    h1.groupDown)).cycleStop.dropImageFields.dropSections.initRegions.applyImage.pcommitKeep.rcuRestart.alnRestart.forN (fun _ _ h1 =>
    h1.linkRestart)
  exact (Canon.ite h7.exchange.setBoot h7.exchange.setBoot.addDue).put.pairStart

theorem Canon.restartDone (h : d.Canon) : (d.restartDone).Canon := .ite h.put.swapResult h

/-! ### Resets -/

theorem Canon.keepRegs {p} (h : d.Canon) : (d.keepRegs p).Canon := ⟨h.1, h.2.filter _⟩

theorem Canon.missedAlarms (h : d.Canon) : (d.missedAlarms).Canon := (Canon.ite h.armCycle h).forN (fun _ _ h1 => .ite h1.grpMissed h1)

theorem Canon.stepSettle {t} (h : d.Canon) : (d.stepSettle t).Canon := .ite h.rcuStepped.missedAlarms h.rcuStepped

theorem Canon.dllSettle (h : d.Canon) : (d.dllSettle).Canon := h.same.foldl (fun _ h1 _ => .ite h1.sapDllLost (.ite h1.psmDllLost h1))

theorem Canon.clockSync (h : d.Canon) : (d.clockSync).Canon := (h.same.foldl (fun _ h1 _ => h1.stepSettle)).rcuSync.alnSync.dllSettle

theorem Canon.putBusy (h : d.Canon) : (d.putBusy).Canon := h.put

theorem Canon.shadowOpen {b cause} (h : d.Canon) : (d.shadowOpen b cause).Canon := h.same.setBit.startTimer.putBusy

theorem Canon.blockResetEnd {b} (h : d.Canon) : (d.blockResetEnd b).Canon := .ite h.same.startTimer.putBusy h

theorem Canon.shadowClose {b} (h : d.Canon) : (d.shadowClose b).Canon := .ite h.same.clrBit h

theorem Canon.blockResetEffect {o b} (h : d.Canon) : (d.blockResetEffect o b).Canon := by
  unfold Dev.blockResetEffect
  split
  · exact h.rcuBlockReset
  · exact h.alnBlockReset
  · exact h.hlkBlockReset
  · exact h.hfbBlockReset
  · exact h.ethBlockReset
  · exact h.flowBlockReset
  · exact h.sapBlockReset
  · exact h.asrcBlockReset
  · exact h.xptBlockReset
  · exact h.thkBlockReset
  · exact h.psmBlockReset
  · exact h.pairBlockReset
  · exact h.perfBlockReset
  · exact h

theorem Canon.mgmtBegin {cause} (h : d.Canon) : (d.mgmtBegin cause).Canon := h.shadowOpen.keepRegs.mgmtReset.stageAbort

theorem Canon.blockReset {b cause resync} (h : d.Canon) : (d.blockReset b cause resync).Canon := by
  unfold Dev.blockReset
  refine .ite h (.ite h.mgmtBegin ?_)
  extract_lets _ d2 _
  have h2 : d2.Canon := .ite h.shadowOpen.swapCancel.diverge h.shadowOpen.swapCancel
  exact (Canon.ite h2.timeBlockReset h2).keepRegs.blockResetEffect

theorem Canon.blkrstWrite {w} (h : d.Canon) : (d.blkrstWrite w).Canon := .ite h.store.addDue h.store.put

theorem Canon.loadFixed (h : d.Canon) : (d.loadFixed).Canon := h.put.put.put.put.put.eccRead.eccRead.put.put.put

theorem Canon.fuseCheck (h : d.Canon) : (d.fuseCheck).Canon := .ite h.raise h

theorem Canon.psfltKeep {o} (h : d.Canon) : (d.psfltKeep o).Canon := h.forN (fun _ _ h1 => .ite h1.setPgrp h1)

theorem Canon.chipReset {cause} (h : d.Canon) : (d.chipReset cause).Canon := by
  unfold Dev.chipReset
  extract_lets _ _ _ _ _ d5
  have h5 : d5.Canon := h.servosFree.timeChipReset.keepRegs.same.startTimer.loadFixed.put.put.putPend.put.psfltKeep.fuseCheck
  split
  · exact h5.put.put.put
  · exact h5

theorem Canon.resetPin {ns} (h : d.Canon) : (d.resetPin ns).Canon := .ite h (Canon.bind h.draw fun _ _ h1 => .ite h1.chipReset.same h1)

theorem Canon.graveTorn (h : d.Canon) : (d.graveTorn).Canon := .ite h (h.forN (fun _ _ h1 => Canon.bind h1.draw fun _ _ h2 => h2.setMemW))

theorem Canon.porAssert {mv} (h : d.Canon) : (d.porAssert mv).Canon := by
  unfold Dev.porAssert
  refine .ite h (.ite h.same ?_)
  extract_lets d1 d2 n
  have h2 : d2.Canon := h.scenePor.graveTorn.setMemLe
  have hn : n.Canon := ⟨memFilter_wf d2.mem _ h2.1, trivial⟩
  exact hn.loadFixed.put.psfltKeep

theorem Canon.porRelease {testen} (h : d.Canon) : (d.porRelease testen).Canon := .ite h.same.wdogStart.pseudoFrom.put.fuseCheck h

theorem Canon.graveWritten (h : d.Canon) : (d.graveWritten).Canon := by
  unfold Dev.graveWritten
  split
  · exact h
  · extract_lets _ _ _ _ _ _ d4 d5 _
    have h4 : d4.Canon := (Canon.ite h.same.setBytes.put.put h.same.setBytes.put).setMemLe.setMemLe
    have h5 : d5.Canon := .ite h4.raise h4
    split
    · exact h5.same.addDue
    · exact h5

theorem Canon.graveErase (h : d.Canon) : (d.graveErase).Canon := .ite h h.clearRange.setMemLe.put.put

theorem Canon.glogWrite {w} (h : d.Canon) : (d.glogWrite w).Canon := .ite h.store.graveErase h.store

theorem Canon.glogData {i master} (h : d.Canon) : (d.glogData i master).2.Canon := h.eccRead

theorem Canon.settleOne {x} (h : d.Canon) : (d.settleOne x).Canon := by
  unfold Dev.settleOne
  split
  · exact h.blockReset.clockSync
  · exact .ite h.chipReset h.same
  · exact h.pairFail.psmGrave
  · exact h.mgmtBegin

theorem Canon.settleN {n d} (h : d.Canon) : (settleN n d).Canon := by
  induction n generalizing d with
  | zero => exact h
  | succ n ih =>
    unfold Dev.settleN
    split
    · exact h
    · exact ih (Canon.settleOne h.same)

theorem Canon.pins (h : d.Canon) : (d.pins).Canon := h.same

theorem Canon.graveHold (h : d.Canon) : (d.graveHold).Canon := .ite h.pairFail h

theorem Canon.settle (h : d.Canon) : (d.settle).Canon := h.settleN.graveHold.pins

/-! ### Block -/

theorem Canon.cycleArm (h : d.Canon) : (d.cycleArm).Canon :=
  .ite (.ite h.armCycle (.ite h.put.armCycle h.put.startTimer)) (.ite h.armCycle h)

theorem Canon.syncTimeout (h : d.Canon) : (d.syncTimeout).Canon := .ite h.put.armCycle h

theorem Canon.phaseCheck {k t16} (h : d.Canon) : (d.phaseCheck k t16).Canon := .ite h.put.put.raise h.put.put

theorem Canon.convSeal (h : d.Canon) : (d.convSeal).Canon := h.forN (fun _ _ h1 => .ite h1.convBlock h1)

theorem Canon.senseSeal {sense} (h : d.Canon) : (d.senseSeal sense).Canon := h.foldl (fun _ h1 _ => .ite h1.same h1)

theorem Canon.seal {n sense} (h : d.Canon) : (d.seal n sense).Canon :=
  h.same.senseSeal.strFeed.asrcMirror.convSeal.sapSeal.flowSeal.strSeal.same.convTurnover

theorem Canon.realignFade (h : d.Canon) : (d.realignFade).Canon := .ite h.fadeAllBegin.same.psmStopAll.startTimer h

theorem Canon.resyncTurn {b} (h : d.Canon) : (d.resyncTurn b).Canon := .ite h.setPair.blockReset.blockReset.put h

theorem Canon.pcommitTurn {b} (h : d.Canon) : (d.pcommitTurn b).Canon :=
  .ite (.ite h (.ite h.pcommitApply.setPair.diverge h.pcommitApply.setPair)) h.pcommitBoundary

theorem Canon.xptTurn {b} (h : d.Canon) : (d.xptTurn b).Canon := by
  unfold Dev.xptTurn
  refine .ite ?_ h.xptBoundary
  extract_lets _ _
  split
  refine .ite h.xptWaiting ?_
  extract_lets d2
  have h2 : d2.Canon := h.xptWaiting.xptCommit.setPair
  exact .ite h2.put.diverge h2

theorem Canon.sendTurn {m} (h : d.Canon) : (d.sendTurn m).Canon := .ite h.flowTransmit.rtpTransmit.strRestart.pairBoundary h.strRestart

theorem Canon.swapMissed {b} (h : d.Canon) : (d.swapMissed b).Canon := .ite h.swapResult h

theorem Canon.cycleStart {sub} (h : d.Canon) : (d.cycleStart sub).Canon := by
  unfold Dev.cycleStart
  extract_lets _ _ d2 _ _ _ _ _ d5 d6 _ d7 _ _ _ _ _
  have h2 : d2.Canon := h.pcommitMiss.xptMiss.put.newPeriod.put.put
  have h5 : d5.Canon := h2.same.setPair.captureEvent.phaseCheck.avsRestart
  have h6 : d6.Canon := h5.fadeAllBegin
  have h7 : d7.Canon := .ite h6.same h5
  exact
    h7.same.swapMissed.swapBoundary.pcommitTurn.xptTurn.convFirst.sapFirst.psmBoundary.rsvApply.revert.pairSees.sendTurn.perfBoundary.loadLatch.perfEvent

theorem Canon.boundary {sub sense} (h : d.Canon) : (d.boundary sub sense).Canon := by
  unfold Dev.boundary
  refine .ite h ?_
  extract_lets _ _ _ _ _ _ _ _ _ _ _ _ d9
  have h9 : d9.Canon := (Canon.ite (Canon.ite h.pairFail h).newPeriod (.ite h.pairFail
    h)).put.same.captureEvent.seal.paceRate.phaseCheck.swapBoundary.realignFade.resyncTurn.pcommitTurn.xptTurn.psmAdoptAll.psmBoundary.rsvApply.revert.pairBoundaryRole.sendTurn.perfBoundary
  exact (Canon.ite h9.loadLatch h9).perfEvent

theorem Canon.passDone (h : d.Canon) : (d.passDone).Canon := .ite h.xptPass.xinReady.psmWake.restartDone h

theorem Canon.deadline (h : d.Canon) : (d.deadline).Canon := by
  unfold Dev.deadline
  refine .ite h ?_
  extract_lets _
  split
  rename_i hp
  have h1 := Canon.of_pair h.thkDeadline hp
  extract_lets _ _ d2 _ d3 _ d4 _ _ _
  have h2 : d2.Canon := by
    unfold d2
    split
    · exact h1.vcoreRequest
    · exact h1
  have h3 : d3.Canon := .ite h2.diverge h2
  have h4 : d4.Canon := .ite h3.setPair h3
  exact (Canon.ite h4.setPair h4).pairStaged

theorem Canon.realign (h : d.Canon) : (d.realign).Canon := .ite h.put.pseudoFrom.same.pairCycleStop.perfBoundary h

theorem Canon.realignStop (h : d.Canon) : (d.realignStop).Canon := .ite h.cycleStop h

theorem Canon.blkCtrlWrite {w} (h : d.Canon) : (d.blkCtrlWrite w).Canon := .ite h.store.realign h.store

theorem Canon.pseudoBlock (h : d.Canon) : (d.pseudoBlock).Canon := .ite h h.pseudoFrom.loadLatch

theorem Canon.alarmFire {a sub} (h : d.Canon) : (d.alarmFire a sub).Canon :=
  .ite h (.ite h.almFire (.ite h.almFire.almDisarm.cycleStart (h.almFire.almDisarm.forN (fun _ _ h1 => .ite h1.grpAlarm h1))))

/-! ### Test -/

theorem Canon.atbWrite {b w} (h : d.Canon) : (d.atbWrite b w).Canon := .ite h.store.put.put h.store

theorem Canon.tapReset (h : d.Canon) : (d.tapReset).Canon := h.same

theorem Canon.tapLoad {x} (h : d.Canon) : (d.tapLoad x).Canon := .ite h h.emit.same

theorem Canon.tapObserve {code dr dreg latch} (h : d.Canon) : (d.tapObserve code dr dreg latch).Canon := h.tapLoad

theorem Canon.tapIdcode (h : d.Canon) : (d.tapIdcode).Canon := h.tapObserve

theorem Canon.tapToBypass {code} (h : d.Canon) : (d.tapToBypass code).Canon := h.tapObserve

theorem Canon.tapBypass {code} (h : d.Canon) : (d.tapBypass code).Canon := .ite h h.tapToBypass

theorem Canon.bsrOut {pins} (h : d.Canon) : (d.bsrOut pins).Canon := .ite h h.emit

theorem Canon.tapSample {pins shifted} (h : d.Canon) : (d.tapSample pins shifted).Canon := h.tapObserve.bsrOut

theorem Canon.tapDrive {code dr dreg latch} (h : d.Canon) : (d.tapDrive code dr dreg latch).Canon :=
  .ite h (.ite h.tapLoad h.tapToBypass.put)

theorem Canon.tapExtest {code pins shifted} (h : d.Canon) : (d.tapExtest code pins shifted).Canon := .ite h.tapDrive.bsrOut h.tapDrive

theorem Canon.tapHold {code} (h : d.Canon) : (d.tapHold code).Canon := h.tapDrive

theorem Canon.ftmEnter (h : d.Canon) : (d.ftmEnter).Canon := .ite h.put.put.raise.pairNone h.put.put.raise.setOwnOut

theorem Canon.ftmKey {key} (h : d.Canon) : (d.ftmKey key).Canon := by
  unfold Dev.ftmKey
  extract_lets seq
  have hseq : ∀ k {d : Dev}, d.Canon → (seq k d).Canon := fun _ _ h => h.same
  refine .ite (hseq _ h.put) (.ite (hseq _ (.ite h.put h)) ?_)
  split
  · exact .ite (hseq _ h.ftmEnter) (hseq _ h.put)
  · exact h.put

theorem Canon.eccArise {a err} (h : d.Canon) : (d.eccArise a err).Canon := by
  unfold Dev.eccArise
  split
  · exact .ite h h.same
  · exact .ite h h.same
  · exact h

theorem Canon.scrub {a err} (h : d.Canon) : (d.scrub a err).Canon := by
  unfold Dev.scrub
  refine .ite h.eccArise (.ite h ?_)
  extract_lets _ d2 _ _ _ d3 _ _
  have h2 : d2.Canon := .ite h.eccArise.perfEvent h.eccArise
  have h3 : d3.Canon := .ite h2 h2.setPair
  exact .ite (Canon.ite h3 h3.setPair).raiseAt (.ite h3.same.corrected h3)

theorem Canon.injectEvent (h : d.Canon) : (d.injectEvent).Canon := .ite h h.same.startTimer.inject1

theorem Canon.injectNext (h : d.Canon) : (d.injectNext).Canon := .ite h.injectEvent h

theorem Canon.injWrite {w} (h : d.Canon) : (d.injWrite w).Canon := .ite h.put (.ite h.store h.store.same.injectEvent)

theorem Canon.sevWrite {k w} (h : d.Canon) : (d.sevWrite k w).Canon := h.forN (fun _ _ h1 => .ite h1.fltAck h1)

theorem Canon.srcCfgWrite {n w} (h : d.Canon) : (d.srcCfgWrite n w).Canon :=
  .ite (.ite h.store.same (.ite h.store.fltEscalate h.store)) h.store

theorem Canon.fltWrite {r i j w} (h : d.Canon) : (d.fltWrite r i j w).Canon :=
  .ite h.sevWrite (.ite h.glogWrite (.ite h.injWrite (.ite h.srcCfgWrite h.store)))

theorem Canon.escalationExpire {n} (h : d.Canon) : (d.escalationExpire n).Canon :=
  .ite (.ite h.fltEscalate h) (.ite h.same.fltEscalation h)

/-! ### Bus -/

theorem Canon.busErr {port a ty} (h : d.Canon) : (d.busErr port a ty).Canon := h.raiseAt

theorem Canon.busCount {port a} (h : d.Canon) : (d.busCount port a).Canon := h.perfEvent

theorem Canon.busCountBut {port a i} (h : d.Canon) : (d.busCountBut port a i).Canon := h.forN (fun _ _ h1 => .ite h1.cntAdd h1)

theorem Canon.wrapWins {o port a i} (h : d.Canon) : (d.wrapWins o port a i).Canon := .ite h.put h

theorem Canon.ssPageWrite {port w} (h : d.Canon) : (d.ssPageWrite port w).Canon := .ite h.same h.same

theorem Canon.swapCtrlWrite {w build} (h : d.Canon) : (d.swapCtrlWrite w build).Canon := by
  unfold Dev.swapCtrlWrite
  extract_lets _ d2
  have h2 : d2.Canon := .ite h.store.swapDisarm h.store
  refine .ite h2 ?_
  split
  · exact h2.swapArmMirrored
  · exact h2.swapArm

theorem Canon.stageWrite {w} (h : d.Canon) : (d.stageWrite w).Canon := by
  unfold Dev.stageWrite
  extract_lets _ d2
  have h2 : d2.Canon := .ite h.store.stageAbort h.store
  exact .ite h2.stageStart h2

theorem Canon.sysWrite {port r i j w build} (h : d.Canon) : (d.sysWrite port r i j w build).Canon := by
  unfold Dev.sysWrite
  refine .ite h.stageWrite ?_
  split
  · exact h.swapCtrlWrite
  · exact .ite (.ite h h.loadChunk) (.ite h.chunkWrite (.ite h.blkrstWrite (.ite h.ssPageWrite (.ite h.blkCtrlWrite h.store))))

theorem Canon.tbCtrlWrite {t w} (h : d.Canon) : (d.tbCtrlWrite t w).Canon := by
  unfold Dev.tbCtrlWrite
  extract_lets _ d2
  have h2 : d2.Canon := .ite h.store.servoTo h.store
  exact .ite h2.tbSet h2

theorem Canon.almCfgWrite {a w} (h : d.Canon) : (d.almCfgWrite a w).Canon := .ite h.store.almDisarm h.store

theorem Canon.almNsWrite {a w} (h : d.Canon) : (d.almNsWrite a w).Canon := .ite h.store.almArmFw h.store

theorem Canon.selCtrlWrite {w} (h : d.Canon) : (d.selCtrlWrite w).Canon := .ite h.store.setBo.selCommand h.store.setBo

theorem Canon.timeWrite {r i j w} (h : d.Canon) : (d.timeWrite r i j w).Canon := by
  unfold Dev.timeWrite
  refine .ite h ?_
  split
  · exact h.tbCtrlWrite
  · exact .ite h.rateLoWrite (.ite h.rateCommit (.ite h.offsetFw (.ite h.almCfgWrite (.ite h.almNsWrite (.ite h.selCtrlWrite h.store)))))

theorem Canon.mgmtCtrlWrite {w} (h : d.Canon) : (d.mgmtCtrlWrite w).Canon := .ite (Canon.ite h.emit h).addDue (.ite h.emit h)

theorem Canon.hportCtrlWrite {w} (h : d.Canon) : (d.hportCtrlWrite w).Canon := .ite h.store.hportCommit h.store

theorem Canon.mgmtWrite {port r i j w} (h : d.Canon) : (d.mgmtWrite port r i j w).Canon := by
  unfold Dev.mgmtWrite
  refine .ite h.mgmtCtrlWrite (.ite h.wdogWrite (.ite h.wdogKick (.ite h.vecRaise (.ite h.hportSelect ?_))))
  split
  · exact h.hportWrite
  · exact .ite h.hportCtrlWrite (.ite (.ite h.store h) (.ite h.ringCfgWrite (.ite h.ringWrWrite (.ite h.ringRdWrite h.store))))

theorem Canon.pairWrite {r i j w} (h : d.Canon) : (d.pairWrite r i j w).Canon := .ite h.pairCtrl (.ite h.store.pleachReady h.store)

theorem Canon.testWrite {r i j w} (h : d.Canon) : (d.testWrite r i j w).Canon := .ite h.atbWrite (.ite h.ftmKey h.store)

theorem Canon.regWrite {port r i j w build} (h : d.Canon) : (d.regWrite port r i j w build).Canon := by
  unfold Dev.regWrite
  split
  · exact h.sysWrite
  · exact h.pwrWrite
  · exact h.rcuWrite
  · exact h.alnWrite
  · exact h.timeWrite
  · exact h.hlkWrite
  · exact h.hfbWrite
  · exact h.ethWrite
  · exact h.sapWrite
  · exact h.xptWrite
  · exact h.thkWrite
  · exact h.psmWrite
  · exact h.pairWrite
  · exact h.fltWrite
  · exact h.perfWrite
  · exact h.mgmtWrite
  · exact h.testWrite
  · exact h.store

theorem Canon.mirrorReject {port r i j w} (h : d.Canon) : (d.mirrorReject port r i j w).Canon := .ite h.put (Canon.ite h.put h).regWrite

theorem Canon.commitMarks {r} (h : d.Canon) : (d.commitMarks r).Canon := .ite h (.ite (.ite h.emit h) (.ite (.ite h.emit h) h))

theorem Canon.mirrorOut {o r i j w} (h : d.Canon) : (d.mirrorOut o r i j w).Canon := .ite h.emit.commitMarks h

theorem Canon.regFront {port r i j w} (h : d.Canon) : (d.regFront port r i j w).Canon :=
  .ite h.regWrite (.ite h.mirrorReject h.regWrite.mirrorOut)

theorem Canon.ssWrite {port off w} (h : d.Canon) : (d.ssWrite port off w).Canon :=
  .ite h.perfEvent.put (.ite h.perfEvent.storeWrite.emit h.perfEvent.storeWrite)

theorem Canon.regAccess {o port a r i j w} (h : d.Canon) (ho : o.Canon) : (d.regAccess o port a r i j w).Canon :=
  .ite (.ite ho.busCountBut.regFront.put ho.busCountBut.regFront) (.ite h.regFront.wrapWins (.ite ho.regFront.busCount h.regFront))

theorem Canon.busWrite {port a w} (h : d.Canon) : (d.busWrite port a w).Canon := by
  unfold Dev.busWrite
  refine .ite h (.ite h.setMemW ?_)
  extract_lets _ _
  refine .ite h.busCount.busErr (.ite ?_ (.ite h.busCount.ssWrite (.ite h.busCount.sceneWrite h.busCount.busErr)))
  split
  · exact h.busCount.regAccess h
  · exact h.busCount.busErr

theorem Canon.regBeforeRead {r i} (h : d.Canon) : (d.regBeforeRead r i).Canon := by
  unfold Dev.regBeforeRead
  refine .ite h.tbRead ?_
  split
  · exact h.capRead
  · exact .ite h.txtsPop (.ite h.xptRead (.ite h.loopHvalid (.ite h.phaseRead (.ite h.senseVbus (.ite h.senseTj (.ite h.putTsz h))))))

theorem Canon.regRead {port r i j} (h : d.Canon) : (d.regRead port r i j).2.Canon := by
  unfold Dev.regRead
  refine .ite_snd h.pair (.ite_snd h.pair (.ite_snd h.glogData (.ite_snd h.hportRead ?_)))
  split
  · exact h.cntLoRead
  · exact .ite_snd h.pair (.ite_snd h.slotLoRead (.ite_snd h.pair ((Canon.ite h.regBeforeRead.wr h.regBeforeRead).pair)))

theorem Canon.ssRead {port off} (h : d.Canon) : (d.ssRead port off).2.Canon := h.perfEvent.eccRead

theorem Canon.busRead {port a} (h : d.Canon) : (d.busRead port a).2.Canon := by
  unfold Dev.busRead
  refine .ite_snd h.eccRead ?_
  extract_lets _ _
  split
  · exact h.busCount.busErr.pair
  · refine .ite_snd ?_ (.ite_snd h.busCount.ssRead (.ite_snd h.busCount.sceneRead h.busCount.busErr.pair))
    split
    · refine .ite_snd ?_ ((Canon.ite h.busCount.busErr h.busCount).regRead)
      split
      rename_i hp
      have h1 := Canon.of_pair h.regRead hp
      exact h1.busCount.pair
    · exact h.busCount.busErr.pair

theorem Canon.busLoad {port a} (h : d.Canon) : (d.busLoad port a).Canon := .ite h (Canon.bind h.busRead fun _ _ h1 => h1.emit)

theorem Canon.busLoadErr {port a err} (h : d.Canon) : (d.busLoadErr port a err).Canon := by
  unfold Dev.busLoadErr
  extract_lets d1
  have h1 : d1.Canon := by
    unfold d1
    split
    · exact h.eccArise
    · exact h
  exact h1.busLoad

theorem Canon.busOdd {port a narrow wr} (h : d.Canon) : (d.busOdd port a narrow wr).Canon := by
  unfold Dev.busOdd
  refine .ite (.ite h ?_) ?_
  · split
    · exact h.busCount.busErr
    · exact h.busCount.busErr.emit
  · split
    · exact h.busWrite
    · exact h.busLoad

theorem Canon.spiWrite {a ws} (h : d.Canon) : (d.spiWrite a ws).Canon := .ite h (h.pair.foldl_snd (fun _ h1 _ => h1.busWrite.pair))

theorem Canon.spiRead {a n} (h : d.Canon) : (d.spiRead a n).Canon := by
  induction n with
  | zero => exact h
  | succ n ih => exact .ite h ih.busLoad

theorem Canon.mirrorWrite {a w aux} (h : d.Canon) : (d.mirrorWrite a w aux).Canon := by
  unfold Dev.mirrorWrite
  refine .ite h.busCount.perfEvent.storeWrite ?_
  extract_lets _
  split
  · extract_lets d2
    have h2 : d2.Canon := .ite h.busCount.wr h.busCount
    exact .ite h2 (.ite (.ite h2.pairResyncMirrored h2) h2.regWrite)
  · exact h.busCount.busErr

theorem Canon.mirrorCommit {xpt b} (h : d.Canon) : (d.mirrorCommit xpt b).Canon := .ite h (.ite h.setPair h.setPair)

/-! ### Operands -/

theorem Canon.carrierTurn {g v} (h : d.Canon) : (d.carrierTurn g v).Canon := h.pairCarrier.dipOwn.carrierPeriod.pairSendVbus

theorem Canon.serialFrame {q bclk ofs ws} (h : d.Canon) : (d.serialFrame q bclk ofs ws).Canon :=
  (Canon.ite h.captureEvent (h.captureEvent.forN (fun _ _ h1 => .ite h1.pairFrame h1))).frameStart

theorem Canon.mirrorReceive {x} (h : d.Canon) : (d.mirrorReceive x).Canon := by
  unfold Dev.mirrorReceive
  extract_lets _ _
  refine .ite h.setPair ?_
  split
  · exact h.setPair.mirrorWrite
  · exact h.setPair.mirrorCommit

theorem Canon.wdogExpire (h : d.Canon) : (d.wdogExpire).Canon := .ite h (.ite h.put.raiseVec.raise h.put.raiseVec.raise.addDue)

theorem Canon.counterWrap {i} (h : d.Canon) : (d.counterWrap i).Canon := .ite h (.ite (.ite h.same.perfTicks h) h.cntAdd)

theorem Canon.finish {o} (h : d.Canon) : (d.finish o).Canon := h.clockSync.settle.pairSendPsm.electOnChange.pleachCont

theorem Canon.event {dt op} (h : d.Canon) (hop : ∀ d, d.Canon → (op d).Canon) : (d.event dt op).Canon :=
  .ite h.elapse ((hop _ h.elapse).finish)

theorem Canon.pinEvent {dt op} (h : d.Canon) (hop : ∀ d, d.Canon → (op d).Canon) : (d.pinEvent dt op).Canon := (hop _ h.elapse).settle

theorem Canon.access {op} (h : d.Canon) (hop : ∀ d, d.Canon → (op d).Canon) : (d.access op).Canon := .ite h ((hop _ h).finish)

theorem Canon.issued {op} (h : d.Canon) (hop : ∀ d, d.Canon → (op d).Canon) : (d.issued op).Canon := .ite h ((hop _ h).settle)


end Dev

/-! ### Every command -/

/-- Where the answer of a command is that of an action on the device, what the action keeps is kept. -/
theorem State.Canon.of_eq {r : Reply} {s t : State} {f : Dev → Dev} (hr : r = s.after f) (h : (f s.dev).Canon) :
    r = .next t → t.Canon := by
  subst hr
  intro hst
  cases hst
  exact h

theorem State.Canon.exec {c : Instr} {s t : State} (h : s.Canon) : exec c s = .next t → t.Canon := by
  have hd : s.dev.Canon := h
  cases c with
  | regWrite => exact .of_eq (exec_regWrite ..) (hd.access fun _ h => h.busWrite)
  | chunkWrite => exact .of_eq (exec_chunkWrite ..) (hd.access fun _ h => h.busWrite)
  | loadChunk => exact .of_eq (exec_loadChunk ..) (hd.access fun _ h => h.busWrite)
  | loadLastChunk => exact .of_eq (exec_loadLastChunk ..) (hd.access fun _ h => h.busWrite)
  | stageStart => exact .of_eq (exec_stageStart ..) (hd.access fun _ h => h.busWrite)
  | stageAbort => exact .of_eq (exec_stageAbort ..) (hd.access fun _ h => h.busWrite)
  | swapArm => exact .of_eq (exec_swapArm ..) (hd.access fun _ h => h.busWrite)
  | swapDisarm => exact .of_eq (exec_swapDisarm ..) (hd.access fun _ h => h.busWrite)
  | blockRealign => exact .of_eq (exec_blockRealign ..) (hd.access fun _ h => h.busWrite)
  | avsEnable => exact .of_eq (exec_avsEnable ..) (hd.access fun _ h => h.busWrite)
  | sharedStoreWrite => exact .of_eq (exec_sharedStoreWrite ..) (hd.access fun _ h => h.busWrite)
  | pcommitArm => exact .of_eq (exec_pcommitArm ..) (hd.access fun _ h => h.busWrite)
  | xptRouteCmd => exact .of_eq (exec_xptRouteCmd ..) (hd.access fun _ h => h.busWrite)
  | xptGainCmd => exact .of_eq (exec_xptGainCmd ..) (hd.access fun _ h => h.busWrite)
  | xptStagedWrite => exact .of_eq (exec_xptStagedWrite ..) (hd.access fun _ h => h.busWrite)
  | xptArm => exact .of_eq (exec_xptArm ..) (hd.access fun _ h => h.busWrite)
  | psmStart => exact .of_eq (exec_psmStart ..) (hd.access fun _ h => h.busWrite)
  | psmStop => exact .of_eq (exec_psmStop ..) (hd.access fun _ h => h.busWrite)
  | latchClear => exact .of_eq (exec_latchClear ..) (hd.access fun _ h => h.busWrite)
  | sapGroupStart => exact .of_eq (exec_sapGroupStart ..) (hd.access fun _ h => h.busWrite)
  | sapGroupStop => exact .of_eq (exec_sapGroupStop ..) (hd.access fun _ h => h.busWrite)
  | sapRestart => exact .of_eq (exec_sapRestart ..) (hd.access fun _ h => h.busWrite)
  | linkDisable => exact .of_eq (exec_linkDisable ..) (hd.access fun _ h => h.busWrite)
  | rsvWrite => exact .of_eq (exec_rsvWrite ..) (hd.access fun _ h => h.busWrite)
  | nodeIdWrite => exact .of_eq (exec_nodeIdWrite ..) (hd.access fun _ h => h.busWrite)
  | fwdWrite => exact .of_eq (exec_fwdWrite ..) (hd.access fun _ h => h.busWrite)
  | fwdRead => exact .of_eq (exec_fwdRead ..) (hd.access fun _ h => h.busWrite)
  | fwdInvalidate => exact .of_eq (exec_fwdInvalidate ..) (hd.access fun _ h => h.busWrite)
  | streamEnable => exact .of_eq (exec_streamEnable ..) (hd.access fun _ h => h.busWrite)
  | tbSet => exact .of_eq (exec_tbSet ..) (hd.access fun _ h => h.busWrite)
  | rateCommit => exact .of_eq (exec_rateCommit ..) (hd.access fun _ h => h.busWrite)
  | offsetSubmit => exact .of_eq (exec_offsetSubmit ..) (hd.access fun _ h => h.busWrite)
  | servoFree => exact .of_eq (exec_servoFree ..) (hd.access fun _ h => h.busWrite)
  | selectorSwitch => exact .of_eq (exec_selectorSwitch ..) (hd.access fun _ h => h.busWrite)
  | alarmArm => exact .of_eq (exec_alarmArm ..) (hd.access fun _ h => h.busWrite)
  | alarmDisarm => exact .of_eq (exec_alarmDisarm ..) (hd.access fun _ h => h.busWrite)
  | loopRankWrite => exact .of_eq (exec_loopRankWrite ..) (hd.access fun _ h => h.busWrite)
  | retune => exact .of_eq (exec_retune ..) (hd.access fun _ h => h.busWrite)
  | qsHop => exact .of_eq (exec_qsHop ..) (hd.access fun _ h => h.busWrite)
  | ditherSeedWrite => exact .of_eq (exec_ditherSeedWrite ..) (hd.access fun _ h => h.busWrite)
  | dllRealign => exact .of_eq (exec_dllRealign ..) (hd.access fun _ h => h.busWrite)
  | outOfsWrite => exact .of_eq (exec_outOfsWrite ..) (hd.access fun _ h => h.busWrite)
  | yield => exact .of_eq (exec_yield ..) (hd.access fun _ h => h.busWrite)
  | resync => exact .of_eq (exec_resync ..) (hd.access fun _ h => h.busWrite)
  | pairClear => exact .of_eq (exec_pairClear ..) (hd.access fun _ h => h.busWrite)
  | pairFail => exact .of_eq (exec_pairFail ..) (hd.access fun _ h => h.busWrite)
  | handover => exact .of_eq (exec_handover ..) (hd.access fun _ h => h.busWrite)
  | faultAck => exact .of_eq (exec_faultAck ..) (hd.access fun _ h => h.busWrite)
  | errhClear => exact .of_eq (exec_errhClear ..) (hd.access fun _ h => h.busWrite)
  | faultInject => exact .of_eq (exec_faultInject ..) (hd.access fun _ h => h.busWrite)
  | glogErase => exact .of_eq (exec_glogErase ..) (hd.access fun _ h => h.busWrite)
  | cntHiWrite => exact .of_eq (exec_cntHiWrite ..) (hd.access fun _ h => h.busWrite)
  | cntLoWrite => exact .of_eq (exec_cntLoWrite ..) (hd.access fun _ h => h.busWrite)
  | slotClear => exact .of_eq (exec_slotClear ..) (hd.access fun _ h => h.busWrite)
  | vcoreSetWrite => exact .of_eq (exec_vcoreSetWrite ..) (hd.access fun _ h => h.busWrite)
  | wdogKick => exact .of_eq (exec_wdogKick ..) (hd.access fun _ h => h.busWrite)
  | mgmtReset => exact .of_eq (exec_mgmtReset ..) (hd.access fun _ h => h.busWrite)
  | doorbell => exact .of_eq (exec_doorbell ..) (hd.access fun _ h => h.busWrite)
  | vectorRaise => exact .of_eq (exec_vectorRaise ..) (hd.access fun _ h => h.busWrite)
  | ringEnable => exact .of_eq (exec_ringEnable ..) (hd.access fun _ h => h.busWrite)
  | ringWrWrite => exact .of_eq (exec_ringWrWrite ..) (hd.access fun _ h => h.busWrite)
  | ringRdWrite => exact .of_eq (exec_ringRdWrite ..) (hd.access fun _ h => h.busWrite)
  | hportSelect => exact .of_eq (exec_hportSelect ..) (hd.access fun _ h => h.busWrite)
  | hportWrite => exact .of_eq (exec_hportWrite ..) (hd.access fun _ h => h.busWrite)
  | hportCommit => exact .of_eq (exec_hportCommit ..) (hd.access fun _ h => h.busWrite)
  | sceneWrite => exact .of_eq (exec_sceneWrite ..) (hd.access fun _ h => h.busWrite)
  | blockResetCmd => exact .of_eq (exec_blockResetCmd ..) (hd.access fun _ h => h.busWrite)
  | ftmKey => exact .of_eq (exec_ftmKey ..) (hd.access fun _ h => h.busWrite)
  | atbSelect => exact .of_eq (exec_atbSelect ..) (hd.access fun _ h => h.busWrite)
  | atbForce => exact .of_eq (exec_atbForce ..) (hd.access fun _ h => h.busWrite)
  | undecodedAccess => exact .of_eq (exec_undecodedAccess ..) (hd.access fun _ h => h.busOdd)
  | powerUp => exact .of_eq (exec_powerUp ..) (hd.pinEvent fun _ h => h.powerUp)
  | porRelease => exact .of_eq (exec_porRelease ..) (hd.pinEvent fun _ h => h.porRelease)
  | por => exact .of_eq (exec_por ..) (hd.pinEvent fun _ h => h.porAssert)
  | chipReset => exact .of_eq (exec_chipReset ..) (hd.pinEvent fun _ h => h.resetPin)
  | bootStart => exact .of_eq (exec_bootStart ..) (hd.pinEvent fun _ h => h.bootStart)
  | flashDirectoryRead => exact .of_eq (exec_flashDirectoryRead ..) (hd.event fun _ h => h.directoryRead)
  | imageDataArrive => exact .of_eq (exec_imageDataArrive ..) (hd.event fun _ h => h.imageData)
  | signatureVerified => exact .of_eq (exec_signatureVerified ..) (hd.event fun _ h => h.signatureVerified)
  | sectionsApplied => exact .of_eq (exec_sectionsApplied ..) (hd.event fun _ h => h.sectionsApplied)
  | flashReadError => exact .of_eq (exec_flashReadError ..) (hd.event fun _ h => h.flashError)
  | hostLoadTimeout => exact .of_eq (exec_hostLoadTimeout ..) (hd.event fun _ h => h.hostTimeout)
  | chunkTaken => exact .of_eq (exec_chunkTaken ..) (hd.event fun _ h => h.chunkTaken)
  | stagingComplete => exact .of_eq (exec_stagingComplete ..) (hd.event fun _ h => h.stagingComplete)
  | restartSilent => exact .of_eq (exec_restartSilent ..) (hd.event fun _ h => h.restartSilent)
  | blockCycleArm => exact .of_eq (exec_blockCycleArm ..) (hd.event fun _ h => h.cycleArm)
  | syncTimeout => exact .of_eq (exec_syncTimeout ..) (hd.event fun _ h => h.syncTimeout)
  | blockBoundary => exact .of_eq (exec_blockBoundary ..) (hd.event fun _ h => h.boundary)
  | realignStop => exact .of_eq (exec_realignStop ..) (hd.event fun _ h => h.realignStop)
  | sealComplete => exact .of_eq (exec_sealComplete ..) (hd.event fun _ h => h.sealComplete)
  | xptPassDone => exact .of_eq (exec_xptPassDone ..) (hd.event fun _ h => h.passDone)
  | deadline => exact .of_eq (exec_deadline ..) (hd.event fun _ h => h.deadline)
  | sprigTakeJob => exact .of_eq (exec_sprigTakeJob ..) (hd.event fun _ h => h.takeJob)
  | stealRetry => exact .of_eq (exec_stealRetry ..) (hd.event fun _ h => h.stealRetry)
  | jobComplete => exact .of_eq (exec_jobComplete ..) (hd.event fun _ h => h.jobComplete)
  | loopIterate => exact .of_eq (exec_loopIterate ..) (hd.issued fun _ h => h.loopIterate)
  | add => exact .of_eq (exec_add ..) (hd.issued fun _ h => h.spAlu)
  | sub => exact .of_eq (exec_sub ..) (hd.issued fun _ h => h.spAlu)
  | and => exact .of_eq (exec_and ..) (hd.issued fun _ h => h.spAlu)
  | or => exact .of_eq (exec_or ..) (hd.issued fun _ h => h.spAlu)
  | xor => exact .of_eq (exec_xor ..) (hd.issued fun _ h => h.spAlu)
  | sll => exact .of_eq (exec_sll ..) (hd.issued fun _ h => h.spAlu)
  | srl => exact .of_eq (exec_srl ..) (hd.issued fun _ h => h.spAlu)
  | sra => exact .of_eq (exec_sra ..) (hd.issued fun _ h => h.spAlu)
  | mul => exact .of_eq (exec_mul ..) (hd.issued fun _ h => h.spAlu)
  | addi => exact .of_eq (exec_addi ..) (hd.issued fun _ h => h.spAddi)
  | lui => exact .of_eq (exec_lui ..) (hd.issued fun _ h => h.spLui)
  | beq => exact .of_eq (exec_beq ..) (hd.issued fun _ h => h.spBranch)
  | bne => exact .of_eq (exec_bne ..) (hd.issued fun _ h => h.spBranch)
  | blt => exact .of_eq (exec_blt ..) (hd.issued fun _ h => h.spBranch)
  | bge => exact .of_eq (exec_bge ..) (hd.issued fun _ h => h.spBranch)
  | jal => exact .of_eq (exec_jal ..) (hd.issued fun _ h => h.spJal)
  | jr => exact .of_eq (exec_jr ..) (hd.issued fun _ h => h.spJr)
  | loop => exact .of_eq (exec_loop ..) (hd.issued fun _ h => h.spLoop)
  | ldw => exact .of_eq (exec_ldw ..) (hd.issued fun _ h => h.spLdw)
  | stw => exact .of_eq (exec_stw ..) (hd.issued fun _ h => h.spStw)
  | vld => exact .of_eq (exec_vld ..) (hd.issued fun _ h => h.spVld)
  | vst => exact .of_eq (exec_vst ..) (hd.issued fun _ h => h.spVst)
  | vldc => exact .of_eq (exec_vldc ..) (hd.issued fun _ h => h.spVldc)
  | vstc => exact .of_eq (exec_vstc ..) (hd.issued fun _ h => h.spVstc)
  | vlds => exact .of_eq (exec_vlds ..) (hd.issued fun _ h => h.spVlds)
  | vadd => exact .of_eq (exec_vadd ..) (hd.issued fun _ h => h.spLanes)
  | vmul => exact .of_eq (exec_vmul ..) (hd.issued fun _ h => h.spLanes)
  | vmin => exact .of_eq (exec_vmin ..) (hd.issued fun _ h => h.spLanes)
  | vmax => exact .of_eq (exec_vmax ..) (hd.issued fun _ h => h.spLanes)
  | vdiv => exact .of_eq (exec_vdiv ..) (hd.issued fun _ h => h.spLanes)
  | vmac => exact .of_eq (exec_vmac ..) (hd.issued fun _ h => h.spMac)
  | vmacs => exact .of_eq (exec_vmacs ..) (hd.issued fun _ h => h.spMac)
  | vabs => exact .of_eq (exec_vabs ..) (hd.issued fun _ h => h.spVabs)
  | vshf => exact .of_eq (exec_vshf ..) (hd.issued fun _ h => h.spVshf)
  | vcvt => exact .of_eq (exec_vcvt ..) (hd.issued fun _ h => h.spVcvt)
  | vins => exact .of_eq (exec_vins ..) (hd.issued fun _ h => h.spVins)
  | vext => exact .of_eq (exec_vext ..) (hd.issued fun _ h => h.spVext)
  | accz => exact .of_eq (exec_accz ..) (hd.issued fun _ h => h.spAccz)
  | accrd => exact .of_eq (exec_accrd ..) (hd.issued fun _ h => h.spAccrd)
  | accred => exact .of_eq (exec_accred ..) (hd.issued fun _ h => h.spAccred)
  | setca => exact .of_eq (exec_setca ..) (hd.issued fun _ h => h.spSetca)
  | caoff => exact .of_eq (exec_caoff ..) (hd.issued fun _ h => h.spCaoff)
  | caoffW => exact .of_eq (exec_caoffW ..) (hd.issued fun _ h => h.spCaoffW)
  | rdpace => exact .of_eq (exec_rdpace ..) (hd.issued fun _ h => h.spRdpace)
  | csrr => exact .of_eq (exec_csrr ..) (hd.issued fun _ h => h.spCsrr)
  | csrw => exact .of_eq (exec_csrw ..) (hd.issued fun _ h => h.spCsrw)
  | fence => exact .of_eq (exec_fence ..) (hd.issued fun _ h => h.spFence)
  | brk => exact .of_eq (exec_brk ..) (hd.issued fun _ h => h.spBrk)
  | endJob => exact .of_eq (exec_endJob ..) (hd.issued fun _ h => h.spEnd)
  | fadeComplete => exact .of_eq (exec_fadeComplete ..) (hd.event fun _ h => h.fadeComplete)
  | zcTimeout => exact .of_eq (exec_zcTimeout ..) (hd.event fun _ h => h.zcTimeout)
  | silenceEnter => exact .of_eq (exec_silenceEnter ..) (hd.event fun _ h => h.silEnter)
  | asrcStart => exact .of_eq (exec_asrcStart ..) (hd.event fun _ h => h.convStart)
  | asrcLock => exact .of_eq (exec_asrcLock ..) (hd.event fun _ h => h.convLock)
  | asrcSlip => exact .of_eq (exec_asrcSlip ..) (hd.event fun _ h => h.convSlip)
  | asrcRangeClear => exact .of_eq (exec_asrcRangeClear ..) (hd.event fun _ h => h.convRangeClear)
  | asrcIdle => exact .of_eq (exec_asrcIdle ..) (hd.event fun _ h => h.convIdle)
  | carrierPeriod => exact .of_eq (exec_carrierPeriod ..) (hd.event fun _ h => h.carrierTurn)
  | deepSleep => exact .of_eq (exec_deepSleep ..) (hd.event fun _ h => h.deepSleep)
  | legtestDone => exact .of_eq (exec_legtestDone ..) (hd.event fun _ h => h.legtestDone)
  | enableTimeDone => exact .of_eq (exec_enableTimeDone ..) (hd.event fun _ h => h.enableDone)
  | loadtestDone => exact .of_eq (exec_loadtestDone ..) (hd.event fun _ h => h.loadtestDone)
  | stopRampDone => exact .of_eq (exec_stopRampDone ..) (hd.event fun _ h => h.stopDone)
  | psfltAssert => exact .of_eq (exec_psfltAssert ..) (hd.event fun _ h => h.psfltAssert)
  | ilimTrip => exact .of_eq (exec_ilimTrip ..) (hd.event fun _ h => h.ilimTrip)
  | frameStart => exact .of_eq (exec_frameStart ..) (hd.event fun _ h => h.serialFrame)
  | rateGateEnd => exact .of_eq (exec_rateGateEnd ..) (hd.event fun _ h => h.gateDone)
  | clockStop => exact .of_eq (exec_clockStop ..) (hd.event fun _ h => h.clockStop)
  | linkBlockReceive => exact .of_eq (exec_linkBlockReceive ..) (hd.event (fun _ h => h.withPart fun _ h => h.linkBlock))
  | creditReturn => exact .of_eq (exec_creditReturn ..) (hd.event fun _ h => h.creditBlock)
  | cellTransmit => exact .of_eq (exec_cellTransmit ..) (hd.event fun _ h => h.cellTransmit)
  | blockLock => exact .of_eq (exec_blockLock ..) (hd.event fun _ h => h.blockLock)
  | lossOfSignal => exact .of_eq (exec_lossOfSignal ..) (hd.event (fun _ h => h.withPart fun _ h => h.linkDown))
  | headerErrorLimit => exact .of_eq (exec_headerErrorLimit ..) (hd.event (fun _ h => h.withPart fun _ h => h.linkDown))
  | creditTimeout => exact .of_eq (exec_creditTimeout ..) (hd.event (fun _ h => h.withPart fun _ h => h.creditTimeout))
  | linkRetrain => exact .of_eq (exec_linkRetrain ..) (hd.access (fun _ h => h.withPart fun _ h => h.busWrite))
  | dreqSend => exact .of_eq (exec_dreqSend ..) (hd.event fun _ h => h.dreqSend)
  | dreqReceive => exact .of_eq (exec_dreqReceive ..) (hd.event fun _ h => h.dreqReceive)
  | drspReceive => exact .of_eq (exec_drspReceive ..) (hd.event fun _ h => h.drspReceive)
  | syncSend => exact .of_eq (exec_syncSend ..) (hd.event fun _ h => h.syncSend)
  | syncReceive => exact .of_eq (exec_syncReceive ..) (hd.event fun _ h => h.syncReceive)
  | isoCellReceive => exact .of_eq (exec_isoCellReceive ..) (hd.event fun _ h => h.cellReceive)
  | ringCellReceive => exact .of_eq (exec_ringCellReceive ..) (hd.event fun _ h => h.cellReceive)
  | transitCellReceive => exact .of_eq (exec_transitCellReceive ..) (hd.event fun _ h => h.cellReceive)
  | helloSend => exact .of_eq (exec_helloSend ..) (hd.event fun _ h => h.helloSend)
  | helloReceive => exact .of_eq (exec_helloReceive ..) (hd.event fun _ h => h.helloReceive)
  | adjDeadTimeout => exact .of_eq (exec_adjDeadTimeout ..) (hd.event fun _ h => h.adjDead)
  | topoOriginate => exact .of_eq (exec_topoOriginate ..) (hd.event fun _ h => h.topoOriginate)
  | topoReceive => exact .of_eq (exec_topoReceive ..) (hd.event fun _ h => h.topoReceive)
  | electReceive => exact .of_eq (exec_electReceive ..) (hd.event fun _ h => h.electReceive)
  | frameReceive => exact .of_eq (exec_frameReceive ..) (hd.event fun _ h => h.ethReceive)
  | rtpReceive => exact .of_eq (exec_rtpReceive ..) (hd.event fun _ h => h.ethReceive)
  | frameTransmit => exact .of_eq (exec_frameTransmit ..) (hd.event fun _ h => h.frameTransmit)
  | txtsPop => exact .of_eq (exec_txtsPop ..) (hd.access fun _ h => h.busLoad)
  | tbRead => exact .of_eq (exec_tbRead ..) (hd.access fun _ h => h.busLoad)
  | captureRead => exact .of_eq (exec_captureRead ..) (hd.access fun _ h => h.busLoad)
  | cntLoRead => exact .of_eq (exec_cntLoRead ..) (hd.access fun _ h => h.busLoad)
  | slotLoRead => exact .of_eq (exec_slotLoRead ..) (hd.access fun _ h => h.busLoad)
  | hportRead => exact .of_eq (exec_hportRead ..) (hd.access fun _ h => h.busLoad)
  | ethLinkLoss => exact .of_eq (exec_ethLinkLoss ..) (hd.event fun _ h => h.ethLinkLoss)
  | servoHoldTimeout => exact .of_eq (exec_servoHoldTimeout ..) (hd.event fun _ h => h.holdTimeout)
  | selectorTick => exact .of_eq (exec_selectorTick ..) (hd.event fun _ h => h.selTick)
  | selectorRevert => exact .of_eq (exec_selectorRevert ..) (hd.event fun _ h => h.selRevert)
  | alarmFire => exact .of_eq (exec_alarmFire ..) (hd.event fun _ h => h.alarmFire)
  | captureEvent => exact .of_eq (exec_captureEvent ..) (hd.event fun _ h => h.pinEdge)
  | candGlitch => exact .of_eq (exec_candGlitch ..) (hd.event fun _ h => h.candGlitch)
  | candActivityTimeout => exact .of_eq (exec_candActivityTimeout ..) (hd.event fun _ h => h.candSilence)
  | qualGateEnd => exact .of_eq (exec_qualGateEnd ..) (hd.event fun _ h => h.gateEnd)
  | holdoffExpire => exact .of_eq (exec_holdoffExpire ..) (hd.event fun _ h => h.holdoffEnd)
  | bandTrialDone => exact .of_eq (exec_bandTrialDone ..) (hd.event fun _ h => h.bandTrial)
  | comparisonEdge => exact .of_eq (exec_comparisonEdge ..) (hd.event fun _ h => h.compEdge)
  | narrowStep => exact .of_eq (exec_narrowStep ..) (hd.event fun _ h => h.narrowStep)
  | pullComplete => exact .of_eq (exec_pullComplete ..) (hd.event fun _ h => h.pullDone)
  | dllLock => exact .of_eq (exec_dllLock ..) (hd.event fun _ h => h.dllLock)
  | dllAnchor => exact .of_eq (exec_dllAnchor ..) (hd.event fun _ h => h.dllAnchor)
  | dllUnlock => exact .of_eq (exec_dllUnlock ..) (hd.event fun _ h => h.dllUnlock)
  | heartbeatReceive => exact .of_eq (exec_heartbeatReceive ..) (hd.event fun _ h => h.heartbeatReceive)
  | pairEvaluate => exact .of_eq (exec_pairEvaluate ..) (hd.event fun _ h => h.pairEvaluate)
  | liveEdge => exact .of_eq (exec_liveEdge ..) (hd.pinEvent fun _ h => h.liveEdge)
  | ownInChange => exact .of_eq (exec_ownInChange ..) (hd.pinEvent fun _ h => h.ownInChange)
  | pairVbusReceive => exact .of_eq (exec_pairVbusReceive ..) (hd.event fun _ h => h.pairVbus)
  | pairAsrcReceive => exact .of_eq (exec_pairAsrcReceive ..) (hd.event fun _ h => h.pairAsrc)
  | mirrorReceive => exact .of_eq (exec_mirrorReceive ..) (hd.event fun _ h => h.mirrorReceive)
  | pairPsmReceive => exact .of_eq (exec_pairPsmReceive ..) (hd.event fun _ h => h.pairPsm)
  | healthReceive => exact .of_eq (exec_healthReceive ..) (hd.event fun _ h => h.healthReceive)
  | pairLinkDown => exact .of_eq (exec_pairLinkDown ..) (hd.event fun _ h => h.pairLinkDown)
  | boundaryMissed => exact .of_eq (exec_boundaryMissed ..) (hd.event fun _ h => h.boundaryMissed)
  | healthRecord => exact .of_eq (exec_healthRecord ..) (hd.event fun _ h => h.healthRecord)
  | scrub => exact .of_eq (exec_scrub ..) (hd.event fun _ h => h.scrub)
  | graveLogWritten => exact .of_eq (exec_graveLogWritten ..) (hd.event fun _ h => h.graveWritten)
  | escalationExpire => exact .of_eq (exec_escalationExpire ..) (hd.event fun _ h => h.escalationExpire)
  | faultWindowExpire => exact .of_eq (exec_faultWindowExpire ..) (hd.event fun _ h => h.fltWindowExpire)
  | shadowClose => exact .of_eq (exec_shadowClose ..) (hd.event fun _ h => h.shadowClose)
  | injectNext => exact .of_eq (exec_injectNext ..) (hd.event fun _ h => h.injectNext)
  | pseudoBlock => exact .of_eq (exec_pseudoBlock ..) (hd.event fun _ h => h.pseudoBlock)
  | counterWrap => exact .of_eq (exec_counterWrap ..) (hd.event fun _ h => h.counterWrap)
  | sampleRecord => exact .of_eq (exec_sampleRecord ..) (hd.event fun _ h => h.sampleRecord)
  | vbusWarn => exact .of_eq (exec_vbusWarn ..) (hd.event fun _ h => h.vbusWarn)
  | vbusRecover => exact .of_eq (exec_vbusRecover ..) (hd.event fun _ h => h.vbusRecover)
  | supervisorTrip => exact .of_eq (exec_supervisorTrip ..) (hd.event fun _ h => h.supervisorTrip)
  | vcoreSetStep => exact .of_eq (exec_vcoreSetStep ..) (hd.event fun _ h => h.vcoreStep)
  | wdogExpire => exact .of_eq (exec_wdogExpire ..) (hd.event fun _ h => h.wdogExpire)
  | mgmtResetDone => exact .of_eq (exec_mgmtResetDone ..) (hd.event fun _ h => h.mgmtResetDone)
  | sceneWordDone => exact .of_eq (exec_sceneWordDone ..) (hd.event fun _ h => h.sceneWordDone)
  | spiWrite => exact .of_eq (exec_spiWrite ..) (hd.access fun _ h => h.spiWrite)
  | spiRead => exact .of_eq (exec_spiRead ..) (hd.access fun _ h => h.spiRead)
  | blockResetEnd => exact .of_eq (exec_blockResetEnd ..) (hd.event fun _ h => h.blockResetEnd)
  | regRead => exact .of_eq (exec_regRead ..) (hd.access fun _ h => h.busLoadErr)
  | ethLinkUp => exact .of_eq (exec_ethLinkUp ..) (hd.event fun _ h => h.ethLinkUp)
  | unassignedOpcode => exact .of_eq (exec_unassignedOpcode ..) (hd.issued fun _ h => h.spUnassigned)
  | tapReset => exact .of_eq (exec_tapReset ..) (hd.pinEvent fun _ h => h.tapReset)
  | extest => exact .of_eq (exec_extest ..) (hd.pinEvent fun _ h => h.tapExtest)
  | extestPulse => exact .of_eq (exec_extestPulse ..) (hd.pinEvent fun _ h => h.tapExtest)
  | extestTrain => exact .of_eq (exec_extestTrain ..) (hd.pinEvent fun _ h => h.tapExtest)
  | idcode => exact .of_eq (exec_idcode ..) (hd.pinEvent fun _ h => h.tapIdcode)
  | samplePreload => exact .of_eq (exec_samplePreload ..) (hd.pinEvent fun _ h => h.tapSample)
  | highz => exact .of_eq (exec_highz ..) (hd.pinEvent fun _ h => h.tapHold)
  | clamp => exact .of_eq (exec_clamp ..) (hd.pinEvent fun _ h => h.tapHold)
  | bypass => exact .of_eq (exec_bypass ..) (hd.pinEvent fun _ h => h.tapBypass)
  | railTimeout => exact .of_eq (exec_railTimeout ..) (hd.pinEvent fun _ h => h.railTimeout)
  | powerUpRetry => exact .of_eq (exec_powerUpRetry ..) (hd.pinEvent fun _ h => h.powerUpRetry)
  | bandSearchRetry => exact .of_eq (exec_bandSearchRetry ..) (hd.event fun _ h => h.searchRetry)
  | hopSettled => exact .of_eq (exec_hopSettled ..) (hd.event fun _ h => h.hopSettled)
  | hopCheckDone => exact .of_eq (exec_hopCheckDone ..) (hd.event fun _ h => h.hopCheckDone)
  | polarityInvert => exact .of_eq (exec_polarityInvert ..) (hd.event fun _ h => h.polarityInvert)
  | initTimeout => exact .of_eq (exec_initTimeout ..) (hd.event fun _ h => h.initTimeout)
  | downTimeout => exact .of_eq (exec_downTimeout ..) (hd.event fun _ h => h.downTimeout)
  | drspTimeout => exact .of_eq (exec_drspTimeout ..) (hd.event fun _ h => h.drspTimeout)
  | floodKeyExpire => exact .of_eq (exec_floodKeyExpire ..) (hd.event fun _ h => h.floodExpire)
  | topoExpire => exact .of_eq (exec_topoExpire ..) (hd.event fun _ h => h.topoExpire)
  | electWaitDone => exact .of_eq (exec_electWaitDone ..) (hd.event fun _ h => h.electWaitDone)
  | claimSend => exact .of_eq (exec_claimSend ..) (hd.event fun _ h => h.claimSend)
  | claimWindowEnd => exact .of_eq (exec_claimWindowEnd ..) (hd.event fun _ h => h.claimWindowEnd)
  | dipRestoreDone => exact .of_eq (exec_dipRestoreDone ..) (hd.event fun _ h => h.dipRestoreDone)
  | supervisorClear => exact .of_eq (exec_supervisorClear ..) (hd.event fun _ h => h.supervisorClear)
  | pcieReset => exact .of_eq (exec_pcieReset ..) (hd.event fun _ h => h.pcieReset)
  | pcieLinkDown => exact .of_eq (exec_pcieLinkDown ..) (hd.event fun _ h => h.pcieLinkDown)
  | pcieError => exact .of_eq (exec_pcieError ..) (hd.event fun _ h => h.pcieError)
  | perstNChange => exact .of_eq (exec_perstNChange ..) (hd.pinEvent fun _ h => h.perstChange)
  | msixUnmask => exact .of_eq (exec_msixUnmask ..) (hd.event fun _ h => h.msixAccess)
  | pleachKernel => exact .of_eq (exec_pleachKernel ..) (hd.event fun _ h => h.pleachKernel)
  | startupBackoffExpire => exact .of_eq (exec_startupBackoffExpire ..) (hd.event fun _ h => h.backoffExpire)
  | loadtestAbort => exact .of_eq (exec_loadtestAbort ..) (hd.event fun _ h => h.loadtestAbort)

/-- Settles O8: every command is one action on the device, and every function of the device keeps the canonical form. -/
theorem everyStepKeepsCanonicalForm : Obligations.EveryStepKeepsCanonicalForm := by
  unfold Obligations.EveryStepKeepsCanonicalForm
  intro s t h hst
  unfold step at hst
  split at hst
  · exact State.Canon.of_eq (f := fun d => d.elapse 1) rfl (Dev.Canon.elapse h) hst
  next c rest hq => exact State.Canon.exec (s := { s with pending := rest }) h hst

end Sys2Proof.Machine
end

section
/-! The time bases and their servos (R244 to R251). -/

namespace Sys2Proof.Machine

/-! ### A read of a register that nothing but its fields answers -/

/-- Is a register read by its fields alone? -/
def Reg.readsPlain (r : Reg) : Bool :=
  r != SYS_SS_PAGE && r != FLT_GLOG_DATA && r != MGMT_HPORT_DATA && r != PERF_CNT_LO && r != PERF_CNT_HI && r != PERF_SLOT_LO &&
    r != PERF_SLOT_HI && !r.flds.any (fun f => f.ty == .rc)

theorem Dev.regRead_plain {d e : Dev} {r : Reg} {port i j : Nat} (hp : r.readsPlain = true) (h : d.inReset r.blk = false)
    (he : d.regBeforeRead r i = e) : d.regRead port r i j = (regLoad (e.imgSet r i) r.flds (e.rd r i j), e) := by
  simp only [Reg.readsPlain, Bool.and_eq_true, bne_iff_ne, ne_eq, Bool.not_eq_true'] at hp
  obtain ⟨⟨⟨⟨⟨⟨⟨h1, h2⟩, h3⟩, h4⟩, h5⟩, h6⟩, h7⟩, h8⟩ := hp
  simp only [Dev.regRead, h, Bool.and_false, Bool.false_eq_true, if_false, beq_iff_eq, h1, h2, h3, h4, h5, h6, h7, h8, he]

@[simp] theorem Dev.sections_put (d : Dev) (f : FRef) (v i j : Nat) : (d.put f v i j).sections = d.sections := (rfl)

theorem Dev.imgSet_congr {d e : Dev} (ha : e.imageApplied = d.imageApplied) (hs : e.sections = d.sections) (r : Reg) (k : Nat) :
    e.imgSet r k = d.imgSet r k := by
  rw [Dev.imgSet, ha, hs, Dev.imgSet]

@[simp] theorem Dev.imgSet_put (d : Dev) (f : FRef) (v i j : Nat) (r : Reg) (k : Nat) : (d.put f v i j).imgSet r k = d.imgSet r k :=
  Dev.imgSet_congr (d.put_imageApplied f v i j) (d.sections_put f v i j) r k

/-! ### What a write of the registers of a time base does -/

theorem Dev.regWrite_tbCtrl (d : Dev) (port i : Nat) (w : Word) : d.regWrite port TIME_TB_CTRL i 0 w none = d.tbCtrlWrite i w := rfl
theorem Dev.regWrite_tbRateHi (d : Dev) (port i : Nat) (w : Word) :
    d.regWrite port TIME_TB_RATE_HI i 0 w none = d.rateCommit i w.toNat := rfl
theorem Dev.regWrite_ofsVal (d : Dev) (port i : Nat) (w : Word) : d.regWrite port TIME_OFS_VAL i 0 w none = d.offsetFw i w.toInt := rfl

section

variable (d : Dev) (t : Fin 4)

theorem Dev.tbCtrlWrite_set {w : Word} (h1 : fget w 1 1 = 0) (h0 : fget w 0 0 = 1) :
    d.tbCtrlWrite t w = (d.store TIME_TB_CTRL w t).tbSet t := by
  simp [Dev.tbCtrlWrite, h1, h0]

theorem Dev.tbCtrlWrite_free {w : Word} (h1 : fget w 1 1 = 1) (h0 : fget w 0 0 = 0) :
    d.tbCtrlWrite t w = (d.store TIME_TB_CTRL w t).servoTo t 0 := by
  simp [Dev.tbCtrlWrite, h1, h0]

/-- SET with fewer than 10^9 ns, up to the servo's return to ACQUIRE. -/
theorem Dev.tbSet_of_lt {d s e : Dev} {t : Nat} (hns : d.get TIME_OFS_MNS.NS t < 1000000000)
    (hs : s = (d.setTb t { d.tb t with sec := d.get TIME_OFS_MSEC.SEC t, ns := d.get TIME_OFS_MNS.NS t, frac := 0, hid := 0 }).noteStep t)
    (he : e = ((({ s with time := { s.time with setAt := tabPut 0 s.time.setAt t (s.tclk + 1) } }).put TIME_TB_STAT.STEPEV 1 t).raise
      (FS.TIME_STEP + t)).almAfterStep t) :
    d.tbSet t = if e.servo t = 2 ∨ e.servo t = 3 then e.servoTo t 1 else e := by
  subst he hs
  exact if_neg (Nat.not_le.2 hns)

@[simp] theorem Dev.imgSet_tbRead (t : Nat) (r : Reg) (k : Nat) : (d.tbRead t).imgSet r k = d.imgSet r k := by
  simp only [Dev.tbRead, Dev.imgSet_put]

theorem Dev.regRead_tbT0 (port : Nat) (h : d.inReset 4 = false) :
    d.regRead port TIME_TB_T0 t 0 = (regLoad (d.imgSet TIME_TB_T0 t) TIME_TB_T0.flds ((d.tbRead t).rd TIME_TB_T0 t), d.tbRead t) := by
  rw [Dev.regRead_plain (by decide) h (if_pos (beq_self_eq_true TIME_TB_T0)), Dev.imgSet_tbRead]

theorem Dev.rateCommit_of_free {d : Dev} {t lo hi : Nat} (h : d.servo t = 0) (hlo : tabGet 0 d.time.rateLo t = lo + 1) :
    d.rateCommit t hi = ({ d with time := { d.time with rateLo := tabDel d.time.rateLo t } }).setAdj t (sgnW 40 (hi % 256 * 2 ^ 32 + lo)) := by
  rw [Dev.rateCommit, if_pos h, hlo]

end

/-! ### Offsets -/

section

variable {d e f : Dev} {t : Nat} {z i : Int}

/-- What an accepted offset within the step threshold does, up to the servo's move. -/
theorem Dev.servoUpdate_small (he : e = ((d.inc TIME_TB_STAT.ACC t).put TIME_SRV_LAST.THETA (unsW 32 (sat31 z)) t).startTimer .offset t)
    (hz : z.natAbs ≤ 16000 * max 1 (e.get TIME_SRV_THR.STEP_THR t)) (hi : i = clampAdj ((e.tb t).integ + rhe (e.get TIME_SRV_KI.K t * z) 4096))
    (hf : f = (e.setTb t { e.tb t with integ := i, lockCnt := if e.servo t = 1 then (if z.natAbs ≤ e.lockThr t then (e.tb t).lockCnt + 1 else 0)
      else (e.tb t).lockCnt }).setAdj t (i + rhe (e.get TIME_SRV_KP.K t * z) 4096)) :
    d.servoUpdate t z false = if e.servo t = 2 ∧ 8 * f.lockThr t < z.natAbs then f.servoTo t 1
      else if e.servo t = 1 ∧ max 1 (f.get TIME_SRV_CFG.LOCK_CNT t) ≤ (f.tb t).lockCnt then f.servoTo t 2 else f := by
  have hbig : ¬ 16000 * max 1 (e.get TIME_SRV_THR.STEP_THR t) < z.natAbs := Nat.not_lt.2 hz
  simp only [Dev.servoUpdate, ← he, hbig, decide_false, Bool.false_or, Bool.false_and, Bool.false_eq_true, if_false, ← hi, Dev.get_setTb, ← hf]

theorem Dev.offset_timely {src : Nat} {fstep : Bool} (hsrc : d.get TIME_TB_CFG.SRC t = src) (h0 : src ≠ 0)
    (hfree : d.is TIME_TB_CTRL.FREE t = false) (hset : tabGet 0 d.time.setAt t ≠ d.tclk + 1) (hst : d.servo t = 1 ∨ d.servo t = 2) :
    d.offset t src z true fstep = d.servoUpdate t z fstep := by
  have hne0 : d.servo t ≠ 0 := by omega
  have hne3 : d.servo t ≠ 3 := by omega
  have hacc : ¬ (src ≠ d.get TIME_TB_CFG.SRC t ∨ src = 0 ∨ d.is TIME_TB_CTRL.FREE t = true ∨ tabGet 0 d.time.setAt t = d.tclk + 1) := by
    simp [hsrc, h0, hfree, hset]
  simp only [Dev.offset, if_neg hacc, Bool.not_true, Bool.false_eq_true, if_false, if_neg hne0, if_neg hne3]

/-- A firmware offset whose time is the time base's present value has an age of 0. -/
theorem Dev.offsetFw_age_zero (hsec : d.get TIME_OFS_MSEC.SEC t = (d.tb t).sec % 2 ^ 32)
    (hval : (d.tb t).val % tbSecond = d.get TIME_OFS_MNS.NS t * 2 ^ 46) : d.offsetFw t z = d.offset t 1 z true (d.is TIME_OFS_MNS.FSTEP t) := by
  have hs : sgn32 ((d.tb t).sec + 2 ^ 32 - (d.tb t).sec % 2 ^ 32) = 0 := by
    have h : ((d.tb t).sec + 2 ^ 32 - (d.tb t).sec % 2 ^ 32) % 4294967296 = 0 := by omega
    unfold sgn32
    rw [h]
    rfl
  have hlim (n : Nat) : decide ((0 : Int) ≤ n) = true := decide_eq_true (Int.natCast_nonneg n)
  simp only [Dev.offsetFw, hsec, hval, hs, Int.zero_mul, Int.zero_add, Int.sub_self, hlim, le_refl, decide_true, Bool.and_true]

/-! ### What an accepted offset leaves -/

theorem Dev.tb_setAdj (k : Nat) : (d.setAdj t i).tb k = d.tb k := by simp [Dev.setAdj]

theorem Dev.get_setAdj {t : Fin 4} {g : FRef} (hlo : TIME_TB_RATE_LO.ADJ_LO.beside g 4 = true) (hhi : TIME_TB_RATE_HI.ADJ_HI.beside g 4 = true) :
    (d.setAdj t i).get g t = d.get g t := by
  rw [Dev.setAdj, Dev.get_put_beside _ _ _ hhi, Dev.get_put_beside _ _ _ hlo]

end

/-- The device once an accepted offset has been noted. -/
def Dev.noteOffset (d : Dev) (t : Nat) (z : Int) : Dev :=
  ((d.inc TIME_TB_STAT.ACC t).put TIME_SRV_LAST.THETA (unsW 32 (sat31 z)) t).startTimer .offset t

section

variable (d : Dev) (t : Fin 4) (z : Int)

theorem Dev.tb_noteOffset (k : Nat) : (d.noteOffset t z).tb k = d.tb k := by simp [Dev.noteOffset, Dev.inc]

theorem Dev.get_noteOffset {g : FRef} (hacc : TIME_TB_STAT.ACC.beside g 4 = true) (hlast : TIME_SRV_LAST.THETA.beside g 4 = true) :
    (d.noteOffset t z).get g t = d.get g t := by
  rw [Dev.noteOffset, Dev.get_startTimer, Dev.get_put_beside _ _ _ hlast, Dev.inc, Dev.get_put_beside _ _ _ hacc]

theorem Dev.servo_noteOffset : (d.noteOffset t z).servo t = d.servo t := d.get_noteOffset t z (by decide) (by decide)

theorem Dev.lockThr_noteOffset : (d.noteOffset t z).lockThr t = d.lockThr t := by
  rw [Dev.lockThr, d.get_noteOffset t z (by decide) (by decide), Dev.lockThr]

/-- The same, with the noted offset by name: the fields that it turns on are those from before. -/
theorem Dev.servoUpdate_small_fin {i : Int} {n : Nat} {f : Dev} (hz : z.natAbs ≤ 16000 * max 1 (d.get TIME_SRV_THR.STEP_THR t))
    (hi : i = clampAdj ((d.tb t).integ + rhe (d.get TIME_SRV_KI.K t * z) 4096))
    (hn : n = if d.servo t = 1 then (if z.natAbs ≤ d.lockThr t then (d.tb t).lockCnt + 1 else 0) else (d.tb t).lockCnt)
    (hf : f = ((d.noteOffset t z).setTb t { d.tb t with integ := i, lockCnt := n }).setAdj t (i + rhe (d.get TIME_SRV_KP.K t * z) 4096)) :
    d.servoUpdate t z false = if d.servo t = 2 ∧ 8 * d.lockThr t < z.natAbs then f.servoTo t 1
      else if d.servo t = 1 ∧ max 1 (d.get TIME_SRV_CFG.LOCK_CNT t) ≤ n then f.servoTo t 2 else f := by
  have hstep := d.get_noteOffset (g := TIME_SRV_THR.STEP_THR) t z (by decide) (by decide)
  have hki := d.get_noteOffset (g := TIME_SRV_KI.K) t z (by decide) (by decide)
  have hkp := d.get_noteOffset (g := TIME_SRV_KP.K) t z (by decide) (by decide)
  have htb := d.tb_noteOffset t z t
  have hsv := d.servo_noteOffset t z
  have hlt := d.lockThr_noteOffset t z
  have hflt : f.lockThr t = d.lockThr t := by
    rw [hf, Dev.lockThr, Dev.get_setAdj (by decide) (by decide), Dev.get_setTb, ← Dev.lockThr, hlt]
  have hfcnt : f.get TIME_SRV_CFG.LOCK_CNT t = d.get TIME_SRV_CFG.LOCK_CNT t := by
    rw [hf, Dev.get_setAdj (by decide) (by decide), Dev.get_setTb, d.get_noteOffset t z (by decide) (by decide)]
  have hftb : (f.tb t).lockCnt = n := by rw [hf, Dev.tb_setAdj, Dev.tb_setTb_same]
  rw [Dev.servoUpdate_small (e := d.noteOffset t z) (f := f) (i := i) rfl (hstep ▸ hz) (by rw [htb, hki, hi])
    (by rw [htb, hkp, hsv, hlt, ← hn, hf]), hsv, hflt, hfcnt, hftb]

/-! ### The hold time-out -/

theorem Dev.holdTimeout_of_due {t : Nat} (hst : d.servo t = 1 ∨ d.servo t = 2)
    (hdue : d.isDue .offset (max 1 (d.get TIME_SRV_CFG.HOLD_TMO t) * 1000000) t = true) : d.holdTimeout t = d.servoTo t 3 :=
  if_pos ⟨hst, hdue⟩

end

/-- Settles O10: each clause names the branch of the time base's operation that its hypotheses select. -/
theorem timeBaseCommandsComplete : Obligations.TimeBaseCommandsComplete := by
  unfold Obligations.TimeBaseCommandsComplete
  refine ⟨?set, ?read, ?rate, ?free, ?offset, ?hold⟩
  case set =>
    intro s p t w c d e hc hs h1 h0 hns hd he
    rw [← c.get_store_apart t t w (r := TIME_TB_CTRL) (by decide)] at hns
    rw [← c.get_store_apart t t w (r := TIME_TB_CTRL) (g := TIME_OFS_MNS.NS) (by decide),
      ← c.get_store_apart t t w (r := TIME_TB_CTRL) (g := TIME_OFS_MSEC.SEC) (by decide), ← c.tb_store TIME_TB_CTRL w t 0 t] at hd
    rw [exec_tbSet, State.after_write hs (b := 4) (by decide) t.isLt Nat.one_pos (by decide), ← hc, Dev.regWrite_tbCtrl,
      c.tbCtrlWrite_set t h1 h0, Dev.tbSet_of_lt hns hd he]
  case read =>
    intro s p t c d hc hs hr hd
    rw [exec_tbRead, State.after_read hs (b := 4) (by decide) t.isLt Nat.one_pos (by decide), ← hc, c.regRead_tbT0 t _ hr, Dev.tbRead, ← hd]
  case rate =>
    intro s p t w c lo hc hs hst hlo
    rw [exec_rateCommit, State.after_write hs (b := 4) (by decide) t.isLt Nat.one_pos (by decide), ← hc, Dev.regWrite_tbRateHi,
      Dev.rateCommit_of_free hst hlo]
  case free =>
    intro s p t w c hc hs h1 h0
    rw [exec_servoFree, State.after_write hs (b := 4) (by decide) t.isLt Nat.one_pos (by decide), ← hc, Dev.regWrite_tbCtrl,
      c.tbCtrlWrite_free t h1 h0]
  case offset =>
    intro s p t w c d i hc hs hsrc hfree hst hfstep hset hsec hval hlock hstep hd hi
    have hst1 : c.servo t ≠ 1 := by omega
    rw [exec_offsetSubmit, State.after_write hs (b := 4) (by decide) t.isLt Nat.one_pos (by decide), ← hc, Dev.regWrite_ofsVal,
      Dev.offsetFw_age_zero hsec hval, hfstep, Dev.offset_timely hsrc one_ne_zero hfree hset (.inr hst),
      c.servoUpdate_small_fin t w.toInt hstep hi (if_neg hst1).symm rfl, if_neg (fun h => Nat.not_lt.2 hlock h.2), if_neg (fun h => hst1 h.1), hd]
    rfl
  case hold =>
    intro s dt t d hd ha hst hdue
    rw [exec_servoHoldTimeout, State.after_event _ ha, ← hd, d.holdTimeout_of_due hst hdue]

end Sys2Proof.Machine
end

section
/-! The selector (R252 to R254). -/

namespace Sys2Proof.Machine

/-! ### Signed fields -/

/-- A signed number of 32 bits reads back. -/
theorem sgn32_unsW {z : Int} (hlo : -2147483648 ≤ z) (hhi : z < 2147483648) : sgn32 (unsW 32 z) = z := by
  unfold sgn32 unsW
  split <;> omega

theorem sgn32_mod (n : Nat) : sgn32 (n % 2 ^ 32) = sgn32 n := by
  simp only [sgn32, Nat.reducePow, Nat.mod_mod]

theorem sgn32_bounds (n : Nat) : -2147483648 ≤ sgn32 n ∧ sgn32 n < 2147483648 := by
  unfold sgn32
  split <;> omega

section

variable {d : Dev}

/-! ### The build-out -/

theorem Dev.selBo_setBo (z : Int) : (d.setBo z).selBo = sgn32 (unsW 32 z) := by
  rw [Dev.selBo, Dev.setBo, Dev.get_put_beside_zero _ _ (by decide), Dev.get_put_same _ _ _ _ _ (by decide) (by decide)]
  exact sgn32_mod _

/-- What a build-out in motion moves to. -/
theorem Dev.selBleed_of_moving {n mv : Nat} {z : Int} (hon : d.selOn = true) (hbo : d.selBo ≠ 0) (hslew : 0 < d.get TIME_SEL_CTRL.SLEW)
    (hmv : mv = min ((d.time.bleedRem + 64 * d.get TIME_SEL_CTRL.SLEW * n) / 1000000000) d.selBo.natAbs)
    (hz : z = if d.selBo < 0 then d.selBo + mv else d.selBo - mv) :
    d.selBleed n = { d.setBo z with time := { d.time with
      bleedRem := if z = 0 then 0 else (d.time.bleedRem + 64 * d.get TIME_SEL_CTRL.SLEW * n) % 1000000000 } } := by
  have hrun : ¬ ((!d.selOn || d.selBo == 0 || d.get TIME_SEL_CTRL.SLEW == 0) = true) := by
    simp [hon, hbo, Nat.pos_iff_ne_zero.1 hslew]
  subst hz hmv
  exact if_neg hrun

theorem Dev.regs_tbAdvance (n : Nat) : (d.tbAdvance n).regs = d.regs := by
  unfold Dev.tbAdvance
  split
  · rfl
  · exact forN_keeps Dev.regs 4 (fun _ d => d.regs_setTb _ _) d

theorem Dev.bleedRem_setTb (d : Dev) (t : Nat) (b : TbSt) : (d.setTb t b).time.bleedRem = d.time.bleedRem := rfl

theorem Dev.bleedRem_tbAdvance (n : Nat) : (d.tbAdvance n).time.bleedRem = d.time.bleedRem := by
  unfold Dev.tbAdvance
  split
  · rfl
  · exact forN_keeps (fun d => d.time.bleedRem) 4 (fun _ d => d.bleedRem_setTb _ _) d

theorem Dev.selBo_with_time (x : TimeSt) : { d with time := x }.selBo = d.selBo := rfl

theorem Dev.bleedRem_with_time (x : TimeSt) : { d with time := x }.time.bleedRem = x.bleedRem := rfl

/-- The build-out after `n` ticks, wherever the time bases stand. -/
theorem Dev.selBleed_moves {n mv : Nat} (hon : d.selOn = true) (hbo : d.selBo ≠ 0) (hslew : 0 < d.get TIME_SEL_CTRL.SLEW)
    (hmv : mv = min ((d.time.bleedRem + 64 * d.get TIME_SEL_CTRL.SLEW * n) / 1000000000) d.selBo.natAbs) :
    (d.selBleed n).selBo = (if d.selBo < 0 then d.selBo + mv else d.selBo - mv) ∧ (d.selBleed n).time.bleedRem =
      (if mv = d.selBo.natAbs then 0 else (d.time.bleedRem + 64 * d.get TIME_SEL_CTRL.SLEW * n) % 1000000000) := by
  obtain ⟨hlo, hhi⟩ : -2147483648 ≤ d.selBo ∧ d.selBo < 2147483648 := sgn32_bounds _
  have hle : mv ≤ d.selBo.natAbs := hmv ▸ Nat.min_le_right _ _
  have hzero : (if d.selBo < 0 then d.selBo + mv else d.selBo - mv) = 0 ↔ mv = d.selBo.natAbs := by split <;> omega
  rw [Dev.selBleed_of_moving hon hbo hslew hmv rfl, Dev.selBo_with_time, Dev.bleedRem_with_time, Dev.selBo_setBo]
  refine ⟨sgn32_unsW ?_ ?_, if_congr hzero rfl rfl⟩ <;> split <;> omega

/-! ### Switching -/

theorem Dev.selSwitch_of_near {diff : Int} (hdiff : diff = d.tb16 d.selCur - d.tb16 d.selOther) (hle : diff.natAbs ≤ 1600000000) :
    d.selSwitch = (((d.setBo (d.selBo + diff)).put TIME_SEL_STAT.CUR (1 - (d.setBo (d.selBo + diff)).get TIME_SEL_STAT.CUR)).put
      TIME_SEL_STAT.SWEV 1).raise FS.TIME_SELSW := by
  subst hdiff
  exact if_neg (Nat.not_lt.2 hle)

theorem Dev.regWrite_selCtrl (port : Nat) (w : Word) : d.regWrite port TIME_SEL_CTRL 0 0 w none = d.selCtrlWrite w := rfl

theorem Dev.selCtrlWrite_switch {w : Word} {e : Dev} (hw : fget w 0 0 = 1)
    (he : e = (d.store TIME_SEL_CTRL w).setBo (d.store TIME_SEL_CTRL w).selBo) (hon : e.selOn = true) (hlk : e.servo e.selOther = 2) :
    d.selCtrlWrite w = e.selSwitch := by
  rw [Dev.selCtrlWrite, ← he, if_pos hw, Dev.selCommand, hon, hlk, if_pos (by decide)]

theorem Dev.selRevert_of_due (hon : d.selOn = true) (hrev : d.is TIME_SEL_CTRL.REVERT = true) (hcur : d.is TIME_SEL_STAT.CUR = true)
    (hlk : d.servo (d.get TIME_SEL_CFG.A) = 2)
    (hran : d.ranFor .locked (max 1 (d.get TIME_SEL_CTRL.RVT) * 1000000000) (d.get TIME_SEL_CFG.A) = true) : d.selRevert = d.selSwitch := by
  rw [Dev.selRevert, hon, hrev, hcur, hlk, hran, if_pos (by decide)]

theorem Dev.selTick_of_due {e : Dev} (hon : d.selOn = true) (hdue : d.isDue .selTick 1000000 = true) (he : e = d.startTimer .selTick)
    (hst : e.servo e.selCur ≠ 0) :
    d.selTick = e.offset (e.get TIME_SEL_CFG.M) 3 (e.tb16 e.selCur + e.selBo - e.tb16 (e.get TIME_SEL_CFG.M)) true false := by
  rw [Dev.selTick, hon, hdue, if_neg (by decide), ← he, if_neg hst]

end

/-- Settles O11: the build-out moves by whole units and keeps the rest, and each command names its branch. -/
theorem selectorCommandsComplete : Obligations.SelectorCommandsComplete := by
  unfold Obligations.SelectorCommandsComplete
  refine ⟨?bleed, ?tick, ?switch, ?revert⟩
  case bleed =>
    intro d n mv hn hon hbo hslew hmv
    have hregs : (({ d.draw.2 with tclk := d.tclk + n, pace := (d.pace + Config.paceTicks d.draw.1) % 2 ^ 48 } : Dev).tbAdvance n).regs = d.regs :=
      Dev.regs_tbAdvance n
    have hrem := Dev.bleedRem_tbAdvance (d := { d.draw.2 with tclk := d.tclk + n, pace := (d.pace + Config.paceTicks d.draw.1) % 2 ^ 48 }) n
    have hpass : d.pass n = (({ d.draw.2 with tclk := d.tclk + n, pace := (d.pace + Config.paceTicks d.draw.1) % 2 ^ 48 } : Dev).tbAdvance
      n).selBleed n := if_neg (Nat.pos_iff_ne_zero.1 hn)
    rw [hpass]
    generalize Dev.tbAdvance _ n = e at hregs hrem ⊢
    have hget (g : FRef) : e.get g = d.get g := Dev.get_congr hregs g 0 0
    have hbo' : e.selBo = d.selBo := by rw [Dev.selBo, hget, Dev.selBo]
    have hon' : e.selOn = true := by rw [← hon, Dev.selOn, Dev.is, hget, Dev.selOn, Dev.is]
    have h := Dev.selBleed_moves (d := e) (n := n) (mv := mv) hon' (hbo' ▸ hbo) (by rw [hget]; exact hslew)
      (by rw [hbo', hget, hrem]; exact hmv)
    rw [hbo', hget, hrem] at h
    exact h
  case tick =>
    intro s dt o e ho ha hon hdue he hst
    rw [exec_selectorTick, State.after_event _ ha, ← ho, Dev.selTick_of_due hon hdue he hst]
  case switch =>
    intro s p w c e diff hc hs hw he hon hlk hdiff hle
    rw [exec_selectorSwitch, State.after_write hs (b := 4) (by decide) Nat.one_pos Nat.one_pos (by decide), ← hc, Dev.regWrite_selCtrl,
      Dev.selCtrlWrite_switch hw he hon hlk, Dev.selSwitch_of_near hdiff hle]
  case revert =>
    intro s dt d diff hd ha hon hrev hcur hlk hran hdiff hle
    rw [exec_selectorRevert, State.after_event _ ha, ← hd, Dev.selRevert_of_due hon hrev hcur hlk hran, Dev.selSwitch_of_near hdiff hle]

end Sys2Proof.Machine
end

section
/-! Alarms and captures (R257 to R261). -/

namespace Sys2Proof.Machine

/-! ### Bits of a field -/

section

variable (d : Dev) {f : FRef} {b c i j : Nat}

theorem Dev.get_setBit_same (hf : f.hi < 32) (hl : f.lo ≤ f.hi) (hb : b < f.hi + 1 - f.lo) :
    (d.setBit f b i j).get f i j = d.get f i j ||| 2 ^ b := by
  have hx : d.get f i j < 2 ^ (f.hi + 1 - f.lo) := fget_lt _ _ _
  rw [Dev.setBit, Dev.get_put_same _ _ _ _ _ hf hl, Nat.mod_eq_of_lt (Nat.or_lt_two_pow hx (Nat.pow_lt_pow_right (by decide) hb))]

theorem Dev.bit_setBit (hf : f.hi < 32) (hl : f.lo ≤ f.hi) (hb : b < f.hi + 1 - f.lo) :
    (d.setBit f b i j).bit f c i j = (decide (b = c) || d.bit f c i j) := by
  simp only [Dev.bit, d.get_setBit_same hf hl hb, bitOf_eq_toNat_testBit, Nat.testBit_or, Nat.testBit_two_pow]
  cases (d.get f i j).testBit c <;> cases decide (b = c) <;> rfl

end

/-! ### Capture units -/

/-- Unit c as an event of a source finds it. -/
def Dev.captureStep (src : Nat) (rising : Bool) (sub c : Nat) (d : Dev) : Dev :=
  let e := d.get TIME_CAP_CFG.EDGE c
  let okE := decide (28 ≤ src) || e == 2 || (if e == 1 then !rising else rising)
  if d.is TIME_CAP_CFG.EN c && d.get TIME_CAP_CFG.SRC c == src && okE then d.capRecord c sub else d

theorem Dev.captureEvent_eq (d : Dev) (src : Nat) (rising : Bool) (sub : Nat) :
    d.captureEvent src rising sub = forN 16 (Dev.captureStep src rising sub) d := rfl

/-- Two devices alike in what a record of unit c turns on, and in its record. -/
structure Dev.SameUnit (c : Nat) (d e : Dev) : Prop where
  cfg : ∀ g ∈ [TIME_CAP_CFG.EN, TIME_CAP_CFG.EDGE, TIME_CAP_CFG.MODE, TIME_CAP_CFG.TB, TIME_CAP_CFG.SRC], e.get g c = d.get g c
  tbs : e.time.tbs = d.time.tbs
  valid : e.bit TIME_CAP_STAT.VALID c = d.bit TIME_CAP_STAT.VALID c
  ovf : e.bit TIME_CAP_STAT.OVF c = d.bit TIME_CAP_STAT.OVF c
  record : tabGet {} e.time.caps c = tabGet {} d.time.caps c

theorem Dev.SameUnit.refl (c : Nat) (d : Dev) : Dev.SameUnit c d d := ⟨fun _ _ => rfl, rfl, rfl, rfl, rfl⟩

theorem Dev.SameUnit.trans {c : Nat} {d e f : Dev} (h : Dev.SameUnit c d e) (k : Dev.SameUnit c e f) : Dev.SameUnit c d f :=
  ⟨fun g hg => (k.cfg g hg).trans (h.cfg g hg), k.tbs.trans h.tbs, k.valid.trans h.valid, k.ovf.trans h.ovf, k.record.trans h.record⟩

/-- A write of a field apart from them. -/
theorem Dev.SameUnit.put {c : Fin 16} (d : Dev) (f : FRef) (v i : Nat)
    (hcfg : ∀ g ∈ [TIME_CAP_CFG.EN, TIME_CAP_CFG.EDGE, TIME_CAP_CFG.MODE, TIME_CAP_CFG.TB, TIME_CAP_CFG.SRC],
      (d.put f v i).get g c = d.get g c)
    (hstat : ∀ g ∈ [TIME_CAP_STAT.VALID, TIME_CAP_STAT.OVF], (d.put f v i).bit g c = d.bit g c) : Dev.SameUnit c d (d.put f v i) :=
  ⟨hcfg, by rw [Dev.put_time], hstat _ (by simp), hstat _ (by simp), by rw [Dev.put_time]⟩

theorem Dev.bit_congr {d e : Dev} {g : FRef} {b i : Nat} (h : e.get g i = d.get g i) : e.bit g b i = d.bit g b i := by
  rw [Dev.bit, h, Dev.bit]

section

variable {d : Dev} (k c : Fin 16)

/-- A write of the timestamp registers of a unit. -/
theorem Dev.SameUnit.put_t0 {f : FRef} (v : Nat) (hf : f = TIME_CAP_T0.SEC_HI ∨ f = TIME_CAP_T0.FRAC) :
    Dev.SameUnit c d (d.put f v k) := by
  refine .put d f v k (fun g hg => ?_) (fun g hg => ?_)
  · refine d.get_put_apart k c v ?_
    rcases hf with rfl | rfl <;> (fin_cases hg <;> decide)
  · refine Dev.bit_congr (d.get_put_apart_right k v ?_)
    rcases hf with rfl | rfl <;> (fin_cases hg <;> decide)

theorem Dev.get_cfg_setBit_stat {f g : FRef} (b : Nat) (hf : f = TIME_CAP_STAT.VALID ∨ f = TIME_CAP_STAT.OVF)
    (hg : g ∈ [TIME_CAP_CFG.EN, TIME_CAP_CFG.EDGE, TIME_CAP_CFG.MODE, TIME_CAP_CFG.TB, TIME_CAP_CFG.SRC]) :
    (d.setBit f b).get g c = d.get g c := by
  refine d.get_put_apart_left c _ ?_
  rcases hf with rfl | rfl <;> (fin_cases hg <;> decide)

theorem Dev.bit_valid_setBit_ovf (b : Nat) : (d.setBit TIME_CAP_STAT.OVF b).bit TIME_CAP_STAT.VALID c = d.bit TIME_CAP_STAT.VALID c :=
  Dev.bit_congr (d.get_put_beside_zero _ (by decide))

theorem Dev.bit_ovf_setBit_valid (b : Nat) : (d.setBit TIME_CAP_STAT.VALID b).bit TIME_CAP_STAT.OVF c = d.bit TIME_CAP_STAT.OVF c :=
  Dev.bit_congr (d.get_put_beside_zero _ (by decide))

theorem Dev.bit_setBit_stat {f : FRef} (hf : f = TIME_CAP_STAT.VALID ∨ f = TIME_CAP_STAT.OVF) :
    (d.setBit f k).bit f c = (decide (k.val = c) || d.bit f c) := by
  refine d.bit_setBit ?_ ?_ ?_ <;> rcases hf with rfl | rfl <;> simp only [TIME_CAP_STAT.VALID, TIME_CAP_STAT.OVF] <;> omega

/-- The bits of another unit. -/
theorem Dev.SameUnit.setBit_other (h : k ≠ c) {f : FRef} (hf : f = TIME_CAP_STAT.VALID ∨ f = TIME_CAP_STAT.OVF) :
    Dev.SameUnit c d (d.setBit f k) := by
  have hkc : decide (k.val = c) = false := decide_eq_false fun e => h (Fin.ext e)
  refine .put d f _ 0 (fun g hg => Dev.get_cfg_setBit_stat c k hf hg) (fun g hg => ?_)
  have hsame : (d.setBit f k).bit f c = d.bit f c := by rw [Dev.bit_setBit_stat k c hf, hkc, Bool.false_or]
  fin_cases hg <;> rcases hf with rfl | rfl
  · exact hsame
  · exact Dev.bit_valid_setBit_ovf c k
  · exact Dev.bit_ovf_setBit_valid c k
  · exact hsame

/-! ### A record -/

/-- The device with a record of unit k. -/
def Dev.setCap (d : Dev) (k : Nat) (x : CapSt) : Dev := { d with time := { d.time with caps := tabPut {} d.time.caps k x } }

theorem Dev.SameUnit.setCap_other (h : k ≠ c) (x : CapSt) : Dev.SameUnit c d (d.setCap k x) :=
  ⟨fun _ _ => rfl, rfl, rfl, rfl, tabGet_tabPut_ne _ _ _ _ (fun e => h (Fin.ext e.symm))⟩

/-- What unit k writes at an event whose time base then reads `b`. -/
def Dev.writeCap (d : Dev) (k : Nat) (b : TbSt) : Dev :=
  (((d.setCap k ⟨b.sec, b.ns, b.frac⟩).setBit TIME_CAP_STAT.VALID k).put TIME_CAP_T0.SEC_HI (b.sec / 2 ^ 32) k).put TIME_CAP_T0.FRAC b.frac k

theorem Dev.capRecord_eq {d o : Dev} {k sub : Nat} {t : TbSt} (ho : o = if d.bit TIME_CAP_STAT.VALID k then d.setBit TIME_CAP_STAT.OVF k else d)
    (ht : t = o.tb (o.get TIME_CAP_CFG.TB k)) :
    d.capRecord k sub = if d.bit TIME_CAP_STAT.VALID k && o.get TIME_CAP_CFG.MODE k == 0 then o
      else o.writeCap k (t.load (t.val + sub * 2 ^ 42 : Nat)) := by
  subst ho ht
  rfl

theorem Dev.SameUnit.capRecord_other (h : k ≠ c) (sub : Nat) : Dev.SameUnit c d (d.capRecord k sub) := by
  have ho : Dev.SameUnit c d (if d.bit TIME_CAP_STAT.VALID k then d.setBit TIME_CAP_STAT.OVF k else d) := by
    split
    · exact .setBit_other k c h (.inr rfl)
    · exact .refl _ _
  generalize he : (if d.bit TIME_CAP_STAT.VALID k then d.setBit TIME_CAP_STAT.OVF k else d) = o at ho
  rw [Dev.capRecord_eq he.symm rfl]
  split
  · exact ho
  · exact (((ho.trans (.setCap_other k c h _)).trans (.setBit_other k c h (.inl rfl))).trans (.put_t0 k c _ (.inl rfl))).trans
      (.put_t0 k c _ (.inr rfl))

/-- What a record leaves in its unit: both bits, and the value of the time base where it is taken. -/
theorem Dev.capRecord_self {sub : Nat} {valid : Bool} {b : TbSt} (hv : valid = d.bit TIME_CAP_STAT.VALID c)
    (hb : b = (d.tb (d.get TIME_CAP_CFG.TB c)).load ((d.tb (d.get TIME_CAP_CFG.TB c)).val + sub * 2 ^ 42 : Nat)) :
    (d.capRecord c sub).bit TIME_CAP_STAT.VALID c = true ∧ (d.capRecord c sub).bit TIME_CAP_STAT.OVF c = (valid || d.bit TIME_CAP_STAT.OVF c) ∧
      tabGet {} (d.capRecord c sub).time.caps c =
        if valid = true ∧ d.get TIME_CAP_CFG.MODE c = 0 then tabGet {} d.time.caps c else ⟨b.sec, b.ns, b.frac⟩ := by
  generalize ho : (if d.bit TIME_CAP_STAT.VALID c then d.setBit TIME_CAP_STAT.OVF c else d) = o
  have hget : ∀ g ∈ [TIME_CAP_CFG.EN, TIME_CAP_CFG.EDGE, TIME_CAP_CFG.MODE, TIME_CAP_CFG.TB, TIME_CAP_CFG.SRC], o.get g c = d.get g c := by
    intro g hg
    rw [← ho]
    split
    · exact Dev.get_cfg_setBit_stat c c (.inr rfl) hg
    · rfl
  have hmode : o.get TIME_CAP_CFG.MODE c = d.get TIME_CAP_CFG.MODE c := hget _ (by simp)
  have htb : o.get TIME_CAP_CFG.TB c = d.get TIME_CAP_CFG.TB c := hget _ (by simp)
  have htime : o.time = d.time := by
    rw [← ho]
    split
    · exact d.put_time _ _ _ _
    · rfl
  have hvalid : o.bit TIME_CAP_STAT.VALID c = valid := by
    rw [← ho, hv]
    split
    · exact Dev.bit_valid_setBit_ovf c c
    · rfl
  have hovf : o.bit TIME_CAP_STAT.OVF c = (valid || d.bit TIME_CAP_STAT.OVF c) := by
    rw [← ho, hv]
    split
    next h => rw [Dev.bit_setBit_stat c c (.inr rfl), h, decide_eq_true rfl]
    next h => rw [Bool.eq_false_of_not_eq_true h, Bool.false_or]
  have hob : (o.tb (o.get TIME_CAP_CFG.TB c)).load ((o.tb (o.get TIME_CAP_CFG.TB c)).val + sub * 2 ^ 42 : Nat) = b := by
    rw [hb, htb, Dev.tb, htime, Dev.tb]
  rw [Dev.capRecord_eq ho.symm rfl, hob, hmode, ← hv]
  by_cases hkeep : valid = true ∧ d.get TIME_CAP_CFG.MODE c = 0
  · obtain ⟨h1, h2⟩ := hkeep
    rw [if_pos (by simp [h1, h2]), if_pos ⟨h1, h2⟩, htime]
    exact ⟨hvalid.trans h1, hovf, rfl⟩
  · rw [if_neg (by simpa using hkeep), if_neg hkeep]
    have ht0 : Dev.SameUnit c ((o.setCap c ⟨b.sec, b.ns, b.frac⟩).setBit TIME_CAP_STAT.VALID c) (o.writeCap c b) :=
      (Dev.SameUnit.put_t0 c c _ (.inl rfl)).trans (.put_t0 c c _ (.inr rfl))
    refine ⟨?_, ?_, ?_⟩
    · rw [ht0.valid, Dev.bit_setBit_stat c c (.inl rfl), decide_eq_true rfl, Bool.true_or]
    · rw [ht0.ovf, Dev.bit_ovf_setBit_valid, ← hovf]
      rfl
    · rw [ht0.record]
      exact tabGet_tabPut_same _ _ _ _

end

/-! ### An event -/

/-- The condition under which unit c records an event of a source. -/
def Dev.captures (d : Dev) (src : Nat) (rising : Bool) (c : Nat) : Prop :=
  d.is TIME_CAP_CFG.EN c = true ∧ d.get TIME_CAP_CFG.SRC c = src ∧
    (28 ≤ src ∨ d.get TIME_CAP_CFG.EDGE c = 2 ∨ (if d.get TIME_CAP_CFG.EDGE c = 1 then rising = false else rising = true))

theorem Dev.captureStep_of_captures {d : Dev} {src sub c : Nat} {rising : Bool} (h : d.captures src rising c) :
    Dev.captureStep src rising sub c d = d.capRecord c sub := by
  obtain ⟨hen, hsrc, hedge⟩ := h
  refine if_pos ?_
  simp only [hen, hsrc, beq_self_eq_true, Bool.true_and, Bool.or_eq_true, decide_eq_true_eq, beq_iff_eq, or_assoc]
  refine hedge.imp_right (Or.imp_right fun h => ?_)
  split at h <;> simp [*]

theorem Dev.captureStep_of_not_captures {d : Dev} {src sub c : Nat} {rising : Bool} (h : ¬ d.captures src rising c) :
    Dev.captureStep src rising sub c d = d := by
  refine if_neg fun hc => h ?_
  simp only [Bool.and_eq_true, Bool.or_eq_true, decide_eq_true_eq, beq_iff_eq, or_assoc] at hc
  obtain ⟨⟨hen, hsrc⟩, hedge⟩ := hc
  refine ⟨hen, hsrc, hedge.imp_right (Or.imp_right fun h => ?_)⟩
  split at h <;> simp_all

section

variable {d : Dev} {src sub : Nat} {rising : Bool} (k c : Fin 16)

theorem Dev.SameUnit.captureStep_other (h : k ≠ c) : Dev.SameUnit c d (Dev.captureStep src rising sub k d) := by
  by_cases hc : d.captures src rising k
  · rw [Dev.captureStep_of_captures hc]
    exact .capRecord_other k c h sub
  · rw [Dev.captureStep_of_not_captures hc]
    exact .refl _ _

/-- An event reaches unit c as its source found it, and what comes after leaves the unit alone. -/
theorem Dev.SameUnit.captureEvent : ∃ e, Dev.SameUnit c d e ∧ Dev.SameUnit c (Dev.captureStep src rising sub c e) (d.captureEvent src rising sub) := by
  have hbefore : ∀ n ≤ c.val, Dev.SameUnit c d (forN n (Dev.captureStep src rising sub) d) := by
    intro n hn
    induction n with
    | zero => exact .refl _ _
    | succ n ih => exact (ih (by omega)).trans (.captureStep_other ⟨n, by omega⟩ c (fun e => by rw [← e] at hn; exact absurd hn (by simp)))
  refine ⟨_, hbefore c le_rfl, ?_⟩
  have hafter : ∀ n, c.val < n → n ≤ 16 → Dev.SameUnit c (Dev.captureStep src rising sub c (forN c (Dev.captureStep src rising sub) d))
      (forN n (Dev.captureStep src rising sub) d) := by
    intro n hlt hn
    induction n with
    | zero => exact absurd hlt (Nat.not_lt_zero _)
    | succ n ih =>
      obtain hlt | heq := Nat.lt_or_eq_of_le (Nat.lt_succ_iff.1 hlt)
      · exact (ih hlt (by omega)).trans (.captureStep_other ⟨n, by omega⟩ c (fun e => by rw [← e] at hlt; exact absurd hlt (by simp)))
      · subst heq
        exact .refl _ _
  exact hafter 16 c.isLt le_rfl

theorem Dev.SameUnit.captures_iff {e : Dev} {c : Nat} (h : Dev.SameUnit c d e) : e.captures src rising c ↔ d.captures src rising c := by
  have hg (g : FRef) (hg : g ∈ [TIME_CAP_CFG.EN, TIME_CAP_CFG.EDGE, TIME_CAP_CFG.MODE, TIME_CAP_CFG.TB, TIME_CAP_CFG.SRC]) :
      e.get g c = d.get g c := h.cfg g hg
  simp only [Dev.captures, Dev.is, hg TIME_CAP_CFG.EN (by simp), hg TIME_CAP_CFG.SRC (by simp), hg TIME_CAP_CFG.EDGE (by simp)]

end

theorem Dev.get_t2_capRead (d : Dev) (c : Nat) : (d.capRead c).get TIME_CAP_T2.NS c = (tabGet {} d.time.caps c).ns % 2 ^ 30 :=
  Dev.get_put_same _ TIME_CAP_T2.NS _ c 0 (by decide) (by decide)

theorem Dev.get_t1_capRead (d : Dev) (c : Fin 16) : (d.capRead c).get TIME_CAP_T1.SEC_LO c = (tabGet {} d.time.caps c).sec % 2 ^ 32 := by
  rw [Dev.capRead, Dev.get_put_beside _ _ _ (by decide), Dev.get_put_same _ _ _ _ _ (by decide) (by decide)]
  exact Nat.mod_mod _ _

/-- Settles O48: a unit's record turns on nothing that the other units of the event write. -/
theorem captureUnitsRecordTheirTimeBase : Obligations.CaptureUnitsRecordTheirTimeBase := by
  unfold Obligations.CaptureUnitsRecordTheirTimeBase
  refine ⟨?event, ?read⟩
  case event =>
    intro d e src sub c rising valid b hc he hv hb
    subst he
    obtain ⟨o, ho, hafter⟩ := Dev.SameUnit.captureEvent (d := d) (src := src) (sub := sub) (rising := rising) ⟨c, hc⟩
    refine ⟨fun hen hsrc hedge => ?_, fun hnot => ?_⟩
    · have hcap : d.captures src rising c := by
        refine ⟨hen, hsrc, ?_⟩
        rcases hedge with h | h | ⟨h, hr⟩ | ⟨h, hr⟩ <;> simp [*]
      have htb : o.get TIME_CAP_CFG.TB c = d.get TIME_CAP_CFG.TB c := ho.cfg _ (by simp)
      have hmode : o.get TIME_CAP_CFG.MODE c = d.get TIME_CAP_CFG.MODE c := ho.cfg _ (by simp)
      obtain ⟨hvalid, hovf, hrec⟩ := Dev.capRecord_self (d := o) (sub := sub) (b := b) ⟨c, hc⟩ (ho.valid.symm ▸ hv)
        (by rw [htb, Dev.tb, ho.tbs]; exact hb)
      rw [Dev.captureStep_of_captures (ho.captures_iff.2 hcap)] at hafter
      rw [hafter.valid, hafter.ovf, hafter.record, hvalid, hovf, hrec, ho.ovf, hmode, ho.record]
      exact ⟨rfl, rfl, rfl⟩
    · have hcap : ¬ d.captures src rising c := by
        rintro ⟨hen, hsrc, -⟩
        rcases hnot with h | h
        · rw [hen] at h
          exact absurd h (by decide)
        · exact h hsrc
      rw [Dev.captureStep_of_not_captures (mt ho.captures_iff.1 hcap)] at hafter
      exact ⟨hafter.record.trans ho.record, (hafter.valid.trans ho.valid).trans hv.symm⟩
  case read =>
    intro d c hc
    exact ⟨d.get_t1_capRead ⟨c, hc⟩, d.get_t2_capRead c⟩

end Sys2Proof.Machine
end

section
/-! The commands of the alarms and captures (R256 to R261). -/

namespace Sys2Proof.Machine

/-! ### What a write or a read of their registers does -/

theorem Dev.regWrite_almNs {d : Dev} {port a : Nat} {w : Word} (h : d.almFw a = true) :
    d.regWrite port TIME_ALM_NS a 0 w none = d.almNsWrite a w := by
  have hw : d.regWrite port TIME_ALM_NS a 0 w none = d.timeWrite TIME_ALM_NS a 0 w := rfl
  rw [hw, Dev.timeWrite, h, if_neg (by decide), if_neg (by decide), if_neg (by decide), if_neg (by decide), if_neg (by decide),
    if_neg (by decide), if_pos (by decide)]

theorem Dev.regWrite_almCfg {d : Dev} {port a : Nat} {w : Word} (h : d.almFw a = true) :
    d.regWrite port TIME_ALM_CFG a 0 w none = d.almCfgWrite a w := by
  have hw : d.regWrite port TIME_ALM_CFG a 0 w none = d.timeWrite TIME_ALM_CFG a 0 w := rfl
  rw [hw, Dev.timeWrite, h, if_neg (by decide), if_neg (by decide), if_neg (by decide), if_neg (by decide), if_neg (by decide),
    if_pos (by decide)]

section

variable {d e : Dev} {a : Nat}

@[simp] theorem Dev.imgSet_capRead (k : Nat) (r : Reg) (i : Nat) : (d.capRead k).imgSet r i = d.imgSet r i := by
  simp only [Dev.capRead, Dev.imgSet_put]

theorem Dev.regRead_capT0 (port k : Nat) (h : d.inReset 4 = false) :
    d.regRead port TIME_CAP_T0 k 0 = (regLoad (d.imgSet TIME_CAP_T0 k) TIME_CAP_T0.flds ((d.capRead k).rd TIME_CAP_T0 k), d.capRead k) := by
  have hread : d.regBeforeRead TIME_CAP_T0 k = d.capRead k := (if_neg (by decide)).trans (if_pos (beq_self_eq_true TIME_CAP_T0))
  rw [Dev.regRead_plain (by decide) h hread, Dev.imgSet_capRead]

/-! ### Arming and firing -/

theorem Dev.almNsWrite_arm {a : Fin 32} {w : Word} (hen : d.is TIME_ALM_CFG.EN a = true)
    (he : e = (d.store TIME_ALM_NS w a).almArm a (d.get TIME_ALM_SEC.SEC a) ((d.store TIME_ALM_NS w a).get TIME_ALM_NS.NS a))
    (hr : e.almReached a = false) : d.almNsWrite a w = e := by
  have hen' : (d.store TIME_ALM_NS w a).is TIME_ALM_CFG.EN a = true := (d.is_store_apart a a w (by decide)).trans hen
  rw [← d.get_store_apart (r := TIME_ALM_NS) a a w (by decide)] at he
  rw [Dev.almNsWrite, if_pos hen', Dev.almArmFw, ← he, hr, if_neg Bool.false_ne_true]

/-- The action on the alarm's pin. -/
theorem Dev.tioAct_eq {p act : Nat} (hp : p = d.get TIME_ALM_CFG.TIO a) (hact : act = d.get TIME_ALM_CFG.TIOACT a) :
    d.tioAct a = (if d.bit TIME_TIO_CFG.DIR p = true ∧ (act = 2 ∨ (act = 1 ∧ d.bit TIME_TIO_CFG.LEVEL p = false)) then d.setBit TIME_TIO_CFG.LEVEL p
      else if d.bit TIME_TIO_CFG.DIR p = true ∧ (act = 3 ∨ act = 1) then d.clrBit TIME_TIO_CFG.LEVEL p else d) := by
  simp only [Dev.tioAct, ← hp, ← hact]
  cases hdir : d.bit TIME_TIO_CFG.DIR p with
  | false => simp only [Bool.not_false, if_true, Bool.false_eq_true, false_and, if_false]
  | true =>
    simp only [Bool.not_true, Bool.false_eq_true, if_false, true_and]
    split
    · cases d.bit TIME_TIO_CFG.LEVEL p <;> simp
    · simp
    · simp
    · simp_all

theorem Dev.almFire_eq {a : Fin 32} {f g u : Dev} {t : AlmSt} (hper : d.almPer a = 0 ∨ d.almSkip a = 1)
    (hf : f = (if d.is TIME_ALM_CFG.IRQ a = true then (d.setBit TIME_ALM_STAT.F a).raiseVec (32 + a) else d.setBit TIME_ALM_STAT.F a))
    (hg : g = f.tioAct a) (hu : u = g.captureEvent (32 + a)) (ht : t = tabGet {} u.time.alarms a) :
    d.almFire a = if d.almPer a = 0 then u.almDisarm a
      else u.almArm a (t.sec + (t.ns + d.almSkip a * d.almPer a) / 1000000000) ((t.ns + d.almSkip a * d.almPer a) % 1000000000) := by
  have hlate : ¬ ((false || (d.almPer a != 0 && decide (2 ≤ d.almSkip a))) = true) := by
    rcases hper with h | h <;> simp [h]
  have hirq : (d.setBit TIME_ALM_STAT.F a).is TIME_ALM_CFG.IRQ a = d.is TIME_ALM_CFG.IRQ a :=
    congrArg (· == 1) (d.get_put_apart_left a _ (by decide))
  simp only [Dev.almFire, if_neg hlate, hirq, ← hf, ← hg, ← hu, ← ht]

/-- A firmware alarm that is reached fires. -/
theorem Dev.alarmFire_of_reached (sub : Nat) (ha : d.armed a = true) (hr : d.almReached a = true) (hfw : d.almFw a = true) :
    d.alarmFire a sub = d.almFire a := by
  rw [Dev.alarmFire, ha, hr, if_neg (by decide), hfw, if_pos rfl]

/-! ### Edges -/

theorem Dev.pinEdge_of_output {pin sub : Nat} {rising : Bool} (hp : pin < 8) (hdir : d.bit TIME_TIO_CFG.DIR pin = true) :
    d.pinEdge pin rising sub = d := by
  rw [Dev.pinEdge, if_neg (Nat.not_le.2 hp), if_pos hdir]

theorem Dev.pinEdge_of_input {pin sub : Nat} {rising : Bool} (hdir : pin < 8 → d.bit TIME_TIO_CFG.DIR pin = false)
    (he : e = (if 8 ≤ pin then d else if rising then d.setBit TIME_TIO_CFG.LEVEL pin else d.clrBit TIME_TIO_CFG.LEVEL pin)) :
    d.pinEdge pin rising sub = e.captureEvent pin rising sub := by
  subst he
  by_cases hp : 8 ≤ pin
  · rw [Dev.pinEdge, if_pos hp, if_pos hp]
  · rw [Dev.pinEdge, if_neg hp, hdir (Nat.not_le.1 hp), if_neg Bool.false_ne_true, if_neg hp]

/-- An event of a source that has edges, with the condition of its units written out. -/
theorem Dev.captureEvent_of_edge {src sub : Nat} {rising : Bool} (hsrc : src < 28) :
    d.captureEvent src rising sub = forN 16 (fun k d =>
      if d.is TIME_CAP_CFG.EN k = true ∧ d.get TIME_CAP_CFG.SRC k = src ∧
          (d.get TIME_CAP_CFG.EDGE k = 2 ∨ (d.get TIME_CAP_CFG.EDGE k = 1 ∧ rising = false) ∨
            (d.get TIME_CAP_CFG.EDGE k ≠ 1 ∧ d.get TIME_CAP_CFG.EDGE k ≠ 2 ∧ rising = true))
      then d.capRecord k sub else d) d := by
  rw [Dev.captureEvent_eq]
  refine congrArg (fun f => forN 16 f d) (funext fun k => funext fun d => ?_)
  have hiff : (d.is TIME_CAP_CFG.EN k = true ∧ d.get TIME_CAP_CFG.SRC k = src ∧
      (d.get TIME_CAP_CFG.EDGE k = 2 ∨ (d.get TIME_CAP_CFG.EDGE k = 1 ∧ rising = false) ∨
        (d.get TIME_CAP_CFG.EDGE k ≠ 1 ∧ d.get TIME_CAP_CFG.EDGE k ≠ 2 ∧ rising = true))) ↔ d.captures src rising k := by
    unfold Dev.captures
    refine and_congr_right fun _ => and_congr_right fun _ => ?_
    by_cases h1 : d.get TIME_CAP_CFG.EDGE k = 1
    · simp [h1, Nat.not_le.2 hsrc]
    · by_cases h2 : d.get TIME_CAP_CFG.EDGE k = 2 <;> simp [h1, h2, Nat.not_le.2 hsrc]
  split
  next h => exact Dev.captureStep_of_captures (hiff.1 h)
  next h => exact Dev.captureStep_of_not_captures (mt hiff.2 h)

end

/-- Settles O12: each clause names the branch of the alarm's or unit's operation that its hypotheses select. -/
theorem alarmAndCaptureCommandsComplete : Obligations.AlarmAndCaptureCommandsComplete := by
  unfold Obligations.AlarmAndCaptureCommandsComplete
  refine ⟨?arm, ?disarm, ?fire, ?output, ?edge, ?read⟩
  case arm =>
    intro s p a w c e hc hs hfw hen he hr
    rw [exec_alarmArm, State.after_write hs (b := 4) (by decide) a.isLt Nat.one_pos (by decide), ← hc, Dev.regWrite_almNs hfw,
      Dev.almNsWrite_arm hen he hr]
  case disarm =>
    intro s p a w c hc hs hfw hw
    rw [exec_alarmDisarm, State.after_write hs (b := 4) (by decide) a.isLt Nat.one_pos (by decide), ← hc, Dev.regWrite_almCfg hfw,
      Dev.almCfgWrite, if_pos hw, Dev.almDisarm]
  case fire =>
    intro s dt p act a sub d f g u t hd ha harm hr hfw hper hf hp hact hg hu ht
    rw [exec_alarmFire, State.after_event _ ha, ← hd, Dev.alarmFire_of_reached sub harm hr hfw,
      Dev.almFire_eq hper hf (hg.trans (Dev.tioAct_eq hp hact).symm) hu ht, Dev.almDisarm]
    split
    · rfl
    next hne => rw [hper.resolve_left hne, Nat.one_mul, Dev.almArm]
  case output =>
    intro s dt pin rising sub d hd ha hp hdir
    rw [exec_captureEvent, State.after_event _ ha, ← hd, Dev.pinEdge_of_output hp hdir]
  case edge =>
    intro s dt pin rising sub d e hd ha hdir he
    rw [exec_captureEvent, State.after_event _ ha, ← hd, Dev.pinEdge_of_input hdir he, Dev.captureEvent_of_edge (by omega)]
  case read =>
    intro s p k c d r hc hs hres hr hd
    rw [exec_captureRead, State.after_read hs (b := 4) (by decide) k.isLt Nat.one_pos (by decide), ← hc, Dev.regRead_capT0 _ k hres,
      Dev.capRead, ← hr, ← hd]

end Sys2Proof.Machine
end

section
/-! Accesses of the window that come to nothing: those of a block in BLOCK reset, and a STANDBY's writes of mirrored registers. -/

namespace Sys2Proof.Machine

/-! ### A block in reset -/

/-- A register whose fields a BLOCK reset returns is none of those it spares. -/
theorem Reg.beq_of_dom {r q : Reg} (hr : r.dom = .block) (hq : q.dom ≠ .block) : (r == q) = false :=
  beq_eq_false_iff_ne.2 fun e => hq (e ▸ hr)

/-- No register of the BLOCK domain is mirrored, and none has an image field. -/
theorem blockDomain_plain {b : Nat} {r : Reg} (hm : r ∈ regsOfBlock b) (hr : r.dom = .block) : mirrorMask r = 0 ∧ r.hasImage = false := by
  have h : ∀ b < 19, ∀ r ∈ regsOfBlock b, r.dom = .block → mirrorMask r = 0 ∧ r.hasImage = false := by decide +kernel
  exact h b (lt_of_mem_regsOfBlock hm) r hm hr

section
variable {d : Dev} {r : Reg} (hb : d.inReset r.blk = true) (hr : r.dom = .block)
include hb hr

theorem Dev.store_inReset (w : Word) (i j : Nat) : d.store r w i j = d := by
  simp [Dev.store, hb, hr]

theorem Dev.regRead_inReset (port i j : Nat) : d.regRead port r i j = (regLoad (d.imgSet r i) r.flds (r.rstAt i j), d) := by
  simp [Dev.regRead, hb, hr]

/-- What a write of a block in reset asks for beyond its store concerns no register of the BLOCK domain. -/
theorem Dev.regWrite_inReset (port i j : Nat) (w : Word) : d.regWrite port r i j w none = d := by
  have hs := d.store_inReset hb hr w i j
  unfold Dev.regWrite
  split
  · simp (disch := decide) [Dev.sysWrite, Reg.beq_of_dom hr, hs]
  · simp (disch := decide) [Dev.pwrWrite, Reg.beq_of_dom hr, hs]
  · simp (disch := decide) [Dev.rcuWrite, Reg.beq_of_dom hr, hs]
  · simp (disch := decide) [Dev.alnWrite, Reg.beq_of_dom hr, hs]
  · simp (disch := decide) [Dev.timeWrite, almReg, Reg.beq_of_dom hr, hs]
  · simp (disch := decide) [Dev.hlkWrite, Dev.hlkStore, Reg.beq_of_dom hr, hs]
  · simp (disch := decide) [Dev.hfbWrite, Reg.beq_of_dom hr, hs]
  · simp (disch := decide) [Dev.ethWrite, liveField, Reg.beq_of_dom hr, hs]
  · simp (disch := decide) [Dev.sapWrite, Reg.beq_of_dom hr, hs]
  · simp (disch := decide) [Dev.xptWrite, Reg.beq_of_dom hr, hs]
  · simp (disch := decide) [Dev.thkWrite, Reg.beq_of_dom hr, hs]
  · simp (disch := decide) [Dev.psmWrite, Reg.beq_of_dom hr, hs]
  · simp (disch := decide) [Dev.pairWrite, Reg.beq_of_dom hr, hs]
  · simp (disch := decide) [Dev.fltWrite, Reg.beq_of_dom hr, hs]
  · simp [Dev.perfWrite, hb, hr]
  · simp (disch := decide) [Dev.mgmtWrite, Reg.beq_of_dom hr, hs]
  · simp (disch := decide) [Dev.testWrite, Reg.beq_of_dom hr, hs]
  · exact hs

theorem Dev.regFront_inReset {b : Nat} (hm : r ∈ regsOfBlock b) (port i j : Nat) (w : Word) : d.regFront port r i j w = d := by
  rw [Dev.regFront_plain _ _ _ _ _ (blockDomain_plain hm hr).1, d.regWrite_inReset hb hr]

end

/-- Neither before nor after the count of the access does a write of a block in reset change anything. -/
theorem Dev.regAccess_inReset {d o : Dev} {b : Nat} {r : Reg} (hm : r ∈ regsOfBlock b) (hr : r.dom = .block) (hax : r ≠ PERF_CNT_AUX)
    (ho : o.inReset r.blk = true) (hb : d.inReset r.blk = true) (port a i j : Nat) (w : Word) : d.regAccess o port a r i j w = d := by
  simp (disch := decide) [Dev.regAccess, ho, hax, Reg.beq_of_dom hr, d.regFront_inReset hb hr hm]

/-- A read of a register of the BLOCK domain meets no memory. -/
theorem Dev.readTarget_blockDomain (d : Dev) {b : Nat} {r : Reg} (hm : r ∈ regsOfBlock b) (hr : r.dom = .block) {i j : Nat} (hi : i < r.n1)
    (hj : j < r.n2) (port : Nat) : d.readTarget port (r.addr i j) = none := by
  obtain ⟨h4, hw, _⟩ := addr_window hm hi hj
  have hne : ∀ {c : Nat} {q : Reg}, q ∈ regsOfBlock c → q.dom ≠ .block → ∀ k < q.n1, 0 < q.n2 → r.addr i j ≠ q.addr k 0 :=
    fun hq hd k hk h2 e => hd ((addr_inj hm hq hi hj hk h2 e).1 ▸ hr)
  have hg : ¬ (FLT_GLOG_DATA.addr 0 0 ≤ r.addr i j ∧ r.addr i j < FLT_GLOG_DATA.addr 0 0 + 32) := by
    rintro ⟨hl, hu⟩
    have hk := hne (c := 15) (q := FLT_GLOG_DATA) (by decide) (by decide) ((r.addr i j - FLT_GLOG_DATA.addr 0 0) / 4)
      (by simp only [FLT_GLOG_DATA] at hl hu ⊢; omega) (by decide)
    simp only [Reg.addr, FLT_GLOG_DATA] at hk hl hu h4
    omega
  have hp := hne (c := 17) (q := MGMT_HPORT_DATA) (by decide) (by decide) 0 (by decide) (by decide)
  have hs : inShared (r.addr i j) = false := by simp [inShared]; omega
  have hc : inScene (r.addr i j) = false := by simp [inScene]; omega
  simp [Dev.readTarget, hs, hc, coreSram_window hw, hg, hp]

theorem Dev.imageApplied_sansCounts (d : Dev) : d.sansCounts.imageApplied = d.imageApplied := rfl
theorem Dev.sections_sansCounts (d : Dev) : d.sansCounts.sections = d.sections := rfl

/-- The count of an access leaves what an image has set. -/
theorem Dev.imgSet_busCount (d : Dev) (port a : Nat) (r : Reg) (i : Nat) : (d.busCount port a).imgSet r i = d.imgSet r i := by
  have h := d.sansCounts_busCount port a
  have h1 := congrArg Dev.imageApplied h
  have h2 := congrArg Dev.sections h
  rw [Dev.imageApplied_sansCounts, Dev.imageApplied_sansCounts] at h1
  rw [Dev.sections_sansCounts, Dev.sections_sansCounts] at h2
  exact Dev.imgSet_congr h1 h2 r i

/-- A read of a register of a block in reset answers the register's reset word, also where the read comes before its own count. -/
theorem Dev.busLoad_inReset {d : Dev} {b port : Nat} {r : Reg} (hp : d.portOpen port = true) (hm : r ∈ regsOfBlock b) (hr : r.dom = .block)
    {i j : Nat} (hi : i < r.n1) (hj : j < r.n2) (ho : d.inReset r.blk = true) (hb : (d.busCount port (r.addr i j)).inReset r.blk = true) :
    d.busLoad port (r.addr i j) =
      (d.busCount port (r.addr i j)).emit
        (.rdata port (r.addr i j) (regLoad ((d.busCount port (r.addr i j)).imgSet r i) r.flds (r.rstAt i j))) := by
  by_cases hlo : r = PERF_CNT_LO
  · obtain ⟨h4, hw, _⟩ := addr_window hm hi hj
    have hq : (r == PERF_CNT_LO) = true := beq_iff_eq.2 hlo
    simp [Dev.busLoad, Dev.busRead, hp, coreSram_window hw, h4, inRegs, hw, decodeReg_addr hm hi hj, hq, Dev.regRead_inReset ho hr,
      Dev.imgSet_busCount]
  · rw [Dev.busLoad_reg _ hp hm hi hj (blockDomain_plain hm hr).2 hlo, Dev.regRead_inReset hb hr]

/-- Settles O55: a typed write is discarded, what a write does besides concerns other registers, and a read finds the reset word. -/
theorem heldBlockDiscardsAccesses : Obligations.HeldBlockDiscardsAccesses := by
  unfold Obligations.HeldBlockDiscardsAccesses
  refine ⟨fun d b i j port r w _ hb hr => ⟨d.store_inReset hb hr w i j, d.regRead_inReset hb hr port i j⟩, ?_, ?_⟩
  · intro s p b i j r w c hm hi hj hr hax hc hs ho hb
    rw [hc, State.counted] at *
    rw [exec_regWrite, State.after_access _ hs.1, Dev.busWrite_reg _ hs.2 hm hi hj, Dev.regAccess_inReset hm hr hax ho hb]
  · intro s p b i j err r c hm hi hj hr hc hs ho hb
    rw [hc, State.counted] at *
    rw [exec_regRead, State.after_access _ hs.1, Dev.busLoadErr, Dev.readTarget_blockDomain _ hm hr hi hj]
    exact congrArg (State.ends s s.dev) (Dev.busLoad_inReset hs.2 hm hr hi hj ho hb)

/-! ### A STANDBY -/

/-- Settles O54: the write is refused before it reaches its register, and only WREJ changes. -/
theorem standbyIgnoresMirroredWrites : Obligations.StandbyIgnoresMirroredWrites := by
  unfold Obligations.StandbyIgnoresMirroredWrites
  intro s p b i j r w c hm hi hj hk hc hs hmi
  have hne : ∀ q : Reg, mirrorMask q = 0 → r ≠ q := fun q hq e => by rw [e, hq] at hk; cases hk
  refine ⟨c.put PAIR_EV.WREJ 1, ?_, Dev.is_put_one _ _ _ _ (by decide) rfl, fun q k l h => Dev.rd_wr_addr_ne _ _ h⟩
  rw [exec_regWrite, State.after_access _ hs.1, Dev.busWrite_reg _ hs.2 hm hi hj,
    Dev.regAccess_plain _ _ _ _ _ _ _ (hne _ (by decide)) (hne _ (by decide)) (hne _ (by decide))]
  rw [hc, State.counted] at *
  simp [Dev.regFront, Dev.mirrorReject, hk, hmi]

end Sys2Proof.Machine
end

section
/-! The shared-store window: a word written outside RUNNING reads back, its bytes least significant first. -/

namespace Sys2Proof.Machine

/-! ### Little-endian bytes -/

@[simp] theorem length_leBytes (n v : Nat) : (leBytes n v).length = n := by
  induction n generalizing v with
  | zero => rfl
  | succ n ih => rw [leBytes, List.length_cons, ih]

theorem toNat_getD_leBytes {n i : Nat} (v : Nat) (h : i < n) : ((leBytes n v).getD i 0).toNat = v / 256 ^ i % 256 := by
  induction n generalizing v i with
  | zero => omega
  | succ n ih =>
    cases i with
    | zero => simp [leBytes]
    | succ i =>
      rw [leBytes, List.getD_cons_succ, ih (v / 256) (by omega), Nat.div_div_eq_div_mul, Nat.pow_succ, Nat.mul_comm]

/-- Little-endian bytes spell the number that they were cut from. -/
theorem leNat_leBytes (n v : Nat) : leNat (leBytes n v) = v % 256 ^ n := by
  induction n generalizing v with
  | zero => simp [leBytes, leNat, Nat.mod_one]
  | succ n ih =>
    have h : v % 256 ^ (n + 1) = v % 256 + 256 * (v / 256 % 256 ^ n) := by rw [Nat.pow_succ', Nat.mod_mul]
    rw [leBytes, leNat, ih, h]
    rfl

/-! ### Bytes of memory -/

@[simp] theorem length_memBytes (m : List Host.Cell) (a n : Nat) : (memBytes m a n).length = n := by
  induction n generalizing a with
  | zero => rfl
  | succ n ih => rw [memBytes, List.length_cons, ih]

theorem getElem_memBytes (m : List Host.Cell) {a n i : Nat} (h : i < (memBytes m a n).length) : (memBytes m a n)[i] = memByte m (a + i) := by
  induction n generalizing a i with
  | zero => simp at h
  | succ n ih =>
    cases i with
    | zero => rfl
    | succ i =>
      have hi : i < (memBytes m (a + 1) n).length := by simpa using h
      simpa [memBytes, Nat.add_assoc, Nat.add_comm 1 i] using ih hi

section
variable (d : Dev)

theorem Dev.memByte_setBytes (a : Nat) (bs : List Byte) (q : Nat) :
    memByte (d.setBytes a bs).mem q = if a ≤ q ∧ q < a + bs.length then bs.getD (q - a) 0 else memByte d.mem q :=
  memByte_memPutBytes d.mem a bs q

/-- Bytes that were written read back. -/
theorem Dev.bytes_setBytes (a : Nat) (bs : List Byte) : (d.setBytes a bs).bytes a bs.length = bs := by
  refine List.ext_getElem (by simp [Dev.bytes]) fun i _ hi => ?_
  have h := d.memByte_setBytes a bs (a + i)
  rw [if_pos (by omega), Nat.add_sub_cancel_left, List.getD_eq_getElem _ _ hi] at h
  simpa [Dev.bytes, getElem_memBytes] using h

theorem Dev.memLe_setMemLe (a n v : Nat) : (d.setMemLe a n v).memLe a n = v % 256 ^ n := by
  have h := d.bytes_setBytes a (leBytes n v)
  rw [length_leBytes] at h
  rw [Dev.memLe, Dev.setMemLe, h, leNat_leBytes]

@[simp] theorem Dev.memW_setMemW (a : Nat) (w : Word) : (d.setMemW a w).memW a = w := by
  rw [Dev.memW, Dev.setMemW, Dev.memLe_setMemLe]
  exact BitVec.eq_of_toNat_eq (by simpa using w.isLt)

theorem Dev.memByte_setMemW_inside (a : Nat) (w : Word) {i : Nat} (h : i < 4) :
    (memByte (d.setMemW a w).mem (a + i)).toNat = w.toNat / 256 ^ i % 256 := by
  rw [Dev.setMemW, Dev.setMemLe, Dev.memByte_setBytes, length_leBytes, if_pos (by omega), Nat.add_sub_cancel_left, toNat_getD_leBytes _ h]

theorem Dev.memByte_setMemW_outside (a : Nat) (w : Word) {q : Nat} (h : q < a ∨ a + 4 ≤ q) :
    memByte (d.setMemW a w).mem q = memByte d.mem q := by
  rw [Dev.setMemW, Dev.setMemLe, Dev.memByte_setBytes, length_leBytes, if_neg (by omega)]

/-! ### The window -/

variable {d}

/-- Outside RUNNING a word for a region is stored at once. -/
theorem Dev.storeWrite_stopped {off : Nat} {w : Word} (hr : d.regionAt off ≠ none) (h : d.running = false) :
    d.storeWrite off w = d.setMemW (memShared + off) w := by
  obtain ⟨r, hr⟩ := Option.ne_none_iff_exists'.1 hr
  simp [Dev.storeWrite, hr, h]

/-- A chip that mirrors nothing takes the word itself and sends nothing. -/
theorem Dev.ssWrite_solo {port off : Nat} {w : Word} {c : Dev} (hc : c = d.perfEvent 0x22 1 { master := port, addr := off }) (hs : c.solo) :
    d.ssWrite port off w = c.storeWrite off w := by
  obtain ⟨hm, hl⟩ := hs
  have h : (c.role == 2 && c.pair.link) = false := by
    by_cases e : c.role = 2 <;> simp [e, hl]
  simp only [Dev.ssWrite, ← hc, hm, Bool.and_false, Bool.and_assoc, h]
  rfl

/-- Through an open port a write of the window reaches the store at the page's offset. -/
theorem Dev.busWrite_shared {port : Nat} (hp : d.portOpen port = true) (k : Fin 1048576) (w : Word) :
    d.busWrite port (sharedAddr k) w =
      (d.busCount port (sharedAddr k)).ssWrite port ((d.busCount port (sharedAddr k)).ssOffset port (sharedAddr k)) w := by
  have h4 : sharedAddr k % 4 = 0 := by simp only [sharedAddr]; omega
  have hc : coreSram port (sharedAddr k) = false := by
    have : ¬ memSram ≤ sharedAddr k := by simp only [memSram, sharedAddr]; omega
    simp [coreSram, this]
  have hr : inRegs (sharedAddr k) = false := decide_eq_false (by simp only [sharedAddr]; omega)
  have hs : inShared (sharedAddr k) = true := by
    have h1 : 0x800000 ≤ sharedAddr k := by simp only [sharedAddr]; omega
    have h2 : sharedAddr k < 0xC00000 := by simp only [sharedAddr]; omega
    simp [inShared, h1, h2]
  simp [Dev.busWrite, hp, h4, hc, hr, hs]

end

/-- Settles O53: the word goes to its four bytes of memory, and to nothing else. -/
theorem windowWordReadsBack : Obligations.WindowWordReadsBack := by
  unfold Obligations.WindowWordReadsBack
  intro s p k w c off hc hs ho hso hr hst
  refine ⟨c.setMemW (memShared + off) w, ?_, c.memW_setMemW _ w, fun i hi => c.memByte_setMemW_inside _ w hi,
    fun a ha => c.memByte_setMemW_outside _ w ha, rfl⟩
  rw [State.counted] at hc ho
  rw [exec_sharedStoreWrite, State.after_access _ hs.1, Dev.busWrite_shared hs.2, ← ho, Dev.ssWrite_solo hc hso, Dev.storeWrite_stopped hr hst]

end Sys2Proof.Machine
end

section
/-! A CHIP reset takes a LOCKED servo out of LOCKED, and the event that this raises enters its ring, which lies in memory. -/

namespace Sys2Proof.Machine

/-- Time base 0 is LOCKED, and ring 88, which FLT_CFG.EVR names for events, is enabled. -/
def lockedWithEventRing : Dev :=
  ((({} : Dev).put TIME_TB_STAT.STATE 2 0).put MGMT_RING_CFG.EN 1 24).put MGMT_RING_CFG.SIZE 5 24

/-- The reset writes the record of TIME.UNLOCK at the base of the ring; its length comes first and is not 0. -/
theorem chipReset_writes_eventRing :
    memByte lockedWithEventRing.mem memSram = 0 ∧ memByte (lockedWithEventRing.chipReset none).mem memSram ≠ 0 := by
  decide +kernel

/-- Refutes O59: a CHIP reset does not leave every byte of memory, as it raises TIME.UNLOCK before it returns the registers. -/
theorem not_resetsLeaveMemoryAndTap : ¬ Obligations.ResetsLeaveMemoryAndTap := by
  unfold Obligations.ResetsLeaveMemoryAndTap
  rintro ⟨_, hmem, _⟩
  obtain ⟨h0, h1⟩ := chipReset_writes_eventRing
  obtain ⟨hm, _⟩ := hmem lockedWithEventRing none
  rw [hm] at h1
  exact h1 h0

end Sys2Proof.Machine
end

section
/-! Starting and stopping the block cycle (R13 to R19), and the test port (R408 to R413). -/

namespace Sys2Proof.Machine

/-! ### What a typed write leaves -/

/-- A part of the device that no write of a register's word reaches is left by a typed write. -/
theorem Dev.store_frame {α : Type} (g : Dev → α) {d : Dev} {r : Reg} {i j : Nat} (h : ∀ v, g (d.wr r v i j) = g d) (w : Word) :
    g (d.store r w i j) = g d := by
  obtain e | ⟨v, e⟩ := d.store_eq_self_or_wr r w i j
  · rw [e]
  · rw [e, h]

@[simp] theorem Dev.cyc_store (d : Dev) (r : Reg) (w : Word) (i j : Nat) : (d.store r w i j).cyc = d.cyc :=
  Dev.store_frame Dev.cyc (fun _ => rfl) w

theorem Dev.is_store_apart_zero {d : Dev} {r : Reg} {g : FRef} (w : Word) (h : (⟨r, 0, 0⟩ : FRef).apart g 1 1 = true) :
    (d.store r w).is g = d.is g := by
  rw [Dev.is, d.get_store_apart_zero w h, Dev.is]

/-! ### The block cycle -/

section

variable {d : Dev}

theorem Dev.cycleArm_unsynchronised (hs : d.get SYS_BLK_STATUS.STATE = 1) (hl : d.is RCU_LOOP_STAT.LOCK (d.get SYS_BLK_CFG.LOOP) = true)
    (hw : d.is SYS_BLK_CTRL.WAIT_SYNC = false) : d.cycleArm = d.armCycle := by
  simp [Dev.cycleArm, hs, hl, hw]

theorem Dev.realign_of_running (hs : d.get SYS_BLK_STATUS.STATE = 4) (ha : d.is SYS_SWAP_CTRL.ARM = false)
    (hr : d.is SYS_SWAP_STATUS.RESTARTING = false) :
    d.realign = ({ (d.put SYS_BLK_STATUS.STATE 5).pseudoFrom with cyc := { d.cyc with realign := true } }).pairCycleStop.perfBoundary := by
  simp [Dev.realign, Dev.running, hs, ha, hr]

theorem Dev.regWrite_blkCtrl (port : Nat) (w : Word) : d.regWrite port SYS_BLK_CTRL 0 0 w none = d.blkCtrlWrite w := rfl

end

/-- Settles O13: the clauses name the branches of the cycle's operations; a write of SYS_BLK_CTRL leaves the registers REALIGN looks at. -/
theorem cycleCommandsComplete : Obligations.CycleCommandsComplete := by
  unfold Obligations.CycleCommandsComplete
  refine ⟨?arm, ?timeout, ?realign, ?stop⟩
  case arm =>
    intro s dt d hd ha hs hl hw
    rw [exec_blockCycleArm, State.after_event _ ha, ← hd, Dev.cycleArm_unsynchronised hs hl hw]
  case timeout =>
    intro s dt d hd ha hs ht hr
    rw [exec_syncTimeout, State.after_event _ ha, ← hd, Dev.syncTimeout, if_pos ⟨hs, ht, hr⟩]
  case realign =>
    intro s p w c hc hs h1 hst harm hre
    have hst' := (c.get_store_apart_zero (r := SYS_BLK_CTRL) (g := SYS_BLK_STATUS.STATE) w (by decide)).trans hst
    have harm' := (Dev.is_store_apart_zero (d := c) (r := SYS_BLK_CTRL) (g := SYS_SWAP_CTRL.ARM) w (by decide)).trans harm
    have hre' := (Dev.is_store_apart_zero (d := c) (r := SYS_BLK_CTRL) (g := SYS_SWAP_STATUS.RESTARTING) w (by decide)).trans hre
    rw [exec_blockRealign, State.after_write hs (b := 0) (by decide) Nat.one_pos Nat.one_pos (by decide), ← hc, Dev.regWrite_blkCtrl,
      Dev.blkCtrlWrite, if_pos h1, Dev.realign_of_running hst' harm' hre', Dev.cyc_store]
  case stop =>
    intro s dt d hd ha hs hr hf
    rw [exec_realignStop, State.after_event _ ha, ← hd, Dev.realignStop, if_pos ⟨hs, hr, hf⟩]

/-! ### The test port -/

section

variable {d : Dev}

theorem Dev.tapObserve_of_released (h : d.pwr.por = false) (code dr dreg latch : Nat) :
    d.tapObserve code dr dreg latch =
      { d.emit (.tdo 8 1) with test := { d.test with ir := code, dr := dr, dreg := dreg, latch := latch, drive := false } } := by
  simp [Dev.tapObserve, Dev.tapLoad, h]

theorem Dev.tapObserve_held (h : d.pwr.por = true) (code dr dreg latch : Nat) : d.tapObserve code dr dreg latch = d := by
  simp [Dev.tapObserve, Dev.tapLoad, h]

theorem Dev.tapSample_of_released {e : Dev} {pins shifted : Nat} (h : d.pwr.por = false)
    (he : e = { d.emit (.tdo 8 1) with
      test := { d.test with ir := 2, dr := 2, dreg := pins % 2 ^ 612, latch := shifted % 2 ^ 612, drive := false } }) :
    d.tapSample pins shifted = e.emit (.tdo 612 (pins % 2 ^ 612)) := by
  have hp : e.pwr = d.pwr := by rw [he]; rfl
  rw [Dev.tapSample, Dev.tapObserve_of_released h, ← he, Dev.bsrOut, hp, h, if_neg Bool.false_ne_true]

theorem Dev.tapMay_of (h : d.ftm = true ∨ d.noImage = true) : d.tapMay = true := by simpa [Dev.tapMay] using h

theorem Dev.tapMay_of_not (h : d.ftm = false) (hi : d.noImage = false) : d.tapMay = false := by simp [Dev.tapMay, h, hi]

theorem Dev.tapDrive_of_may (h : d.pwr.por = false) (hm : d.tapMay = true) (code dr dreg latch : Nat) :
    d.tapDrive code dr dreg latch =
      { d.emit (.tdo 8 1) with test := { d.test with ir := code, dr := dr, dreg := dreg, latch := latch, drive := true } } := by
  simp [Dev.tapDrive, Dev.tapLoad, h, hm]

theorem Dev.tapDrive_held (h : d.pwr.por = true) (code dr dreg latch : Nat) : d.tapDrive code dr dreg latch = d := by
  simp [Dev.tapDrive, h]

theorem Dev.tapExtest_held (h : d.pwr.por = true) (code pins : Nat) (shifted : Option Nat) : d.tapExtest code pins shifted = d := by
  simp [Dev.tapExtest, Dev.tapDrive_held h, Dev.bsrOut, h]

/-- A driving instruction that may not take the balls is BYPASS, and JREF says so. -/
theorem Dev.tapDrive_refused {e : Dev} {code : Nat} (h : d.pwr.por = false) (hm : d.tapMay = false)
    (he : e = { d.emit (.tdo 8 1) with test := { d.test with ir := code, dr := 0, dreg := 0, drive := false } }) (dr dreg latch : Nat) :
    d.tapDrive code dr dreg latch = e.put TEST_STAT.JREF 1 := by
  rw [Dev.tapDrive, h, if_neg Bool.false_ne_true, hm, if_neg Bool.false_ne_true, Dev.tapToBypass, Dev.tapObserve_of_released h, he]

theorem Dev.tapExtest_scanned {e : Dev} {code pins shifted : Nat} (h : d.pwr.por = false) (hm : d.tapMay = true)
    (he : e = { d.emit (.tdo 8 1) with
      test := { d.test with ir := code, dr := 2, dreg := pins % 2 ^ 612, latch := shifted % 2 ^ 612, drive := true } }) :
    d.tapExtest code pins (some shifted) = e.emit (.tdo 612 (pins % 2 ^ 612)) := by
  have hp : e.pwr = d.pwr := by rw [he]; rfl
  have hd := Dev.tapDrive_of_may h hm code 2 (pins % 2 ^ 612) (shifted % 2 ^ 612)
  rw [← he] at hd
  simp [-Nat.reducePow, Dev.tapExtest, hm, hd, Dev.bsrOut, hp, h]

theorem Dev.tapExtest_preload {code pins : Nat} (h : d.pwr.por = false) (hm : d.tapMay = true) :
    d.tapExtest code pins none =
      { d.emit (.tdo 8 1) with test := { d.test with ir := code, dr := 2, dreg := pins % 2 ^ 612, drive := true } } := by
  simp [-Nat.reducePow, Dev.tapExtest, Dev.tapDrive_of_may h hm]

theorem Dev.tapExtest_refused {e : Dev} {code : Nat} (pins : Nat) (shifted : Option Nat) (h : d.pwr.por = false) (hm : d.tapMay = false)
    (he : e = { d.emit (.tdo 8 1) with test := { d.test with ir := code, dr := 0, dreg := 0, drive := false } }) :
    d.tapExtest code pins shifted = e.put TEST_STAT.JREF 1 := by
  simp [Dev.tapExtest, hm, Dev.tapDrive_refused h hm he]

theorem Dev.tapBypass_of_le {code : Nat} (h : 7 ≤ code) : d.tapBypass code = d.tapObserve code 0 0 d.test.latch := by
  rw [Dev.tapBypass, if_neg (by omega), Dev.tapToBypass]

theorem Dev.tapBypass_held (h : d.pwr.por = true) (code : Nat) : d.tapBypass code = d := by
  rw [Dev.tapBypass, Dev.tapToBypass, Dev.tapObserve_held h, ite_self]

theorem Dev.regWrite_ftm (port : Nat) (w : Word) : d.regWrite port TEST_FTM 0 0 w none = d.ftmKey (fget w 15 0) := rfl

theorem Dev.regWrite_atbCfg (port i : Nat) (w : Word) : d.regWrite port TEST_ATB_CFG i 0 w none = d.atbWrite i w := rfl

theorem Dev.ftmKey_first (ht : d.is TEST_STAT.TESTEN = true) (hk : d.test.key = none) :
    d.ftmKey 0x5E7A = { d with test := { d.test with key := some d.tclk } } := by
  simp [Dev.ftmKey, ht, hk]

theorem Dev.ftmKey_second {t : Nat} (ht : d.is TEST_STAT.TESTEN = true) (hk : d.test.key = some t) (hle : d.tclk ≤ t + 250000) :
    d.ftmKey 0xA1C3 = { d.ftmEnter with test := { d.ftmEnter.test with key := none } } := by
  simp [Dev.ftmKey, ht, hk, hle]

theorem Dev.ftmKey_untestable {e : Dev} {key : Nat} (ht : d.is TEST_STAT.TESTEN = false) (he : e = d.put TEST_STAT.KEYERR 1) :
    d.ftmKey key = { e with test := { e.test with key := none } } := by
  subst he
  exact if_pos (by rw [ht]; rfl)

end

/-- Settles O38: the instructions by their tap operation, released and held, allowed and refused; the keys by the step they reach. -/
theorem testCommandsComplete : Obligations.TestCommandsComplete := by
  unfold Obligations.TestCommandsComplete
  refine ⟨?first, ?second, ?untestable, ?reset, ?idcode, ?bypass, ?sample, ?scanned, ?preload, ?hold, ?refused, ?held, ?select, ?force⟩
  case first =>
    intro s p w c hc hs ht h1 hk
    rw [exec_ftmKey, State.after_write hs (b := 18) (by decide) Nat.one_pos Nat.one_pos (by decide), ← hc, Dev.regWrite_ftm, h1,
      Dev.ftmKey_first ht hk]
  case second =>
    intro s p w t c hc hs ht h1 hk hle
    rw [exec_ftmKey, State.after_write hs (b := 18) (by decide) Nat.one_pos Nat.one_pos (by decide), ← hc, Dev.regWrite_ftm, h1,
      Dev.ftmKey_second ht hk hle]
  case untestable =>
    intro s p w c e hc hs ht he
    rw [exec_ftmKey, State.after_write hs (b := 18) (by decide) Nat.one_pos Nat.one_pos (by decide), ← hc, Dev.regWrite_ftm,
      Dev.ftmKey_untestable ht he]
  case reset =>
    intro s dt d hd
    rw [exec_tapReset, State.after_pin, ← hd, Dev.tapReset]
  case idcode =>
    intro s dt d hd h
    rw [exec_idcode, State.after_pin, ← hd, Dev.tapIdcode, Dev.tapObserve_of_released h]
  case bypass =>
    intro s dt code d hd h h7
    rw [exec_bypass, State.after_pin, ← hd, Dev.tapBypass_of_le h7, Dev.tapObserve_of_released h]
  case sample =>
    intro s dt pins shifted d e hd h he
    rw [exec_samplePreload, State.after_pin, ← hd, Dev.tapSample_of_released h he]
  case scanned =>
    intro s dt pins shifted code d e hd h hm i hi hcode he
    have ht := Dev.tapExtest_scanned h (Dev.tapMay_of hm) he
    simp only [List.mem_cons, List.not_mem_nil, or_false] at hi
    rcases hi with rfl | rfl | rfl <;> subst hcode
    · rw [exec_extest, State.after_pin, ← hd, ht]
    · rw [exec_extestPulse, State.after_pin, ← hd, ht]
    · rw [exec_extestTrain, State.after_pin, ← hd, ht]
  case preload =>
    intro s dt pins code d hd h hm i hi hcode
    have ht := Dev.tapExtest_preload (code := code) (pins := pins) h (Dev.tapMay_of hm)
    simp only [List.mem_cons, List.not_mem_nil, or_false] at hi
    rcases hi with rfl | rfl | rfl <;> subst hcode
    · rw [exec_extest, State.after_pin, ← hd, ht]
    · rw [exec_extestPulse, State.after_pin, ← hd, ht]
    · rw [exec_extestTrain, State.after_pin, ← hd, ht]
  case hold =>
    intro s dt code d hd h hm i hi hcode
    have ht := Dev.tapDrive_of_may h (Dev.tapMay_of hm) code 0 0 d.test.latch
    simp only [List.mem_cons, List.not_mem_nil, or_false] at hi
    rcases hi with rfl | rfl <;> subst hcode
    · rw [exec_highz, State.after_pin, ← hd, Dev.tapHold, ht]
    · rw [exec_clamp, State.after_pin, ← hd, Dev.tapHold, ht]
  case refused =>
    intro s dt pins code shifted d e hd h hf hni i hi hcode he
    have hm := Dev.tapMay_of_not hf hni
    have ht := Dev.tapExtest_refused pins shifted h hm he
    have hh := Dev.tapDrive_refused h hm he 0 0 d.test.latch
    simp only [List.mem_cons, List.not_mem_nil, or_false] at hi
    rcases hi with rfl | rfl | rfl | rfl | rfl <;> subst hcode
    · rw [exec_extest, State.after_pin, ← hd, ht]
    · rw [exec_extestPulse, State.after_pin, ← hd, ht]
    · rw [exec_extestTrain, State.after_pin, ← hd, ht]
    · rw [exec_highz, State.after_pin, ← hd, Dev.tapHold, hh]
    · rw [exec_clamp, State.after_pin, ← hd, Dev.tapHold, hh]
  case held =>
    intro s dt pins n shifted code d hd h i hi
    simp only [List.mem_cons, List.not_mem_nil, or_false] at hi
    rcases hi with rfl | rfl | rfl | rfl | rfl | rfl | rfl | rfl
    · rw [exec_extest, State.after_pin, ← hd, Dev.tapExtest_held h]
    · rw [exec_idcode, State.after_pin, ← hd, Dev.tapIdcode, Dev.tapObserve_held h]
    · rw [exec_samplePreload, State.after_pin, ← hd, Dev.tapSample, Dev.tapObserve_held h, Dev.bsrOut, if_pos h]
    · rw [exec_extestPulse, State.after_pin, ← hd, Dev.tapExtest_held h]
    · rw [exec_extestTrain, State.after_pin, ← hd, Dev.tapExtest_held h]
    · rw [exec_highz, State.after_pin, ← hd, Dev.tapHold, Dev.tapDrive_held h]
    · rw [exec_clamp, State.after_pin, ← hd, Dev.tapHold, Dev.tapDrive_held h]
    · rw [exec_bypass, State.after_pin, ← hd, Dev.tapBypass_held h]
  case select =>
    intro s p x w c hc hs h0
    rw [exec_atbSelect, State.after_write hs (b := 18) (by decide) x.isLt Nat.one_pos (by decide), ← hc, Dev.regWrite_atbCfg, Dev.atbWrite,
      if_neg (by simp [h0])]
  case force =>
    intro s p x w c hc hs h1
    rw [exec_atbForce, State.after_write hs (b := 18) (by decide) x.isLt Nat.one_pos (by decide), ← hc, Dev.regWrite_atbCfg, Dev.atbWrite]
    by_cases hf : c.ftm = true
    · rw [if_neg (by simp [hf]), if_pos hf]
    · rw [if_pos ⟨h1, Bool.eq_false_iff.2 hf⟩, if_neg hf]

end Sys2Proof.Machine
end

section
/-! Staging an image, arming its swap, and the silent end of a planned restart (R30 to R41). -/

namespace Sys2Proof.Machine

section

variable {d : Dev}

/-! ### Staging -/

theorem Dev.regWrite_stageCtrl (port : Nat) (w : Word) : d.regWrite port SYS_STAGE_CTRL 0 0 w none = d.stageWrite w := rfl

theorem Dev.stageWrite_start {w : Word} (h0 : fget w 0 0 = 1) (h1 : fget w 1 1 = 0) :
    d.stageWrite w = (d.store SYS_STAGE_CTRL w).stageStart := by
  simp [Dev.stageWrite, h0, h1]

theorem Dev.stageWrite_abort {w : Word} (h0 : fget w 0 0 = 0) (h1 : fget w 1 1 = 1) :
    d.stageWrite w = (d.store SYS_STAGE_CTRL w).stageAbort := by
  simp [Dev.stageWrite, h0, h1]

/-- Staging begins in the slot that does not run, at the flash directory or with the host's first chunk. -/
theorem Dev.stageStart_of_idle {a b : Dev} {k : Nat} {host : Bool} (hi : d.imageApplied = true) (hk : k = d.otherSlot)
    (hs : d.slotState k ≠ 1) (ha : a = (d.discardStaged k).setSlotState k 1) (hh : host = a.is SYS_STAGE_CTRL.SRC)
    (hb : b = a.setBoot { a.boot with
      staging := true, host := host, slot := k, img := [], chunk := none, arrived := false, gap := false,
      order := [a.get SYS_STAGE_CTRL.FLASH_SLOT], step := if host then 5 else 1 }) :
    d.stageStart = if host = true then b else b.readDirectory := by
  subst hb hh ha hk
  exact if_neg (by simp [hi, hs])

theorem Dev.stageAbort_of_staging {a : Dev} (hs : d.slotState d.otherSlot = 1) (ha : a = d.discardStaged d.otherSlot) :
    d.stageAbort = a.setBoot { a.boot with staging := false, step := 0, img := [] } := by
  subst ha
  exact if_pos hs

/-- An image that fits is placed beside the running one. -/
theorem Dev.stagingComplete_fits {a b e : Dev} {im : List Byte} {k rb : Nat} {new rs : List Region} (hst : d.boot.step = 4)
    (hsg : d.boot.staging = true) (him : im = d.boot.img) (hk : k = d.boot.slot) (hrb : rb = d.get SYS_SLOT_STATUS.CODE_BANK d.runSlot)
    (hnew : new = (imgContent im 5).regions) (hrs : placeRegions d.thk.regions new [] = rs) (h2 : rb ≠ 2) (hbank : bankOf im 0 ≠ 2)
    (hfit : (d.thk.regions ++ new.filter (fun r => !carried d.thk.regions r)).foldl (fun n r => n + r.size) 0 ≤ 2 ^ 24)
    (ha : a = (d.loadCode im (1 - rb)).initRegions (rs.filter (fun r => !carried d.thk.regions r)))
    (hb : b = (((a.put SYS_SLOT_STATUS.REASON 0 k).put SYS_SLOT_STATUS.CODE_BANK (1 - rb) k).setSlotState k 2).setSlotImg k im)
    (he : e = b.setBoot { b.boot with staging := false, step := 0, img := [], regions := rs }) :
    d.stagingComplete = e.put SYS_SWAP_STATUS.HITLESS_OK (b2n (hitlessOk (e.slotImg e.runSlot) im)) := by
  subst he hb ha hrs hnew hrb hk him
  have hno : ¬ (_ ∨ _ ∨ _) := not_or.2 ⟨h2, not_or.2 ⟨hbank, Nat.not_lt.2 hfit⟩⟩
  exact (if_neg (not_or.2 ⟨not_not.2 hst, by simp [hsg]⟩)).trans (if_neg hno)

/-! ### Arming -/

theorem Dev.regWrite_swapCtrl (port : Nat) (w : Word) : d.regWrite port SYS_SWAP_CTRL 0 0 w none = d.swapCtrlWrite w none := rfl

theorem Dev.swapCtrlWrite_arm {w : Word} {e : Dev} (h0 : fget w 0 0 = 1) (h1 : fget w 1 1 = 0) (he : e = d.store SYS_SWAP_CTRL (fset w 0 0 0))
    (ha : e.is SYS_SWAP_CTRL.ARM = false) : d.swapCtrlWrite w none = e.swapArm := by
  simp [Dev.swapCtrlWrite, h0, h1, ← he, ha]

theorem Dev.swapCtrlWrite_disarm {w : Word} {e : Dev} (h0 : fget w 0 0 = 0) (h1 : fget w 1 1 = 1) (he : e = d.store SYS_SWAP_CTRL (fset w 0 0 0)) :
    d.swapCtrlWrite w none = e.swapDisarm := by
  simp [Dev.swapCtrlWrite, h0, h1, ← he]

theorem Dev.swapArm_eq : d.swapArm =
    if d.slotState d.otherSlot ≠ 2 then d.swapResult 3
    else if later32 (d.get SYS_SWAP_TARGET.BLOCK) (d.blk + 1) = false then d.swapResult 4
    else d.put SYS_SWAP_CTRL.ARM 1 := by
  simp only [Dev.swapArm, Bool.not_eq_true']

/-! ### The planned restart -/

/-- What a restart does to the links: those that the new image does not enable, or runs at another rate, leave ACTIVE. -/
theorem Dev.linkRestart_eq (o : Dev) : (fun l d => d.linkRestart o l) = fun l (x : Dev) =>
    if x.is HLK_CFG.EN l = false then x.linkToDisabled l
    else if x.get HLK_CFG.RATE l ≠ o.get HLK_CFG.RATE l ∧ x.lState l ≠ 0 then (x.linkToDisabled l).setLState l 1
    else x := by
  funext l x
  simp only [Dev.linkRestart, Bool.not_eq_true', Bool.and_eq_true, decide_eq_true_eq, bne_iff_ne]

theorem Dev.keepsFirmware_iff (im old : List Byte) :
    d.keepsFirmware im old = true ↔ imgSection im 1 = imgSection old 1 ∧ d.is MGMT_STAT.FWFAIL = false := by
  simp [Dev.keepsFirmware]

/-- The silent end of a restart: what stops, what is dropped, what the new image brings. -/
theorem Dev.restartSilent_due {k : Nat} {a b c e f x : Dev} {im old : List Byte} (hr : d.boot.restart = true)
    (hf : d.ranFor .fadeDown d.fadedNs = true) (hk : k = d.otherSlot) (him : im = d.slotImg k) (hold : old = d.slotImg d.runSlot)
    (ha : a = ((forN 4 (fun g d => if d.gState g = 0 ∨ d.gState g = 6 then d else d.groupDown g 0) d).cycleStop.dropImageFields).dropSections
      old im false)
    (hb : b = a.initRegions (d.boot.regions.filter (fun r => !carried d.thk.regions r)))
    (hx : x = b.applyImage im (b.get SYS_SLOT_STATUS.CODE_BANK k) d.boot.regions)
    (hc : c = ((x.pcommitKeep (d.boot.regions.filter (carried d.thk.regions))).rcuRestart d (imgView old)).alnRestart d)
    (he : e = (forN 8 (fun l x => x.linkRestart d l) c).exchange d.thk.regions) (hfb : f = e.setBoot { e.boot with restart := false }) :
    d.restartSilent = ((if d.keepsFirmware im old then f else f.addDue .mgmt).put SYS_BLK_STATUS.STATE 1).pairStart := by
  subst hfb he hc hx hb ha hold him hk
  exact if_neg (by simp [hr, hf])

end

/-- Settles O37: each command reaches the branch its hypotheses select; the restart's stages are those of the model in their order. -/
theorem swapCommandsComplete : Obligations.SwapCommandsComplete := by
  unfold Obligations.SwapCommandsComplete
  refine ⟨?start, ?abort, ?complete, ?arm, ?disarm, ?silent⟩
  case start =>
    intro s p w c e a b k host hc hs h0 h1 he hi hk hst ha hh hb
    rw [exec_stageStart, State.after_write hs (b := 0) (by decide) Nat.one_pos Nat.one_pos (by decide), ← hc, Dev.regWrite_stageCtrl,
      Dev.stageWrite_start h0 h1, ← he, Dev.stageStart_of_idle hi hk hst ha hh hb]
  case abort =>
    intro s p w c e a hc hs h0 h1 he hst ha
    rw [exec_stageAbort, State.after_write hs (b := 0) (by decide) Nat.one_pos Nat.one_pos (by decide), ← hc, Dev.regWrite_stageCtrl,
      Dev.stageWrite_abort h0 h1, ← he, Dev.stageAbort_of_staging hst ha]
  case complete =>
    intro s dt d a b im k rb new rs hd haw hst hsg him hk hrb hnew hrs h2 hbank hfit ha hb
    rw [exec_stagingComplete, State.after_event _ haw, ← hd, Dev.stagingComplete_fits hst hsg him hk hrb hnew hrs h2 hbank hfit ha hb rfl]
  case arm =>
    intro s p w c e hc hs hso h0 h1 he ha
    rw [hc] at hso
    rw [exec_swapArm, State.after_write_solo hs (b := 0) (by decide) Nat.one_pos Nat.one_pos hso, ← hc, Dev.regWrite_swapCtrl,
      Dev.swapCtrlWrite_arm h0 h1 he ha, Dev.swapArm_eq]
  case disarm =>
    intro s p w c e hc hs hso h0 h1 he ha
    rw [hc] at hso
    rw [exec_swapDisarm, State.after_write_solo hs (b := 0) (by decide) Nat.one_pos Nat.one_pos hso, ← hc, Dev.regWrite_swapCtrl,
      Dev.swapCtrlWrite_disarm h0 h1 he, Dev.swapDisarm, if_pos ha]
  case silent =>
    intro s dt k d a b c e f x im old hd haw hr hf hk him hold ha hb hx hc he hfb
    rw [← Dev.linkRestart_eq] at he
    rw [exec_restartSilent, State.after_event _ haw, ← hd, Dev.restartSilent_due hr hf hk him hold ha hb hx hc he hfb]
    simp only [Dev.keepsFirmware_iff]

end Sys2Proof.Machine
end

section
/-! The stages of a block, in their order (R20 to R29). -/

namespace Sys2Proof.Machine

section

variable {d : Dev}

/-- The boundary of a RUNNING cycle that comes in its time: the number and the seal before what waits for the boundary. -/
theorem Dev.boundary_running {sub : Nat} {sense : List (Nat × List Int)} {o a b c e : Dev} (hs : d.get SYS_BLK_STATUS.STATE = 4)
    (hsoon : d.tooSoon = false) (hoff : d.offTb = false) (ho : o = d.newPeriod.put SYS_BLK_COUNT.COUNT ((d.cyc.k + 1) % 2 ^ 32))
    (ha : a = ({ o with cyc := { o.cyc with
      k := d.cyc.k + 1, at16 := o.now16 + sub, mclk := o.cyc.mclk + o.blockMclk, tick := o.tclk, fresh := false } }).captureEvent 28 true sub)
    (hb : b = ((a.seal d.cyc.k sense).paceRate).phaseCheck (d.cyc.k + 1) (a.now16 + sub))
    (hc : c = ((((b.swapBoundary ((d.cyc.k + 1) % 2 ^ 32)).realignFade).resyncTurn ((d.cyc.k + 1) % 2 ^ 32)).pcommitTurn
      ((d.cyc.k + 1) % 2 ^ 32)))
    (he : e = ((((((c.xptTurn ((d.cyc.k + 1) % 2 ^ 32)).psmAdoptAll).psmBoundary false).rsvApply).revert.pairBoundaryRole
      ((d.cyc.k + 1) % 2 ^ 32)).sendTurn (d.cyc.k + 1)).perfBoundary) :
    d.boundary sub sense = (if e.running = true then e.loadLatch else e).perfEvent 0x10 1 := by
  have hr : d.running = true := by simp [Dev.running, hs]
  have hcyc : d.cycling = true := by simp [Dev.cycling, hs]
  subst he hc hb ha ho
  unfold Dev.boundary
  rw [if_neg (by simp [hcyc, hsoon])]
  extract_lets n k b d1 d2
  have h1 : d1 = d := if_neg (by simp [hoff])
  have h2 : d2 = d.newPeriod := (congrArg (fun x : Dev => if x.running then x.newPeriod else x) h1).trans (if_pos hr)
  clear_value d2
  subst h2
  rfl

/-- A sealed block of a graph with jobs: the counters are loaded, and the jobs that nothing precedes are ready. -/
theorem Dev.sealComplete_jobs {e : Dev} {n : Nat} (hs : d.thk.stage = 1) (hr : d.inReset 12 = false) (hj : d.thk.jobs ≠ [])
    (hn : n = (d.get SYS_BLK_COUNT.COUNT + 2 ^ 32 - 1) % 2 ^ 32)
    (he : e = { d with
      thk := { d.thk with
        inst := some n, stage := 2, killed := false,
        cnt := (d.thk.jobs.mapIdx (fun i j => (i, j.preds + b2n j.xin))).filter (fun kv => kv.2 != 0),
        fate := [], doneAt := [], taint := [], fin := none, owner := [], deque := [] },
      aud := { d.aud with build := [] } }) :
    d.sealComplete = (List.range d.thk.jobs.length).foldl (fun d j => if tabGet 0 d.thk.cnt j = 0 then d.pushJob j else d) e := by
  have hempty : d.thk.jobs.isEmpty = false := by simpa using hj
  have hblk : d.inReset THK_STATUS.blk = false := hr
  unfold Dev.sealComplete
  rw [if_neg (by simp [hs])]
  extract_lets n killed cnt x y d1 z d2
  have hk : killed = false := hblk
  clear_value killed
  subst hk
  have hfin : (if d1.thk.jobs.isEmpty = true then some d1.pace else none) = none := if_neg (ne_true_of_eq_false hempty)
  have h2 : d2 = d1 := by simp only [d2, z, hfin]; rfl
  clear_value d2
  subst h2
  rw [he, hn]
  rfl

/-- The deadline of a block whose jobs all ended well. -/
theorem Dev.deadline_plain {e : Dev} (hi : d.thk.inst ≠ none) (he : e = d.thkDeadline.2) (hq : d.thkDeadline.1 = none)
    (hj : (List.range d.thk.jobs.length).all (fun j => !decide (3 ≤ e.fate j) && !e.thk.taint.contains j) = true)
    (ho : e.is THK_SLACK.OVR = false) (hy : e.pair.resyncing = false) : d.deadline = e.pairStaged := by
  have hi' : ¬ d.thk.inst.isNone = true := by simpa using hi
  have hbad : (List.range d.thk.jobs.length).any (fun j => decide (3 ≤ e.fate j) || e.thk.taint.contains j) = false := by
    rw [List.any_eq_false]
    intro j hmem
    simpa using List.all_eq_true.1 hj j hmem
  suffices hf : ∀ f, f = Dev.deadline → f d = e.pairStaged from hf _ rfl
  obtain ⟨g, hg⟩ : ∃ g, g = Dev.thkDeadline := ⟨_, rfl⟩
  rw [← hg] at he hq
  have hp : g d = (none, e) := by rw [he, ← hq]
  delta Dev.deadline
  rw [← hg]
  rintro _ rfl
  simp only [if_neg hi', hp, hbad, ho, hy, Bool.false_and, Bool.false_eq_true, if_false]

end

/-- Settles O14: the boundary, the seal's end, the pass and the deadline, each by the branch that its hypotheses select. -/
theorem blockStagesComplete : Obligations.BlockStagesComplete := by
  unfold Obligations.BlockStagesComplete
  refine ⟨?boundary, ?sealed, ?pass, ?deadline⟩
  case boundary =>
    intro s dt sub sense d o a b c e hd haw hs hsoon hoff ho ha hb hc he
    have hm : o.cyc = d.cyc := by rw [ho, Dev.put_cyc]; rfl
    rw [← hm] at ha
    rw [exec_blockBoundary, State.after_event _ haw, ← hd, Dev.boundary_running hs hsoon hoff ho (by rw [ha, hm]) hb hc he]
  case sealed =>
    intro s dt n d e hd haw hs hr hj hn he
    rw [exec_sealComplete, State.after_event _ haw, ← hd, Dev.sealComplete_jobs hs hr hj hn he]
  case pass =>
    intro s dt d hd haw hs
    rw [exec_xptPassDone, State.after_event _ haw, ← hd, Dev.passDone, if_pos hs]
  case deadline =>
    intro s dt d e hd haw hi he hq hj ho hy
    rw [exec_deadline, State.after_event _ haw, ← hd, Dev.deadline_plain hi he hq hj ho hy]

end Sys2Proof.Machine
end

section
/-! A write of the low word of a counter that counts no event any more: where it has counted one at the same pace tick, the model leaves
free whether the write loses that count, and draws for it. -/

namespace Sys2Proof.Machine

section

variable {d : Dev}

theorem Dev.inReset_sansCounts (b : Nat) : d.sansCounts.inReset b = d.inReset b := rfl

@[simp] theorem Dev.sansCounts_busCountBut (port a i : Nat) : (d.busCountBut port a i).sansCounts = d.sansCounts :=
  forN_sansCounts d 32 fun k d => by simp

theorem Dev.inReset_busCountBut (port a i b : Nat) : (d.busCountBut port a i).inReset b = d.inReset b := by
  rw [← Dev.inReset_sansCounts, Dev.sansCounts_busCountBut, Dev.inReset_sansCounts]

theorem Dev.regWrite_cntLo (h : d.inReset 16 = false) (port i : Nat) (w : Word) :
    d.regWrite port PERF_CNT_LO i 0 w none = d.cntLoWrite port i w := by
  have hp : d.regWrite port PERF_CNT_LO i 0 w none = d.perfWrite PERF_CNT_LO i 0 port w := rfl
  rw [hp, Dev.perfWrite, if_neg (by rw [show PERF_CNT_LO.blk = 16 from rfl, h]; decide), if_pos (by decide)]

/-- Where a counter counts no accesses, the write of its low word finds it as the other counters' accesses leave it. -/
theorem Dev.busWrite_cntLo {port : Nat} (hp : d.portOpen port = true) (i : Fin 32) (w : Word) (hr : d.inReset 16 = false)
    (he : d.get PERF_CNT_CFG.EVENT i = 0) :
    d.busWrite port (PERF_CNT_LO.addr i 0) w = (d.busCountBut port (PERF_CNT_LO.addr i 0) i).cntLoWrite port i w := by
  have hr' := (d.inReset_busCountBut port (PERF_CNT_LO.addr i 0) i 16).trans hr
  have hcount : d.busCounts port (PERF_CNT_LO.addr i 0) i = false := by simp [Dev.busCounts, he]
  rw [Dev.busWrite_reg d hp (by decide : PERF_CNT_LO ∈ regsOfBlock 16) i.isLt Nat.one_pos, Dev.regAccess,
    if_pos (by rw [show PERF_CNT_LO.blk = 16 from rfl, hr]; decide), hcount, if_neg Bool.false_ne_true,
    Dev.regFront_plain _ _ _ _ _ (by decide), Dev.regWrite_cntLo hr']

/-- A counter that was advanced at this pace tick by an event of its own may lose it to the write: that is drawn. -/
theorem Dev.tickLost_of_counted {i : Nat} (ho : d.cntOn i = true) (h : d.get PERF_CNT_CFG.EVENT i = 0)
    (ht : tabGet 0 d.perf.incAt i = d.pace + 1) : d.tickLost i = ((d.perfUpTo 1).1 == 1, (d.perfUpTo 1).2) := by
  simp only [Dev.tickLost, ho, h, ht]
  rw [if_neg (by decide), if_neg (by decide), if_pos (beq_self_eq_true _)]

/-- What a write of 0 leaves of a counter with nothing staged that was just advanced, with that count lost or not. -/
def Dev.zeroedCounter (d : Dev) (i : Nat) (lost : Bool) : Dev :=
  let d := (d.perfUpTo 1).2
  let d := if lost then d.put PERF_CNT_AUX.WRLOST 1 i else d
  ({ d with perf := { d.perf with cnt := tabPut 0 d.perf.cnt i 0 } }).setCntPort i {}

theorem Dev.cntLoWrite_of_counted {port i : Nat} (ho : d.cntOn i = true) (h : d.get PERF_CNT_CFG.EVENT i = 0)
    (ht : tabGet 0 d.perf.incAt i = d.pace + 1) (hp : d.cntPort i = {}) : ∃ lost, d.cntLoWrite port i 0 = d.zeroedCounter i lost := by
  refine ⟨(d.perfUpTo 1).1 == 1, ?_⟩
  simp only [Dev.cntLoWrite, Dev.tickLost_of_counted ho h ht, hp, ite_self]
  rfl

end

/-- The draws of the counters that the device of a next state has made. -/
def perfDraws : Host.Outcome State Fault Refusal → Nat
  | .next t => t.dev.perf.free
  | _ => 0

/-- Counter 0 is enabled, names no event, and was last advanced at the present pace tick. -/
def justCountedState : State := { dev := { State.reset.dev with perf := { effEn := [(0, 1)], incAt := [(0, 1)] } } }

/-- What the count of the core's access leaves. -/
def justCountedFound : Dev := justCountedState.dev.busCountBut 64 (PERF_CNT_LO.addr 0 0) 0

/-- What the statement gives after the core's write of 0. -/
def justCountedWritten : Dev := { justCountedFound with perf := { justCountedFound.perf with cnt := tabPut 0 justCountedFound.perf.cnt 0 0 } }

theorem perfDraws_lost : ∀ lost, perfDraws (justCountedState.ends justCountedState.dev (justCountedFound.zeroedCounter 0 lost)) = 1 := by decide +kernel

theorem perfDraws_written : perfDraws (justCountedState.ends justCountedState.dev (justCountedWritten.setCntPort 0 {})) = 0 := by decide +kernel

/-- Refutes O15: a counter whose event is 0 may have been advanced at this pace tick, and then the write of its low word draws. -/
theorem not_counterCommandsComplete : ¬ Obligations.CounterCommandsComplete := by
  unfold Obligations.CounterCommandsComplete
  rintro ⟨_, _, hlo, _⟩
  have hserved : justCountedState.served .core := ⟨by decide +kernel, by decide +kernel⟩
  have hnone : justCountedState.dev.get PERF_CNT_CFG.EVENT 0 = 0 := by decide +kernel
  have hreset : justCountedFound.inReset 16 = false := by decide +kernel
  have hnone' : justCountedFound.get PERF_CNT_CFG.EVENT 0 = 0 := by decide +kernel
  have hport : {} = tabGet ({} : CntPort) justCountedFound.perf.cntPort 0 := by decide +kernel
  have h := hlo justCountedState .core 0 0 justCountedFound justCountedWritten {} 0 rfl hnone hserved hreset hnone' hport rfl rfl
  obtain ⟨lost, hl⟩ := Dev.cntLoWrite_of_counted (d := justCountedFound) (port := 64) (i := 0) (by decide +kernel) hnone'
    (by decide +kernel) hport.symm
  rw [exec_cntLoWrite, State.after_access _ hserved.1, Dev.busWrite_cntLo hserved.2 0 0 (by decide +kernel) hnone] at h
  have h0 := congrArg perfDraws ((congrArg (State.ends justCountedState justCountedState.dev) hl).symm.trans h)
  rw [perfDraws_lost] at h0
  exact Nat.one_ne_zero (h0.trans perfDraws_written)

end Sys2Proof.Machine
end

section
/-! The jobs of the sprigs (R51 to R62), and the supply (R341 to R352). -/

namespace Sys2Proof.Machine

section

variable {d : Dev}

/-! ### Jobs -/

theorem Dev.takeJob_head {m j : Nat} {q : List Nat} (hb : (d.sprig m).busy = false) (hr : d.inReset 12 = false) (hq : d.deque m = j :: q) :
    d.takeJob m = (d.setDeque m q).startJob m j false := by
  have hr' : d.inReset THK_STATUS.blk = false := hr
  simp [Dev.takeJob, hb, hr', hq]

theorem Dev.stealRetry_found {m k j : Nat} (hw : (d.sprig m).wait = true) (hb : (d.sprig m).busy = false) (hr : d.inReset 12 = false)
    (hi : d.stealInh m = false)
    (hf : (probePartners m).findSome? (fun q => (d.stealable (d.deque q)).map (fun j => (q, j))) = some (k, j))
    (hd : d.isDue .steal 100 m = true) : d.stealRetry m = (d.setDeque k ((d.deque k).filter (· != j))).startJob m j true := by
  have hr' : d.inReset THK_STATUS.blk = false := hr
  simp [Dev.stealRetry, Dev.probe, hw, hb, hr', hi, hf, hd]

theorem Dev.jobComplete_ended {m : Nat} {e : Dev} (hb : (d.sprig m).busy = true) (he : (d.sprig m).ended = true) (hi : d.thk.inst ≠ none)
    (hf : e = (d.spFlush m).setSprig m {}) :
    d.jobComplete m = ({ e with thk := { e.thk with doneAt := tabPut 0 e.thk.doneAt (d.sprig m).job (e.tclk + 1) } }).jobOver
      (d.sprig m).job 2 := by
  subst hf
  exact if_pos (by rw [hb, he, Option.isSome_iff_ne_none.2 hi]; rfl)

theorem Dev.regWrite_avsCfg (port : Nat) {w : Word} (h : bitOf w.toNat 31 = 1) :
    d.regWrite port THK_AVS_CFG 0 0 w none = (d.store THK_AVS_CFG w).avsRestart := by
  have hw : d.regWrite port THK_AVS_CFG 0 0 w none = d.thkWrite THK_AVS_CFG 0 0 w := rfl
  rw [hw]
  exact if_pos (by rw [h]; rfl)

theorem Dev.regWrite_pctrl (port : Nat) (w : Word) : d.regWrite port THK_PCTRL 0 0 w none = (d.store THK_PCTRL w).pcommitJudge w.toNat := by
  have hw : d.regWrite port THK_PCTRL 0 0 w none = d.thkWrite THK_PCTRL 0 0 w := rfl
  have hne : (THK_PCTRL == THK_AVS_CFG) = false := by decide
  rw [hw, Dev.thkWrite, if_neg (by rw [hne]; exact Bool.false_ne_true), if_pos (by decide)]

theorem Dev.pcommitJudge_arm {w : Nat} (h : bitOf w 0 = 1) :
    d.pcommitJudge w =
      if bitOf w 1 = 1 ∧ later32 (d.get THK_PCOMMIT.BLOCK) (d.get SYS_BLK_COUNT.COUNT) = false then { d with thk := { d.thk with late := true } }
      else d := by
  simp only [Dev.pcommitJudge, h, beq_self_eq_true, Bool.true_and, Bool.and_eq_true, beq_iff_eq, Bool.not_eq_true']

theorem sharedAddr_sub (k : Nat) : sharedAddr k - 0x800000 = 4 * k := by
  simp only [sharedAddr]; omega

theorem Dev.ssOffset_sharedAddr (port k : Nat) : d.ssOffset port (sharedAddr k) = d.ssPage port * 0x400000 + 4 * k := by
  unfold Dev.ssOffset
  rw [sharedAddr_sub]

end

/-- Settles O16: a job from the own deque, from a partner's, and its end; the window and the two registers by their writes. -/
theorem jobCommandsComplete : Obligations.JobCommandsComplete := by
  unfold Obligations.JobCommandsComplete
  refine ⟨?take, ?steal, ?complete, ?avs, ?window, ?arm⟩
  case take =>
    intro s dt j m q d hd haw hb hr hq
    rw [exec_sprigTakeJob, State.after_event _ haw, ← hd, Dev.takeJob_head hb hr hq]
  case steal =>
    intro s dt k j m d hd haw hw hb hr hi hf hdue
    rw [exec_stealRetry, State.after_event _ haw, ← hd, Dev.stealRetry_found hw hb hr hi hf hdue]
  case complete =>
    intro s dt m d hd haw hb he hi
    rw [exec_jobComplete, State.after_event _ haw, ← hd, Dev.jobComplete_ended hb he hi rfl]
  case avs =>
    intro s p w c hc hs h
    rw [exec_avsEnable, State.after_write hs (b := 12) (by decide) Nat.one_pos Nat.one_pos (by decide), ← hc, Dev.regWrite_avsCfg _ h]
  case window =>
    intro s p k w c off r hc hs ho hso hr hst
    rw [State.counted] at hc
    rw [exec_sharedStoreWrite, State.after_access _ hs.1, Dev.busWrite_shared hs.2, ← hc, Dev.ssOffset_sharedAddr, ← ho,
      Dev.ssWrite_solo rfl hso, Dev.storeWrite_stopped (by rw [hr]; exact Option.some_ne_none r) hst]
  case arm =>
    intro s p w c e hc hs hso h he
    rw [hc] at hso
    rw [exec_pcommitArm, State.after_write_solo hs (b := 12) (by decide) Nat.one_pos Nat.one_pos hso, ← hc, Dev.regWrite_pctrl, ← he,
      Dev.pcommitJudge_arm h]

section

variable {d : Dev}

/-! ### The supply -/

theorem Dev.vbusWarn_inactive {mv : Nat} {e : Dev} (hw : d.is PWR_STAT.WARN = false) (hmv : mv < d.warnMv)
    (he : e = (((d.putVbus mv).put PWR_STAT.WARN 1).inc PWR_DIP_STAT.DIPS).raise FS.PWR_VBUS_WARN) (ha : e.dipActive = false) :
    d.vbusWarn mv = e := by
  rw [Dev.vbusWarn, if_neg (by simp [hw, hmv]), ← he]
  exact if_pos (by rw [ha]; rfl)

theorem Dev.vbusRecover_dipped {mv : Nat} {e : Dev} (hw : d.is PWR_STAT.WARN = true) (hmv : d.warnMv + 1000 < mv)
    (he : e = (d.putVbus mv).put PWR_STAT.WARN 0) (hp : e.pwr.dip = 1) :
    d.vbusRecover mv = (e.dipGroups e.pwr.selected (fun g d => d.dipRestore g)).dipPut 2 := by
  rw [Dev.vbusRecover, if_neg (by simp [hw, hmv]), ← he]
  exact if_neg (not_not.2 hp)

theorem Dev.supervisorTrip_of_past {x : Sup} {v : Int} (hn : supNum x ∉ d.pwr.tripped) (ht : d.supTrips x v = true) :
    d.supervisorTrip x v =
      (({ d with pwr := { d.pwr with
        tripped := supNum x :: d.pwr.tripped, mustRaise := d.pwr.mustRaise || (x == Sup.vcoreUv && d.lowering) } }).supShow x v true).raise
        (supSource x) :=
  if_neg (by simp [hn, ht])

theorem Dev.supervisorClear_of_past {x : Sup} {v : Int} (hn : supNum x ∈ d.pwr.tripped) (ht : d.supClears x v = true) :
    d.supervisorClear x v = ({ d with pwr := { d.pwr with tripped := d.pwr.tripped.filter (· != supNum x) } }).supShow x v false :=
  if_neg (by simp [hn, ht])

theorem Dev.regWrite_vcore (port : Nat) (w : Word) (h : d.is THK_AVS_CFG.EN = false) :
    d.regWrite port PWR_VCORE 0 0 w none = d.store PWR_VCORE w := by
  have hw : d.regWrite port PWR_VCORE 0 0 w none = if d.is THK_AVS_CFG.EN = true then d else d.store PWR_VCORE w := rfl
  rw [hw, if_neg (ne_true_of_eq_false h)]

/-- A step upward that does not yet reach the target. -/
theorem Dev.vcoreStep_up (hv : d.pwr.vcore + 5 < d.vcoreTarget) (hd : d.isDue .vcore 10000 = true) :
    d.vcoreStep =
      (({ d with pwr := { d.pwr with vcore := d.pwr.vcore + 5 } }).put PWR_VCORE.MEAS (d.pwr.vcore + 5)).startTimer .vcore := by
  have h1 : d.pwr.vcore < d.vcoreTarget := by omega
  have h2 : min d.vcoreTarget (d.pwr.vcore + 5) = d.pwr.vcore + 5 := by omega
  simp only [Dev.vcoreStep, hd, h1, h2, if_true, Bool.not_true, Bool.false_eq_true, if_false, hv.ne, h1.ne]
  rfl

theorem Dev.dipRestoreDone_back {e : Dev} (hp : d.pwr.dip = 2) (hb : d.dipBack = true)
    (he : e = d.dipGroups d.pwr.selected (fun g d => d.setDip g {})) :
    d.dipRestoreDone = ({ e with pwr := { e.pwr with selected := 0 } }).dipPut 0 := by
  subst he
  exact if_neg (by simp [hp, hb])

end

/-- Settles O17: each clause names the branch of the supply's operation that its hypotheses select. -/
theorem supplyCommandsComplete : Obligations.SupplyCommandsComplete := by
  unfold Obligations.SupplyCommandsComplete
  refine ⟨?warn, ?recover, ?trip, ?set, ?step, ?restored, ?clear⟩
  case warn =>
    intro s dt mv d e hd haw hw hmv he ha
    rw [exec_vbusWarn, State.after_event _ haw, ← hd, Dev.vbusWarn_inactive hw hmv he ha]
  case recover =>
    intro s dt mv d e hd haw hw hmv he hp
    rw [exec_vbusRecover, State.after_event _ haw, ← hd, Dev.vbusRecover_dipped hw hmv he hp]
  case trip =>
    intro s dt x v d hd haw hn ht
    rw [exec_supervisorTrip, State.after_event _ haw, ← hd, Dev.supervisorTrip_of_past hn ht]
  case set =>
    intro s p w c hc hs h
    rw [exec_vcoreSetWrite, State.after_write hs (b := 1) (by decide) Nat.one_pos Nat.one_pos (by decide), ← hc, Dev.regWrite_vcore _ _ h]
  case step =>
    intro s dt d hd haw hv hdue
    rw [exec_vcoreSetStep, State.after_event _ haw, ← hd, Dev.vcoreStep_up hv hdue]
  case restored =>
    intro s dt d hd haw hp hb
    rw [exec_dipRestoreDone, State.after_event _ haw, ← hd, Dev.dipRestoreDone_back hp hb rfl]
  case clear =>
    intro s dt x v d hd haw hn ht
    rw [exec_supervisorClear, State.after_event _ haw, ← hd, Dev.supervisorClear_of_past hn ht]

end Sys2Proof.Machine
end

section
/-! Power-up and the resets at the pins (R353 to R360), and the management core with its PCIe endpoint (R361 to R375). -/

namespace Sys2Proof.Machine

section

variable {d : Dev}

/-! ### Power-up, POR and RESET_N -/

theorem Dev.powerUp_above {mv : Nat} (hp : d.pwr.por = true) (hs : d.pwr.step = 0) (hmv : 35000 < mv) :
    d.powerUp mv = ({ d with pwr := { d.pwr with step := 1 } }).startTimer .power :=
  if_pos (by simp [hp, hs, hmv])

theorem Dev.railTimeout_due (hp : d.pwr.por = true) (hs : d.pwr.step = 1) (hr : d.ranFor .power 10000000 = true) :
    d.railTimeout = (({ d with pwr := { d.pwr with step := 2 } }).startTimer .power).inc PWR_POR_CNT.RETRY :=
  if_pos (by simp [hp, hs, hr])

theorem Dev.powerUpRetry_due (hp : d.pwr.por = true) (hs : d.pwr.step = 2) (hr : d.ranFor .power 100000000 = true) :
    d.powerUpRetry = ({ d with pwr := { d.pwr with step := 1 } }).startTimer .power :=
  if_pos (by simp [hp, hs, hr])

theorem Dev.porRelease_good {testen : Bool} {e : Dev} (hp : d.pwr.por = true) (hs : d.pwr.step = 1)
    (he : e = (({ d with
      pwr := { d.pwr with por := false, step := 7 }, mgmt := { d.mgmt with wdogAt := d.tclk, wdogWas := d.tclk } }).pseudoFrom).put
        TEST_STAT.TESTEN (b2n testen)) :
    d.porRelease testen = if d.fuse.bad = true then e.raise FS.SYS_FUSE else e := by
  have hf : e.fuse = d.fuse := by rw [he, Dev.put_fuse]; rfl
  rw [← hf, he]
  exact if_pos (by simp [hp, hs])

/-- POR takes effect: what stays, and what every field besides goes back to. -/
theorem Dev.porAssert_below {mv : Nat} {e n : Dev} (hp : d.pwr.por = false) (hmv : mv < 32000)
    (he : e = (d.scenePor.graveTorn).setMemLe (graveHead + 4) 4 (d.scenePor.graveTorn.porCount + 1))
    (hn : n = { mem := e.mem.filter (fun c => isMram c.1), eccCor := e.eccCor.filter isMram, eccBad := e.eccBad.filter isMram,
                fuse := e.fuse, tclk := e.tclk, free := e.free, period := e.period + 1, out := e.out, rcu := e.rcuChipReset.rcu,
                resetN := e.resetN, pwr := {}, pair := { ownIn := e.pair.ownIn, liveIn := e.pair.liveIn },
                mgmt := { perstLow := e.mgmt.perstLow }, perf := { free := e.perf.free } }) :
    d.porAssert mv = (n.loadFixed.put PAIR_STAT.OWNIN (b2n e.pair.ownIn)).psfltKeep e := by
  subst hn he
  exact (if_neg (Nat.not_le.2 hmv)).trans (if_neg (ne_true_of_eq_false hp))

theorem Dev.porAssert_again {mv : Nat} (hp : d.pwr.por = true) (hmv : mv < 32000) :
    d.porAssert mv = { d with pwr := { d.pwr with step := 0 } } :=
  (if_neg (Nat.not_le.2 hmv)).trans (if_pos hp)

theorem Dev.resetPin_long {ns : Nat} (h : 10000 ≤ ns) : d.resetPin ns = { d.draw.2.chipReset none with resetN := false } :=
  (if_neg (by omega)).trans (if_pos (.inl h))

theorem Dev.resetPin_short {ns : Nat} (h : ns ≤ 1000) : d.resetPin ns = d :=
  if_pos h

end

/-- Settles O18: the steps of the power-up sequence, and what the supply and the pin make of the device, by their thresholds. -/
theorem powerCommandsComplete : Obligations.PowerCommandsComplete := by
  unfold Obligations.PowerCommandsComplete
  refine ⟨?up, ?rail, ?retry, ?release, ?assert, ?again, ?long, ?short⟩
  case up =>
    intro s dt mv d hd hp hs hmv
    rw [exec_powerUp, State.after_pin, ← hd, Dev.powerUp_above hp hs hmv]
  case rail =>
    intro s dt d hd hp hs hr
    rw [exec_railTimeout, State.after_pin, ← hd, Dev.railTimeout_due hp hs hr]
  case retry =>
    intro s dt d hd hp hs hr
    rw [exec_powerUpRetry, State.after_pin, ← hd, Dev.powerUpRetry_due hp hs hr]
  case release =>
    intro s dt testen d e hd hp hs he
    rw [exec_porRelease, State.after_pin, ← hd, Dev.porRelease_good hp hs he]
  case assert =>
    intro s dt mv d e n hd hp hmv he hn
    rw [exec_por, State.after_pin, ← hd, Dev.porAssert_below hp hmv he hn]
  case again =>
    intro s dt mv d hd hp hmv
    rw [exec_por, State.after_pin, ← hd, Dev.porAssert_again hp hmv]
  case long =>
    intro s dt ns d hd h
    rw [exec_chipReset, State.after_pin, ← hd, Dev.resetPin_long h]
  case short =>
    intro s dt ns d hd h
    rw [exec_chipReset, State.after_pin, ← hd, Dev.resetPin_short h]

section

variable {d : Dev}

/-! ### Watchdog, MGMT reset and vectors -/

theorem Dev.regWrite_wdogKick (port : Nat) (w : Word) : d.regWrite port MGMT_WDOG_KICK 0 0 w none = d.wdogKick (fget w 15 0) := rfl
theorem Dev.regWrite_mgmtCtrl (port : Nat) (w : Word) : d.regWrite port MGMT_CTRL 0 0 w none = d.mgmtCtrlWrite w := rfl
theorem Dev.regWrite_vecRaise (port : Nat) (w : Word) : d.regWrite port MGMT_VEC_RAISE 0 0 w none = d.vecRaise (fget w 5 0) := rfl

theorem Dev.wdogKick_key :
    d.wdogKick 0xC1A5 = { d with mgmt := { d.mgmt with
      wdogAt := d.tclk, wdogWas := if d.mgmt.wdogAt = d.tclk then d.mgmt.wdogWas else d.mgmt.wdogAt } } :=
  if_pos rfl

theorem Dev.wdogExpire_due {e : Dev} (h : d.wdogDue = true) (he : e = ((d.put MGMT_STAT.WDEV 1).raiseVec 4).raise FS.MGMT_WDOG) :
    d.wdogExpire = if Due.block 17 FS.MGMT_WDOG ∈ e.flt.due then e else e.addDue (.block 17 FS.MGMT_WDOG) := by
  rw [Dev.wdogExpire, if_neg (by simp [h]), ← he]
  simp only [List.contains_iff_mem]

theorem Dev.mgmtResetDone_sound {e : Dev} (hr : d.mgmt.resetting = true) (hc : crc32 (d.bytes memSram d.mgmt.fwLen) = d.mgmt.fwCrc)
    (he : e = d.sramScan memSram d.mgmt.fwLen 64) (hi : e.imageApplied = true) :
    d.mgmtResetDone =
      ((({ e with mgmt := { e.mgmt with resetting := false, fwRunning := true, wdogAt := e.tclk, wdogWas := e.tclk } }).put
        MGMT_STAT.FWFAIL 0).put MGMT_STAT.MRSTEV 1).raiseVec 4 := by
  have hok : (crc32 (d.bytes memSram d.mgmt.fwLen) == d.mgmt.fwCrc) = true := beq_iff_eq.2 hc
  rw [Dev.mgmtResetDone, if_neg (by simp [hr])]
  simp only [hok, ← he, hi]
  rfl

/-! ### The PCIe endpoint -/

theorem Dev.perstChange_low (h : d.pcie = true) : d.perstChange true = ({ d with mgmt := { d.mgmt with perstLow := true } }).endpointReset := by
  have h' : ({ d with mgmt := { d.mgmt with perstLow := true } } : Dev).pcie = true := h
  rw [Dev.perstChange]
  exact if_pos (by rw [h']; rfl)

theorem Dev.perstChange_high : d.perstChange false = { d with mgmt := { d.mgmt with perstLow := false } } := by
  rw [Dev.perstChange]
  exact if_neg (by rw [Bool.and_false]; exact Bool.false_ne_true)

theorem Dev.msixAccess_unmask (h : d.pcie = true) (hl : d.mgmt.perstLow = false) {v : Nat} (hv : v < 64) (addr data : Nat) :
    d.msixAccess v addr (.unmask data) = (d.setMsix v ⟨addr, data, false⟩).msixTry v :=
  if_neg (by simp [h, hl, hv])

theorem Dev.msixAccess_mask (h : d.pcie = true) (hl : d.mgmt.perstLow = false) {v : Nat} (hv : v < 64) (addr data : Nat) :
    d.msixAccess v addr (.mask data) = d.setMsix v ⟨addr, data, true⟩ :=
  if_neg (by simp [h, hl, hv])

/-- A look returns the entry's words and then the pending bits, and changes nothing. -/
theorem Dev.msixAccess_look {e : Dev} (h : d.pcie = true) (hl : d.mgmt.perstLow = false) {v : Nat} (hv : v < 64) (addr : Nat)
    (he : e = ((d.msixWords v).mapIdx (fun i w => (i, w))).foldl (fun d e => d.emit (.bar2 (16 * v + 4 * e.1) (BitVec.ofNat 32 e.2))) d) :
    d.msixAccess v addr .look =
      (e.emit (.bar2 0x800 (BitVec.ofNat 32 (e.pbaWord 0)))).emit (.bar2 0x804 (BitVec.ofNat 32 (e.pbaWord 1))) := by
  subst he
  exact if_neg (by simp [h, hl, hv])

theorem Dev.pbaWord_emit (e : Emit) (k : Nat) : (d.emit e).pbaWord k = d.pbaWord k := rfl

end

/-- Settles O19: the management events by their branches; the four words of a table entry leave before the two of the pending bits. -/
theorem managementEventsComplete : Obligations.ManagementEventsComplete := by
  unfold Obligations.ManagementEventsComplete
  refine ⟨?kick, ?expire, ?mrst, ?done, ?bell, ?raise, ?endpoint, ?perst, ?mask, ?look⟩
  case kick =>
    intro s p w c hc hs h
    rw [exec_wdogKick, State.after_write hs (b := 17) (by decide) Nat.one_pos Nat.one_pos (by decide), ← hc, Dev.regWrite_wdogKick, h,
      Dev.wdogKick_key]
  case expire =>
    intro s dt d e hd haw h he
    rw [exec_wdogExpire, State.after_event _ haw, ← hd, Dev.wdogExpire_due h he]
  case mrst =>
    intro s p w c hc hs h0 h1
    rw [exec_mgmtReset, State.after_write hs (b := 17) (by decide) Nat.one_pos Nat.one_pos (by decide), ← hc, Dev.regWrite_mgmtCtrl]
    simp only [Dev.mgmtCtrlWrite, h0, h1]
    rfl
  case done =>
    intro s dt d e hd haw hr hcrc he hi
    rw [exec_mgmtResetDone, State.after_event _ haw, ← hd, Dev.mgmtResetDone_sound hr hcrc he hi]
  case bell =>
    intro s p w c hc hs h0 h1
    rw [exec_doorbell, State.after_write hs (b := 17) (by decide) Nat.one_pos Nat.one_pos (by decide), ← hc, Dev.regWrite_mgmtCtrl]
    simp only [Dev.mgmtCtrlWrite, h0, h1]
    rfl
  case raise =>
    intro s p w c hc hs hlo hhi
    rw [exec_vectorRaise, State.after_write hs (b := 17) (by decide) Nat.one_pos Nat.one_pos (by decide), ← hc, Dev.regWrite_vecRaise,
      Dev.vecRaise, if_pos ⟨hlo, hhi⟩]
  case endpoint =>
    intro s dt d hd haw h
    refine ⟨?_, ?_, ?_⟩
    · rw [exec_pcieReset, State.after_event _ haw, ← hd, Dev.pcieReset, if_pos h]
    · rw [exec_pcieLinkDown, State.after_event _ haw, ← hd, Dev.pcieLinkDown, if_pos h]
    · rw [exec_pcieError, State.after_event _ haw, ← hd, Dev.pcieError, if_pos h]
  case perst =>
    intro s dt d hd h
    refine ⟨?_, ?_⟩
    · rw [exec_perstNChange, State.after_pin, ← hd, Dev.perstChange_low h]
    · rw [exec_perstNChange, State.after_pin, ← hd, Dev.perstChange_high]
  case mask =>
    intro s dt addr data v d hd haw h hl
    refine ⟨?_, ?_⟩
    · rw [exec_msixUnmask, State.after_event _ haw, ← hd, Dev.msixAccess_unmask h hl v.isLt, Dev.setMsix]
    · rw [exec_msixUnmask, State.after_event _ haw, ← hd, Dev.msixAccess_mask h hl v.isLt, Dev.setMsix]
  case look =>
    intro s dt addr v d x hd haw h hl hx
    rw [exec_msixUnmask, State.after_event _ haw, ← hd, Dev.msixAccess_look h hl v.isLt _ rfl]
    simp only [Dev.msixWords, ← hx, List.mapIdx_cons, List.mapIdx_nil, List.foldl_cons, List.foldl_nil, Dev.pbaWord_emit]
    rfl

end Sys2Proof.Machine
end

section
/-! The rings, the host port and the scene store (R361 to R374). -/

namespace Sys2Proof.Machine

section

variable {d : Dev}

/-! ### Writes of the ring registers -/

theorem Dev.regWrite_ringCfg (port i : Nat) (w : Word) : d.regWrite port MGMT_RING_CFG i 0 w none = d.ringCfgWrite (64 + i) w := rfl
theorem Dev.regWrite_ringWr (port i : Nat) (w : Word) : d.regWrite port MGMT_RING_WR i 0 w none = d.ringWrWrite (64 + i) (fget w 15 0) := rfl
theorem Dev.regWrite_ringRd (port i : Nat) (w : Word) : d.regWrite port MGMT_RING_RD i 0 w none = d.ringRdWrite (64 + i) (fget w 15 0) := rfl
theorem Dev.regWrite_hportSel (port : Nat) (w : Word) : d.regWrite port MGMT_HPORT_SEL 0 0 w none = d.hportSelect w := rfl
theorem Dev.regWrite_hportData (port : Nat) (w : Word) : d.regWrite port MGMT_HPORT_DATA 0 0 w none = d.hportWrite w := rfl
theorem Dev.regWrite_hportCtrl (port : Nat) (w : Word) : d.regWrite port MGMT_HPORT_CTRL 0 0 w none = d.hportCtrlWrite w := rfl
theorem Dev.regRead_hportData (port : Nat) : d.regRead port MGMT_HPORT_DATA 0 0 = d.hportRead port := rfl

/-- A ring of a free place is enabled as it is written. -/
theorem Dev.ringCfgWrite_good {i : Nat} {w : Word} {e : Dev} (hn : d.is MGMT_RING_CFG.EN i = false) (he : e = d.store MGMT_RING_CFG w i)
    (hq : ¬ (80 ≤ 64 + i ∧ 64 + i ≤ 83)) (hen : e.is MGMT_RING_CFG.EN i = true) (hmin : ringMin (64 + i) ≤ e.ringSize (64 + i))
    (hend : e.ringBase (64 + i) + e.ringSize (64 + i) ≤ memSram + 0x80000) (ho : e.ringOverlap (64 + i) = false) :
    d.ringCfgWrite (64 + i) w = e.putFill (64 + i) := by
  have hgood : ¬ (e.ringSize (64 + i) < ringMin (64 + i) ∨ memSram + 0x80000 < e.ringBase (64 + i) + e.ringSize (64 + i) ∨
      e.ringOverlap (64 + i) = true) :=
    not_or.2 ⟨Nat.not_lt.2 hmin, not_or.2 ⟨Nat.not_lt.2 hend, ne_true_of_eq_false ho⟩⟩
  simp only [Dev.ringCfgWrite, Nat.add_sub_cancel_left, hn, ← he, if_neg hq, hen, if_neg hgood, Bool.not_true, Bool.false_eq_true, if_false]

theorem Dev.ringWrWrite_advance {q v sz : Nat} (hp : ringSoftProd q = true) (hsz : sz = d.ringSize q) (hv : v < sz)
    (ha : (v + sz - d.ringWr q % sz) % sz ≠ 0) (hf : d.ringFill q + (v + sz - d.ringWr q % sz) % sz < sz) :
    d.ringWrWrite q v = (d.ringSet q v (d.ringRd q)).softAdvance q := by
  have hroom : ¬ (sz ≤ v ∨ sz ≤ d.ringFill q + (v + sz - d.ringWr q % sz) % sz) := not_or.2 ⟨Nat.not_le.2 hv, Nat.not_le.2 hf⟩
  subst hsz
  rw [Dev.ringWrWrite, if_neg (by simp [hp])]
  exact (if_neg hroom).trans (if_neg ha)

/-! ### The host port -/

theorem Dev.hportSelect_ring {w : Word} {e : Dev} {q : Nat} (he : e = d.store MGMT_HPORT_SEL w) (hq : e.hportRing = some q) :
    d.hportSelect w = e.put MGMT_HPORT_CTRL.CURSOR (if e.hostCons q = true then e.ringRd q else e.ringWr q) := by
  simp only [Dev.hportSelect, ← he, Dev.hportHome, hq]

/-- A sound word is read as it stands. -/
theorem Dev.eccRead_sound {a : Nat} (hb : a ∉ d.eccBad) (hc : a ∉ d.eccCor) (cor unc master : Nat) :
    d.eccRead a cor unc master = (d.memW a, d) := by
  simp [Dev.eccRead, hb, hc]

theorem Dev.hportRead_sound {q a port : Nat} (hq : d.hportRing = some q) (ha : a = d.ringBase q + d.get MGMT_HPORT_CTRL.CURSOR)
    (hb : a ∉ d.eccBad) (hc : a ∉ d.eccCor) : d.hportRead port = (d.memW a, d.hportStep q) := by
  simp only [Dev.hportRead, hq, ← ha, Dev.eccRead_sound hb hc]

theorem Dev.hportWrite_room {q x sz : Nat} {w : Word} (hq : d.hportRing = some q) (hx : x = d.get MGMT_HPORT_CTRL.CURSOR)
    (hsz : sz = d.ringSize q) (hr : (x + sz - d.ringRd q % sz) % sz + 4 < sz) :
    d.hportWrite w = (d.setMemW (d.ringBase q + x) w).hportStep q := by
  simp only [Dev.hportWrite, hq, ← hx, ← hsz, if_neg (Nat.not_le.2 hr)]

theorem Dev.hportCommit_consumed {q : Nat} (hq : d.hportRing = some q) (hc : d.hostCons q = true)
    (hb : d.onBoundary q (d.get MGMT_HPORT_CTRL.CURSOR) 4096 (d.ringRd q) = true) :
    d.hportCommit = d.ringSet q (d.ringWr q) (d.get MGMT_HPORT_CTRL.CURSOR) := by
  simp only [Dev.hportCommit, hq, hc, hb, if_true]

/-! ### The scene store -/

/-- Through an open port a write of the scene store reaches its buffer. -/
theorem Dev.busWrite_scene {port : Nat} (hp : d.portOpen port = true) (k : Fin 1048576) (w : Word) :
    d.busWrite port (sceneAddr k) w = (d.busCount port (sceneAddr k)).sceneWrite port (sceneAddr k) w := by
  have h4 : sceneAddr k % 4 = 0 := by simp only [sceneAddr, memScene]; omega
  have hlo : 0xC00000 ≤ sceneAddr k := by simp only [sceneAddr, memScene]; omega
  have hhi : sceneAddr k < 0x1000000 := by simp only [sceneAddr, memScene]; omega
  have hc : coreSram port (sceneAddr k) = false := by
    have : ¬ memSram ≤ sceneAddr k := by simp only [memSram]; omega
    simp [coreSram, this]
  have hr : inRegs (sceneAddr k) = false := decide_eq_false (by omega)
  have hs : inShared (sceneAddr k) = false := by
    have : ¬ sceneAddr k < 0xC00000 := by omega
    simp [inShared, this]
  have hn : inScene (sceneAddr k) = true := by simp [inScene, hlo, hhi]
  simp [Dev.busWrite, hp, h4, hc, hr, hs, hn]

theorem Dev.sceneWrite_allowed {p : Port} {a : Nat} {w : Word} (h : p = Port.core ∨ d.scnProtected a = false) :
    d.sceneWrite (portNum p) a w = ({ d with mgmt := { d.mgmt with sceneBuf := d.mgmt.sceneBuf ++ [(a, w)] } }).putPend := by
  refine if_neg fun hn => ?_
  obtain rfl | h := h
  · exact Bool.false_ne_true hn
  · rw [h, Bool.and_false] at hn
    exact Bool.false_ne_true hn

theorem Dev.sceneWordDone_cons {a : Nat} {w : Word} {rest : List (Nat × Word)} {e : Dev} (hb : d.mgmt.sceneBuf = (a, w) :: rest)
    (he : e = ({ d with mgmt := { d.mgmt with sceneBuf := rest } }).putPend) (bad : Bool) :
    d.sceneWordDone bad =
      if bad then ((e.draw.2.setMemW a (Config.freeWord e.free)).put MGMT_SCN_STAT.MISEV 1).raise FS.MGMT_SCENE else e.setMemW a w := by
  simp only [Dev.sceneWordDone, hb, ← he]
  rfl

end

/-- Settles O20: the rings' registers by the conditions of their writes, the host port by its ring, the scene store by its buffer. -/
theorem ringAndSceneCommandsComplete : Obligations.RingAndSceneCommandsComplete := by
  unfold Obligations.RingAndSceneCommandsComplete
  refine ⟨?enable, ?wr, ?rd, ?select, ?read, ?write, ?commit, ?scene, ?done⟩
  case enable =>
    intro s p i w c e hc hs hn he hq hen hmin hend ho
    rw [exec_ringEnable, State.after_write hs (b := 17) (by decide) i.isLt Nat.one_pos (by decide), ← hc, Dev.regWrite_ringCfg,
      Dev.ringCfgWrite_good hn he hq hen hmin hend ho]
  case wr =>
    intro s p i w c v sz hc hs hp hv hsz hlt ha hf
    rw [exec_ringWrWrite, State.after_write hs (b := 17) (by decide) i.isLt Nat.one_pos (by decide), ← hc, Dev.regWrite_ringWr, ← hv,
      Dev.ringWrWrite_advance hp hsz hlt ha hf]
  case rd =>
    intro s p i w c hc hs hp
    rw [exec_ringRdWrite, State.after_write hs (b := 17) (by decide) i.isLt Nat.one_pos (by decide), ← hc, Dev.regWrite_ringRd,
      Dev.ringRdWrite, if_pos hp]
  case select =>
    intro s p w c e q hc hs he hq
    rw [exec_hportSelect, State.after_write hs (b := 17) (by decide) Nat.one_pos Nat.one_pos (by decide), ← hc, Dev.regWrite_hportSel,
      Dev.hportSelect_ring he hq]
  case read =>
    intro s p c q a hc hs hq ha hb hcor
    rw [exec_hportRead, State.after_read hs (b := 17) (by decide) Nat.one_pos Nat.one_pos (by decide), ← hc, Dev.regRead_hportData,
      Dev.hportRead_sound hq ha hb hcor]
  case write =>
    intro s p w c q x sz hc hs hq _ hx hsz hr
    rw [exec_hportWrite, State.after_write hs (b := 17) (by decide) Nat.one_pos Nat.one_pos (by decide), ← hc, Dev.regWrite_hportData,
      Dev.hportWrite_room hq hx hsz hr]
  case commit =>
    intro s p w c e q hc hs h1 he hq hcons hb
    rw [exec_hportCommit, State.after_write hs (b := 17) (by decide) Nat.one_pos Nat.one_pos (by decide), ← hc, Dev.regWrite_hportCtrl,
      Dev.hportCtrlWrite, if_pos h1, ← he, Dev.hportCommit_consumed hq hcons hb]
  case scene =>
    intro s p k w c hc hs h
    rw [exec_sceneWrite, State.after_access _ hs.1, Dev.busWrite_scene hs.2, ← State.counted, ← hc, Dev.sceneWrite_allowed h]
  case done =>
    intro s dt a w rest d e hd haw hb he
    refine ⟨?_, ?_⟩
    · rw [exec_sceneWordDone, State.after_event _ haw, ← hd, Dev.sceneWordDone_cons hb he, if_neg Bool.false_ne_true]
    · rw [exec_sceneWordDone, State.after_event _ haw, ← hd, Dev.sceneWordDone_cons hb he, if_pos rfl]

end Sys2Proof.Machine
end

section
/-! The commands of the fault collector (R309 to R329). -/

namespace Sys2Proof.Machine

/-! ### A word of flags that a 1 clears -/

theorem fget_full (w : Word) : fget w 31 0 = w.toNat := by
  rw [fget, Nat.shiftRight_zero]
  exact Nat.mod_eq_of_lt w.isLt

theorem fset_full (v : Nat) : fset 0 31 0 v = BitVec.ofNat 32 v := by
  refine BitVec.eq_of_toNat_eq ?_
  rw [fset_toNat _ _ (by decide) (by decide)]
  simp

/-- A register of 32 flags that a 1 clears. -/
theorem regStore_w1c (applied : Bool) (w cur : Word) : regStore applied [⟨31, 0, .w1c, false⟩] w cur = cur &&& ~~~w := by
  have h : regStore applied [⟨31, 0, .w1c, false⟩] w cur = fset 0 31 0 (fget cur 31 0 - (fget cur 31 0 &&& fget w 31 0)) := rfl
  rw [h, fset_full, fget_full, fget_full]
  refine BitVec.eq_of_getLsbD_eq fun i hi => ?_
  rw [BitVec.getLsbD_ofNat, testBit_sub_and, BitVec.getLsbD_and, BitVec.getLsbD_not]
  simp [hi, BitVec.testBit_toNat]

/-- The field of one bit is 1 where the bit is set. -/
theorem fget_bit_eq_one (w : Word) (j : Nat) : fget w j j = 1 ↔ w.getLsbD j = true := by
  rw [← bitOf_toNat_eq_fget, bitOf_eq_one_iff, BitVec.testBit_toNat]

section

variable {d : Dev}

/-! ### The GRAVE log, escalation, windows and shadows -/

/-- A record that is not the last to be written, in a slot before the last. -/
theorem Dev.graveWritten_more {n : Nat} {r x : List Byte} {rest : List (List Byte)} {e : Dev} (hl : d.flt.log = r :: x :: rest)
    (hn : n = d.get FLT_GLOG_HEAD.NEXT) (h : n < 255) (hw : d.is FLT_GLOG_HEAD.WRAP = false)
    (he : e = (({ d with flt := { d.flt with log := x :: rest } }).setBytes (graveLog + 32 * n) r).put FLT_GLOG_HEAD.NEXT (n + 1)) :
    d.graveWritten = (e.setMemLe graveHead 2 (e.get FLT_GLOG_HEAD.NEXT)).setMemLe (graveHead + 2) 2 (e.get FLT_GLOG_HEAD.WRAP) := by
  simp only [Dev.graveWritten, hl, ← hn, hw, ← he, h.ne, if_false, Bool.false_eq_true]

theorem Dev.fltEscalation_recorded {n : Nat} {e : Dev} (he : (d.put FLT_SRC_STAT.ESCEV 1 n).fltPush n 8 0xFF = (true, e))
    (hr : e.get FLT_SRC_CFG.ESCR n = 0) : d.fltEscalation n = e := by
  suffices hf : ∀ f, f = Dev.fltEscalation → f d n = e from hf _ rfl
  obtain ⟨g, hg⟩ : ∃ g, g = Dev.fltPush := ⟨_, rfl⟩
  rw [← hg] at he
  delta Dev.fltEscalation
  rw [← hg]
  rintro _ rfl
  simp only [he, hr, if_true]

theorem Dev.escalationExpire_running {n : Nat} (ha : d.flt.esc.any (fun kv => kv.1 == n) = true)
    (hd : d.escDue n (tabGet 0 d.flt.esc n) = true) : d.escalationExpire n = d.fltEscalate n :=
  (if_pos ha).trans (if_pos hd)

theorem Dev.fltEscalate_severe {n : Nat} {e : Dev} (hs : d.get FLT_SRC_STAT.STATE n = 2) (he : e = d.fltSetState n 3) :
    d.fltEscalate n = ({ e with flt := { e.flt with esc := tabDel e.flt.esc n } }).fltEscalation n := by
  subst he
  exact if_pos (by rw [hs]; rfl)

theorem Dev.put_with_flt (x : FltSt) (f : FRef) (v i j : Nat) :
    ({ d with flt := x } : Dev).put f v i j = { d.put f v i j with flt := x } := rfl

/-- An escalation whose record enters its ring and that asks for no reset. -/
theorem Dev.escalationExpire_due {n : Nat} {f e : Dev} (ha : d.flt.esc.any (fun kv => kv.1 == n) = true) (h0 : d.fltEsc n ≠ 0)
    (ht : 99 * 250000 * d.fltEsc n ≤ 100 * (d.tclk - tabGet 0 d.flt.esc n)) (hs : d.get FLT_SRC_STAT.STATE n = 2)
    (hf : f = (d.fltSetState n 3).put FLT_SRC_STAT.ESCEV 1 n)
    (he : ({ f with flt := { f.flt with esc := tabDel f.flt.esc n } }).fltPush n 8 0xFF = (true, e)) (hr : e.get FLT_SRC_CFG.ESCR n = 0) :
    d.escalationExpire n = e := by
  have hdue : d.escDue n (tabGet 0 d.flt.esc n) = true := by simp [Dev.escDue, h0, ht]
  rw [Dev.escalationExpire_running ha hdue, Dev.fltEscalate_severe hs rfl]
  refine Dev.fltEscalation_recorded ?_ hr
  have hflt : f.flt = (d.fltSetState n 3).flt := by rw [hf, Dev.put_flt]
  rw [Dev.put_with_flt, ← hf, ← hflt, he]

theorem Dev.fltWindowExpire_empty {n : Nat} (hs : d.get FLT_SRC_STAT.STATE n = 1)
    (hw : inWindow d.tclk (d.fltWin n) (tabGet [] d.flt.events n) = 0) :
    d.fltWindowExpire n = (d.fltSetState n 0).put FLT_SRC_STAT.INWIN 0 n :=
  if_pos (by simp [hs, hw])

theorem Dev.shadowClose_due {b : Nat} (ho : (tabGet {} d.flt.shadows b).open_ = true) (hr : (tabGet {} d.flt.shadows b).inReset = false)
    (hd : d.isDue .shadow (min 1000 (max 1 (d.get FLT_CFG.SHADOW)) * 1000000) b = true) :
    d.shadowClose b = ({ d with flt := { d.flt with shadows := tabDel d.flt.shadows b } }).clrBit FLT_STAT.SHADOW b :=
  if_pos (by simp only [ho, hr, hd]; rfl)

/-! ### Writes of the collector's registers -/

theorem Dev.regWrite_sev (port k : Nat) (w : Word) : d.regWrite port FLT_SEV k 0 w none = d.sevWrite k w := rfl
theorem Dev.regWrite_errh (port k : Nat) (w : Word) : d.regWrite port FLT_ERRH k 0 w none = d.store FLT_ERRH w k := rfl
theorem Dev.regWrite_inj (port : Nat) (w : Word) : d.regWrite port FLT_INJ 0 0 w none = d.injWrite w := rfl
theorem Dev.regWrite_glogCtrl (port : Nat) (w : Word) : d.regWrite port FLT_GLOG_CTRL 0 0 w none = d.glogWrite w := rfl

theorem Dev.sevWrite_eq (k : Nat) (w : Word) :
    d.sevWrite k w = forN 32 (fun j d => if w.getLsbD j = true then d.fltAck (32 * k + j) else d) d := by
  simp only [Dev.sevWrite, fget_bit_eq_one]

theorem Dev.store_errh (k : Nat) (w : Word) : d.store FLT_ERRH w k = d.wr FLT_ERRH (d.rd FLT_ERRH k &&& ~~~w) k := by
  rw [Dev.store, if_neg (by rw [show (FLT_ERRH.dom == .block) = false by decide]; exact Bool.false_ne_true), ← regStore_w1c]
  rfl

/-- What is left of an injection sends its next event. -/
theorem Dev.injectEvent_succ {n : Nat} (h : d.flt.injLeft = n + 1) :
    d.injectEvent = (({ d with flt := { d.flt with injLeft := n } }).startTimer .inject).inject1 d.flt.injSrc := by
  rw [Dev.injectEvent, if_neg (by omega), h, Nat.add_sub_cancel]

theorem Dev.injWrite_go {w : Word} {e : Dev} (h : fget w 31 31 = 1) (he : e = d.store FLT_INJ w) (hf : e.ftm = true)
    (hs : e.get FLT_INJ.SRC < 169) :
    d.injWrite w = (({ e with flt := { e.flt with
      injLeft := max 1 (e.get FLT_INJ.COUNT) - 1, injSrc := e.get FLT_INJ.SRC } }).startTimer .inject).inject1 (e.get FLT_INJ.SRC) := by
  have hfd : d.ftm = true := (Dev.is_store_apart_zero w (by decide)).symm.trans (he ▸ hf)
  have hno : ¬ (fget w 31 31 = 0 ∨ 169 ≤ e.get FLT_INJ.SRC) := by omega
  rw [Dev.injWrite, if_neg (by simp [hfd]), ← he]
  simp only [if_neg hno]
  have hm : max 1 (e.get FLT_INJ.COUNT) = max 1 (e.get FLT_INJ.COUNT) - 1 + 1 := by omega
  exact Dev.injectEvent_succ (d := { e with flt := { e.flt with injLeft := max 1 (e.get FLT_INJ.COUNT), injSrc := e.get FLT_INJ.SRC } }) hm

theorem Dev.injectNext_due {n : Nat} (h : d.flt.injLeft = n + 1) (hd : d.isDue .inject 1000 = true) :
    d.injectNext = (({ d with flt := { d.flt with injLeft := n } }).startTimer .inject).inject1 d.flt.injSrc := by
  rw [Dev.injectNext, if_pos hd, Dev.injectEvent_succ h]

theorem Dev.glogWrite_erase {w : Word} {e : Dev} (h : fget w 31 31 = 1) (he : e = d.store FLT_GLOG_CTRL w)
    (ha : e.is FLT_GRAVE.ACTIVE = false) :
    d.glogWrite w = (((e.clearRange graveLog (graveLog + 0x2000)).setMemLe graveHead 4 0).put FLT_GLOG_HEAD.NEXT 0).put FLT_GLOG_HEAD.WRAP 0 := by
  rw [Dev.glogWrite, if_pos h, ← he]
  exact if_neg (ne_true_of_eq_false ha)

theorem Dev.pseudoBlock_due (hr : d.running = false) (ht : 100000 ≤ (d.elapsed .pseudo).getD (4 * d.tclk)) :
    d.pseudoBlock = (({ d with once := [], period := d.period + 1 }).startTimer .pseudo).loadLatch :=
  if_neg (by simp [hr, Dev.pseudoDue, ht])

end

/-- Settles O21: each clause names the branch of the collector's operation that its hypotheses select. -/
theorem faultCommandsComplete : Obligations.FaultCommandsComplete := by
  unfold Obligations.FaultCommandsComplete
  refine ⟨?log, ?escalate, ?window, ?shadow, ?ack, ?errh, ?inject, ?next, ?erase, ?period⟩
  case log =>
    intro s dt n r x rest d e hd haw hl hn h hw he
    rw [exec_graveLogWritten, State.after_event _ haw, ← hd, Dev.graveWritten_more hl hn h hw he]
  case escalate =>
    intro s dt n d f e hd haw ha h0 ht hs hf he hr
    rw [exec_escalationExpire, State.after_event _ haw, ← hd, Dev.escalationExpire_due ha h0 ht hs hf he hr]
  case window =>
    intro s dt n d hd haw hs hw
    rw [exec_faultWindowExpire, State.after_event _ haw, ← hd, Dev.fltWindowExpire_empty hs hw]
  case shadow =>
    intro s dt b d hd haw ho hr hdue
    rw [exec_shadowClose, State.after_event _ haw, ← hd, Dev.shadowClose_due ho hr hdue]
  case ack =>
    intro s p k w c hc hs
    rw [exec_faultAck, State.after_write hs (b := 15) (by decide) k.isLt Nat.one_pos (by decide), ← hc, Dev.regWrite_sev, Dev.sevWrite_eq]
  case errh =>
    intro s p k w c hc hs
    rw [exec_errhClear, State.after_write hs (b := 15) (by decide) k.isLt Nat.one_pos (by decide), ← hc, Dev.regWrite_errh, Dev.store_errh]
  case inject =>
    intro s p w c e hc hs h he hf hsrc
    rw [exec_faultInject, State.after_write hs (b := 15) (by decide) Nat.one_pos Nat.one_pos (by decide), ← hc, Dev.regWrite_inj,
      Dev.injWrite_go h he hf hsrc]
  case next =>
    intro s dt n d hd haw h hdue
    rw [exec_injectNext, State.after_event _ haw, ← hd, Dev.injectNext_due h hdue]
  case erase =>
    intro s p w c e hc hs h he ha
    rw [exec_glogErase, State.after_write hs (b := 15) (by decide) Nat.one_pos Nat.one_pos (by decide), ← hc, Dev.regWrite_glogCtrl,
      Dev.glogWrite_erase h he ha]
  case period =>
    intro s dt d hd haw hr ht
    rw [exec_pseudoBlock, State.after_event _ haw, ← hd, Dev.pseudoBlock_due hr ht]

end Sys2Proof.Machine
end

section
/-! Reference candidates and clean-up loops (R262 to R285). -/

namespace Sys2Proof.Machine

section

variable {d : Dev}

/-! ### Candidates -/

theorem Dev.candFault_unmonitored {k : Nat} (h : 5 ≤ k) : d.candFault k = d := if_pos h

section

variable {k : Nat} {e : Dev} (hk : k < 5) (he : e = { d with rcu := { d.rcu with gateFault := tabPut false d.rcu.gateFault k true } })
include hk he

theorem Dev.candFault_monitored :
    d.candFault k =
      if e.cand k ≠ 0 then e.candDisq k false
      else if tabGet 0 d.rcu.gateAt k / 2 = d.tclk + 1 then (e.put RCU_CAND_STAT.ACTF 1 k).put RCU_CAND_STAT.FRQF (tabGet 0 d.rcu.gateAt k % 2) k
      else e := by
  subst he
  exact if_neg (Nat.not_le.2 hk)

theorem Dev.candFault_qualified (h : e.cand k ≠ 0) : d.candFault k = e.candDisq k false := by
  rw [Dev.candFault_monitored hk he, if_pos h]

theorem Dev.candFault_disqualified (h : e.cand k = 0) (hg : tabGet 0 d.rcu.gateAt k / 2 ≠ d.tclk + 1) : d.candFault k = e := by
  rw [Dev.candFault_monitored hk he, if_neg (not_not.2 h), if_neg hg]

theorem Dev.candFault_with_gate (h : e.cand k = 0) (hg : tabGet 0 d.rcu.gateAt k / 2 = d.tclk + 1) :
    d.candFault k = (e.put RCU_CAND_STAT.ACTF 1 k).put RCU_CAND_STAT.FRQF (tabGet 0 d.rcu.gateAt k % 2) k := by
  rw [Dev.candFault_monitored hk he, if_neg (not_not.2 h), if_pos hg]

end

theorem Dev.candGlitch_short {k ps : Nat} {falling : Bool} (he : d.candEdges k falling = true)
    (hp : ps * d.get RCU_CAND_FNOM.FNOM k < 48000000000000) : d.candGlitch k falling ps = d.candFault k :=
  if_pos (by simp [he, hp])

theorem Dev.candSilence_long {k ps : Nat} {falling : Bool} (he : d.candEdges k falling = true)
    (hp : 224000000000000 ≤ ps * d.get RCU_CAND_FNOM.FNOM k) : d.candSilence k falling ps = d.candFault k :=
  if_pos (by simp [he, hp])

/-- A gate without a fault and within the limit admits a disqualified candidate. -/
theorem Dev.gateEnd_good {k : Nat} {ofs : Int} {f e : Dev} (hk : k ≠ 0) (hen : d.is RCU_CAND_CFG.EN k = true) (hx : d.xoQual = true)
    (hd : d.isDue .qualGate (d.gateNs k) k = true) (hf : f = d.startTimer .qualGate k) (hg : tabGet false f.rcu.gateFault k = false)
    (he : e = ({ f with rcu := { f.rcu with gateFault := tabDel f.rcu.gateFault k } }).put RCU_CAND_OFS.OFS (unsW 32 ofs) k)
    (hc : e.cand k = 0) (hl : ofs.natAbs ≤ (e.limits k).1) (ha : e.admitted k = true) :
    d.gateEnd k ofs = (e.setCand k 1).qualUpdate := by
  rw [Dev.gateEnd, if_neg (by simp [hen, hx, hd]), ← hf]
  simp only [hg, if_neg hk, ← he, hc, hl, ha, Bool.not_false, decide_true, Bool.and_self, if_true]

theorem Dev.holdoffEnd_due {k : Nat} (hk : k ≠ 0) (hc : d.cand k = 1) (hx : d.xoQual = true)
    (hd : d.isDue .holdoff (d.holdoffNs k) k = true) : d.holdoffEnd k = (d.setCand k 2).qualUpdate := by
  rw [Dev.holdoffEnd, if_pos ⟨hc, .inr hx, hd⟩]
  simp only [if_neg hk]

theorem Dev.regWrite_loopRank (port i j : Nat) (w : Word) :
    d.regWrite port RCU_LOOP_RANK i j w none = (d.store RCU_LOOP_RANK (if j = 2 then w &&& 0xF else w) i j).selLoop i := rfl

theorem Dev.regWrite_loopCtrl (port i : Nat) (w : Word) (h : (d.store RCU_LOOP_CTRL w i).is RCU_LOOP_CFG.HOPOK i = true) :
    d.regWrite port RCU_LOOP_CTRL i 0 w none =
      (if fget w 0 0 = 1 then (d.store RCU_LOOP_CTRL w i).retune i else d.store RCU_LOOP_CTRL w i).selLoop i := by
  have hw : d.regWrite port RCU_LOOP_CTRL i 0 w none = d.rcuWrite RCU_LOOP_CTRL i 0 w := rfl
  rw [hw, Dev.rcuWrite, if_neg (by decide), if_pos (by decide)]
  simp only [h, if_true, beq_iff_eq]

end

/-- Settles O22: a fault of the monitor by the candidate's state, a gate and a hold-off by their conditions, the ranks by their writes. -/
theorem candidateCommandsComplete : Obligations.CandidateCommandsComplete := by
  unfold Obligations.CandidateCommandsComplete
  refine ⟨?fault, ?gate, ?holdoff, ?rank, ?ctrl⟩
  case fault =>
    intro s dt k falling short long d e hd haw hed hs hl he
    have hshort : ∀ x, d.candFault k = x → exec (.candGlitch dt ⟨k, falling, short⟩) s = s.ends d x := fun x hx => by
      rw [exec_candGlitch, State.after_event _ haw, ← hd, Dev.candGlitch_short hed hs, hx]
    have hlong : ∀ x, d.candFault k = x → exec (.candActivityTimeout dt ⟨k, falling, long⟩) s = s.ends d x := fun x hx => by
      rw [exec_candActivityTimeout, State.after_event _ haw, ← hd, Dev.candSilence_long hed hl, hx]
    refine ⟨fun hk hc => ?_, fun hk hc hg => ?_, fun hk hc hg => ?_, fun hk => ?_⟩
    · have h := Dev.candFault_qualified hk he hc
      exact ⟨hshort _ h, hlong _ h⟩
    · have h := Dev.candFault_disqualified hk he hc hg
      exact ⟨hshort _ h, hlong _ h⟩
    · have h := Dev.candFault_with_gate hk he hc hg
      exact ⟨hshort _ h, hlong _ h⟩
    · have h := d.candFault_unmonitored hk
      exact ⟨hshort _ h, hlong _ h⟩
  case gate =>
    intro s dt k ofs d f e hd haw hk hen hx hdue hf hg he hc hl ha
    have hk' : k.val ≠ 0 := fun h => hk (Fin.ext h)
    rw [exec_qualGateEnd, State.after_event _ haw, ← hd, Dev.gateEnd_good hk' hen hx hdue hf hg he hc hl ha]
  case holdoff =>
    intro s dt k d hd haw hk hc hx hdue
    have hk' : k.val ≠ 0 := fun h => hk (Fin.ext h)
    rw [exec_holdoffExpire, State.after_event _ haw, ← hd, Dev.holdoffEnd_due hk' hc hx hdue]
  case rank =>
    intro s p k j w c hc hs
    have hj : (j.val = 2) = (j = 2) := by rw [Fin.ext_iff]; rfl
    rw [exec_loopRankWrite]
    refine (State.after_write hs (b := 2) (by decide) k.isLt j.isLt (by decide) w).trans ?_
    rw [← hc, Dev.regWrite_loopRank]
    simp only [hj]
  case ctrl =>
    intro s p k w c hc hs h0 hok
    rw [exec_loopRankWrite]
    refine (State.after_write hs (b := 2) (by decide) k.isLt Nat.one_pos (by decide) w).trans ?_
    rw [← hc, Dev.regWrite_loopCtrl _ _ _ hok, if_neg (by omega)]

section

variable {d : Dev} {k : Nat}

/-! ### Loops -/

theorem Dev.bandTrial_good {f fine : Nat} {e : Dev} (hs : d.loopState k = 1) (ht : (d.loop k).trials ≠ []) (hx : d.xoQual = true)
    (hok : d.trialOk k f = true)
    (he : e = (d.setLoop k { d.loop k with fine := fine % 2 ^ 24, word := fine % 2 ^ 24, trials := [] }).qsStore k)
    (hsel : e.get RCU_LOOP_STAT.SEL k ≠ noSel) : d.bandTrial k f fine = (e.loopTo k 3).setBw k (e.bwa k) := by
  rw [Dev.bandTrial, if_neg (by simp [hs, ht, hx]), if_pos hok]
  simp only [← he, if_neg hsel]

theorem Dev.ratioMeasure_of_acquire (hs : d.loopState k = 3) (r : Nat) : d.ratioMeasure k r = d := by
  simp [Dev.ratioMeasure, hs, following]

/-- The sixteenth good edge in ACQUIRE. -/
theorem Dev.phaseCompare_last {ph : Int} (hs : d.loopState k = 3) (hp : ph.natAbs ≤ 2000) (h15 : 15 ≤ (d.loop k).edges) :
    d.phaseCompare k ph = (d.setLoop k { d.loop k with edges := (d.loop k).edges + 1 }).toNarrow k := by
  simp only [Dev.phaseCompare, hs, if_pos hp]
  exact if_pos (by omega)

theorem Dev.compEdge_narrow {n r : Nat} {e0 ph : Int} {e : Dev} (hsel : d.get RCU_LOOP_STAT.SEL k ≠ noSel) (he : e = d.loopHvalid k)
    (hs : e.loopState k = 3) (hp : e.edgeError k n e0 = some ph) (hph : ph.natAbs ≤ 2000) (h15 : 15 ≤ (e.loop k).edges) :
    d.compEdge k n e0 r = ((e.setLoop k { e.loop k with edges := (e.loop k).edges + 1 }).toNarrow k).control k := by
  have h8 : (e.loopState k == 8) = false := by rw [hs]; rfl
  rw [Dev.compEdge, if_neg hsel, ← he]
  simp only [hp, Dev.ratioMeasure_of_acquire hs, Dev.phaseCompare_last hs hph h15, h8, Bool.false_and, Bool.false_eq_true, if_false]

theorem Dev.narrowStep_due {bw : Nat} (hs : d.loopState k = 4) (hd : d.isDue .narrow (d.dwellNs k) k = true)
    (hb : bw = max ((d.loop k).bw / d.stepf k) (d.trk k)) :
    d.narrowStep k = if bw ≤ (d.setBw k bw).trk k then (d.setBw k bw).loopTo k 5 else d.setBw k bw := by
  subst hb
  exact if_pos ⟨hs, hd⟩

theorem Dev.pullDone_zero {e : Dev} (hs : d.loopState k = 6) (ha : (d.loop k).await = .none) (hp : d.pullNow k = 0)
    (hb : (d.loop k).built = false) (he : e = (d.loopTo k 5).put RCU_LOOP_STAT.PDET 1 k) :
    d.pullDone k = (e.setLoop k { e.loop k with pullO := 0 }).putPhase k 0 := by
  rw [Dev.pullDone, if_pos ⟨hs, ha, hp⟩]
  simp only [hb, Bool.false_eq_true, if_false, ← he]

theorem Dev.retune_allowed {e : Dev} (hok : d.is RCU_LOOP_CFG.HOPOK k = true)
    (hd : dcoOk (d.get RCU_LOOP_FOUT.FOUT k) (d.get RCU_LOOP_CTRL.MDIV k) = true) (hs : d.loopState k ≠ 0)
    (he : e = d.setLoop k { d.loop k with fout := d.get RCU_LOOP_FOUT.FOUT k, mdiv := d.get RCU_LOOP_CTRL.MDIV k, held := .free }) :
    d.retune k = e.toSearch k := by
  subst he
  exact (if_neg (by simp [hok, hd])).trans (if_neg hs)

theorem Dev.regWrite_qsHop (port i : Nat) {w : Word} (h : fget w 3 3 = 1) :
    d.regWrite port RCU_QS_HOP i 0 w none = (d.store RCU_QS_HOP w i).qsHop i := by
  have hw : d.regWrite port RCU_QS_HOP i 0 w none =
      if (fget w 3 3 == 1) = true then (d.store RCU_QS_HOP w i).qsHop i else d.store RCU_QS_HOP w i := rfl
  rw [hw, if_pos (beq_iff_eq.2 h)]

theorem Dev.qsHop_valid {n b : Nat} {x : LoopSt} {g : Dev} (hn : n = d.get RCU_QS_HOP.ENTRY k) (hok : d.is RCU_LOOP_CFG.HOPOK k = true)
    (hv : d.is RCU_QS_CFG.VALID k n = true) (hs : d.loopState k = 5) (hb : b = d.get RCU_QS_CFG.BAND k n)
    (hg : g = (((d.put RCU_LOOP_FOUT.FOUT (d.get RCU_QS_FOUT.FOUT k n) k).put RCU_LOOP_CTRL.MDIV (d.get RCU_QS_CFG.MDIV k n) k).put
      RCU_LOOP_STAT.BAND b k).loopTo k 8)
    (hx : x = { g.loop k with
      fout := d.get RCU_QS_FOUT.FOUT k n, mdiv := d.get RCU_QS_CFG.MDIV k n, fine := 0, word := 0, hopFine := g.get RCU_QS_FINE.FINE k n,
      code := (g.bandEntry k b).2.1, await := .hopSettle, hopOk := true, pullO := 0, held := .free })
    (hxo : (g.setLoop k x).xoQual = true) : d.qsHop k = g.setLoop k x := by
  subst hx hg hb hn
  exact (if_pos (by rw [hok, hv, hs]; rfl)).trans (if_pos hxo)

theorem Dev.regWrite_dither (port i : Nat) {w : Word} {e : Dev} (he : e = d.store RCU_DITHER w i) :
    d.regWrite port RCU_DITHER i 0 w none = e.setLoop i { e.loop i with lfsr := e.ditherSeed i } := by
  subst he
  rfl

theorem Dev.hopSettled_selected {e : Dev} (hs : d.loopState k = 8) (ha : (d.loop k).await = .hopSettle)
    (he : e = d.setFine k (d.loop k).hopFine) (hsel : e.get RCU_LOOP_STAT.SEL k ≠ noSel) :
    d.hopSettled k = e.setLoop k { e.loop k with await := .hopEdge } := by
  rw [Dev.hopSettled, if_pos ⟨hs, ha⟩]
  simp only [← he, if_neg hsel]

end

/-- Settles O23: each clause names the branch of the loop's operation that its hypotheses select. -/
theorem loopCommandsComplete : Obligations.LoopCommandsComplete := by
  unfold Obligations.LoopCommandsComplete
  refine ⟨?trial, ?edge, ?narrow, ?pull, ?retune, ?hop, ?dither, ?retry, ?settled, ?check⟩
  case trial =>
    intro s dt f fine k d e hd haw hs ht hx hok he hsel
    rw [exec_bandTrialDone, State.after_event _ haw, ← hd, Dev.bandTrial_good hs ht hx hok he hsel]
  case edge =>
    intro s dt n r k e0 ph d e hd haw hsel he hs hp hph h15
    rw [exec_comparisonEdge, State.after_event _ haw, ← hd, Dev.compEdge_narrow hsel he hs hp hph h15]
  case narrow =>
    intro s dt bw k d hd haw hs hdue hb
    rw [exec_narrowStep, State.after_event _ haw, ← hd, Dev.narrowStep_due hs hdue hb]
  case pull =>
    intro s dt k d e hd haw hs ha hp hb he
    rw [exec_pullComplete, State.after_event _ haw, ← hd, Dev.pullDone_zero hs ha hp hb he]
  case retune =>
    intro s p k w c e hc hs h1 he hok hdco hst
    rw [exec_retune, State.after_write hs (b := 2) (by decide) k.isLt Nat.one_pos (by decide), ← hc,
      Dev.regWrite_loopCtrl _ _ _ (he ▸ hok), if_pos h1, ← he, Dev.retune_allowed hok hdco hst rfl]
  case hop =>
    intro s p k w c e g n b x hc hs h1 he hn hok hv hst hb hg hx hxo
    rw [exec_qsHop, State.after_write hs (b := 2) (by decide) k.isLt Nat.one_pos (by decide), ← hc, Dev.regWrite_qsHop _ _ h1, ← he,
      Dev.qsHop_valid hn hok hv hst hb hg hx hxo]
  case dither =>
    intro s p k w c e hc hs he
    rw [exec_ditherSeedWrite, State.after_write hs (b := 2) (by decide) k.isLt Nat.one_pos (by decide), ← hc, Dev.regWrite_dither _ _ he]
  case retry =>
    intro s dt k d hd haw hs hw hdue
    rw [exec_bandSearchRetry, State.after_event _ haw, ← hd, Dev.searchRetry, if_pos ⟨hs, hw, hdue⟩]
  case settled =>
    intro s dt k d e hd haw hs ha he hsel
    rw [exec_hopSettled, State.after_event _ haw, ← hd, Dev.hopSettled_selected hs ha he hsel]
  case check =>
    intro s dt k d hd haw hs ha hdue hok
    rw [exec_hopCheckDone, State.after_event _ haw, ← hd, Dev.hopCheckDone, if_pos ⟨hs, ha, hdue⟩, if_pos hok]

end Sys2Proof.Machine
end

section
/-! The serial ports (R189 to R203). -/

namespace Sys2Proof.Machine

/-- A loop of which one step alone does anything, and that step but once. -/
theorem forN_single {α : Type} {n q : Nat} {f : Nat → α → α} {x y : α} (hq : q < n) (hx : ∀ p < n, p ≠ q → f p x = x)
    (hy : ∀ p < n, p ≠ q → f p y = y) (hf : f q x = y) : forN n f x = y := by
  have hbefore : ∀ m ≤ q, forN m f x = x := by
    intro m hm
    induction m with
    | zero => rfl
    | succ m ih =>
      rw [forN, ih (by omega)]
      exact hx m (by omega) (by omega)
  have hafter : ∀ m, q < m → m ≤ n → forN m f x = y := by
    intro m hqm hmn
    induction m with
    | zero => omega
    | succ m ih =>
      rw [forN]
      obtain rfl | hlt := Nat.eq_or_lt_of_le (Nat.le_of_lt_succ hqm)
      · rw [hbefore q le_rfl, hf]
      · rw [ih hlt (by omega)]
        exact hy m (by omega) (by omega)
  exact hafter n hq le_rfl

section

variable {d : Dev} {q : Nat}

/-! ### Frames -/

theorem Dev.regs_pairFrame : (d.pairFrame q).regs = d.regs := by
  simp only [Dev.pairFrame, apply_ite Dev.regs, Dev.setPair, ite_self]

theorem Dev.leaderOf_congr {e : Dev} (h : e.regs = d.regs) (p : Nat) : e.leaderOf p = d.leaderOf p := by
  have hg : ∀ g k, e.get g k = d.get g k := fun g k => Dev.get_congr h g k 0
  have hk : e.pGroup p = d.pGroup p := hg _ _
  unfold Dev.leaderOf Dev.is Dev.bit
  dsimp only
  rw [hk, hg, hg, hg]

/-- A frame start at a port that no shared frame clock concerns. -/
theorem Dev.serialFrame_alone {bclk : Nat} {ofs : Int} {ws : List Word} {a c : Dev} (hq : q < 16)
    (ha : a = d.captureEvent (12 + q) (!d.frameFalls q)) (hl : a.leaderOf q = none) (hn : ∀ p < 16, a.leaderOf p ≠ some q)
    (hc : c = a.pairFrame q) : d.serialFrame q bclk ofs ws = c.frameStart q bclk ofs ws := by
  have hcl : ∀ p, c.leaderOf p = a.leaderOf p := Dev.leaderOf_congr (hc ▸ Dev.regs_pairFrame)
  have hloop : forN 16 (fun p d => if p == q || d.leaderOf p == some q then d.pairFrame p else d) a = c := by
    refine forN_single hq (fun p hp hpq => if_neg ?_) (fun p hp hpq => if_neg ?_) (hc ▸ if_pos ?_)
    · simp [hpq, hn p hp]
    · simp [hpq, hcl, hn p hp]
    · simp
  simp only [Dev.serialFrame, ← ha, hl, Option.isSome_none, Bool.false_eq_true, if_false, hloop]

theorem Dev.frameStart_alone {bclk : Nat} {ofs : Int} {ws : List Word} {b : Dev} (hl : d.leaderOf q = none) (ho : d.pOn q = true)
    (hm : d.is SAP_PCFG.MASTER q = true → d.dllState (8 + q) = 4) (hb : b = d.setPort q { d.port q with present := true, lastOfs := ofs })
    (hg : b.is SAP_GRP_CFG.METHOD (b.pGroup q) = false) : d.frameStart q bclk ofs ws = b.frameAt q bclk ofs ws := by
  have hgated : (d.is SAP_PCFG.MASTER q && d.dllGated (8 + q)) = false := by
    cases h : d.is SAP_PCFG.MASTER q with
    | false => rfl
    | true => simp [Dev.dllGated, hm h]
  rw [Dev.frameStart, if_neg (by simp [ho, hgated]), if_neg (by simp [hl])]
  simp only [← hb, hg, Bool.false_and, Bool.false_eq_true, if_false]

/-- A frame of the port's length at a sample position of the block is taken there, and the port's slots leave. -/
theorem Dev.frameAt_taken {bclk : Nat} {ofs i : Int} {ws : List Word} {e f : Dev}
    (he : e = d.setPort q { d.port q with errFrame := false, closing := 0 }) (hs : e.pSync q = true) (hl : e.pLive q = true)
    (hb : bclk = 32 * max 1 (e.get SAP_PCFG.SLOTS q))
    (hi : i = if e.pState q = 1 then e.framePos q ofs else ((e.port q).rx : Int)) (h0 : 0 ≤ i) (hn : i < (e.nb : Int))
    (hr : (e.port q).rx < e.nb) (hf : f = e.setPort q { e.port q with rx := (e.port q).rx + 1 }) :
    d.frameAt q bclk ofs ws =
      (f.takeSlots q (i.toNat % 32) ws).sendSlots q (i.toNat % 32) (f.takeSlots q (i.toNat % 32) ws).aud.emit ofs := by
  have hnb : f.nb = e.nb := by rw [hf]; rfl
  rw [Dev.frameAt]
  simp only [← he, hs, if_true, hl, Bool.not_true, Bool.false_eq_true, if_false, ← hb, ne_eq, not_true, ← hi, Int.not_lt.2 h0,
    Int.not_le.2 hn, false_and, ← hf, hnb, hr]

/-! ### Gates, clock loss and groups -/

theorem Dev.gateDone_within {rate : Nat} {e f : Dev} (ho : d.pOn q = true) (hm : d.is SAP_PCFG.MASTER q = false)
    (he : e = d.put SAP_RATE.RATE rate q) (hf : f = e.setPort q { e.port q with present := true }) (hs : f.pSync q = true)
    (hr : f.rateWithin q rate = true) : d.gateDone q rate = f.setPort q { e.port q with present := true, bad := 0 } := by
  rw [Dev.gateDone, if_neg (by simp [ho, hm])]
  simp only [← he, ← hf, hs, Bool.not_true, Bool.false_and, Bool.false_eq_true, if_false, hr, if_true]

theorem Dev.clockStop_known (ho : d.pOn q = true) (hm : d.is SAP_PCFG.MASTER q = false) (hr : d.get SAP_RREF.RREF q ≠ 0) :
    d.clockStop q = ((d.setPort q { d.port q with present := false }).put SAP_PSTAT.CLKLOSS 1 q).rateChange q true :=
  if_neg (by simp [ho, hm, hr])

theorem Dev.regWrite_grpCtrl (port k : Nat) (w : Word) :
    d.regWrite port SAP_GRP_CTRL k 0 w none =
      let e := if fget w 1 1 == 1 then (d.store SAP_GRP_CTRL w k).grpStop k else d.store SAP_GRP_CTRL w k
      if fget w 0 0 == 1 then e.grpStart k else e := rfl

theorem Dev.regWrite_sapPctrl (port k : Nat) (w : Word) :
    d.regWrite port SAP_PCTRL k 0 w none = if fget w 0 0 == 1 then (d.store SAP_PCTRL w k).sapRestart k else d.store SAP_PCTRL w k := rfl

theorem Dev.sapRestart_active (h : d.pState q = 2 ∨ d.pState q = 4) : d.sapRestart q = d.toPending q := by
  have h1 : (d.pState q == 1) = false := by obtain h | h := h <;> rw [h] <;> rfl
  rw [Dev.sapRestart, if_pos (.inr h)]
  simp only [h1, Bool.false_and, Bool.false_eq_true, if_false]

end

/-- Settles O24: the frame start step by step, the other commands by the branch that their hypotheses select. -/
theorem serialCommandsComplete : Obligations.SerialCommandsComplete := by
  unfold Obligations.SerialCommandsComplete
  refine ⟨?frame, ?gate, ?clock, ?start, ?stop, ?restart⟩
  case frame =>
    intro s dt bclk q ofs i ws d a c b e f hd haw ha hl hn hc ho hm hb hg he hs hlive hbclk hi h0 hnb hr hf
    have hcl : c.leaderOf q = none := (Dev.leaderOf_congr (hc ▸ Dev.regs_pairFrame) q).trans hl
    rw [exec_frameStart, State.after_event _ haw, ← hd, Dev.serialFrame_alone q.isLt ha hl hn hc, Dev.frameStart_alone hcl ho hm hb hg,
      Dev.frameAt_taken he hs hlive hbclk hi h0 hnb hr hf]
  case gate =>
    intro s dt rate q d e f hd haw ho hm he hf hs hr
    rw [exec_rateGateEnd, State.after_event _ haw, ← hd, Dev.gateDone_within ho hm he hf hs hr]
  case clock =>
    intro s dt q d hd haw ho hm hr
    rw [exec_clockStop, State.after_event _ haw, ← hd, Dev.clockStop_known ho hm hr]
  case start =>
    intro s p k w c e hc hs hso h0 h1 he hst
    rw [hc] at hso
    rw [exec_sapGroupStart, State.after_write_solo hs (b := 9) (by decide) k.isLt Nat.one_pos hso, ← hc, Dev.regWrite_grpCtrl, h0, h1, ← he]
    exact congrArg (s.ends s.dev) (if_neg (not_not.2 hst))
  case stop =>
    intro s p k w c hc hs hso h0 h1
    rw [hc] at hso
    rw [exec_sapGroupStop, State.after_write_solo hs (b := 9) (by decide) k.isLt Nat.one_pos hso, ← hc, Dev.regWrite_grpCtrl, h0, h1]
    rfl
  case restart =>
    intro s p q w c e hc hs hso h0 he hst
    rw [hc] at hso
    rw [exec_sapRestart, State.after_write_solo hs (b := 9) (by decide) q.isLt Nat.one_pos hso, ← hc, Dev.regWrite_sapPctrl, h0,
      if_pos (beq_self_eq_true 1), ← he, Dev.sapRestart_active hst]

end Sys2Proof.Machine
end

section
/-! The crosspoint (R120 to R126) and the rate converters (R112 to R119). -/

namespace Sys2Proof.Machine

section

variable {d : Dev}

/-! ### The crosspoint -/

/-- While the cycle runs, what is staged waits behind what was staged before. -/
theorem Dev.xptStage_running {x : XStaged} (hn : d.xpt.staged.length + d.xpt.deferred.length < 4096) (hr : d.running = true) :
    d.xptStage x = ({ d with xpt := { d.xpt with staged := d.xpt.staged ++ [x] } }).putStaged :=
  (if_neg (Nat.not_le.2 hn)).trans (if_pos hr)

/-- While the cycle is not RUNNING, a write is a commit of its own, and what was staged before stays. -/
theorem Dev.xptStage_stopped {x : XStaged} {e : Dev} (hn : d.xpt.staged.length + d.xpt.deferred.length < 4096) (hr : d.running = false)
    (he : e = ({ d with xpt := { d.xpt with staged := [x] } }).xptCommit.put XPT_CTRL.ARM (d.get XPT_CTRL.ARM)) :
    d.xptStage x = ({ e with xpt := { e.xpt with staged := d.xpt.staged, late := d.xpt.late, missed := d.xpt.missed } }).putStaged := by
  have hrest : (d.xpt.staged ++ [x]).dropLast = d.xpt.staged := List.dropLast_concat
  subst he
  rw [← hrest]
  exact (if_neg (Nat.not_le.2 hn)).trans (if_neg (fun h => Bool.false_ne_true (hr.symm.trans h)))

/-- A command of OP 0 or 1 for a slot of the image, whose source is one, is staged with its length and law. -/
theorem Dev.xptCmdData_staged {k len v : Nat} {ep : Bool} (hk : k = d.get XPT_CMD_SLOT.SLOT) (hn : k < d.xpt.nx)
    (hl : len = 1 + (if d.is XPT_CMD_SLOT.DEF = true then d.get XPT_FADE_CFG.LENM1 else d.get XPT_CMD_SLOT.LENM1))
    (he : ep = (if d.is XPT_CMD_SLOT.DEF = true then d.is XPT_FADE_CFG.LAW else d.is XPT_CMD_SLOT.LAW))
    (ho : d.get XPT_CMD_SLOT.OP < 2) (hs : d.get XPT_CMD_SLOT.OP = 0 → v % 65536 = 0xFFFF ∨ d.badSource (v % 65536) = false) :
    d.xptCmdData v = d.xptStage (.cmd ⟨d.get XPT_CMD_SLOT.OP == 0, d.is XPT_CMD_SLOT.HARD, len, ep, k, v⟩) := by
  subst hk hl he
  refine (if_neg (Nat.not_le.2 ho)).trans (if_neg ?_)
  rintro (h | ⟨h0, h1, h2⟩)
  · omega
  · exact (hs h0).elim h1 (fun h => by simp [h] at h2)

theorem Dev.regWrite_xptCmdData (port : Nat) (w : Word) : d.regWrite port XPT_CMD_DATA 0 0 w none = d.xptCmdData w.toNat := rfl

/-- ARM while the cycle runs is held for the boundary, late where its block is not later than the current one. -/
theorem Dev.regWrite_xptCtrl_arm {w : Word} {e : Dev} (port : Nat) (he : e = d.store XPT_CTRL w) (h : bitOf w.toNat 0 = 1)
    (hr : e.running = true) : d.regWrite port XPT_CTRL 0 0 w none =
      (if e.get XPT_CTRL.MODE = 2 ∧ later32 (e.get XPT_COMMIT.BLOCK) (e.get SYS_BLK_COUNT.COUNT) = false then
        { e with xpt := { e.xpt with late := true } }
      else e) := by
  have hj : e.xptJudge w.toNat = (if e.get XPT_CTRL.MODE = 2 ∧ later32 (e.get XPT_COMMIT.BLOCK) (e.get SYS_BLK_COUNT.COUNT) = false then
        { e with xpt := { e.xpt with late := true } } else e) := by
    refine if_congr ?_ rfl rfl
    simp [h]
  have hrun : (e.xptJudge w.toNat).running = true := by
    unfold Dev.xptJudge
    split
    · exact hr
    · exact hr
  rw [← hj, he]
  refine if_neg ?_
  rw [← he, hrun]
  simp

theorem Dev.fadeComplete_filtered (k : Nat) (lone : Bool) : d.fadeComplete k lone = ({ d with xpt := { d.xpt with
    fades := d.xpt.fades.filter (fun f => decide (f.slot ≠ k ∨ f.lone ≠ lone ∨ f.j < f.len)) } }).putFades := by
  have hf : (fun f : XFade => !(f.slot == k && f.lone == lone && decide (f.len ≤ f.j))) =
      fun f => decide (f.slot ≠ k ∨ f.lone ≠ lone ∨ f.j < f.len) := by
    funext f
    rw [Bool.eq_iff_iff, Bool.not_eq_true', ← Bool.not_eq_true, decide_eq_true_iff, Bool.and_eq_true, Bool.and_eq_true, beq_iff_eq,
      beq_iff_eq, decide_eq_true_iff, ← Nat.not_le]
    tauto
  rw [Dev.fadeComplete, hf]

theorem Dev.silEnter_silent {x : Nat} (h0 : d.silThr x ≠ 0) (h1 : d.silent x = false) (h2 : d.silHold x ≤ tabGet 0 d.xpt.sil x)
    (h3 : 0 < (tabGet (0, 0) d.xpt.part x).2) : d.silEnter x = d.silChange x d.passBlock true :=
  if_pos (by simp [h0, h1, h2, h3])

/-- The six staged registers of the crosspoint, as registers of its block. -/
theorem xptReg_decoded (x : XptReg) : ∃ r i, xptRegAddr x = r.addr i 0 ∧ r ∈ regsOfBlock 11 ∧ i < r.n1 ∧ 0 < r.n2 ∧
    (r ≠ PERF_CNT_LO ∧ r ≠ PERF_CNT_AUX ∧ r ≠ MGMT_VEC_PEND0) ∧
    ∀ (d : Dev) (port : Nat) (w : Word), d.regWrite port r i 0 w none = d.xptStage (.reg (r.addr i 0) w) := by
  cases x with
  | genCfg g => exact ⟨XPT_GEN_CFG, g, rfl, by decide, g.isLt, by decide, by decide, fun _ _ _ => rfl⟩
  | genFreq g => exact ⟨XPT_GEN_FREQ, g, rfl, by decide, g.isLt, by decide, by decide, fun _ _ _ => rfl⟩
  | genLevel g => exact ⟨XPT_GEN_LEVEL, g, rfl, by decide, g.isLt, by decide, by decide, fun _ _ _ => rfl⟩
  | genSeed g => exact ⟨XPT_GEN_SEED, g, rfl, by decide, g.isLt, by decide, by decide, fun _ _ _ => rfl⟩
  | silCfg x => exact ⟨XPT_SIL_CFG, x, rfl, by decide, x.isLt, by decide, by decide, fun _ _ _ => rfl⟩
  | psmSil n => exact ⟨XPT_PSM_SIL, n, rfl, by decide, n.isLt, by decide, by decide, fun _ _ _ => rfl⟩

/-- A served write of a staged register, by a chip that mirrors nothing, stages it. -/
theorem State.after_xptStaged {s : State} {p : Port} {x : XptReg} (h : s.served p) (hs : (s.counted p (xptRegAddr x)).solo) (w : Word) :
    s.after (fun d => d.access (fun d => d.busWrite (portNum p) (xptRegAddr x) w)) =
      s.ends s.dev ((s.counted p (xptRegAddr x)).xptStage (.reg (xptRegAddr x) w)) := by
  obtain ⟨r, i, ha, hm, hi, hj, ⟨hlo, hax, hvp⟩, hw⟩ := xptReg_decoded x
  rw [ha] at hs ⊢
  rw [State.after_write_solo h hm hi hj hs w hlo hax hvp, hw]

/-! ### The rate converters -/

theorem Dev.convStart_acquire {k r : Nat} {e : Dev} (ho : d.convOn k = true) (hs : d.convState k = 0) (hr : ratioOk r = true)
    (he : e = d.setRatio k r) :
    d.convStart k r = (e.setConv k { e.conv k with bw := acqBw, src := [], cnt := 0 }).put ASRC_STAT.STATE 1 k := by
  subst he
  exact (if_pos (by simp [ho, hs])).trans (if_pos hr)

theorem Dev.convLock_locked {k r : Nat} {dly : Int} {e : Dev} (hs : d.convState k = 1 ∨ d.convState k = 3) (hr : ratioOk r = true)
    (he : e = d.setRatio k r) : d.convLock k r dly =
      ((e.setConv k { e.conv k with bw := 50 * 2 ^ e.get ASRC_CTRL.TRK_BW }).put ASRC_STAT.STATE 2 k).put ASRC_DLY.ERR
        (unsW 16 (clampI (-32768) 32767 dly)) k := by
  subst he
  exact (if_pos hs).trans (if_pos hr)

theorem Dev.convSlip_retrack {k r : Nat} {e : Dev} (hs : d.convState k = 2) (hr : ratioOk r = true)
    (he : e = (d.convRetrack k).setRatio k r) : d.convSlip k r =
      (if e.cycling = true then e.setConv k { e.conv k with slip := true } else e.raise FS.ASRC_SLIP) := by
  subst he
  exact (if_pos hs).trans (if_pos hr)

theorem Dev.convRangeClear_acquire {k r : Nat} {e : Dev} (hs : d.convState k = 4) (hr : ratioOk r = true) (he : e = d.setRatio k r) :
    d.convRangeClear k r = (e.setConv k { e.conv k with bw := acqBw }).put ASRC_STAT.STATE 1 k := by
  subst he
  exact if_pos (by simp [hs, hr])

theorem Dev.convIdle_idle {k : Nat} (hs : d.convState k ≠ 0) : d.convIdle k = d.put ASRC_STAT.STATE 0 k := if_neg hs

end

/-- Settles O25: a command goes through `Dev.xptCmdData` to `Dev.xptStage`, whose two branches are the cycle running and not; the rest is one
branch of each event. -/
theorem crosspointAndConverterCommandsComplete : Obligations.CrosspointAndConverterCommandsComplete := by
  unfold Obligations.CrosspointAndConverterCommandsComplete
  refine ⟨?command, ?staged, ?arm, ?fade, ?search, ?silence, ?start, ?lock, ?slip, ?clear, ?idle⟩
  case command =>
    intro s p w c k len ep hc hs hso hk hnx hlen hep hn
    rw [hc] at hso
    have hw := State.after_write_solo hs (b := 11) (by decide) Nat.one_pos Nat.one_pos hso w
    rw [← hc, Dev.regWrite_xptCmdData] at hw
    refine ⟨?_, ?_, ?_, ?_⟩
    · intro hr hop hsrc
      rw [exec_xptRouteCmd, hw, Dev.xptCmdData_staged hk hnx hlen hep (by omega) (fun _ => hsrc), hop, Dev.xptStage_running hn hr]
      rfl
    · intro hr hop
      rw [exec_xptGainCmd, hw, Dev.xptCmdData_staged hk hnx hlen hep (by omega) (by omega), hop, Dev.xptStage_running hn hr]
      rfl
    · intro e hr hop hsrc he
      rw [exec_xptRouteCmd, hw, Dev.xptCmdData_staged hk hnx hlen hep (by omega) (fun _ => hsrc), hop]
      exact congrArg (s.ends s.dev) (Dev.xptStage_stopped hn hr he)
    · intro e hr hop he
      rw [exec_xptGainCmd, hw, Dev.xptCmdData_staged hk hnx hlen hep (by omega) (by omega), hop]
      exact congrArg (s.ends s.dev) (Dev.xptStage_stopped hn hr he)
  case staged =>
    intro s p x w c hc hs hso hn
    rw [hc] at hso
    have hw := State.after_xptStaged hs hso w
    rw [← hc] at hw
    refine ⟨?_, ?_⟩
    · intro hr
      rw [exec_xptStagedWrite, hw, Dev.xptStage_running hn hr]
    · intro e hr he
      rw [exec_xptStagedWrite, hw, Dev.xptStage_stopped hn hr he]
  case arm =>
    intro s p w c e hc hs hso h he hr
    rw [hc] at hso
    rw [exec_xptArm, State.after_write_solo hs (b := 11) (by decide) Nat.one_pos Nat.one_pos hso, ← hc, Dev.regWrite_xptCtrl_arm _ he h hr]
  case fade =>
    intro s dt k lone d hd haw
    rw [exec_fadeComplete, State.after_event _ haw, ← hd, Dev.fadeComplete_filtered]
  case search =>
    intro s dt k d e hd haw he
    subst he
    rw [exec_zcTimeout, State.after_event _ haw, ← hd]
    rfl
  case silence =>
    intro s dt x d hd haw h0 h1 h2 h3
    rw [exec_silenceEnter, State.after_event _ haw, ← hd, Dev.silEnter_silent h0 h1 h2 h3]
  case start =>
    intro s dt r k d e hd haw ho hst hr he
    rw [exec_asrcStart, State.after_event _ haw, ← hd, Dev.convStart_acquire ho hst hr he]
  case lock =>
    intro s dt r k dly d e hd haw hst hr he
    rw [exec_asrcLock, State.after_event _ haw, ← hd, Dev.convLock_locked hst hr he]
  case slip =>
    intro s dt r k d e hd haw hst hr he
    rw [exec_asrcSlip, State.after_event _ haw, ← hd, Dev.convSlip_retrack hst hr he]
  case clear =>
    intro s dt r k d e hd haw hst hr he
    rw [exec_asrcRangeClear, State.after_event _ haw, ← hd, Dev.convRangeClear_acquire hst hr he]
  case idle =>
    intro s dt k d hd haw hst
    rw [exec_asrcIdle, State.after_event _ haw, ← hd, Dev.convIdle_idle hst]

end Sys2Proof.Machine
end

section
/-! The Ethernet ports (R226 to R243). -/

namespace Sys2Proof.Machine

section

variable {d : Dev} {q : Nat}

/-- A frame that the port takes: sound, of a legal length, and past the filters. -/
structure Dev.EthTakes (d : Dev) (q : Nat) (f : List Byte) : Prop where
  on : d.ethOn q = true
  link : d.is ETH_PORT_STAT.LINK q = true
  long : 60 ≤ f.length
  short : f.length ≤ 1518
  dst : d.dstOk q (beAt f 0 6) = true
  vlan : d.vlanOk q f = true

theorem Dev.ethReceive_toRing {f : List Byte} (h : d.EthTakes q f) (hs : d.strMatch q f = none) : d.ethReceive q true f = d.ethToRing q f := by
  obtain ⟨ho, hl, h0, h1, hd, hv⟩ := h
  rw [Dev.ethReceive, if_neg (by simp [ho, hl]), if_neg (by simp [h0, h1]), if_neg (by simp [hd, hv]), hs]

theorem Dev.ethReceive_stream {f : List Byte} {x : Nat} (h : d.EthTakes q f) (hs : d.strMatch q f = some x) :
    d.ethReceive q true f = d.rtpReceive q x f := by
  obtain ⟨ho, hl, h0, h1, hd, hv⟩ := h
  rw [Dev.ethReceive, if_neg (by simp [ho, hl]), if_neg (by simp [h0, h1]), if_neg (by simp [hd, hv]), hs]

/-- The front frame, of which neither a stamp in the frame nor one in the queue is asked, leaves with its FCS. -/
theorem Dev.frameTransmit_plain {size : Nat} {h f : List Byte} {e : Dev} (ho : d.ethOn q = true) (hl : d.is ETH_PORT_STAT.LINK q = true)
    (hr : d.ringFront (86 + q) 2 64 = (some (size, h, f), e)) (hf : leAt h 3 1 = 0) :
    d.frameTransmit q = (e.ringPop (86 + q) size).emit (.frame q (f ++ leBytes 4 (crc32 f))) := by
  rw [Dev.frameTransmit, if_neg (by simp [ho, hl]), hr]
  simp only [hf]
  rfl

theorem Dev.ethLinkLoss_linked (ho : d.ethOn q = true) (hl : d.is ETH_PORT_STAT.LINK q = true) :
    d.ethLinkLoss q = ((d.put ETH_PORT_STAT.LINK 0 q).put ETH_PORT_STAT.LINKEV 1 q).raise (FS.ETH_LINK + q) := if_pos (by simp [ho, hl])

theorem Dev.ethLinkUp_on (ho : d.ethOn q = true) (hi : d.imageApplied = true) : d.ethLinkUp q = d.put ETH_PORT_STAT.LINK 1 q :=
  if_pos (by simp [ho, hi])

theorem Dev.regWrite_strCtrl {w : Word} (port i : Nat) (h : fget w 1 1 = 0) :
    d.regWrite port ETH_STR_CTRL i 0 w none = d.streamEnable i (fget w 0 0 == 1) := by
  have hb : (if fget w 1 1 == 1 then d.put ETH_STR_CTRL.BUSYWR 0 i else d) = d := if_neg (by simp [h])
  exact congrArg (fun e => Dev.streamEnable e i (fget w 0 0 == 1)) hb

/-! ### The stamp registers -/

theorem Dev.txtsPop_cons {c : Dev} {x : List Nat} {xs : List (List Nat)} (h : tabGet [] c.txts q = x :: xs)
    (hd : d = ((((((({ c with txts := tabPut [] c.txts q xs }).put ETH_TXTS_INFO.VALID 1 q).put ETH_TXTS_INFO.MTYPE (nth 0 x 0) q).put
      ETH_TXTS_INFO.DOMAIN (nth 0 x 1) q).put ETH_TXTS_INFO.SEQID (nth 0 x 2) q).put ETH_TXTS_SEC.SEC (nth 0 x 3) q).put
      ETH_TXTS_NS.NS (nth 0 x 4) q)) : c.txtsPop q = d := by
  rw [Dev.txtsPop, h, hd]

theorem Dev.imageApplied_txtsPop : (d.txtsPop q).imageApplied = d.imageApplied := by
  cases h : tabGet [] d.txts q with
  | nil => rw [Dev.txtsPop, h, Dev.put_imageApplied]
  | cons x xs => rw [Dev.txtsPop_cons h rfl, Dev.put_imageApplied, Dev.put_imageApplied, Dev.put_imageApplied, Dev.put_imageApplied, Dev.put_imageApplied, Dev.put_imageApplied]

/-- Is a register read by its fields alone, and are some of them cleared by the read? -/
def Reg.readsClearing (r : Reg) : Bool :=
  r != SYS_SS_PAGE && r != FLT_GLOG_DATA && r != MGMT_HPORT_DATA && r != PERF_CNT_LO && r != PERF_CNT_HI && r != PERF_SLOT_LO &&
    r != PERF_SLOT_HI && r.flds.any (fun f => f.ty == .rc)

theorem Dev.regRead_clearing {e : Dev} {r : Reg} {port i j : Nat} (hp : r.readsClearing = true) (h : d.inReset r.blk = false)
    (he : d.regBeforeRead r i = e) :
    d.regRead port r i j = (regLoad (e.imgSet r i) r.flds (e.rd r i j), e.wr r (regAfterRead r.flds (e.rd r i j)) i j) := by
  simp only [Reg.readsClearing, Bool.and_eq_true, bne_iff_ne, ne_eq] at hp
  obtain ⟨⟨⟨⟨⟨⟨⟨h1, h2⟩, h3⟩, h4⟩, h5⟩, h6⟩, h7⟩, h8⟩ := hp
  simp only [Dev.regRead, h, Bool.and_false, Bool.false_eq_true, if_false, beq_iff_eq, h1, h2, h3, h4, h5, h6, h7, h8, he, if_true]

theorem Dev.regBeforeRead_txtsInfo : d.regBeforeRead ETH_TXTS_INFO q = d.txtsPop q :=
  (if_neg (by decide)).trans ((if_neg (by decide)).trans (if_pos (beq_self_eq_true ETH_TXTS_INFO)))

/-- A read of the stamp's first register: the stamp comes first, and the read clears the register's RC fields. -/
theorem Dev.regRead_txtsInfo (port : Nat) (hr : d.inReset 7 = false) {e : Dev} (he : d.txtsPop q = e) :
    d.regRead port ETH_TXTS_INFO q 0 = (regLoad d.imageApplied ETH_TXTS_INFO.flds (e.rd ETH_TXTS_INFO q),
      e.wr ETH_TXTS_INFO (regAfterRead ETH_TXTS_INFO.flds (e.rd ETH_TXTS_INFO q)) q) := by
  have himg : e.imgSet ETH_TXTS_INFO q = d.imageApplied := (Bool.and_true _).trans (he ▸ Dev.imageApplied_txtsPop)
  rw [Dev.regRead_clearing (by decide) hr (Dev.regBeforeRead_txtsInfo.trans he), himg]

end

/-- Settles O26: the two commands of a received frame part at the stream match; the read of the stamp register loads the oldest stamp first. -/
theorem ethernetCommandsComplete : Obligations.EthernetCommandsComplete := by
  unfold Obligations.EthernetCommandsComplete
  refine ⟨?receive, ?transmit, ?stamp, ?loss, ?stream, ?up⟩
  case receive =>
    intro s dt q f d hd haw ho hl h0 h1 hdst hv
    have ht : d.EthTakes q f := ⟨ho, hl, h0, h1, hdst, hv⟩
    refine ⟨?_, ?_⟩
    · intro hs
      rw [exec_frameReceive, State.after_event _ haw, ← hd, Dev.ethReceive_toRing ht hs]
    · intro x hs
      rw [exec_rtpReceive, State.after_event _ haw, ← hd, Dev.ethReceive_stream ht hs]
  case transmit =>
    intro s dt size q h f d e hd haw ho hl hr hf
    rw [exec_frameTransmit, State.after_event _ haw, ← hd, Dev.frameTransmit_plain ho hl hr hf]
  case stamp =>
    intro s p q c d x xs hc hs hr ht hd
    rw [exec_txtsPop, State.after_read hs (b := 7) (by decide) q.isLt Nat.one_pos (by decide), ← hc,
      Dev.regRead_txtsInfo _ hr (Dev.txtsPop_cons ht hd)]
  case loss =>
    intro s dt q d hd haw ho hl
    rw [exec_ethLinkLoss, State.after_event _ haw, ← hd, Dev.ethLinkLoss_linked ho hl]
  case stream =>
    intro s p x w c hc hs hw
    rw [exec_streamEnable, State.after_write hs (b := 7) (by decide) x.isLt Nat.one_pos (by decide), ← hc, Dev.regWrite_strCtrl _ _ hw]
  case up =>
    intro s dt q d hd haw ho hi
    rw [exec_ethLinkUp, State.after_event _ haw, ← hd, Dev.ethLinkUp_on ho hi]

end Sys2Proof.Machine
end

section
/-! HELLO, topology records and the flood cache (R216 to R220). -/

namespace Sys2Proof.Machine

theorem length_beBytes (n v : Nat) : (beBytes n v).length = n := by rw [beBytes, List.length_reverse, length_leBytes]

theorem length_mkHdr (cls ty : Nat) (last mc : Bool) (lenw cidx flow ttl src seq blk : Nat) :
    (mkHdr cls ty last mc lenw cidx flow ttl src seq blk).length = 16 := by
  simp only [mkHdr, List.length_append, length_beBytes, List.length_singleton]

section

variable {d : Dev} {l : Nat}

/-! ### HELLO -/

/-- What a HELLO of the node tells on a link. -/
def Dev.helloPay (d : Dev) (l : Nat) : List Byte :=
  beBytes 8 d.uid ++ beBytes 2 d.nodeId ++ beBytes 1 l ++
    beBytes 1 (d.get HFB_NODE.MODE + 2 * d.get PAIR_CFG.EN + 4 * b2n d.isSource + 8 * b2n d.running) ++
    beBytes 1 (d.get SYS_BLK_CFG.FI + 16 * d.get SYS_BLK_CFG.NB) ++ [0, 0, 0] ++
    beBytes 4 (d.get HFB_FABID_HI.FABID) ++ beBytes 4 (d.get HFB_FABID_LO.FABID)

theorem Dev.length_helloPay : (d.helloPay l).length = 24 := by
  simp only [Dev.helloPay, List.length_append, length_beBytes, List.length_cons, List.length_nil]

theorem Dev.helloPay_uid : (d.helloPay l).take 8 = beBytes 8 d.uid := by
  simp only [Dev.helloPay, List.append_assoc]
  exact List.take_left' (length_beBytes _ _)

theorem Dev.helloPay_node : ((d.helloPay l).drop 8).take 2 = beBytes 2 d.nodeId := by
  simp only [Dev.helloPay, List.append_assoc]
  rw [List.drop_left' (length_beBytes _ _)]
  exact List.take_left' (length_beBytes _ _)

theorem Dev.helloPay_link : ((d.helloPay l).drop 10).take 1 = beBytes 1 l := by
  simp only [Dev.helloPay, List.append_assoc]
  rw [← List.append_assoc, List.drop_left' (by rw [List.length_append, length_beBytes, length_beBytes])]
  exact List.take_left' (length_beBytes _ _)

theorem Dev.helloSend_due (ha : d.lActive l = true) (hd : d.isDue .hello 990000 l = true) :
    ∃ hdr : List Byte, hdr.length = 16 ∧
      d.helloSend l = (d.startTimer .hello l).draw.2.queueCell l { cls := 2, bytes := hdr ++ (d.startTimer .hello l).draw.2.helloPay l } :=
  ⟨_, length_mkHdr _ _ _ _ _ _ _ _ _ _ _, if_neg (by simp [ha, hd])⟩

/-- The first valid HELLO of the node's fabric records the neighbour. -/
theorem Dev.helloReceive_first {bs : List Byte} {e : Dev} (ha : d.lActive l = true) (hh : hdrOk 2 bs = true) (hc : crcState bs = 0)
    (ht : hType bs = 0) (hf : hFlow bs = 0) (he : e = (d.freeCell l 2 bs).perfEvent 0x19 1 { k := 2 })
    (hfab : beAt (cellPay bs) 16 8 = e.get HFB_FABID_HI.FABID * 2 ^ 32 + e.get HFB_FABID_LO.FABID) (hs : e.get HFB_ADJ.STATE l = 0) :
    d.helloReceive l bs = ((e.startTimer .adj l).put HFB_ADJ.STATE 1 l).setAdj0 l
      ⟨beAt (cellPay bs) 0 8, 1, beAt (cellPay bs) 8 2, cb (cellPay bs) 10⟩ := by
  have hs' : (e.startTimer .adj l).get HFB_ADJ.STATE l = 0 := hs
  rw [Dev.helloReceive, if_neg (by simp [ha]), if_neg (by simp [hh])]
  dsimp only
  rw [if_neg (by simp [hc]), ← he, if_neg (by simp [ht]), if_neg (by simp [ht, hf]), if_neg (by simp [hfab])]
  simp only [hs']

theorem Dev.adjDead_up (hs : d.get HFB_ADJ.STATE l = 2) (hd : d.isDue .adj (max 3 (d.get HFB_CFG.DEAD) * 1000000) l = true) :
    d.adjDead l = d.adjNone l true := by
  rw [Dev.adjDead, if_neg (by simp [hd])]
  simp only [hs]

/-! ### Topology records and the flood cache -/

/-- An adjacency as a TOPO record tells it: the node, the two links, the rate and the delay. -/
def topoEntry (a : Nat × Nat × Nat × Nat × Nat) : List Byte :=
  beBytes 2 a.1 ++ beBytes 1 a.2.1 ++ beBytes 1 a.2.2.1 ++ beBytes 1 a.2.2.2.1 ++ [0] ++ beBytes 2 a.2.2.2.2

/-- What a TOPO record of the node tells. -/
def Dev.topoPay (d : Dev) : List Byte :=
  beBytes 8 d.uid ++ beBytes 1 d.topoFlags ++ beBytes 1 (d.get HFB_CFG.TPRIO) ++ beBytes 1 d.topoAdj.length ++ [0, 0, 0, 0, 0] ++
    d.topoAdj.flatMap topoEntry

theorem Dev.topoPay_uid : d.topoPay.take 8 = beBytes 8 d.uid := by
  simp only [Dev.topoPay, List.append_assoc]
  exact List.take_left' (length_beBytes _ _)

theorem Dev.topoPay_count : (d.topoPay.drop 10).take 1 = beBytes 1 d.upLinks.length := by
  have hn : d.topoAdj.length = d.upLinks.length := List.length_map _
  have hlen : (beBytes 8 d.uid ++ beBytes 1 d.topoFlags ++ beBytes 1 (d.get HFB_CFG.TPRIO)).length = 10 := by
    simp only [List.length_append, length_beBytes]
  rw [Dev.topoPay, List.append_assoc, List.append_assoc, List.drop_left' hlen, hn]
  exact List.take_left' (length_beBytes _ _)

theorem Dev.topoOriginate_due {c e : Dev} (hf : d.fabricService = true) (hd : d.hfb.topoDue = true ∨ d.isDue .topo 1000000000 = true)
    (hc : c = ({ d with hfb := { d.hfb with topoDue := false } }).startTimer .topo)
    (he : e = { c with hfb := { c.hfb with topoSeq := (c.hfb.topoSeq + 1) % 65536 } }) :
    d.topoOriginate = e.broadcast 1 e.hfb.topoSeq e.topoPay := by
  subst he hc
  refine if_neg ?_
  rcases hd with h | h <;> simp [hf, h]

theorem Dev.candShown_eq (r : TopoRec) : d.candShown r = { d with hfb := { d.hfb with
    beaten := d.hfb.beaten || (d.hfb.phase == 2 && r.node == d.hfb.cand) } } := by
  by_cases h : d.hfb.phase = 2 ∧ r.node = d.hfb.cand
  · have hb : (d.hfb.phase == 2 && r.node == d.hfb.cand) = true := by simpa using h
    rw [Dev.candShown, if_pos h, hb, Bool.or_true]
  · have hb : (d.hfb.phase == 2 && r.node == d.hfb.cand) = false := by simpa using h
    rw [Dev.candShown, if_neg h, hb, Bool.or_false]

theorem Dev.topoReceive_newer {bs : List Byte} {r o : TopoRec} {k : Nat} (hf : d.fabricService = true)
    (hr : r = { topoOf bs with at_ := d.tclk }) (hu : r.uid ≠ d.uid) (ho : d.hfb.topo.find? (fun kv => kv.1 == r.uid) = some (k, o))
    (hl : later16 r.seq o.seq = true) : d.topoReceive bs = (({ d with hfb := { d.hfb with
      topo := tabIns d.hfb.topo r.uid r, beaten := d.hfb.beaten || (d.hfb.phase == 2 && r.node == d.hfb.cand) } }).idConflict r).timeElect := by
  subst hr
  refine ((if_neg (by simp [hu, hf])).trans (if_pos ?newer)).trans ?_
  case newer =>
    dsimp only
    rw [ho]
    exact hl
  · rw [Dev.candShown_eq]

theorem Dev.topoExpire_old {uid : Nat} (hf : d.fabricService = true)
    (ho : ∀ kv ∈ d.hfb.topo, kv.1 = uid → kv.2.at_ + 875000000 ≤ d.tclk) :
    d.topoExpire uid = ({ d with hfb := { d.hfb with topo := d.hfb.topo.filter (fun kv => decide (kv.1 ≠ uid)) } }).timeElect := by
  have hany : d.hfb.topo.any (fun kv => kv.1 == uid && decide (d.tclk < kv.2.at_ + 875000000)) = false := by
    simpa using ho
  have hp : (fun kv : Nat × TopoRec => kv.1 != uid) = fun kv => decide (kv.1 ≠ uid) := by
    funext kv
    rw [bne, Bool.eq_iff_iff]
    simp
  rw [Dev.topoExpire, hany, hf, hp]
  rfl

end

/-- Settles O27: one branch of each event; the header and the payload of the cells sent are those that the model spells. -/
theorem topologyCommandsComplete : Obligations.TopologyCommandsComplete := by
  unfold Obligations.TopologyCommandsComplete
  refine ⟨?send, ?receive, ?dead, ?originate, ?newer, ?expire, ?flood⟩
  case send =>
    intro s dt l d hd haw ha ht
    obtain ⟨hdr, hlen, hsend⟩ := Dev.helloSend_due ha ht
    refine ⟨hdr, (d.startTimer .hello l).draw.2.helloPay l, hlen, Dev.length_helloPay, Dev.helloPay_uid, Dev.helloPay_node, Dev.helloPay_link, ?_⟩
    rw [exec_helloSend, State.after_event _ haw, ← hd, hsend]
  case receive =>
    intro s dt l bs d e hd haw ha hh hc ht hf he hfab hs
    rw [exec_helloReceive, State.after_event _ haw, ← hd, Dev.helloReceive_first ha hh hc ht hf he hfab hs]
  case dead =>
    intro s dt l d hd haw hs ht
    rw [exec_adjDeadTimeout, State.after_event _ haw, ← hd, Dev.adjDead_up hs ht]
  case originate =>
    intro s dt d c e hd haw hf ht hc he
    refine ⟨_, Dev.topoPay_uid, Dev.topoPay_count, ?_⟩
    rw [exec_topoOriginate, State.after_event _ haw, ← hd, Dev.topoOriginate_due hf ht hc he]
  case newer =>
    intro s dt bs r o k d hd haw hf hr hu ho hl
    rw [exec_topoReceive, State.after_event _ haw, ← hd, Dev.topoReceive_newer hf hr hu ho hl]
  case expire =>
    intro s dt uid d hd haw hf ho
    rw [exec_topoExpire, State.after_event _ haw, ← hd, Dev.topoExpire_old hf ho]
  case flood =>
    intro s dt d hd haw
    rw [exec_floodKeyExpire, State.after_event _ haw, ← hd]
    rfl

end Sys2Proof.Machine
end

section
/-! Node IDs (R207 to R210) and the forwarding table (R214). -/

namespace Sys2Proof.Machine

/-- A write of a register that no block reset concerns gives its RW field the value written. -/
theorem Dev.get_store_rw (d : Dev) {f : FRef} (w : Word) (i j : Nat) (hr : f.reg ∈ allRegs) (hf : (⟨f.hi, f.lo, .rw, false⟩ : Fld) ∈ f.reg.flds)
    (hd : f.reg.dom ≠ .block) : (d.store f.reg w i j).get f i j = fget w f.hi f.lo := by
  obtain ⟨hp, hw⟩ := flds_apart hr
  rw [Dev.store, if_neg (by simp [hd]), Dev.get, Dev.rd_wr_same, regStore,
    fget_foldl_fset_mem (fldStore (d.imgSet f.reg i) w (d.rd f.reg i j)) (f := ⟨f.hi, f.lo, .rw, false⟩) _ 0 hp hw hf]
  exact Nat.mod_eq_of_lt (fldStore_lt _ _ _ _)

/-- Counting the bits of a mask one by one gives the number of its bits. -/
theorem forN_bitOf_eq_length_filter (m n : Nat) :
    forN n (fun l k => k + bitOf m l) 0 = ((List.range n).filter (fun l => decide (m / 2 ^ l % 2 = 1))).length := by
  induction n with
  | zero => rfl
  | succ n ih =>
    have hb : bitOf m n = m / 2 ^ n % 2 := by rw [bitOf, Nat.shiftRight_eq_div_pow]
    rw [forN, ih, List.range_succ, List.filter_append, List.length_append, hb]
    rcases Nat.mod_two_eq_zero_or_one (m / 2 ^ n) with h | h <;> simp [h]

section

variable {d : Dev} {i : Nat}

/-! ### Node IDs -/

theorem Dev.electReceive_defend {bs : List Byte} (hf : d.fabricService = true) (hu : beAt (cellPay bs) 4 8 ≠ d.uid)
    (ho : cb (cellPay bs) 0 = 1) (hi : beAt (cellPay bs) 2 2 = d.nodeId) (hn : d.nodeId ≠ 0) :
    d.electReceive bs = d.draw.2.broadcast 2 (Config.freeNat d.free) (d.draw.2.electPay 2 d.nodeId) := by
  rw [← hi]
  exact (if_neg (by simp [hu, hf])).trans (if_pos ⟨ho, hi, hi ▸ hn⟩)

theorem Dev.nodeIdWrite_auto {v : Nat} (hm : d.is HFB_NODE.MODE = false) (h0 : v ≠ 0) (hv : v ≤ 0xFFE)
    (hm' : (d.put HFB_NODE.ID v).is HFB_NODE.MODE = false) :
    (d.nodeIdWrite v).2 = (d.put HFB_NODE.ID v).topoCall.setMemLe mramNode 2 v := by
  have hm'' : (d.put HFB_NODE.ID v).topoCall.is HFB_NODE.MODE = false := hm'
  rw [Dev.nodeIdWrite]
  simp only [hm, hm'', hv, h0, decide_true, Bool.not_true, Bool.false_eq_true, if_false, Bool.not_false, Bool.true_and, bne_iff_ne,
    ne_eq, not_false_eq_true, if_true]

theorem Dev.regWrite_node (port : Nat) (w : Word) (h : d.imageApplied = true) :
    d.regWrite port HFB_NODE 0 0 w none = (d.nodeIdWrite (fget w 15 0)).2 := if_pos h

theorem Dev.electWaitDone_stored {id : Nat} {e : Dev} (hm : d.is HFB_NODE.MODE = false) (hn : d.nodeId = 0) (hp : d.hfb.phase = 1)
    (hs : (id, e) = d.storedId 64) (h0 : id ≠ 0) (ht : e.idTaken id = false) (hf : d.fabricService = true)
    (hd : d.isDue .claim 1500000000 = true) : d.electWaitDone =
      (({ e with hfb := { e.hfb with phase := 2, cand := id, claims := 0, beaten := false } }).stopTimer .claim 1).stopTimer .claim 2 := by
  rw [Dev.electWaitDone, if_neg (by simp [hf, hd]), if_neg (by simp [hm, hn, hp]), ← hs]
  dsimp only
  rw [if_neg (by simp [h0, ht]), Dev.claimWith, if_neg h0]

theorem Dev.claimSend_due {c e : Dev} (hp : d.hfb.phase = 2) (hn : d.hfb.claims < 3) (hf : d.fabricService = true)
    (hd : d.isDue .claim 50000000 1 = true) (hc : c = (if d.hfb.claims = 0 then d.startTimer .claim 2 else d).startTimer .claim 1)
    (he : e = { c.draw.2 with hfb := { c.hfb with claims := c.hfb.claims + 1 } }) :
    d.claimSend = e.broadcast 2 (Config.freeNat c.free) (e.electPay 1 e.hfb.cand) := by
  subst he hc
  exact if_neg (by simp [hp, hf, hd, hn])

theorem Dev.claimWindowEnd_taken (hp : d.hfb.phase = 2) (hb : d.hfb.beaten = false) (hn : 3 ≤ d.hfb.claims)
    (ht : d.idTaken d.hfb.cand = false) (hf : d.fabricService = true) (hr : d.ranFor .claim 150000000 2 = true) :
    d.claimWindowEnd = (({ d with hfb := { d.hfb with phase := 0 } }).nodeIdWrite d.hfb.cand).2 := by
  rw [Dev.claimWindowEnd, if_neg (by simp [hp, hf, hr]), if_neg (by simp [hb, ht]), if_neg (Nat.not_lt.2 hn)]

/-! ### The forwarding table -/

/-- The entry that the two staging registers spell. -/
def Dev.fwdStaged (d : Dev) : FwdEnt :=
  { flow := d.get HFB_FWD_W0.FLOW, pri := d.get HFB_FWD_W1.PRI, bkp := d.get HFB_FWD_W1.BKP, mc := d.is HFB_FWD_W0.MC,
    loc := d.is HFB_FWD_W0.LOCAL, ctx := d.get HFB_FWD_W0.CTX, dedup := d.is HFB_FWD_W1.DEDUP, revert := d.is HFB_FWD_W1.REVERT,
    valid := d.is HFB_FWD_W0.VALID }

/-- How many links a mask holds. -/
def maskLinks (m : Nat) : Nat := ((List.range 8).filter (fun l => decide (m / 2 ^ l % 2 = 1))).length

/-- The four cases in which an entry is refused (R214): its flow is another valid entry's, or none that an entry may have; it is no
multicast and has more than one link; or the de-duplication windows are all taken. -/
def Dev.FwdRefuses (d : Dev) (i : Nat) (x : FwdEnt) : Prop :=
  (x.valid = true ∧ ∃ kv ∈ d.hfb.fwd, kv.1 ≠ i ∧ kv.2.valid = true ∧ kv.2.flow = x.flow) ∨ x.flow = 0 ∨ x.flow = 0xFFFFF ∨
    x.flow = 0xF0000 + d.nodeId ∨ (x.mc = false ∧ (1 < maskLinks x.pri ∨ 1 < maskLinks x.bkp)) ∨
    (x.valid = true ∧ x.dedup = true ∧ 1024 ≤ (d.hfb.fwd.filter (fun kv => decide (kv.1 ≠ i) && kv.2.valid && kv.2.dedup)).length)

theorem Dev.fwdOthers_dedup (i : Nat) : ((d.hfb.fwd.filter (fun kv => kv.1 != i && kv.2.valid)).filter (fun kv => kv.2.dedup)) =
    d.hfb.fwd.filter (fun kv => decide (kv.1 ≠ i) && kv.2.valid && kv.2.dedup) := by
  rw [List.filter_filter]
  refine List.filter_congr fun kv _ => ?_
  rw [Bool.eq_iff_iff]
  simp [and_comm]

theorem Dev.fwdWrite_eq [Decidable (d.FwdRefuses i d.fwdStaged)] : d.fwdWrite i =
    if d.FwdRefuses i d.fwdStaged then d.put HFB_FWD_CMD.REFUSED 1 else d.setFwd i d.fwdStaged := by
  refine if_congr ?_ rfl rfl
  simp only [Dev.fwdOthers_dedup, forN_bitOf_eq_length_filter, Dev.FwdRefuses, maskLinks, Dev.fwdStaged, Dev.is, Dev.get, Bool.or_eq_true,
    Bool.and_eq_true, decide_eq_true_eq, beq_iff_eq, Bool.not_eq_true', List.any_eq_true, List.mem_filter, bne_iff_ne, or_assoc, and_assoc]
  exact Iff.rfl

theorem Dev.fwdRead_some {x : FwdEnt} (h : d.hfb.fwd.find? (fun kv => kv.1 == i) = some (i, x)) :
    d.fwdRead i = (d.wr HFB_FWD_W0 (BitVec.ofNat 32
      (2 ^ 31 * b2n x.valid + 2 ^ 30 * b2n x.mc + 2 ^ 29 * b2n x.loc + 2 ^ 20 * x.ctx + x.flow))).wr HFB_FWD_W1 (BitVec.ofNat 32
      (2 ^ 31 * b2n x.dedup + 2 ^ 30 * b2n x.revert + 2 ^ 29 * b2n x.useBkp + 256 * x.pri + x.bkp)) := by
  rw [Dev.fwdRead, h]

theorem find_index_none {t : Tab FwdEnt} (h : ∀ kv ∈ t, kv.1 ≠ i) : t.find? (fun kv => kv.1 == i) = none :=
  List.find?_eq_none.2 (by simpa using h)

theorem Dev.fwdRead_none (h : ∀ kv ∈ d.hfb.fwd, kv.1 ≠ i) : d.fwdRead i = (d.wr HFB_FWD_W0 0).wr HFB_FWD_W1 0 := by
  rw [Dev.fwdRead, find_index_none h]

theorem Dev.fwdInvalidate_some {x : FwdEnt} (h : d.hfb.fwd.find? (fun kv => kv.1 == i) = some (i, x)) :
    d.fwdInvalidate i = { d with hfb := { d.hfb with fwd := tabIns d.hfb.fwd i { x with valid := false } } } := by
  rw [Dev.fwdInvalidate, h]
  rfl

theorem Dev.fwdInvalidate_none (h : ∀ kv ∈ d.hfb.fwd, kv.1 ≠ i) : d.fwdInvalidate i = d := by
  rw [Dev.fwdInvalidate, find_index_none h]

/-! A command acts on the entry that the word's IDX names. -/

section

variable {w : Word} {e : Dev} (port : Nat) (he : e = d.store HFB_FWD_CMD w) (hi : i = fget w 14 2)

include he hi

theorem Dev.fwdCmd_idx : e.get HFB_FWD_CMD.IDX = i := by
  rw [he, hi]
  exact d.get_store_rw (f := HFB_FWD_CMD.IDX) w 0 0 (by decide) (by decide) (by decide)

theorem Dev.regWrite_fwdCmd_write (h : fget w 1 0 = 1) : d.regWrite port HFB_FWD_CMD 0 0 w none = e.fwdWrite i := by
  have hk := Dev.fwdCmd_idx he hi
  show d.fwdCommand w = _
  rw [Dev.fwdCommand]
  simp only [h, ← he, hk]

theorem Dev.regWrite_fwdCmd_read (h : fget w 1 0 = 2) : d.regWrite port HFB_FWD_CMD 0 0 w none = e.fwdRead i := by
  have hk := Dev.fwdCmd_idx he hi
  show d.fwdCommand w = _
  rw [Dev.fwdCommand]
  simp only [h, ← he, hk]

theorem Dev.regWrite_fwdCmd_invalidate (h : fget w 1 0 = 3) : d.regWrite port HFB_FWD_CMD 0 0 w none = e.fwdInvalidate i := by
  have hk := Dev.fwdCmd_idx he hi
  show d.fwdCommand w = _
  rw [Dev.fwdCommand]
  simp only [h, ← he, hk]

end

end

/-- Settles O28: FWD_CMD acts on the entry that its IDX names (`Dev.fwdCmd_idx`), and the four cases of a refusal are `Dev.FwdRefuses`. -/
theorem nodeAndForwardingCommandsComplete : Obligations.NodeAndForwardingCommandsComplete := by
  unfold Obligations.NodeAndForwardingCommandsComplete
  refine ⟨?defend, ?node, ?wait, ?claim, ?window, ?forward⟩
  case defend =>
    intro s dt bs d hd haw hf hu ho hi hn
    rw [exec_electReceive, State.after_event _ haw, ← hd, Dev.electReceive_defend hf hu ho hi hn]
  case node =>
    intro s p w c hc hs him hm h0 hv hm'
    rw [exec_nodeIdWrite, State.after_write hs (b := 6) (by decide) Nat.one_pos Nat.one_pos (by decide), ← hc, Dev.regWrite_node _ _ him,
      Dev.nodeIdWrite_auto hm h0 hv hm']
  case wait =>
    intro s dt id d e hd haw hm hn hp hst h0 ht hf hdue
    rw [exec_electWaitDone, State.after_event _ haw, ← hd, Dev.electWaitDone_stored hm hn hp hst h0 ht hf hdue]
  case claim =>
    intro s dt d c e hd haw hp hn hf hdue hc he
    rw [exec_claimSend, State.after_event _ haw, ← hd, Dev.claimSend_due hp hn hf hdue hc he]
  case window =>
    intro s dt d hd haw hp hb hn ht hf hr
    rw [exec_claimWindowEnd, State.after_event _ haw, ← hd, Dev.claimWindowEnd_taken hp hb hn ht hf hr]
  case forward =>
    intro s p w c e i hc hs he hi
    have hw := State.after_write hs (b := 6) (r := HFB_FWD_CMD) (i := 0) (j := 0) (by decide) Nat.one_pos Nat.one_pos (by decide) w
    rw [← hc] at hw
    refine ⟨?_, ?_, ?_, ?_, ?_⟩
    · intro x bits h hx hbits
      subst hbits
      have hx' : e.fwdStaged = x := hx.symm
      classical
      have hstep : exec (.fwdWrite p w) s = s.ends s.dev (if e.FwdRefuses i x then e.put HFB_FWD_CMD.REFUSED 1 else e.setFwd i x) := by
        rw [exec_fwdWrite, hw, Dev.regWrite_fwdCmd_write _ he hi h, Dev.fwdWrite_eq, hx']
      rw [hstep]
      refine ⟨fun hflow h0 h1 h2 hmc hwin => ?_, fun hr => ?_⟩
      · rw [if_neg ?_]
        · rfl
        rintro (⟨hv, kv, hm, hk, hkv, hkf⟩ | h | h | h | ⟨hm, hp⟩ | ⟨hv, hdd, hlen⟩)
        · rcases hflow with hf | hf
          · simp [hf] at hv
          · exact hf kv hm hk hkv hkf
        · exact h0 h
        · exact h1 h
        · exact h2 h
        · rcases hmc with hm' | ⟨hp1, hp2⟩
          · simp [hm'] at hm
          · exact hp.elim (Nat.not_lt.2 hp1) (Nat.not_lt.2 hp2)
        · rcases hwin with hv' | hd' | hlt
          · simp [hv'] at hv
          · simp [hd'] at hdd
          · exact Nat.not_lt.2 hlen hlt
      · exact congrArg (s.ends s.dev) (if_pos hr)
    · intro x h hx
      rw [exec_fwdRead, hw, Dev.regWrite_fwdCmd_read _ he hi h, Dev.fwdRead_some hx]
    · intro h hx
      rw [exec_fwdRead, hw, Dev.regWrite_fwdCmd_read _ he hi h, Dev.fwdRead_none hx]
    · intro x h hx
      rw [exec_fwdInvalidate, hw, Dev.regWrite_fwdCmd_invalidate _ he hi h, Dev.fwdInvalidate_some hx]
    · intro h hx
      rw [exec_fwdInvalidate, hw, Dev.regWrite_fwdCmd_invalidate _ he hi h, Dev.fwdInvalidate_none hx]

end Sys2Proof.Machine
end

section
/-! What a report of a fault leaves: every register word but those of the collector, of the rings and vectors and of the two readings of
the sensors, and every part of the device but the collector, the rings and memory, the counters, the timers and what goes out. -/

namespace Sys2Proof.Machine
namespace Dev

/-- The parts of the device that no report of a fault and no count of an event concerns. -/
def rest (d : Dev) : Dev :=
  { d with regs := [], mem := [], eccCor := [], eccBad := [], free := 0, timers := [], out := [], flt := {}, mgmt := {}, perf := {},
           pair := {} }

/-- `e` is `d` but for words at addresses in `W` and for what a report may change. -/
def Near (W : Nat → Prop) (d e : Dev) : Prop :=
  (∀ a r0, ¬W a → tabGet r0 e.regs a = tabGet r0 d.regs a) ∧ e.rest = d.rest

/-! ### How functions of the device are put together -/

section

variable {α β : Type} {W V : Nat → Prop} {d e f : Dev}

theorem Near.refl (W : Nat → Prop) (d : Dev) : Near W d d := ⟨fun _ _ _ => rfl, rfl⟩

theorem Near.mono (h : Near W d e) (hv : ∀ a, W a → V a) : Near V d e := ⟨fun a r0 ha => h.1 a r0 (fun hw => ha (hv a hw)), h.2⟩

theorem Near.trans (h : Near W d e) (h1 : Near W e f) : Near W d f := ⟨fun a r0 ha => (h1.1 a r0 ha).trans (h.1 a r0 ha), h1.2.trans h.2⟩

/-- A record update of the parts that a report may change. -/
theorem Near.same {mem eccCor eccBad free timers out flt mgmt perf pair} (h : Near W d e) :
    Near W d (Dev.mk e.regs mem eccCor eccBad e.fuse e.tclk e.pace free e.period e.once timers e.imageApplied e.sections e.build out flt mgmt
      e.time perf e.pwr e.rcu e.dll e.dllLost e.aud e.asrc e.xpt e.psm e.dips pair e.cyc e.sap e.sapG e.hlk e.hfb e.flow e.retained e.str
      e.txts e.ethRetained e.thk e.boot e.test e.errN e.irqN e.resetN) := h

theorem Near.pair {a : α} (h : Near W d e) : Near W d (a, e).2 := h

theorem Near.of_pair {p : α × Dev} {a : α} (h : Near W d p.2) (hp : p = (a, e)) : Near W d e := by
  rw [hp] at h
  exact h

theorem Near.ite {c : Prop} [Decidable c] (h : Near W d e) (h1 : Near W d f) : Near W d (if c then e else f) := by
  split <;> assumption

theorem Near.ite_snd {c : Prop} [Decidable c] {p q : α × Dev} (hp : Near W d p.2) (hq : Near W d q.2) : Near W d (if c then p else q).2 := by
  split <;> assumption

theorem Near.bind {p : α × Dev} {g : α → Dev → Dev} (hp : Near W d p.2) (hg : ∀ a e, Near W d e → Near W d (g a e)) :
    Near W d (match p with | (a, e) => g a e) := hg _ _ hp

theorem Near.bind_snd {p : α × Dev} {g : α → Dev → β × Dev} (hp : Near W d p.2) (hg : ∀ a e, Near W d e → Near W d (g a e).2) :
    Near W d (match p with | (a, e) => g a e).2 := hg _ _ hp

theorem Near.foldl {l : List α} {g : Dev → α → Dev} (h : Near W d e) (hg : ∀ e, Near W d e → ∀ a, Near W d (g e a)) :
    Near W d (l.foldl g e) := by
  induction l generalizing e with
  | nil => exact h
  | cons a l ih => exact ih (hg e h a)

theorem Near.forN {n : Nat} {g : Nat → Dev → Dev} (h : Near W d e) (hg : ∀ i e, Near W d e → Near W d (g i e)) :
    Near W d (Machine.forN n g e) := by
  induction n with
  | zero => exact h
  | succ n ih => exact hg n _ ih

/-! ### What it leaves -/

theorem Near.rd (h : Near W d e) (r : Reg) (i j : Nat) (ha : ¬W (r.addr i j)) : e.rd r i j = d.rd r i j := h.1 _ _ ha

theorem Near.get (h : Near W d e) (f : FRef) (i j : Nat) (ha : ¬W (f.reg.addr i j)) : e.get f i j = d.get f i j := by
  rw [Dev.get, h.rd _ _ _ ha, Dev.get]

theorem Near.is (h : Near W d e) (f : FRef) (i j : Nat) (ha : ¬W (f.reg.addr i j)) : e.is f i j = d.is f i j := by
  rw [Dev.is, h.get _ _ _ ha, Dev.is]

theorem Near.hfb (h : Near W d e) : e.hfb = d.hfb := by
  have h2 : e.rest.hfb = d.rest.hfb := congrArg Dev.hfb h.2
  exact h2

theorem Near.cyc (h : Near W d e) : e.cyc = d.cyc := by
  have h2 : e.rest.cyc = d.rest.cyc := congrArg Dev.cyc h.2
  exact h2

/-! ### Words -/

theorem Near.wr {r : Reg} {w : Word} {i j : Nat} (h : Near W d e) (ha : W (r.addr i j)) : Near W d (e.wr r w i j) :=
  ⟨fun a r0 hn => (tabGet_tabPut_ne _ _ _ _ (fun hq : a = r.addr i j => hn (hq ▸ ha))).trans (h.1 a r0 hn), h.2⟩

theorem Near.put {f : FRef} {v i j : Nat} (h : Near W d e) (ha : W (f.reg.addr i j)) : Near W d (e.put f v i j) := h.wr ha

theorem Near.inc {f : FRef} {i j : Nat} (h : Near W d e) (ha : W (f.reg.addr i j)) : Near W d (e.inc f i j) := h.put ha

theorem Near.emit {x : Emit} (h : Near W d e) : Near W d (e.emit x) := h.same

theorem Near.draw (h : Near W d e) : Near W d e.draw.2 := h.same.pair

theorem Near.startTimer {t : Timer} {i : Nat} (h : Near W d e) : Near W d (e.startTimer t i) := h.same

theorem Near.stopTimer {t : Timer} {i : Nat} (h : Near W d e) : Near W d (e.stopTimer t i) := h.same

theorem Near.setBytes {a : Nat} {bs : List Byte} (h : Near W d e) : Near W d (e.setBytes a bs) := h.same

theorem Near.addDue {x : Due} (h : Near W d e) : Near W d (e.addDue x) := h.same

end

/-! ### Rings and vectors: the words from FLT_SRC_CFG on, those of MGMT among them -/

section

variable {W : Nat → Prop} {d e : Dev} (hm : ∀ a, 0xF1000 ≤ a → W a)

include hm

theorem Near.put_above {f : FRef} {v i j : Nat} (h : Near W d e) (hb : 0xF1000 ≤ f.reg.base) : Near W d (e.put f v i j) :=
  h.put (hm _ (hb.trans (Reg.base_le_addr _ _ _)))

theorem Near.setPending {v : Nat} {on : Bool} (h : Near W d e) : Near W d (e.setPending v on) := by
  refine h.wr (hm _ (le_trans ?_ (Reg.base_le_addr _ _ _)))
  unfold vecReg
  split <;> decide

theorem Near.msixTry {v : Nat} (h : Near W d e) : Near W d (e.msixTry v) := .ite h (.ite (.ite h h.same) (h.setPending hm).same.emit)

theorem Near.raiseVecTo {v : Nat} {host core : Bool} (h : Near W d e) : Near W d (e.raiseVecTo v host core) :=
  .ite ((Near.ite h.emit h).setPending hm |>.msixTry hm) (.ite h.emit h)

theorem Near.ringSet {q wr rd : Nat} (h : Near W d e) : Near W d (e.ringSet q wr rd) :=
  ((h.put_above hm (by decide)).put_above hm (by decide)).put_above hm (by decide)

omit hm in
theorem Near.ringSeqNext {q : Nat} (h : Near W d e) : Near W d (e.ringSeqNext q).2 := h.same.pair

theorem Near.ringNotify {q : Nat} (h : Near W d e) : Near W d (e.ringNotify q) := .ite (h.raiseVecTo hm) h.emit

theorem Near.ringPad {q : Nat} (h : Near W d e) : Near W d (e.ringPad q) := Near.bind h.ringSeqNext fun _ _ h1 => h1.setBytes.ringSet hm

theorem Near.ringPush {q kind flags aux0 aux1 : Nat} {pay : List Byte} (h : Near W d e) :
    Near W d (e.ringPush q kind flags aux0 aux1 pay).2 :=
  .ite_snd (h.put_above hm (by decide)).pair
    (Near.bind_snd (Near.ite (h.ringPad hm) h).ringSeqNext fun _ _ h1 => ((h1.setBytes.ringSet hm).ringNotify hm).pair)

theorem Near.ringPop {q size : Nat} (h : Near W d e) : Near W d (e.ringPop q size) :=
  .ite (h.ringSet hm).emit (.ite ((h.ringSet hm).raiseVecTo hm) (h.ringSet hm))

end

/-! ### The collector -/

/-- The words of the first-error capture. -/
def fecWord (a : Nat) : Prop := FLT_FEC_INFO.base ≤ a ∧ a ≤ FLT_FEC_BLK.base

/-- The other words that a report of source `n` may write. -/
def fltWord (n a : Nat) : Prop :=
  a = PWR_VBUS.addr 0 0 ∨ a = PWR_TJ.addr 0 0 ∨ a = FLT_STAT.addr 0 0 ∨ a = FLT_GRAVE.addr 0 0 ∨ a = FLT_SEV.addr (n / 32) 0 ∨
    a = FLT_ERRH.addr (n / 32) 0 ∨ 0xF1000 ≤ a

theorem fltWord_above (n a : Nat) (h : 0xF1000 ≤ a) : fltWord n a := by
  unfold fltWord
  tauto

section

variable {n : Nat} {d e : Dev}

theorem Near.fltSetState {st : Nat} (h : Near (fltWord n) d e) : Near (fltWord n) d (e.fltSetState n st) :=
  (h.put_above (fltWord_above n) (by decide)).put (.inr (.inr (.inl rfl)))

theorem Near.setSev {on : Bool} (h : Near (fltWord n) d e) : Near (fltWord n) d (e.setSev n on) :=
  h.wr (.inr (.inr (.inr (.inr (.inl rfl)))))

theorem Near.setErrh (h : Near (fltWord n) d e) : Near (fltWord n) d (e.setErrh n) :=
  h.wr (.inr (.inr (.inr (.inr (.inr (.inl rfl))))))

theorem Near.putFltStat {f : FRef} {v : Nat} (h : Near (fltWord n) d e) (hf : f.reg = FLT_STAT := by rfl) :
    Near (fltWord n) d (e.put f v) := h.put (hf ▸ .inr (.inr (.inl rfl)))

theorem Near.fltPush {flags cause : Nat} (h : Near (fltWord n) d e) : Near (fltWord n) d (e.fltPush n flags cause).2 :=
  Near.bind_snd (h.ringPush (fltWord_above n)) fun _ _ h1 => .ite_snd h1.pair h1.putFltStat.pair

theorem Near.react {bits kind : Nat} {errh : Bool} (h : Near (fltWord n) d e) : Near (fltWord n) d (e.react n bits errh kind) := by
  unfold Dev.react
  extract_lets _ _ d2 d3 d4
  have h1 : Near (fltWord n) d (e.reactI n) := h.raiseVecTo (fltWord_above n)
  have h2 : Near (fltWord n) d d2 := .ite (Near.ite h1 h).same (.ite h1 h)
  have h3 : Near (fltWord n) d d3 := .ite h2.setErrh h2
  have h4 : Near (fltWord n) d d4 := .ite h3.addDue h3
  exact .ite h4.addDue h4

theorem Near.senseVbus (h : Near (fltWord n) d e) : Near (fltWord n) d e.senseVbus :=
  .ite h (Near.bind h.draw fun _ _ h1 => (h1.put (.inl rfl)).startTimer)

theorem Near.senseTj (h : Near (fltWord n) d e) : Near (fltWord n) d e.senseTj :=
  .ite h (Near.bind h.draw fun _ _ h1 => (h1.put (.inr (.inl rfl))).startTimer)

theorem Near.putGrave {f : FRef} {v : Nat} (h : Near (fltWord n) d e) (hf : f.reg = FLT_GRAVE := by rfl) :
    Near (fltWord n) d (e.put f v) := h.put (hf ▸ .inr (.inr (.inr (.inl rfl))))

theorem Near.graveLatch {k : Nat} {c : Bool} (h : Near (fltWord n) d e) : Near (fltWord n) d (e.graveLatch k c) :=
  (Near.ite h h.putGrave.putGrave).putGrave.senseVbus.senseTj.same

theorem Near.reactOnce {bits : Nat} {inj : Bool} (h : Near (fltWord n) d e) : Near (fltWord n) d (e.reactOnce n bits inj).2 := h.same.pair

theorem Near.fltConseq {cause : Nat} {rec : Bool} (h : Near (fltWord n) d e) : Near (fltWord n) d (e.fltConseq n cause rec).2 := by
  have hi : Near (fltWord n) d (e.inc FLT_SRC_CNT.CONSEQ n) := h.put_above (fltWord_above n) (by decide)
  exact .ite_snd hi.pair (.ite_snd (Near.bind_snd hi.same.fltPush fun _ _ h1 => h1.pair) hi.same.putFltStat.pair)

/-- A counted event: its count, then the capture, then the rest, which leaves the capture's words. -/
theorem fltCounted_near (a : Access) (rec capture : Bool) :
    ∃ b, Near (fltWord n) d b ∧ b.rd FLT_SRC_CFG n = d.rd FLT_SRC_CFG n ∧
      Near (fltWord n) (if capture then b.fecCapture n a else b) (d.fltCounted n a rec capture).2 := by
  unfold Dev.fltCounted
  extract_lets _ _ _ _ _ d1 d2 d3 _ _ _ _ d4 d5 _ d6 _ _ d7
  have hd1 : Near (fltWord n) d d1 := (Near.refl (fltWord n) d).same
  have hd2 : Near (fltWord n) d d2 :=
    (hd1.put_above (f := FLT_SRC_CNT.EVENTS) (fltWord_above n) (by decide)).put_above (fltWord_above n) (by decide)
  have hcfg : d2.rd FLT_SRC_CFG n = d.rd FLT_SRC_CFG n := by
    refine (rd_wr_addr_ne _ _ ?_).trans ((rd_wr_addr_ne d1 _ ?_).trans rfl) <;> simp only [Reg.addr, FLT_SRC_CFG, FLT_SRC_STAT,
      FLT_SRC_STAT.INWIN, FLT_SRC_CNT.EVENTS, FLT_SRC_CNT] <;> omega
  refine ⟨d2, hd2, hcfg, ?_⟩
  have h3 : Near (fltWord n) d3 d3 := .refl _ _
  have h4 : Near (fltWord n) d3 d4 := .ite h3.graveLatch h3
  have h5 : Near (fltWord n) d3 d5 := h4.fltSetState.setSev
  have h6 : Near (fltWord n) d3 d6 := .ite (.ite h5 h5.same) (.ite h4.fltSetState h4)
  have h7 : Near (fltWord n) d3 d7 := .ite h6.same h6
  exact Near.bind_snd (.ite_snd h7.pair (.ite_snd h7.fltPush h7.putFltStat.pair)) fun _ _ h1 => Near.bind_snd h1.reactOnce fun _ _ h2 =>
    h2.react.pair

end

/-! ### Reports of any source -/

/-- The words that a report of some source may write. -/
def reportWord (a : Nat) : Prop := a = PWR_VBUS.addr 0 0 ∨ a = PWR_TJ.addr 0 0 ∨ FLT_CFG.base ≤ a

theorem reportWord_of_fltWord {n a : Nat} (h : fltWord n a) : reportWord a := by
  have above : ∀ r : Reg, FLT_CFG.base ≤ r.base → ∀ i j, reportWord (r.addr i j) := fun r hb i j => .inr (.inr (hb.trans (r.base_le_addr i j)))
  rcases h with rfl | rfl | rfl | rfl | rfl | rfl | h
  · exact .inl rfl
  · exact .inr (.inl rfl)
  · exact above _ (by decide) _ _
  · exact above _ (by decide) _ _
  · exact above _ (by decide) _ _
  · exact above _ (by decide) _ _
  · exact .inr (.inr (le_trans (by decide) h))

theorem reportWord_above (a : Nat) (h : 0xF1000 ≤ a) : reportWord a := .inr (.inr (le_trans (by decide) h))

section

variable {d e : Dev}

theorem Near.putFec {f : FRef} {v : Nat} (h : Near reportWord d e) (hf : FLT_CFG.base ≤ f.reg.base := by decide) :
    Near reportWord d (e.put f v) := h.put (.inr (.inr (hf.trans (Reg.base_le_addr _ _ _))))

theorem Near.fecCapture {n : Nat} {a : Access} (h : Near reportWord d e) : Near reportWord d (e.fecCapture n a) :=
  .ite h (.ite h.putFec h.putFec.putFec.putFec.putFec.putFec.putFec.putFec.putFec)

theorem Near.fltCounted {n : Nat} {a : Access} {rec capture : Bool} (h : Near reportWord d e) :
    Near reportWord d (e.fltCounted n a rec capture).2 := by
  obtain ⟨b, hb, _, hr⟩ := fltCounted_near (n := n) (d := e) a rec capture
  have hb' : Near reportWord d b := h.trans (hb.mono fun _ => reportWord_of_fltWord)
  exact (Near.ite hb'.fecCapture hb').trans (hr.mono fun _ => reportWord_of_fltWord)

theorem Near.raise0 {n : Nat} {a : Access} {rec capture : Bool} (h : Near reportWord d e) :
    Near reportWord d (e.raise0 n a rec capture).2 := by
  unfold Dev.raise0
  split
  · exact h.trans ((Near.refl (fltWord n) e).fltConseq.mono fun _ => reportWord_of_fltWord)
  · exact h.fltCounted

theorem Near.raise1 {n : Nat} {a : Access} {capture : Bool} (h : Near reportWord d e) : Near reportWord d (e.raise1 n a capture) := by
  unfold Dev.raise1
  split
  next hp => exact (Near.of_pair h.raise0 hp).raise0
  next hp => exact Near.of_pair h.raise0 hp

theorem Near.raiseAt {n : Nat} {a : Access} (h : Near reportWord d e) : Near reportWord d (e.raiseAt n a) := h.raise1

theorem Near.raise {n : Nat} (h : Near reportWord d e) : Near reportWord d (e.raise n) := h.raise1

theorem Near.corrected {n : Nat} {a : Access} (h : Near reportWord d e) : Near reportWord d (e.corrected n a) := h.same.raiseAt

theorem Near.sramScan {a n master : Nat} (h : Near reportWord d e) : Near reportWord d (e.sramScan a n master) :=
  (h.foldl (fun _ h1 _ => h1.raiseAt)).foldl (fun _ h1 _ => h1.corrected)

theorem Near.raiseAll {evs : List (Nat × Access)} (h : Near reportWord d e) : Near reportWord d (e.raiseAll evs) :=
  (h.foldl (fun _ h1 _ => .ite h1.fecCapture h1)).foldl (fun _ h1 _ => h1.raise1)

theorem Near.cntAdd {i n : Nat} (h : Near reportWord d e) : Near reportWord d (e.cntAdd i n) := by
  have hwrap : ∀ c, Near reportWord d c → Near reportWord d (c.put PERF_CNT_AUX.WRAP 1 i) := fun c hc =>
    hc.put_above reportWord_above (by decide)
  exact .ite (.ite ((hwrap _ h.same).raiseVecTo reportWord_above) (hwrap _ h.same)) h.same

theorem Near.perfEvent {code n : Nat} {x : PerfEv} (h : Near reportWord d e) : Near reportWord d (e.perfEvent code n x) :=
  .ite h (h.forN (fun _ _ h1 => .ite h1.cntAdd h1))

/-- A look for the front entry of a ring may leave entries out and report what it read. -/
theorem Near.ringFront {q kind n : Nat} (h : Near reportWord d e) : Near reportWord d (e.ringFront q kind n).2 := by
  induction n generalizing e with
  | zero => exact h.pair
  | succ n ih =>
    have hput : Near reportWord d ((e.sramScan (e.ringBase q + e.ringRd q) 16 255).put MGMT_RING_STAT.BADENT 1 (q - 64)) :=
      h.sramScan.put_above reportWord_above (by decide)
    exact .ite_snd h.pair (.ite_snd h.sramScan.pair (ih ((Near.ite h.sramScan hput).ringPop reportWord_above)))

end

end Dev
end Sys2Proof.Machine
end

section
/-! The first-error capture (R322). -/

namespace Sys2Proof.Machine
namespace Dev

variable {d e f : Dev} {n : Nat} {a : Access}

theorem fltWord_of_fecWord (hn : n < 192) {q : Nat} (hq : fecWord q) : ¬fltWord n q := by
  have hi : n / 32 < 6 := by omega
  simp only [fecWord, fltWord, FLT_FEC_INFO, FLT_FEC_BLK, Reg.addr, PWR_VBUS, PWR_TJ, FLT_STAT, FLT_GRAVE, FLT_SEV, FLT_ERRH] at hq ⊢
  omega

/-- `e` holds the capture that `d` holds. -/
structure FecHeld (d e : Dev) : Prop where
  valid : e.is FLT_FEC_INFO.VALID = true
  src : e.get FLT_FEC_INFO.SRC = d.get FLT_FEC_INFO.SRC
  master : e.get FLT_FEC_INFO.MASTER = d.get FLT_FEC_INFO.MASTER
  type : e.get FLT_FEC_INFO.TYPE = d.get FLT_FEC_INFO.TYPE
  addr : e.rd FLT_FEC_ADDR = d.rd FLT_FEC_ADDR
  ovf : d.is FLT_FEC_INFO.OVF = true → e.is FLT_FEC_INFO.OVF = true

theorem FecHeld.trans (h : FecHeld d e) (h1 : FecHeld e f) : FecHeld d f :=
  ⟨h1.valid, h1.src.trans h.src, h1.master.trans h.master, h1.type.trans h.type, h1.addr.trans h.addr, fun ho => h1.ovf (h.ovf ho)⟩

/-- What a report of a source writes beside the capture leaves it. -/
theorem fecHeld_of_near (hn : n < 192) (h : Near (fltWord n) d e) (hv : d.is FLT_FEC_INFO.VALID = true) : FecHeld d e := by
  have hinfo : ¬fltWord n (FLT_FEC_INFO.addr 0 0) := fltWord_of_fecWord hn (by unfold fecWord; decide)
  have haddr : ¬fltWord n (FLT_FEC_ADDR.addr 0 0) := fltWord_of_fecWord hn (by unfold fecWord; decide)
  exact ⟨(h.is FLT_FEC_INFO.VALID 0 0 hinfo).trans hv, h.get FLT_FEC_INFO.SRC 0 0 hinfo, h.get FLT_FEC_INFO.MASTER 0 0 hinfo,
    h.get FLT_FEC_INFO.TYPE 0 0 hinfo, h.rd _ _ _ haddr, (h.is FLT_FEC_INFO.OVF 0 0 hinfo).trans⟩

theorem fecHeld_putOvf (hv : d.is FLT_FEC_INFO.VALID = true) : FecHeld d (d.put FLT_FEC_INFO.OVF 1) where
  valid := (d.is_put_beside_zero _ (by decide)).trans hv
  src := d.get_put_beside_zero _ (by decide)
  master := d.get_put_beside_zero _ (by decide)
  type := d.get_put_beside_zero _ (by decide)
  addr := d.rd_wr_addr_ne _ (by decide)
  ovf := fun _ => d.is_put_one _ 0 0 (by decide) rfl

/-- A capture that finds one held keeps it. -/
theorem fecHeld_fecCapture (hv : d.is FLT_FEC_INFO.VALID = true) (n : Nat) (a : Access) : FecHeld d (d.fecCapture n a) := by
  cases hf : d.is FLT_SRC_CFG.FEC n with
  | true =>
    rw [Dev.fecCapture, if_neg (by simp [hf]), if_pos hv]
    exact fecHeld_putOvf hv
  | false =>
    rw [Dev.fecCapture, if_pos (by simp [hf])]
    exact ⟨hv, rfl, rfl, rfl, rfl, id⟩

theorem fecHeld_raise0 (hn : n < 192) (hv : d.is FLT_FEC_INFO.VALID = true) (rec capture : Bool) : FecHeld d (d.raise0 n a rec capture).2 := by
  unfold Dev.raise0
  split
  · exact fecHeld_of_near hn (Near.refl _ d).fltConseq hv
  · obtain ⟨b, hb, _, hr⟩ := fltCounted_near (n := n) (d := d) a rec capture
    have hdb := fecHeld_of_near hn hb hv
    cases capture with
    | true =>
      have hbc := fecHeld_fecCapture hdb.valid n a
      exact hdb.trans (hbc.trans (fecHeld_of_near hn hr hbc.valid))
    | false => exact hdb.trans (fecHeld_of_near hn hr hdb.valid)

/-- A counted event of a source with FEC is captured, and what follows it keeps the capture. -/
theorem fecHeld_raiseAt (hn : n < 192) (hs : d.shadowOf n = none) (hf : d.is FLT_SRC_CFG.FEC n = true) (a : Access) :
    ∃ b, Near (fltWord n) d b ∧ b.is FLT_SRC_CFG.FEC n = true ∧
      ((b.fecCapture n a).is FLT_FEC_INFO.VALID = true → FecHeld (b.fecCapture n a) (d.raiseAt n a)) := by
  obtain ⟨b, hb, hcfg, hr⟩ := fltCounted_near (n := n) (d := d) a true true
  refine ⟨b, hb, ?_, fun hv => ?_⟩
  · exact (congrArg (fun w => fget w FLT_SRC_CFG.FEC.hi FLT_SRC_CFG.FEC.lo == 1) hcfg).trans hf
  · have h0 : FecHeld (b.fecCapture n a) (d.raise0 n a true true).2 := by
      rw [Dev.raise0, hs]
      exact fecHeld_of_near hn hr hv
    unfold Dev.raiseAt Dev.raise1
    split
    next hp =>
      rw [hp] at h0
      exact h0.trans (fecHeld_raise0 (by decide) h0.valid false true)
    next hp =>
      rw [hp] at h0
      exact h0

/-! ### A capture that finds none held -/

theorem fecCapture_free (hf : d.is FLT_SRC_CFG.FEC n = true) (hv : d.is FLT_FEC_INFO.VALID = false) (hn : n < 256)
    (ha : a.addr < 2 ^ 32) (hm : a.master < 256) (ht : a.ty < 4) :
    (d.fecCapture n a).is FLT_FEC_INFO.VALID = true ∧ (d.fecCapture n a).get FLT_FEC_INFO.SRC = n ∧
      (d.fecCapture n a).get FLT_FEC_ADDR.ADDR = a.addr ∧ (d.fecCapture n a).get FLT_FEC_INFO.MASTER = a.master ∧
      (d.fecCapture n a).get FLT_FEC_INFO.TYPE = a.ty := by
  unfold Dev.fecCapture
  rw [if_neg (by simp [hf]), if_neg (by simp [hv])]
  dsimp only
  generalize d.fltStamp.1 = v1, d.fltStamp.2 = v2
  refine ⟨?_, ?_, ?_, ?_, ?_⟩
  · simp (disch := decide) only [Dev.is_put_beside_zero]
    exact Dev.is_put_one _ _ 0 0 (by decide) rfl
  all_goals simp (disch := decide) only [Dev.get_put_beside_zero, Dev.get_put_same]
  · exact Nat.mod_eq_of_lt hn
  · exact Nat.mod_eq_of_lt ha
  · exact Nat.mod_eq_of_lt hm
  · exact Nat.mod_eq_of_lt ht

end Dev

/-- Settles O57: `Dev.fltCounted_near` splits a report at the capture; what it writes before and after are other words, and the report of a lost
record that may follow finds the capture held. -/
theorem firstErrorIsCaptured : Obligations.FirstErrorIsCaptured := by
  unfold Obligations.FirstErrorIsCaptured
  intro d e n a hn he hs hf ha hm ht
  obtain ⟨b, hb, hbf, hheld⟩ := Dev.fecHeld_raiseAt hn hs hf a
  rw [← he] at hheld
  have hinfo : ¬Dev.fltWord n (FLT_FEC_INFO.addr 0 0) := Dev.fltWord_of_fecWord hn (by unfold Dev.fecWord; decide)
  have hbv := hb.is FLT_FEC_INFO.VALID 0 0 hinfo
  refine ⟨fun hv => ?free, fun hv => ?held⟩
  case free =>
    obtain ⟨h1, h2, h3, h4, h5⟩ := Dev.fecCapture_free hbf (hbv.trans hv) (by omega) ha hm ht
    have h := hheld h1
    have haddr : e.get FLT_FEC_ADDR.ADDR = (b.fecCapture n a).get FLT_FEC_ADDR.ADDR := congrArg (fun w => fget w 31 0) h.addr
    exact ⟨h.valid, h.src.trans h2, haddr.trans h3, h.master.trans h4, h.type.trans h5⟩
  case held =>
    have hc : b.fecCapture n a = b.put FLT_FEC_INFO.OVF 1 := (if_neg (by simp [hbf])).trans (if_pos (hbv.trans hv))
    have hdb := Dev.fecHeld_of_near hn hb hv
    have hbp := Dev.fecHeld_putOvf (hbv.trans hv)
    have h := hheld (hc ▸ hbp.valid)
    rw [hc] at h
    exact ⟨h.ovf (Dev.is_put_one _ _ 0 0 (by decide) rfl), h.src.trans (hbp.src.trans hdb.src), h.addr.trans (hbp.addr.trans hdb.addr)⟩

end Sys2Proof.Machine
end

section
/-! A Sprig's exception (R77, R78). -/

namespace Sys2Proof.Machine
namespace Dev

variable {d e : Dev} {m : Nat}

/-! ### The end of a job -/

theorem regs_pushJob (j : Nat) : (d.pushJob j).regs = d.regs := by
  unfold Dev.pushJob
  dsimp only
  split <;> rfl

theorem fate_pushJob (j q : Nat) : (d.pushJob j).fate q = d.fate q := by
  unfold Dev.pushJob
  dsimp only
  split <;> rfl

theorem busy_pushJob (j : Nat) : ((d.pushJob j).sprig m).busy = (d.sprig m).busy := by
  unfold Dev.pushJob
  dsimp only
  split
  · rw [Dev.sprig, Dev.setSprig, tabGet_tabPut]
    split
    next h => rw [h]; rfl
    next => rfl
  · rfl

/-- A function of the device that no step of a repetition changes. -/
theorem foldl_keeps {α β : Type} (p : Dev → β) {g : Dev → α → Dev} (hg : ∀ d a, p (g d a) = p d) (l : List α) (d : Dev) :
    p (l.foldl g d) = p d := by
  induction l generalizing d with
  | nil => rfl
  | cons a l ih => rw [List.foldl_cons, ih, hg]

theorem keeps_readyDec {β : Type} (p : Dev → β) (hp : ∀ d j, p (d.pushJob j) = p d) (ht : ∀ (d : Dev) t, p { d with thk := { d.thk with cnt := t } } = p d)
    (d : Dev) (j : Nat) : p (d.readyDec j) = p d := by
  unfold Dev.readyDec
  dsimp only
  split
  · rw [hp, ht]
  · rw [ht]

theorem keeps_jobOver {β : Type} (p : Dev → β) (hp : ∀ d j, p (d.pushJob j) = p d) (ht : ∀ (d : Dev) t, p { d with thk := { d.thk with cnt := t } } = p d)
    (hf : ∀ (d : Dev) t, p { d with thk := { d.thk with fin := t } } = p d) (d : Dev) (j v : Nat) : p (d.jobOver j v) = p (d.setFate j v) := by
  unfold Dev.jobOver
  dsimp only
  split
  · rw [hf, foldl_keeps p (keeps_readyDec p hp ht)]
  · rw [foldl_keeps p (keeps_readyDec p hp ht)]

theorem regs_jobOver (j v : Nat) : (d.jobOver j v).regs = d.regs :=
  (keeps_jobOver Dev.regs (fun _ => regs_pushJob) (fun _ _ => rfl) (fun _ _ => rfl) d j v).trans rfl

theorem fate_jobOver (j v : Nat) : (d.jobOver j v).fate j = v :=
  (keeps_jobOver (fun d => d.fate j) (fun _ k => fate_pushJob k j) (fun _ _ => rfl) (fun _ _ => rfl) d j v).trans (tabGet_tabPut_same _ _ _ _)

theorem busy_jobOver (j v : Nat) : ((d.jobOver j v).sprig m).busy = (d.sprig m).busy :=
  (keeps_jobOver (fun d => (d.sprig m).busy) (fun _ => busy_pushJob) (fun _ _ => rfl) (fun _ _ => rfl) d j v).trans rfl

/-! ### The record -/

/-- The record of an exception: written where it was free, else kept with OVF. -/
def excRecorded (d : Dev) (m code addr : Nat) (x : SprigSt) : Dev :=
  if d.is THK_EXC_INFO.VALID m then d.put THK_EXC_INFO.OVF 1 m
  else
    let c := (((d.put THK_EXC_INFO.VALID 1 m).put THK_EXC_INFO.CAUSE code m).put THK_EXC_INFO.PRIV (b2n (d.job x.job).sys) m).put
      THK_EXC_INFO.JOB x.job m
    ((c.put THK_EXC_PC.PC x.pc m).put THK_EXC_ADDR.ADDR addr m).put THK_EXC_BLK.BLK (c.thk.inst.getD 0) m

theorem busy_setSprig_idle : ((d.setSprig m {}).sprig m).busy = false := by
  rw [Dev.sprig, Dev.setSprig, tabGet_tabPut_same]

/-- An exception leaves the register words that its record left, apart from those that a report writes, and ends the job. -/
theorem spExcept_record (code addr ty : Nat) (bad : Option Nat) {u : Dev} {x : SprigSt} (hu : u = d.spFlush m) (hx : x = u.sprig m) :
    ∃ r, Near reportWord (u.excRecorded m code addr x) r ∧ (d.spExcept m code addr ty bad).regs = r.regs ∧
      (d.spExcept m code addr ty bad).fate x.job = 3 ∧ ((d.spExcept m code addr ty bad).sprig m).busy = false := by
  subst hu hx
  unfold Dev.spExcept
  extract_lets u x _ _ c _ b _ r
  have hc : c = u.excRecorded m code addr x := rfl
  have hr : Near reportWord c r := by
    have hb : Near reportWord c b := (Near.refl _ c).perfEvent.perfEvent
    cases bad with
    | none => exact hb.raiseAt
    | some k => exact hb.raiseAll
  exact ⟨r, hc ▸ hr, regs_jobOver _ _, fate_jobOver _ _, (busy_jobOver _ _).trans (busy_setSprig_idle (d := r))⟩

/-! What the record holds. -/

section

variable {code addr : Nat} {x : SprigSt}

theorem excRecorded_valid (hm : m < 64) : (d.excRecorded m code addr x).is THK_EXC_INFO.VALID m = true := by
  have hb : ∀ (e : Dev) (f : FRef) (v : Nat), f.beside THK_EXC_INFO.VALID 64 = true →
      (e.put f v m).is THK_EXC_INFO.VALID m = e.is THK_EXC_INFO.VALID m := fun e f v => e.is_put_beside (⟨m, hm⟩ : Fin 64) v
  unfold excRecorded
  split
  next h => exact (hb _ _ _ (by decide)).trans h
  next =>
    simp (disch := decide) only [hb]
    exact Dev.is_put_one _ _ m 0 (by decide) rfl

theorem excRecorded_free (h : d.is THK_EXC_INFO.VALID m = false) (hm : m < 64) (hc : code < 16) (ha : addr < 2 ^ 32) (hp : x.pc < 2 ^ 32)
    (hj : x.job < 2 ^ 16) : (d.excRecorded m code addr x).get THK_EXC_INFO.CAUSE m = code ∧
      (d.excRecorded m code addr x).get THK_EXC_INFO.JOB m = x.job ∧ (d.excRecorded m code addr x).get THK_EXC_PC.PC m = x.pc ∧
      (d.excRecorded m code addr x).get THK_EXC_ADDR.ADDR m = addr := by
  have hb : ∀ (e : Dev) (f g : FRef) (v : Nat), f.beside g 64 = true → (e.put f v m).get g m = e.get g m := fun e f g v =>
    e.get_put_beside (⟨m, hm⟩ : Fin 64) v
  rw [excRecorded, if_neg (by simp [h])]
  refine ⟨?_, ?_, ?_, ?_⟩
  all_goals simp (disch := decide) only [hb, Dev.get_put_same]
  · exact Nat.mod_eq_of_lt hc
  · exact Nat.mod_eq_of_lt hj
  · exact Nat.mod_eq_of_lt hp
  · exact Nat.mod_eq_of_lt ha

theorem excRecorded_held (h : d.is THK_EXC_INFO.VALID m = true) (hm : m < 64) : (d.excRecorded m code addr x).is THK_EXC_INFO.OVF m = true ∧
    (d.excRecorded m code addr x).get THK_EXC_INFO.CAUSE m = d.get THK_EXC_INFO.CAUSE m ∧
    (d.excRecorded m code addr x).rd THK_EXC_PC m = d.rd THK_EXC_PC m ∧ (d.excRecorded m code addr x).rd THK_EXC_ADDR m = d.rd THK_EXC_ADDR m := by
  rw [excRecorded, if_pos h]
  refine ⟨Dev.is_put_one _ _ m 0 (by decide) rfl, d.get_put_beside (⟨m, hm⟩ : Fin 64) 1 (by decide), ?_, ?_⟩
  all_goals
    refine d.rd_wr_addr_ne _ ?_
    simp only [Reg.addr, THK_EXC_PC, THK_EXC_ADDR, THK_EXC_INFO.OVF, THK_EXC_INFO]
    omega

end

/-- The words of the exception records are none that a report writes. -/
theorem excWord_quiet (hm : m < 64) {r : Reg} (hr : r = THK_EXC_INFO ∨ r = THK_EXC_PC ∨ r = THK_EXC_ADDR) : ¬reportWord (r.addr m 0) := by
  rcases hr with rfl | rfl | rfl <;>
    simp only [reportWord, Reg.addr, THK_EXC_INFO, THK_EXC_PC, THK_EXC_ADDR, PWR_VBUS, PWR_TJ, FLT_CFG] <;> omega

end Dev

/-- Settles O52: the report of the exception and the job's end leave the record (`Dev.spExcept_record`). -/
theorem sprigExceptionFailsTheJob : Obligations.SprigExceptionFailsTheJob := by
  unfold Obligations.SprigExceptionFailsTheJob
  intro d u e m code addr ty bad x hm hu hx he hc ha hp hj
  obtain ⟨r, hr, hregs, hfate, hbusy⟩ := Dev.spExcept_record code addr ty bad hu hx
  rw [← he] at hregs hfate hbusy
  have hrd : ∀ q, q = THK_EXC_INFO ∨ q = THK_EXC_PC ∨ q = THK_EXC_ADDR → e.rd q m = (u.excRecorded m code addr x).rd q m := fun q hq =>
    (congrArg (fun t => tabGet (q.rstAt m 0) t (q.addr m 0)) hregs).trans (hr.rd q m 0 (Dev.excWord_quiet hm hq))
  have hinfo := hrd THK_EXC_INFO (.inl rfl)
  have hget : ∀ f : FRef, f.reg = THK_EXC_INFO ∨ f.reg = THK_EXC_PC ∨ f.reg = THK_EXC_ADDR →
      e.get f m = (u.excRecorded m code addr x).get f m := fun f hf => congrArg (fun w => fget w f.hi f.lo) (hrd f.reg hf)
  have his : ∀ f : FRef, f.reg = THK_EXC_INFO → e.is f m = (u.excRecorded m code addr x).is f m := fun f hf =>
    congrArg (· == 1) (hget f (.inl hf))
  refine ⟨hbusy, hfate, (his _ rfl).trans (Dev.excRecorded_valid hm), fun hv => ?free, fun hv => ?held⟩
  case free =>
    obtain ⟨h1, h2, h3, h4⟩ := Dev.excRecorded_free hv hm hc ha hp hj
    exact ⟨(hget _ (.inl rfl)).trans h1, (hget _ (.inl rfl)).trans h2, (hget _ (.inr (.inl rfl))).trans h3,
      (hget _ (.inr (.inr rfl))).trans h4⟩
  case held =>
    obtain ⟨h1, h2, h3, h4⟩ := Dev.excRecorded_held (code := code) (addr := addr) (x := x) hv hm
    exact ⟨(his _ rfl).trans h1, (hget _ (.inl rfl)).trans h2, (hrd _ (.inr (.inl rfl))).trans h3, (hrd _ (.inr (.inr rfl))).trans h4⟩

end Sys2Proof.Machine
end

section
/-! The training of a Hedgerow link and its way down (R187 to R189). -/

namespace Sys2Proof.Machine

section

variable {d : Dev} {l : Nat}

theorem Dev.lnk_setLnk (l : Nat) (x : HlkSt) : (d.setLnk l x).lnk l = x := tabGet_tabPut_same _ _ _ _

/-- The good LINK block that completes the eight takes a link from INIT to ACTIVE. -/
theorem Dev.linkBlock_active {body : BitVec 56} {e g : Dev} (hs : d.lState l = 2) (hv : linkVer body = 1) (hk : linkLocked body = true)
    (hr : linkRate body = d.get HLK_CFG.RATE l) (hn : 7 ≤ (d.lnk l).good) (he : e = d.setLState l 3)
    (hg : g = ((((e.setLnk l { adv := [(0, d.tclk), (1, d.tclk), (2, d.tclk), (3, d.tclk)] }).stopTimer .dreq l).stopTimer .hello l).put
      HLK_DELAY.VALID 0 l).put HLK_STAT.LONG 0 l) : d.linkBlock l body = g := by
  have hact : d.toActive l = g := by
    subst hg he
    rfl
  rw [Dev.linkBlock, if_neg (by simp [hv]), if_neg (by simp [hs]), Dev.linkBlockInit, if_neg (by simp [hs]), if_neg (by simp [hr])]
  simp only [hk, if_true]
  rw [if_pos (by omega), hact]

/-- An ACTIVE link goes down with its cause. -/
theorem Dev.linkDown_active {cause : Nat} {e g : Dev} (hs : d.lState l = 3) (he : e = d.partCell l)
    (hg : g = ((((((e.setLState l 4).put HLK_STAT.CAUSE cause l).put HLK_STAT.DOWNEV 1 l).emit (.rfault l)).raise (FS.HLK_DOWN + l)).leaveActive l)) :
    d.linkDown l cause = g := by
  subst hg he
  exact if_neg (not_not.2 hs)

theorem Dev.creditTimeout_waiting {k : Nat} (hf : d.firstOf l k ≠ none) (ht : tabGet 0 (d.lnk l).adv k + 250000 ≤ d.tclk) :
    d.creditTimeout l k = (d.ringFront (72 + l) 1 64).2.linkDown l 5 := by
  have hw : (d.firstOf l k).isSome = true := Option.isSome_iff_ne_none.2 hf
  rw [Dev.creditTimeout]
  simp only [hw, Bool.true_or, Bool.true_and, ht, decide_true, if_true]

/-- The look at the transmit ring leaves the state of the link. -/
theorem Dev.lState_ringFront (hl : l < 8) (q kind n : Nat) : (d.ringFront q kind n).2.lState l = d.lState l := by
  refine (Near.refl reportWord d).ringFront.get HLK_STAT.STATE l 0 ?_
  simp only [reportWord, Reg.addr, HLK_STAT.STATE, HLK_STAT, PWR_VBUS, PWR_TJ, FLT_CFG]
  omega

theorem Dev.blockLock_train (hs : d.lState l = 1) : d.blockLock l = (d.setLState l 2).setLnk l { d.lnk l with good := 0 } := if_pos hs

theorem Dev.polarityInvert_due (hs : d.lState l = 1) (hd : d.isDue .link 50000000 l = true) :
    d.polarityInvert l = (d.setLState l 1).put HLK_STAT.POLINV (1 - d.get HLK_STAT.POLINV l) l := if_pos ⟨hs, hd⟩

theorem Dev.initTimeout_due (hs : d.lState l = 2) (hd : d.isDue .link 10000000 l = true) : d.initTimeout l = d.setLState l 1 := if_pos ⟨hs, hd⟩

theorem Dev.downTimeout_due (hs : d.lState l = 4) (hd : d.isDue .link 1000000 l = true) : d.downTimeout l = d.setLState l 1 := if_pos ⟨hs, hd⟩

/-! ### Writes of HLK_CTRL -/

theorem Dev.regWrite_hlkCtrl_retrain {w : Word} (port : Nat) (h : d.is HLK_CTRL.DISABLE l = false) (h0 : fget w 0 0 = 1) (h1 : fget w 1 1 = 0) :
    d.regWrite port HLK_CTRL l 0 w none = d.linkDown l 6 := by
  show d.hlkWrite HLK_CTRL l 0 w = _
  simp [Dev.hlkWrite, h, h0, h1]

theorem Dev.regWrite_hlkCtrl_disable {w : Word} (port : Nat) (h0 : fget w 0 0 = 0) (h1 : (fget w 1 1 == 1) ≠ d.is HLK_CTRL.DISABLE l) :
    d.regWrite port HLK_CTRL l 0 w none = d.linkDisable l (fget w 1 1 == 1) := by
  show d.hlkWrite HLK_CTRL l 0 w = _
  simp only [Dev.hlkWrite, beq_self_eq_true, if_true, h0]
  exact (if_neg (by decide)).trans (if_neg (by simpa using h1))

/-- A counted write of HLK_CTRL. -/
theorem Dev.busWrite_hlkCtrl {port : Nat} (hp : d.portOpen port = true) (hl : l < 8) (w : Word) :
    d.busWrite port (HLK_CTRL.addr l 0) w = (d.busCount port (HLK_CTRL.addr l 0)).regWrite port HLK_CTRL l 0 w none := by
  rw [Dev.busWrite_reg _ hp (b := 5) (by decide) hl Nat.one_pos, Dev.regAccess_plain _ _ _ _ _ _ _ (by decide) (by decide) (by decide),
    Dev.regFront_plain _ _ _ _ _ (by decide)]

end

/-- Settles O29: every way down is `Dev.linkDown_active` on the device that holds the part of a cell received; the transmit ring that a credit
time-out looks at leaves the link's state (`Dev.lState_ringFront`). -/
theorem linkTrainingCommandsComplete : Obligations.LinkTrainingCommandsComplete := by
  unfold Obligations.LinkTrainingCommandsComplete
  refine ⟨?active, ?train, ?errors, ?loss, ?credit, ?retrain, ?disable, ?timeouts⟩
  case active =>
    intro s dt l body cls part d e g hd haw hs hv hk hr hn he hg
    have hn' : 7 ≤ ((d.setLnk l { d.lnk l with part := (cls, part) }).lnk l).good := by rwa [Dev.lnk_setLnk]
    have hb : (d.setLnk l { d.lnk l with part := (cls, part) }).linkBlock l body = g := Dev.linkBlock_active hs hv hk hr hn' he hg
    rw [exec_linkBlockReceive, State.after_event _ haw, ← hd, Dev.withPart, hb]
  case train =>
    intro s dt l d hd haw hs
    refine ⟨?_, fun hdue => ?_⟩
    · rw [exec_blockLock, State.after_event _ haw, ← hd, Dev.blockLock_train hs]
    · rw [exec_polarityInvert, State.after_event _ haw, ← hd, Dev.polarityInvert_due hs hdue]
  case errors =>
    intro s dt l slow cause cls part d e g hd haw hs hc he hg
    have hdown : (d.setLnk l { d.lnk l with part := (cls, part) }).linkDown l cause = g := Dev.linkDown_active hs he hg
    rw [exec_headerErrorLimit, State.after_event _ haw, ← hd, Dev.withPart, ← hc, hdown]
  case loss =>
    intro s dt l cls part d e g hd haw hs he hg
    have hdown : (d.setLnk l { d.lnk l with part := (cls, part) }).linkDown l 1 = g := Dev.linkDown_active hs he hg
    rw [exec_lossOfSignal, State.after_event _ haw, ← hd, Dev.withPart, hdown]
  case credit =>
    intro s dt l k cls part d c e g hd haw hs hc hf ht he hg
    have hs' : (c.ringFront (72 + l) 1 64).2.lState l = 3 := by
      rw [Dev.lState_ringFront l.isLt, hc]
      exact hs
    rw [exec_creditTimeout, State.after_event _ haw, ← hd, Dev.withPart, ← hc, Dev.creditTimeout_waiting hf ht, Dev.linkDown_active hs' he hg]
  case retrain =>
    intro s p l cls part w c e g hc hs hst hdis h0 h1 he hg
    have hp : (s.dev.setLnk l { s.dev.lnk l with part := (cls, part) }).portOpen (portNum p) = true := hs.2
    rw [exec_linkRetrain, State.after_access _ hs.1, Dev.withPart, Dev.busWrite_hlkCtrl hp l.isLt, ← hc,
      Dev.regWrite_hlkCtrl_retrain _ hdis h0 h1, Dev.linkDown_active hst he hg]
  case disable =>
    intro s p l w c hc hs h0 h1
    rw [hc] at h1
    rw [exec_linkDisable, State.after_write hs (b := 5) (by decide) l.isLt Nat.one_pos (by decide), Dev.regWrite_hlkCtrl_disable _ h0 h1, ← hc]
  case timeouts =>
    intro s dt l d hd haw
    refine ⟨fun hs hdue => ?_, fun hs hdue => ?_⟩
    · rw [exec_initTimeout, State.after_event _ haw, ← hd, Dev.initTimeout_due hs hdue]
    · rw [exec_downTimeout, State.after_event _ haw, ← hd, Dev.downTimeout_due hs hdue]

end Sys2Proof.Machine
end

section
/-! Cells and the measurement of the delay on an ACTIVE link (R190 to R199). -/

namespace Sys2Proof.Machine

section

variable {d : Dev} {l : Nat}

theorem nth_lt {n : Nat} (h0 : 0 < n) {t : List Nat} (h : ∀ x ∈ t, x < n) (k : Nat) : nth 0 t k < n := by
  induction t generalizing k with
  | nil => exact h0
  | cons x t ih =>
    cases k with
    | zero => exact h x (List.mem_cons_self ..)
    | succ k => exact ih (fun y hy => h y (List.mem_cons_of_mem x hy)) k

theorem nth_creditOf_lt (body : BitVec 56) (n k : Nat) : nth 0 ((List.range n).map (creditOf body)) k < 2 ^ 14 := by
  refine nth_lt (Nat.two_pow_pos 14) (fun x hx => ?_) k
  obtain ⟨c, _, rfl⟩ := List.mem_map.1 hx
  exact Nat.mod_lt _ (Nat.two_pow_pos 14)

theorem Dev.creditBlock_active {ty : Nat} {body : BitVec 56} {cs : List Nat} (ha : d.lActive l = true) (ht : ty = 0x1E)
    (hc : cs = (List.range 4).map (creditOf body)) : d.creditBlock l ty body = d.setLnk l { d.lnk l with
      ret := (List.range 4).foldl (fun t k => tabPut 0 t k (nth 0 cs k)) (d.lnk l).ret,
      adv := ((List.range 4).filter (fun k => tabGet 0 (d.lnk l).ret k != nth 0 cs k)).foldl
        (fun t k => tabPut 0 t k d.tclk) (d.lnk l).adv } := by
  have hmod : ∀ k, nth 0 cs k % 2 ^ 14 = nth 0 cs k := fun k => Nat.mod_eq_of_lt (hc ▸ nth_creditOf_lt body 4 k)
  rw [Dev.creditBlock, if_pos (.inl ht), ← hc, Dev.creditReturn, if_neg (by simp [ha])]
  simp only [hmod]

/-- The oldest SYNC cell that waits leaves where its credit allows it. -/
theorem Dev.cellTransmit_sync {sub : Nat} {x : QCell} {e : Dev} (ha : d.lActive l = true) (hr : d.ringFront (72 + l) 1 64 = (none, e))
    (hf : e.firstOf l 0 = some x) (h0 : x.cls = 0) (hc : x.cost ≤ e.credit l 0) :
    d.cellTransmit l sub = (e.setLnk l { e.lnk l with q := dropFirst 0 (e.lnk l).q }).sendCell l sub x := by
  rw [Dev.cellTransmit, if_neg (by simp [ha]), hr]
  simp only [List.range, List.range.loop, List.findSome?_cons, hf, hc, if_true, h0, Bool.false_eq_true, if_false]

theorem Dev.dreqSend_due {sub : Nat} {c : Dev} (ha : d.lActive l = true) (hd : d.isDue .dreq (d.dreqNs l) l = true)
    (hc : c = (d.startTimer .dreq l).draw.2) : d.dreqSend l sub = (c.setLnk l { c.lnk l with nreq := (c.lnk l).nreq + 1 }).sendSync l sub
      { cls := 0, stamp := 1, bytes := mkHdr 0 1 false false 0 0 0 0 d.nodeId (Config.freeNat d.free % 65536) d.cellBlk } := by
  subst hc
  exact if_neg (by simp [ha, hd])

/-- A sound SYNC cell of the type and length that are looked for is counted and taken. -/
theorem Dev.syncCell_sound {bs : List Byte} {ty len : Nat} {f : Dev → Dev} {e : Dev} (ha : d.lActive l = true) (hh : hdrOk 0 bs = true)
    (hc : crcState bs = 0) (he : e = (d.freeCell l 0 bs).perfEvent 0x19 1) (ht : hType bs = ty) (hl : hLenw bs * 4 = len) :
    d.syncCell l bs ty len f = f e := by
  rw [Dev.syncCell, if_neg (by simp [ha]), if_neg (by simp [hh])]
  dsimp only
  rw [if_neg (by simp [hc]), if_neg (by simp [ht]), if_neg (by simp [hl]), he]

theorem Dev.syncSend_due {sub : Nat} (ha : d.lActive l = true) (ht : d.is HLK_SYNC_CFG.TXEN l = true) (hd : d.isDue .sync (d.syncNs l) l = true) :
    ∃ tail : List Byte, tail.length = 4 ∧ d.syncSend l sub = (d.startTimer .sync l).draw.2.sendSync l sub
      { cls := 0, stamp := 3, bytes := mkHdr 0 0 false false 4 0 0 0 d.nodeId (Config.freeNat d.free % 65536) d.cellBlk ++
        List.replicate 12 0 ++ tail } := by
  obtain ⟨c, hc⟩ : ∃ c, c = (d.startTimer .sync l).draw.2 := ⟨_, rfl⟩
  obtain ⟨t, ht'⟩ : ∃ t, t = d.get HLK_TSYNC.TB := ⟨_, rfl⟩
  refine ⟨beBytes 1 (c.get TIME_TB_CFG.DOM t) ++ (beBytes 1 (c.get TIME_TB_CFG.TRACEABLE t + 2 * b2n (c.tbHoldover t)) ++
    beBytes 2 c.hfb.hops), by simp only [List.length_append, length_beBytes], ?_⟩
  subst hc ht'
  rw [Dev.syncSend, if_neg (by simp [ha, ht, hd])]
  simp only [List.append_assoc]
  rfl

theorem Dev.regWrite_rsv {i : Nat} {w : Word} (port : Nat)
    (h : d.rsvSum l - d.get HLK_RSV.CELLS l i + fget w 28 20 ≤ d.get HLK_RSV_STAT.RCAP l) :
    d.regWrite port HLK_RSV l i w none = d.store HLK_RSV w l i :=
  if_neg (fun hr => Nat.not_le.2 hr.2 h)

end

/-- Settles O30: the three SYNC cells received go through `Dev.syncCell_sound`; the rest is one branch of each event. -/
theorem linkCellCommandsComplete : Obligations.LinkCellCommandsComplete := by
  unfold Obligations.LinkCellCommandsComplete
  refine ⟨?credit, ?transmit, ?request, ?answer, ?sync, ?synced, ?timeout, ?reserve⟩
  case credit =>
    intro s dt l ty body cs d hd haw ha ht hc
    rw [exec_creditReturn, State.after_event _ haw, ← hd, Dev.creditBlock_active ha ht hc]
  case transmit =>
    intro s dt l sub x d e hd haw ha hr hf h0 hc
    rw [exec_cellTransmit, State.after_event _ haw, ← hd, Dev.cellTransmit_sync ha hr hf h0 hc]
  case request =>
    intro s dt l sub d c hd haw ha hdue hc
    rw [exec_dreqSend, State.after_event _ haw, ← hd, Dev.dreqSend_due ha hdue hc]
  case answer =>
    intro s dt l sub bs d e hd haw ha hh hc he
    refine ⟨fun ht hl => ?_, fun t1 k ht hl hf => ?_⟩
    · rw [exec_dreqReceive, State.after_event _ haw, ← hd, Dev.dreqReceive, Dev.syncCell_sound ha hh hc he ht (by omega)]
    · rw [exec_drspReceive, State.after_event _ haw, ← hd, Dev.drspReceive, Dev.syncCell_sound ha hh hc he ht (by omega), hf]
      rfl
  case sync =>
    intro s dt l sub d hd haw ha ht hdue
    obtain ⟨tail, hlen, hsend⟩ := Dev.syncSend_due (sub := sub) ha ht hdue
    refine ⟨tail, hlen, ?_⟩
    rw [exec_syncSend, State.after_event _ haw, ← hd, hsend]
  case synced =>
    intro s dt l sub bs d e g hd haw ha hh hc ht hl he hk hg hgl hen hv
    rw [exec_syncReceive, State.after_event _ haw, ← hd, Dev.syncReceive, Dev.syncCell_sound ha hh hc he ht (by omega), if_pos hk, ← hg,
      if_neg (by simp [hen, hgl]), if_neg (by simp [hv])]
  case timeout =>
    intro s dt l d hd haw
    rw [exec_drspTimeout, State.after_event _ haw, ← hd]
    rfl
  case reserve =>
    intro s p l i w c hc hs h
    rw [exec_rsvWrite, State.after_write hs (b := 5) (by decide) l.isLt i.isLt (by decide), ← hc, Dev.regWrite_rsv _ h]

end Sys2Proof.Machine
end

section
/-! Cells received on an ACTIVE link (R211 to R215). -/

namespace Sys2Proof.Machine

/-- What a cell received meets, once it has been counted and has its number: by its flow the node itself, every node, its receive ring, or an
entry of the forwarding table. -/
def Dev.cellMeets (d : Dev) (l soc st id : Nat) (bs : List Byte) : Dev :=
  if hFlow bs = 0 then d.localCell l soc st bs
  else if hFlow bs = 0xFFFFF ∧ 2 ≤ soc then (if st = 0 then d.floodCell l bs id else d)
  else if hFlow bs = 0xF0000 + d.nodeId ∧ d.nodeId ≠ 0 ∧ 2 ≤ soc then (if st = 0 then d.toRing l bs else d)
  else
    match d.lookup (hFlow bs) with
    | none => d.inc HFB_DROP.MISS
    | some (idx, x) => d.hitCell l st idx x bs id

section

variable {d e : Dev} {l soc id idx : Nat} {bs : List Byte} {x : FwdEnt}

theorem Dev.cellReceive_sound (ha : d.lActive l = true) (hh : hdrOk soc bs = true) (hc : crcState bs = 0)
    (he : (id, e) = (d.perfEvent 0x19 1 { k := soc }).cellId) :
    d.cellReceive l soc bs = (e.cellMeets l soc 0 id bs).settleCell l soc id bs := by
  have hcrc : d.crcError l 0 = d := (if_neg (by decide)).trans (if_neg (by decide))
  rw [Dev.cellReceive, if_neg (by simp [ha]), if_neg (by simp [hh])]
  simp only [hc, hcrc, if_true, ← he]
  rfl

theorem Dev.cellMeets_ring (hf : hFlow bs = 0xF0000 + d.nodeId) (h1 : hFlow bs ≠ 0xFFFFF) (hn : d.nodeId ≠ 0) (hs : 2 ≤ soc) :
    d.cellMeets l soc 0 id bs = d.toRing l bs := by
  rw [Dev.cellMeets, if_neg (by omega), if_neg (fun h => h1 h.1), if_pos ⟨hf, hn, hs⟩, if_pos rfl]

/-- A cell of a flow that is none of the node's own meets its entry. -/
theorem Dev.cellMeets_entry (h0 : hFlow bs ≠ 0) (hs : soc = 1 ∨ (hFlow bs ≠ 0xFFFFF ∧ hFlow bs ≠ 0xF0000 + d.nodeId))
    (hl : d.lookup (hFlow bs) = some (idx, x)) : d.cellMeets l soc 0 id bs = d.hitCell l 0 idx x bs id := by
  have hall : ¬(hFlow bs = 0xFFFFF ∧ 2 ≤ soc) := by omega
  have hown : ¬(hFlow bs = 0xF0000 + d.nodeId ∧ d.nodeId ≠ 0 ∧ 2 ≤ soc) := by omega
  rw [Dev.cellMeets, if_neg h0, if_neg hall, if_neg hown, hl]

end

/-- Settles O31: a sound cell is counted, numbered and settled (`Dev.cellReceive_sound`); what it meets depends on its flow. -/
theorem receivedCellCommandsComplete : Obligations.ReceivedCellCommandsComplete := by
  unfold Obligations.ReceivedCellCommandsComplete
  refine ⟨?iso, ?ring, ?transit⟩
  case iso =>
    intro s dt l bs id idx x d e hd haw ha hh hc he h0 hl
    rw [exec_isoCellReceive, State.after_event _ haw, ← hd, Dev.cellReceive_sound ha hh hc he, Dev.cellMeets_entry h0 (.inl rfl) hl]
  case ring =>
    intro s dt l bulk bs soc id d e hd haw ha hsoc hh hc he hf h1 hn
    have h2 : 2 ≤ soc := by split at hsoc <;> omega
    rw [exec_ringCellReceive, State.after_event _ haw, ← hd, ← hsoc, Dev.cellReceive_sound ha hh hc he, Dev.cellMeets_ring hf h1 hn h2]
  case transit =>
    intro s dt l bulk bs soc id idx x d e hd haw ha hsoc hh hc he h0 h1 hn hl
    rw [exec_transitCellReceive, State.after_event _ haw, ← hd, ← hsoc, Dev.cellReceive_sound ha hh hc he,
      Dev.cellMeets_entry h0 (.inr ⟨h1, hn⟩) hl]

end Sys2Proof.Machine
end

section
/-! Nine commands in a plain case of each: SET, read, rate, FREE, an offset and the hold time-out of a time base, and three kinds of cells. -/

namespace Sys2Proof.Machine

/-! ### What the state of a servo outlives: alarms, captures and reports -/

section

variable {d e : Dev} (t : Fin 4)

theorem Dev.servo_congr (h : e.regs = d.regs) : e.servo t = d.servo t := Dev.get_congr h _ _ _

/-- The words from the pins' register on are none of the time bases'. -/
theorem Dev.servo_put_above {f : FRef} (v i j : Nat) (hf : 0x40810 ≤ f.reg.base) : (d.put f v i j).servo t = d.servo t := by
  refine d.get_put_addr_ne f _ v ?_
  have hb := f.reg.base_le_addr i j
  have ht : TIME_TB_STAT.STATE.reg.addr t 0 < 0x40810 := by
    simp only [Reg.addr, TIME_TB_STAT.STATE, TIME_TB_STAT]
    omega
  omega

theorem Dev.servo_near (h : Near reportWord d e) : e.servo t = d.servo t := by
  refine h.get TIME_TB_STAT.STATE t 0 ?_
  simp only [reportWord, Reg.addr, TIME_TB_STAT.STATE, TIME_TB_STAT, PWR_VBUS, PWR_TJ, FLT_CFG]
  omega

theorem Dev.servo_ite {c : Prop} [Decidable c] (hd : e.servo t = d.servo t) : (if c then e else d).servo t = d.servo t := by
  split
  · exact hd
  · rfl

theorem Dev.servo_setBit {f : FRef} (b : Nat) (hf : 0x40810 ≤ f.reg.base) : (d.setBit f b).servo t = d.servo t := Dev.servo_put_above t _ _ _ hf

theorem Dev.servo_clrBit {f : FRef} (b : Nat) (hf : 0x40810 ≤ f.reg.base) : (d.clrBit f b).servo t = d.servo t :=
  Dev.servo_ite t (Dev.servo_put_above t _ _ _ hf)

theorem Dev.servo_raiseVec (v : Nat) : (d.raiseVec v).servo t = d.servo t :=
  Dev.servo_near t ((Near.refl reportWord d).raiseVecTo reportWord_above)

theorem Dev.servo_capRecord (c sub : Nat) : (d.capRecord c sub).servo t = d.servo t := by
  have hovf : (if d.bit TIME_CAP_STAT.VALID c = true then d.setBit TIME_CAP_STAT.OVF c else d).servo t = d.servo t :=
    Dev.servo_ite t (Dev.servo_setBit t _ (by decide))
  unfold Dev.capRecord
  extract_lets _ d1 _ b _ d2
  have hd2 : d2.servo t = d1.servo t := Dev.servo_congr t rfl
  split
  · exact hovf
  · rw [Dev.servo_put_above t _ _ _ (by decide), Dev.servo_put_above t _ _ _ (by decide), Dev.servo_setBit t _ (by decide), hd2]
    exact hovf

theorem Dev.servo_captureEvent (src : Nat) (rising : Bool) (sub : Nat) : (d.captureEvent src rising sub).servo t = d.servo t :=
  forN_keeps (fun d => d.servo t) 16 (fun _ _ => Dev.servo_ite t (Dev.servo_capRecord t _ _)) d

theorem Dev.servo_tioAct (a : Nat) : (d.tioAct a).servo t = d.servo t := by
  unfold Dev.tioAct
  dsimp only
  split
  · rfl
  · split
    · split
      · exact Dev.servo_clrBit t _ (by decide)
      · exact Dev.servo_setBit t _ (by decide)
    · exact Dev.servo_setBit t _ (by decide)
    · exact Dev.servo_clrBit t _ (by decide)
    · rfl

theorem Dev.servo_almArm (a sec ns : Nat) : (d.almArm a sec ns).servo t = d.servo t := Dev.servo_put_above (d := d) t 1 a 0 (by decide)

theorem Dev.servo_almLate (a : Nat) : (d.almLate a).servo t = d.servo t := by
  rw [Dev.almLate, Dev.servo_near t (Near.refl reportWord (d.setBit TIME_ALM_LATE.L a)).raise, Dev.servo_setBit t _ (by decide)]

theorem Dev.servo_almFire (a : Nat) (late : Bool) : (d.almFire a late).servo t = d.servo t := by
  unfold Dev.almFire
  extract_lets per k d1 d2 d3 d4 u ns
  have h1 : d1.servo t = d.servo t := Dev.servo_ite t (Dev.servo_almLate t a)
  have h2 : d2.servo t = d1.servo t := Dev.servo_setBit t a (by decide)
  have h3 : d3.servo t = d2.servo t := Dev.servo_ite t (Dev.servo_raiseVec t _)
  have h4 : d4.servo t = d3.servo t := (Dev.servo_captureEvent t _ _ _).trans (Dev.servo_tioAct t a)
  have h : d4.servo t = d.servo t := h4.trans (h3.trans (h2.trans h1))
  split
  · exact (Dev.servo_put_above t _ _ _ (by decide)).trans h
  · exact (Dev.servo_almArm t a _ _).trans h

theorem Dev.servo_almAfterStep (k : Nat) : (d.almAfterStep k).servo t = d.servo t :=
  forN_keeps (fun d => d.servo t) 32 (fun _ _ => Dev.servo_ite t (Dev.servo_almFire t _ _)) d

end

/-! ### The time bases -/

section

variable {d : Dev}

/-- SET on a time base whose servo is neither LOCKED nor in HOLD leaves the servo. -/
theorem Dev.tbSet_free {t : Fin 4} {s : Dev} (hns : d.get TIME_OFS_MNS.NS t < 1000000000) (hst : d.servo t = 0 ∨ d.servo t = 1)
    (hs : s = (d.setTb t { d.tb t with sec := d.get TIME_OFS_MSEC.SEC t, ns := d.get TIME_OFS_MNS.NS t, frac := 0, hid := 0 }).noteStep t) :
    d.tbSet t = ((({ s with time := { s.time with setAt := tabPut 0 s.time.setAt t (s.tclk + 1) } }).put TIME_TB_STAT.STEPEV 1 t).raise
      (FS.TIME_STEP + t)).almAfterStep t := by
  rw [Dev.tbSet_of_lt hns hs rfl]
  refine if_neg ?_
  have hsd : s.servo t = d.servo t := by
    rw [hs]
    exact Dev.servo_congr t rfl
  have hset : ({ s with time := { s.time with setAt := tabPut 0 s.time.setAt t (s.tclk + 1) } } : Dev).servo t = s.servo t :=
    Dev.servo_congr t rfl
  rw [Dev.servo_almAfterStep, Dev.servo_near t (Near.refl reportWord _).raise, Dev.servo, Dev.get_put_beside _ t 1 (by decide), ← Dev.servo, hset, hsd]
  omega

theorem Dev.isDue_of_ranFor {t : Timer} {ns i : Nat} (h : d.ranFor t ns i = true) : d.isDue t ns i = true := by
  unfold Dev.ranFor at h
  unfold Dev.isDue
  split at h
  next => exact h
  next => cases h

end

/-! ### Cells -/

section

variable {d : Dev} {l idx id : Nat} {x : FwdEnt} {bs : List Byte}

theorem hCls_of_hdrOk {soc : Nat} (h : hdrOk soc bs = true) : hCls bs = soc := by
  simp only [hdrOk, Bool.and_eq_true, beq_iff_eq, decide_eq_true_eq] at h
  exact h.1.2

theorem Dev.cells_counted (soc : Nat) : (d.perfEvent 0x19 1 { k := soc }).cellId = (d.hfb.cells, (d.perfEvent 0x19 1 { k := soc }).cellId.2) := by
  have hnear : Dev.Near Dev.reportWord d (d.perfEvent 0x19 1 { k := soc }) := (Dev.Near.refl Dev.reportWord d).perfEvent
  have h := hnear.hfb
  generalize d.perfEvent 0x19 1 { k := soc } = e at h
  exact Prod.ext (congrArg HfbSt.cells h) rfl

theorem Dev.passWindow_plain (hd : x.dedup = false) : d.passWindow idx x bs = (false, d.setFwd idx x) := by
  simp [Dev.passWindow, hd]

/-- A cell whose entry has no link to leave on is only delivered. -/
theorem Dev.hitCell_local (hc : hCls bs = 1) (ht : hType bs = 0) (hd : x.dedup = false) (he : x.egress d.upMask = 0) (hl : x.loc = true) :
    d.hitCell l 0 idx x bs id = (d.setFwd idx x).deliverIso x.ctx bs := by
  have he' : x.egress (d.setFwd idx x).upMask = 0 := he
  have h0 : bitOf 0 l = 0 := by rw [bitOf, Nat.zero_shiftRight]
  rw [Dev.hitCell, d.passWindow_plain hd]
  simp [he', h0, hl, hc, ht, Dev.forward]

/-- A cell in transit leaves to its egress set, with its TTL one lower. -/
theorem Dev.hitCell_transit {soc : Nat} (hc : hCls bs = soc) (hs : soc ≠ 1) (hd : x.dedup = false) (he : x.egress d.upMask ≠ 0)
    (hb : bitOf (x.egress d.upMask) l = 0) (hl : x.loc = false) (ht : hTtl bs ≠ 0) : d.hitCell l 0 idx x bs id =
      ((d.setFwd idx x).sendTo (x.egress d.upMask) x.flow
        { cls := soc, bytes := setTtl (bs.take 16 ++ cellPay bs) (hTtl bs - 1), ing := l, id := id }).perfEvent 0x1A 1 { k := soc } := by
  have hup : (d.setFwd idx x).upMask = d.upMask := rfl
  rw [Dev.hitCell, d.passWindow_plain hd]
  simp [hup, hb, hl, he, Dev.forward, ht, hc, hs]

theorem Dev.ctxAccept_new {k m : Nat} (hr : d.running = true) (hm : m = d.extBlk (hBlk bs)) (h1 : later32 m (d.cyc.k + 1) = false)
    (hn : hCidx bs < d.ctxNc k) (hlen : 4 * hLenw bs = d.cellLen k (hCidx bs))
    (h2 : later32 d.cyc.k (m + (d.get FLOW_CFG.PRES k + d.get FLOW_CFG.HOLD k)) = false)
    (hg : ∀ g ∈ (d.ctx k).got, ¬(g.1 = m ∧ g.2.1 = hCidx bs)) :
    d.ctxAccept k bs = d.setCtx k { d.ctx k with got := (d.ctx k).got ++ [(m, hCidx bs, cellPay bs)] } := by
  have hany : (d.ctx k).got.any (fun g => g.1 == m && g.2.1 == hCidx bs) = false := by
    rw [List.any_eq_false]
    intro g hgm
    simpa using hg g hgm
  rw [Dev.ctxAccept, if_neg (by simp [hr])]
  dsimp only
  rw [← hm, if_neg (by simp [h1]), if_neg (by omega), if_neg (by simp [h2]), if_neg (by simp [hany])]

/-- A cell of the node's own flow enters its receive ring, below the mark of its class. -/
theorem Dev.toRing_pushed {bulk : Bool} {g : Dev} (hc : hCls bs = if bulk = true then 3 else 2) (hb : badType bs = false)
    (hf : d.ringFill (64 + l) < d.ringSize (64 + l) * (if bulk = true then d.bulkHw else d.ctrlHw) / 8)
    (hp : d.ringPush (64 + l) 1 0 l 0 (bs.take 16 ++ cellPay bs) = (true, g)) : d.toRing l bs = g := by
  have hmark : (if hCls bs == 2 then d.ctrlHw else d.bulkHw) = if bulk = true then d.bulkHw else d.ctrlHw := by
    cases bulk <;> simp [hc]
  rw [Dev.toRing, if_neg (by simp [hb])]
  simp only [hmark, hp, Nat.not_le.2 hf, decide_false, Bool.and_false, Bool.false_eq_true, if_false, if_true]

end

/-- Settles O60: the clauses of the time bases are those of the time-base operations, SET here in the branch that leaves the servo; a cell is
counted and numbered, and meets its entry or its ring. -/
theorem timeBaseAndReceivedCellCommandsRun : Obligations.TimeBaseAndReceivedCellCommandsRun := by
  unfold Obligations.TimeBaseAndReceivedCellCommandsRun
  refine ⟨?set, ?read, ?rate, ?free, ?offset, ?hold, ?iso, ?ring, ?transit⟩
  case set =>
    intro s p t w c d hc hs h1 h0 hns hst hd
    have hst' : (c.store TIME_TB_CTRL w t).servo t = 0 ∨ (c.store TIME_TB_CTRL w t).servo t = 1 := by
      rwa [Dev.servo, c.get_store_apart t t w (r := TIME_TB_CTRL) (by decide)]
    rw [← c.get_store_apart t t w (r := TIME_TB_CTRL) (by decide)] at hns
    rw [← c.get_store_apart t t w (r := TIME_TB_CTRL) (g := TIME_OFS_MNS.NS) (by decide),
      ← c.get_store_apart t t w (r := TIME_TB_CTRL) (g := TIME_OFS_MSEC.SEC) (by decide), ← c.tb_store TIME_TB_CTRL w t 0 t] at hd
    rw [exec_tbSet, State.after_write hs (b := 4) (by decide) t.isLt Nat.one_pos (by decide), ← hc, Dev.regWrite_tbCtrl,
      c.tbCtrlWrite_set t h1 h0, Dev.tbSet_free hns hst' hd]
  case read =>
    intro s p t c d hc hs hr hd
    have himg : c.imgSet TIME_TB_T0 t = c.imageApplied := Bool.and_true _
    rw [exec_tbRead, State.after_read hs (b := 4) (by decide) t.isLt Nat.one_pos (by decide), ← hc, c.regRead_tbT0 t _ hr, Dev.tbRead, ← hd, himg]
  case rate =>
    intro s p t w c lo hc hs hst hlo
    rw [exec_rateCommit, State.after_write hs (b := 4) (by decide) t.isLt Nat.one_pos (by decide), ← hc, Dev.regWrite_tbRateHi,
      Dev.rateCommit_of_free hst hlo]
  case free =>
    intro s p t w c hc hs h1 h0
    rw [exec_servoFree, State.after_write hs (b := 4) (by decide) t.isLt Nat.one_pos (by decide), ← hc, Dev.regWrite_tbCtrl,
      c.tbCtrlWrite_free t h1 h0]
  case offset =>
    intro s p t w c d i hc hs hsrc hfree hst hfstep hset hsec hval hlock hstep hd hi
    have hn : 0 = if c.servo t = 1 then (if w.toInt.natAbs ≤ c.lockThr t then (c.tb t).lockCnt + 1 else 0) else (c.tb t).lockCnt := by
      rw [if_pos hst, if_neg (Nat.not_le.2 hlock)]
    rw [exec_offsetSubmit, State.after_write hs (b := 4) (by decide) t.isLt Nat.one_pos (by decide), ← hc, Dev.regWrite_ofsVal,
      Dev.offsetFw_age_zero hsec hval, hfstep, Dev.offset_timely hsrc one_ne_zero hfree hset (.inl hst),
      c.servoUpdate_small_fin t w.toInt hstep hi hn rfl, if_neg (by omega), if_neg (by omega), hd]
    rfl
  case hold =>
    intro s dt t d hd ha hst hran
    rw [exec_servoHoldTimeout, State.after_event _ ha, ← hd, d.holdTimeout_of_due (.inr hst) (Dev.isDue_of_ranFor hran)]
  case iso =>
    intro s dt l bs idx m x d e hd haw ha hh hc ht h0 he hl hdd heg hloc hk hr hm h1 hn hlen h2 hg
    have hid : (d.hfb.cells, e) = (d.perfEvent 0x19 1 { k := 1 }).cellId := he ▸ (Dev.cells_counted 1).symm
    have hacc : (e.setFwd idx x).deliverIso x.ctx bs = (e.setFwd idx x).setCtx x.ctx
        { e.ctx x.ctx with got := (e.ctx x.ctx).got ++ [(m, hCidx bs, cellPay bs)] } :=
      (if_pos hk).trans (Dev.ctxAccept_new (d := e.setFwd idx x) hr hm h1 hn hlen h2 hg)
    rw [exec_isoCellReceive, State.after_event _ haw, ← hd, Dev.cellReceive_sound ha hh hc hid, Dev.cellMeets_entry h0 (.inl rfl) hl,
      Dev.hitCell_local (hCls_of_hdrOk hh) ht hdd heg hloc, hacc]
  case ring =>
    intro s dt l bulk bs soc d e g hd haw ha hsoc hh hc hb he hf h1 hn hfill hp
    have h2 : 2 ≤ soc := by split at hsoc <;> omega
    have hid : (d.hfb.cells, e) = (d.perfEvent 0x19 1 { k := soc }).cellId := he ▸ (Dev.cells_counted soc).symm
    rw [exec_ringCellReceive, State.after_event _ haw, ← hd, ← hsoc, Dev.cellReceive_sound ha hh hc hid, Dev.cellMeets_ring hf h1 hn h2,
      Dev.toRing_pushed ((hCls_of_hdrOk hh).trans hsoc) hb hfill hp]
  case transit =>
    intro s dt l bulk bs soc idx x d e hd haw ha hsoc hh hc he h0 h1 hn hl hdd hloc heg hbit ht
    have h2 : soc ≠ 1 := by split at hsoc <;> omega
    have hid : (d.hfb.cells, e) = (d.perfEvent 0x19 1 { k := soc }).cellId := he ▸ (Dev.cells_counted soc).symm
    rw [exec_transitCellReceive, State.after_event _ haw, ← hd, ← hsoc, Dev.cellReceive_sound ha hh hc hid,
      Dev.cellMeets_entry h0 (.inr ⟨h1, hn⟩) hl, Dev.hitCell_transit (hCls_of_hdrOk hh) h2 hdd heg hbit hloc ht]

end Sys2Proof.Machine
end

section
/-! The roles of a pair (R293 to R306). -/

namespace Sys2Proof.Machine

section

variable {d e : Dev}

/-! ### A change of role leaves the pair's own state -/

/-- What a function of the device must leave alone so that a change of role leaves it alone. -/
structure Dev.RoleKept {α : Type} (p : Dev → α) : Prop where
  put : ∀ d f v i j, p (Dev.put d f v i j) = p d
  startTimer : ∀ d t i, p (Dev.startTimer d t i) = p d
  setPch : ∀ d n c, p (Dev.setPch d n c) = p d
  setPgrp : ∀ d g x, p (Dev.setPgrp d g x) = p d

namespace Dev.RoleKept

variable {α : Type} {p : Dev → α} (h : RoleKept p)

include h

omit h in
theorem ite {c : Prop} [Decidable c] {e d : Dev} (he : p e = p d) : p (if c then e else d) = p d := by
  split
  · exact he
  · rfl

theorem setCState (d : Dev) (n st : Nat) : p (d.setCState n st) = p d :=
  (ite (h.startTimer _ _ _)).trans ((h.put _ _ _ _ _).trans (h.put _ _ _ _ _))

omit h in
theorem eachCh (d : Dev) (g : Nat) {f : Nat → Dev → Dev} (hf : ∀ n d, p (f n d) = p d) : p (d.eachCh g f) = p d :=
  forN_keeps p 8 (fun j d => hf (8 * g + j) d) d

theorem diagNone (d : Dev) (g : Nat) : p (d.diagNone g) = p d := by
  refine eachCh d g fun n d => ?_
  dsimp only
  exact (ite (h.setCState _ _ _)).trans ((h.put _ _ _ _ _).trans (h.put _ _ _ _ _))

theorem chansOff (d : Dev) (g : Nat) : p (d.chansOff g) = p d := by
  refine eachCh d g fun n d => ?_
  dsimp only
  exact (ite (h.setCState _ _ _)).trans (h.setPch _ _ _)

theorem groupDown (d : Dev) (g st : Nat) : p (d.groupDown g st) = p d :=
  (h.chansOff _ g).trans <| (h.setPgrp _ _ _).trans <| (h.setPgrp _ _ _).trans <| (h.put _ _ _ _ _).trans <|
    (h.startTimer _ _ _).trans <| (h.put _ _ _ _ _).trans <| ite (h.diagNone _ g)

theorem setRole (d : Dev) (r : Nat) : p (d.setRole r) = p d :=
  (ite (forN_keeps p 4 (fun _ _ => ite (h.groupDown _ _ _)) _)).trans (h.put _ _ _ _ _)

end Dev.RoleKept

theorem Dev.roleKept_pair : RoleKept Dev.pair :=
  ⟨fun _ _ _ _ _ => rfl, fun _ _ _ => rfl, fun _ _ _ => rfl, fun _ _ _ => rfl⟩

theorem Dev.roleKept_tclk : RoleKept Dev.tclk :=
  ⟨fun _ _ _ _ _ => rfl, fun _ _ _ => rfl, fun _ _ _ => rfl, fun _ _ _ => rfl⟩

theorem Dev.pair_setRole (d : Dev) (r : Nat) : (d.setRole r).pair = d.pair := Dev.roleKept_pair.setRole d r

/-! ### Heartbeats and lines -/

/-- An ACTIVE records a heartbeat that shows no divergence, and compares inside the window. -/
theorem Dev.heartbeatReceive_active {bs : List Byte} {h : Hb} {now early : Bool} (hb : hbOf bs = some h) (hw : d.inWindowOf = (now, early))
    (hr : d.role = 2) (hf : bitOf h.flags 2 = 0) (he : e = ((d.setPair { d.pair with
      link := true, hb := some h, hbSeen := d.pair.hbSeen || now, hbEarly := d.pair.hbEarly || (early && !now) }).put
        PAIR_EV.PROLE h.role).put PAIR_PARTNER.NODE h.node) :
    d.heartbeatReceive bs = if now = true then e.compare else e := by
  have hho : ∀ x : Option Nat, (if d.role ≠ 3 then d.pair.ho else x) = d.pair.ho := fun x => if_pos (by omega)
  rw [Dev.heartbeatReceive, hb]
  simp only [hw, hho, hf, ← he]
  exact congrArg (fun x : Dev => if now = true then x.compare else x) (if_neg (fun hd => absurd hd.1 (by decide)))

theorem Dev.liveEdge_window {level : Bool} {f : Dev} (hl : d.pair.liveIn = !level) (he : e = d.captureEvent 29)
    (hw : e.inWindowOf = (true, false)) (hf : f = e.setPair { e.pair with liveIn := level, liveSeen := true }) :
    d.liveEdge level = f.put PAIR_SKEW.SKEW (unsW 32 ((e.tclk - e.pair.lastB : Nat) * 4)) := by
  rw [Dev.liveEdge, if_neg (by simp [hl])]
  simp only [← he, hw, Bool.or_true, Bool.false_and, Bool.or_false, if_true, hf]

/-- OWN_IN rises on an ACTIVE long after its start: it yields, and is inhibited. -/
theorem Dev.ownInChange_split {k : Nat} {c f : Dev} (hl : d.pair.ownIn = false) (hc : c = d.captureEvent 30)
    (he : e = (c.setPair { c.pair with ownIn := true }).put PAIR_STAT.OWNIN 1) (hr : e.role = 2) (hp : e.planned = false)
    (hk : e.pair.startTake = some k) (hlt : k + 16 < e.cyc.k) (hf : f = e.yieldNow true) : d.ownInChange true =
      ((f.setPair { f.pair with inhibit := true, yields := 0, hbRun := 0, liveRun := 0 }).put PAIR_EV.SPLITEV 1).raise FS.PAIR_SPLIT := by
  have hc' : (if d.pair.ownIn == true then d else d.captureEvent 30) = c := by rw [hc]; exact if_neg (by simp [hl])
  rw [Dev.ownInChange]
  simp only [hc', Bool.and_true, b2n, ← he, hr, hp, hk, Nat.not_le.2 hlt, decide_false, ← hf, if_true, Bool.false_eq_true, if_false,
    Bool.not_false, beq_self_eq_true]

/-! ### The evaluation -/

theorem Dev.pairEvaluate_due {a : Dev} (hr : d.running = true) (hp : d.pairOn = true) (ht : d.pair.lastB + d.hbwin ≤ d.tclk)
    (hk : d.pair.evalAt ≠ d.cyc.k + 1) (ha : a = d.setPair { d.pair with evalAt := d.cyc.k + 1 })
    (he : e = a.judgePaths.judgeHb.countCompare.pleachStep) : d.pairEvaluate =
      if e.role = 0 then
        if e.pairSees.role = 0 && !e.pairSees.ftm && !e.pairSees.pair.ownIn then
          e.pairSees.setPair { e.pairSees.pair with grant := e.pairSees.granted0 e.pairSees.pair.hbSeen }
        else e.pairSees
      else if e.role = 3 && !e.pair.backoff then e.detect else e := by
  have hap : a.pairOn = true := by rw [ha]; exact hp
  rw [Dev.pairEvaluate, if_neg (by simp [Dev.evalDue, hr, ht, hk])]
  simp only [← ha, hap, ← he, Bool.not_true, Bool.false_eq_true, if_false]

/-! The detection of a STANDBY. -/

section

variable {lost own : Bool} {x : Dev} (hi : e.pair.inhibit = false) (hl : lost = (e.hbLost && e.liveLost))
  (ho : own = (!e.pair.ownIn && (!e.pair.hbSeen || e.partnerRole != 2) && !e.planned))
  (hx : x = e.setPair { e.pair with det1 := lost, det2 := own })

include hi hl ho hx

theorem Dev.detect_eq : e.detect = if (lost && !e.pair.det1) || (own && !e.pair.det2) then x.detected lost else x := by
  subst hl ho hx
  exact if_neg (by simp [hi])

theorem Dev.detect_new (h : (lost = true ∧ e.pair.det1 = false) ∨ (own = true ∧ e.pair.det2 = false)) : e.detect = x.detected lost := by
  rw [Dev.detect_eq hi hl ho hx]
  exact if_pos (by simpa using h)

theorem Dev.detect_old (h1 : lost = false ∨ e.pair.det1 = true) (h2 : own = false ∨ e.pair.det2 = true) : e.detect = x := by
  rw [Dev.detect_eq hi hl ho hx]
  refine if_neg ?_
  rcases h1 with h1 | h1 <;> rcases h2 with h2 | h2 <;> simp [h1, h2]

end

theorem Dev.detected_unready {both : Bool} (h1 : d.is PAIR_STAT.READY = false) (h2 : d.is PAIR_CFG.TAKE_UNHEALTHY = false) :
    d.detected both = (d.put PAIR_TAKE_BLK.BLK d.blk).put PAIR_EV.NOTAKE 1 := by
  have k1 : (d.put PAIR_TAKE_BLK.BLK d.blk).is PAIR_STAT.READY = false := (d.is_put_beside_zero _ (by decide)).trans h1
  have k2 : (d.put PAIR_TAKE_BLK.BLK d.blk).is PAIR_CFG.TAKE_UNHEALTHY = false := (d.is_put_beside_zero _ (by decide)).trans h2
  exact if_pos (by simp [k1, k2])

theorem Dev.detected_ready {both : Bool} (h : d.is PAIR_STAT.READY = true ∨ d.is PAIR_CFG.TAKE_UNHEALTHY = true) :
    d.detected both = (d.put PAIR_TAKE_BLK.BLK d.blk).takeover both := by
  have k : (d.put PAIR_TAKE_BLK.BLK d.blk).is PAIR_STAT.READY = true ∨ (d.put PAIR_TAKE_BLK.BLK d.blk).is PAIR_CFG.TAKE_UNHEALTHY = true :=
    h.imp (d.is_put_beside_zero _ (by decide)).trans (d.is_put_beside_zero _ (by decide)).trans
  refine if_neg ?_
  rcases k with k | k <;> simp [k]

/-- The block from which a take-over replays what was kept for the links. -/
def Dev.replayFrom (d : Dev) : Nat := match d.pair.hb with | some h => h.txdone + 1 | none => d.cyc.k

theorem Dev.replayFrom_put (f : FRef) (v i j : Nat) : (d.put f v i j).replayFrom = d.replayFrom := by
  rw [Dev.replayFrom, Dev.put_pair, Dev.put_cyc, Dev.replayFrom]

theorem Dev.takeover_eq {both : Bool} {y z : Dev} (hy : y = ((d.setRole 2).put PAIR_EV.TAKEEV 1).take 0 (some (d.tclk + 1500)))
    (hz : z = y.setPair { y.pair with ho := none, startTake := none }) (ho : both = true → z.pair.ownIn = false) :
    d.takeover both = ((z.replay d.replayFrom).ethReplay d.replayFrom).raise FS.PAIR_TAKEOVER := by
  have hforce : ¬((both && z.pair.ownIn) = true) := by
    rw [Bool.and_eq_true, not_and, Bool.not_eq_true]
    exact ho
  have hb : (if both && z.pair.ownIn then (z.setPair { z.pair with ownForce := true }).put PAIR_STAT.OWNERR 1 else z) = z := if_neg hforce
  have htclk : ((d.setRole 2).put PAIR_EV.TAKEEV 1).tclk = d.tclk := by
    rw [Dev.put_tclk]
    exact Dev.roleKept_tclk.setRole d 2
  rw [Dev.takeover]
  dsimp only
  rw [htclk, ← hy, ← hz, hb]
  rfl

theorem Dev.takeover_taken {both : Bool} {from_ : Nat} {x y z : Dev} (hy : y = (((x.put PAIR_TAKE_BLK.BLK x.blk).setRole 2).put PAIR_EV.TAKEEV 1).take 0
    (some (x.tclk + 1500))) (hz : z = y.setPair { y.pair with ho := none, startTake := none }) (ho : both = true → z.pair.ownIn = false)
    (hf : from_ = x.replayFrom) :
    (x.put PAIR_TAKE_BLK.BLK x.blk).takeover both = ((z.replay from_).ethReplay from_).raise FS.PAIR_TAKEOVER := by
  rw [← Dev.put_tclk x PAIR_TAKE_BLK.BLK x.blk 0 0] at hy
  rw [hf, ← Dev.replayFrom_put, Dev.takeover_eq hy hz ho]

/-! A chip in NONE. -/

theorem Dev.pairSees_low (ho : d.pair.ownIn = false) : d.pairSees = d := if_neg (by simp [ho])

theorem Dev.pairSees_high (hr : d.role = 0) (hp : d.pairOn = true) (hrun : d.running = true) (hf : d.ftm = false) (ho : d.pair.ownIn = true) :
    d.pairSees = (d.setRole 3).setPair { (d.setRole 3).pair with grant := false, det1 := false, det2 := false } := by
  rw [Dev.pair_setRole]
  exact if_pos (by simp [hr, hp, hrun, hf, ho])

theorem Dev.granted0_partner {h : Hb} (hb : d.pair.hb = some h) (hr : h.role = 3 ∨ h.role = 4) : d.granted0 true = true := by
  rw [Dev.granted0]
  simp only [hb]
  exact if_pos (by simpa using hr)

theorem Dev.granted0_preferred {h : Hb} (hb : d.pair.hb = some h) (hr : h.role = 0) (hn : 4 ≤ d.pair.hbRun) :
    d.granted0 true = true ↔
      (d.get PAIR_CFG.PREF = 1 ∧ bitOf h.flags 4 = 0) ∨ (d.get PAIR_CFG.PREF = bitOf h.flags 4 ∧ d.uid < h.uid) := by
  have hg : d.granted0 true = ((d.is PAIR_CFG.PREF && bitOf h.flags 4 == 0) ||
      ((d.get PAIR_CFG.PREF == bitOf h.flags 4) && decide (d.uid < h.uid))) := by
    rw [Dev.granted0]
    simp only [hb]
    exact (if_neg (by simp [hr])).trans (if_pos (by simp [hr, hn]))
  rw [hg]
  simp [Dev.is]

theorem Dev.granted0_alone (hh : d.pair.heard = false) : d.granted0 false = true ↔
    (2 - d.get PAIR_CFG.PREF) * d.get PAIR_CFG.STARTUP * 250000 ≤ d.tclk - d.pair.noneAt := by
  have hg : d.granted0 false = decide ((2 - d.get PAIR_CFG.PREF) * d.get PAIR_CFG.STARTUP * 250000 ≤ d.tclk - d.pair.noneAt) := by
    rw [Dev.granted0]
    cases d.pair.hb with
    | none => simp [hh]
    | some h => simp [hh]
  rw [hg, decide_eq_true_iff]

/-! ### Commands: writes of PAIR_CTRL, of which bit 3 is mirrored -/

theorem fget_low_bit {w : Word} {k i : Nat} (hw : w.toNat % 32 = k) (hi : i < 5) : fget w i i = k / 2 ^ i % 2 := by
  rw [fget, Nat.shiftRight_eq_div_pow, Nat.add_sub_cancel_left, pow_one, ← hw]
  interval_cases i <;> omega

/-- PAIR_CTRL written by a chip that is no mirrored STANDBY. -/
theorem State.after_pairCtrl {s : State} {p : Port} {c : Dev} (hs : s.served p) (hc : c = s.counted p (PAIR_CTRL.addr 0 0)) (w : Word)
    (hm : c.mirrored = false) : s.after (fun d => d.access (fun d => d.busWrite (portNum p) (PAIR_CTRL.addr 0 0) w)) =
      s.ends s.dev ((c.pairCtrl w).mirrorOut c PAIR_CTRL 0 0 w) := by
  rw [State.after_access _ hs.1, Dev.busWrite_reg _ hs.2 (b := 14) (by decide) Nat.one_pos Nat.one_pos,
    Dev.regAccess_plain _ _ _ _ _ _ _ (by decide) (by decide) (by decide)]
  have hfront : c.regFront (portNum p) PAIR_CTRL 0 0 w = (c.pairCtrl w).mirrorOut c PAIR_CTRL 0 0 w :=
    (if_neg (by decide)).trans (if_neg (by simp [hm]))
  rw [← hfront, hc]
  rfl

/-- A write that does not ask for a resynchronisation sends nothing. -/
theorem Dev.mirrorOut_pairCtrl_quiet {o : Dev} {w : Word} (hw : w.toNat % 32 < 8 ∨ 16 ≤ w.toNat % 32 ∧ w.toNat % 32 < 24) :
    d.mirrorOut o PAIR_CTRL 0 0 w = d := by
  have h8 : w.toNat &&& mirrorMask PAIR_CTRL = 0 := by
    have hbit : w.toNat.testBit 3 = false := by
      rw [Nat.testBit_eq_decide_div_mod_eq, decide_eq_false_iff_not]
      omega
    have hand := Nat.and_two_pow w.toNat 3
    rw [hbit] at hand
    exact hand.trans (Nat.zero_mul _)
  refine if_neg ?_
  rw [if_neg (show ¬((PAIR_CTRL == PSM_CH_STAT) = true) by decide), if_pos (beq_self_eq_true PAIR_CTRL), h8]
  simp

theorem Dev.pairCtrl_yield {w : Word} {f : Dev} (hw : w.toNat % 32 = 16) (hr : d.role = 2) (hf : f = d.yieldNow false) :
    d.pairCtrl w = f.setPair { f.pair with inhibit := true, yields := 0, hbRun := 0, liveRun := 0 } := by
  simp [Dev.pairCtrl, fget_low_bit hw, Dev.pairYield, hr, hf]

theorem Dev.pairCtrl_clear {w : Word} (hw : w.toNat % 32 = 4) (hr : d.role = 4) : d.pairCtrl w = d.pairNone := by
  simp [Dev.pairCtrl, fget_low_bit hw, Dev.pairClear, hr]

theorem Dev.pairCtrl_fail {w : Word} (hw : w.toNat % 32 = 2) : d.pairCtrl w = d.pairFail := by
  simp [Dev.pairCtrl, fget_low_bit hw]

theorem Dev.pairCtrl_handover {w : Word} (hw : w.toNat % 32 = 1) : d.pairCtrl w = d.pairHandover := by
  simp [Dev.pairCtrl, fget_low_bit hw]

theorem Dev.pairHandover_ready {h : Hb} (hr : d.role = 2) (hu : d.is PAIR_STAT.UNMIRRORED = false) (hb : d.pair.hb = some h) (hh : h.role = 3)
    (hf : bitOf h.flags 0 = 1) (hl : later32 (d.get PAIR_HO_BLK.BLOCK) (d.blk + 2) = true) :
    d.pairHandover = d.setPair { d.pair with ho := some (d.get PAIR_HO_BLK.BLOCK) } := by
  rw [Dev.pairHandover]
  simp only [hb]
  exact if_neg (by simp [hr, hu, hh, hf, hl])

theorem Dev.pairCtrl_resync {w : Word} (hw : w.toNat % 32 = 8) (h : d.resyncOk = true) :
    d.pairCtrl w = d.setPair { d.pair with resync := some (d.get PAIR_RESYNC.BLOCK) } := by
  simp [Dev.pairCtrl, fget_low_bit hw, Dev.pairResync, h]

/-- An ACTIVE sends the resynchronisation that it has accepted. -/
theorem Dev.mirrorOut_pairCtrl_resync {o : Dev} {w : Word} (hw : w.toNat % 32 = 8) (hr : o.role = 2) (hl : o.pair.link = true)
    (h : o.resyncOk = true) : d.mirrorOut o PAIR_CTRL 0 0 w = d.emit (.pair 4 [0, PAIR_CTRL.addr 0 0, w.toNat, 0] []) := by
  have h8 : w.toNat &&& mirrorMask PAIR_CTRL ≠ 0 := by
    have hbit : w.toNat.testBit 3 = true := by
      rw [Nat.testBit_eq_decide_div_mod_eq, decide_eq_true_iff]
      omega
    have hand := Nat.and_two_pow w.toNat 3
    rw [hbit] at hand
    rw [show w.toNat &&& mirrorMask PAIR_CTRL = _ from hand]
    decide
  have hmarks : ∀ e : Dev, e.commitMarks PAIR_CTRL = e := fun e => by
    unfold Dev.commitMarks
    split
    · rfl
    · exact (if_neg (by decide)).trans (if_neg (by decide))
  refine (if_pos ?_).trans ((hmarks _).trans rfl)
  rw [if_neg (show ¬((PAIR_CTRL == PSM_CH_STAT) = true) by decide), if_pos (beq_self_eq_true PAIR_CTRL)]
  simp [hr, hl, h, h8]

/-! ### Time -/

theorem Dev.backoffExpire_taken {f : Dev} (hr : d.role = 3) (hb : d.pair.backoff = true)
    (ht : d.pair.backoffAt + (16 + d.uid / 256 ^ (d.pair.yields - 1) % 256) ≤ d.cyc.k)
    (he : e = d.setPair { d.pair with backoff := false, det1 := false, det2 := false }) (ho : e.pair.ownIn = false) (hm : e.pair.hbMiss ≠ 0)
    (hf : f = e.takeover false) : d.backoffExpire = f.setPair { f.pair with startTake := some f.cyc.k } := by
  rw [Dev.backoffExpire, if_pos ⟨hr, hb, ht⟩]
  simp only [← he]
  rw [if_pos (by simp [ho, hm]), ← hf]

end

/-- Settles O32: an evaluation is `Dev.pairEvaluate_due`, then by role a detection, the sight of the partner's OWN line or the three cases of the
arbitration; a command is one bit of PAIR_CTRL, sent to the partner only where it asks for a resynchronisation. -/
theorem pairRoleCommandsComplete : Obligations.PairRoleCommandsComplete := by
  unfold Obligations.PairRoleCommandsComplete
  refine ⟨?heartbeat, ?evaluate, ?live, ?own, ?control, ?missed, ?backoff⟩
  case heartbeat =>
    intro s dt bs h now early d e hd haw hb hw hr hf he
    rw [exec_heartbeatReceive, State.after_event _ haw, ← hd, Dev.heartbeatReceive_active hb hw hr hf he]
  case evaluate =>
    intro s dt d a e hd haw hrun hon ht hk ha he
    have hstep : exec (.pairEvaluate dt) s = s.ends d d.pairEvaluate := by rw [exec_pairEvaluate, State.after_event _ haw, ← hd]
    rw [hstep, Dev.pairEvaluate_due hrun hon ht hk ha he]
    refine ⟨fun hr => ?active, fun lost own x y z hr hb hi hl ho hx => ?standby, fun hr hp hrun' hf ho => ?joins, fun hr hf ho => ?none⟩
    case active => rw [if_neg (by omega), if_neg (by simp [hr])]
    case standby =>
      rw [if_neg (by omega), if_pos (by simp [hr, hb])]
      refine ⟨fun hnew => ⟨fun h1 h2 => ?_, fun hready hy hz hown from_ hfrom => ?_⟩, fun h1 h2 => ?_⟩
      · rw [Dev.detect_new hi hl ho hx hnew, Dev.detected_unready h1 h2]
      · rw [Dev.detect_new hi hl ho hx hnew, Dev.detected_ready hready, Dev.takeover_taken hy hz hown hfrom]
      · rw [Dev.detect_old hi hl ho hx h1 h2]
    case joins =>
      have hsees := Dev.pairSees_high hr hp hrun' hf ho
      have hown : e.pairSees.pair.ownIn = true := by
        rw [hsees]
        exact (congrArg PairSt.ownIn (e.pair_setRole 3)).trans ho
      rw [if_pos hr, if_neg (by simp [hown]), hsees]
    case none =>
      rw [if_pos hr, Dev.pairSees_low ho, if_pos (by simp [hr, hf, ho])]
      refine ⟨e.granted0 e.pair.hbSeen, rfl, fun h hs hb hh => ?_, fun h hs hb hh hn => ?_, fun hs hh => ?_⟩
      · rw [hs, Dev.granted0_partner hb hh]
      · rw [hs, Dev.granted0_preferred hb hh hn]
      · rw [hs, Dev.granted0_alone hh]
  case live =>
    intro s dt level d e f hd hl he hw hf
    rw [exec_liveEdge, State.after_pin, ← hd, Dev.liveEdge_window hl he hw hf]
  case own =>
    intro s dt k d c e f hd hl hc he hr hp hk hlt hf
    rw [exec_ownInChange, State.after_pin, ← hd, Dev.ownInChange_split hl hc he hr hp hk hlt hf]
  case control =>
    intro s p w c hc hs
    refine ⟨fun e hw hr he => ?_, fun hw hr => ?_, fun hw hm => ?_, fun h hw hr hu hb hh hf hl => ?_, fun hw hr hl hlater => ?_⟩
    · rw [exec_yield, State.after_pairCtrl hs hc w (by simp [Dev.mirrored, hr]), Dev.pairCtrl_yield hw hr he,
        Dev.mirrorOut_pairCtrl_quiet (by omega)]
    · rw [exec_pairClear, State.after_pairCtrl hs hc w (by simp [Dev.mirrored, hr]), Dev.pairCtrl_clear hw hr,
        Dev.mirrorOut_pairCtrl_quiet (by omega)]
    · rw [exec_pairFail, State.after_pairCtrl hs hc w hm, Dev.pairCtrl_fail hw, Dev.mirrorOut_pairCtrl_quiet (by omega)]
    · rw [exec_handover, State.after_pairCtrl hs hc w (by simp [Dev.mirrored, hr]), Dev.pairCtrl_handover hw,
        Dev.pairHandover_ready hr hu hb hh hf hl, Dev.mirrorOut_pairCtrl_quiet (by omega)]
    · have hok : c.resyncOk = true := by simp [Dev.resyncOk, hr, hlater]
      rw [exec_resync, State.after_pairCtrl hs hc w (by simp [Dev.mirrored, hr]), Dev.pairCtrl_resync hw hok,
        Dev.mirrorOut_pairCtrl_resync hw hr hl hok]
  case missed =>
    intro s dt d hd haw hr ht
    rw [exec_boundaryMissed, State.after_event _ haw, ← hd]
    exact congrArg (s.ends d) (if_pos (by simp [hr, Dev.missedTb, ht]))
  case backoff =>
    intro s dt d e f hd haw hr hb ht he ho hm hf
    rw [exec_startupBackoffExpire, State.after_event _ haw, ← hd, Dev.backoffExpire_taken hr hb ht he ho hm hf]

end Sys2Proof.Machine
end

section
/-! What arrives over the pair link, and the self-tests (R299 to R312, R405). -/

namespace Sys2Proof.Machine

section

variable {d e : Dev}

/-! ### Frames of the ACTIVE -/

theorem Dev.pairVbus_mirrored {g v val st : Nat} {ceil : Bool} (he : e = d.setPair { d.pair with link := true }) (hg : e.grpStandby g = true)
    (hm : e.mirrored = true) : d.pairVbus g v val st ceil =
      ((((e.setPgrp g { e.pgrp g with shared := some v }).setDip g { val := val, ceil := ceil }).put PWR_DIP_STAT.STATE st).put
        PWR_DIP_STAT.SHARED 1).put PWR_DIP_STAT.GAIN (min 65535 val) := by
  subst he
  exact if_pos (by simp [hg, hm])

theorem Dev.busCount_role (port a : Nat) : (d.busCount port a).role = d.role := by
  have h : Near reportWord d (d.busCount port a) := (Near.refl reportWord d).perfEvent
  exact h.get PAIR_STAT.ROLE 0 0 (by unfold reportWord; decide)

theorem Dev.mirrorReceive_write (hr : (d.setPair { d.pair with link := true }).role = 3) {a aux : Nat} {w : Word} :
    d.mirrorReceive (.write a w aux) = (d.setPair { d.pair with link := true }).mirrorWrite a w aux := if_neg (not_not.2 hr)

/-- A mirrored write of a register does to the mirrored bits what the register's write does. -/
theorem Dev.mirrorWrite_reg {a aux i j : Nat} {r : Reg} {w : Word} {c : Dev} (ha : a < memShared) (hd : decodeReg a = some (r, i, j))
    (hx : r ≠ XPT_CMD_DATA) (hp : r ≠ PAIR_CTRL) (hm : mirrorMask r ≠ 0) (hc : c = d.busCount 68 a) :
    d.mirrorWrite a w aux = c.regWrite 68 r i j (maskWord r.flds (mirrorMask r) w (c.rd r i j)) (some aux) := by
  rw [Dev.mirrorWrite, if_neg (Nat.not_le.2 ha)]
  simp only [hd, beq_iff_eq, hx, hp, hm, if_false, ← hc]

/-- A mirrored resynchronisation names the block at which it is made. -/
theorem Dev.mirrorWrite_resync {aux : Nat} {w : Word} {c : Dev} (hr : d.role = 3) (hw : fget w 3 3 = 1)
    (hc : c = d.busCount 68 (PAIR_CTRL.addr 0 0)) (hl : later32 (c.get PAIR_RESYNC.BLOCK) c.blk = true) :
    d.mirrorWrite (PAIR_CTRL.addr 0 0) w aux = c.setPair { c.pair with resync := some (c.get PAIR_RESYNC.BLOCK) } := by
  have hcr : c.role = 3 := by rw [hc, Dev.busCount_role, hr]
  have hd : decodeReg (PAIR_CTRL.addr 0 0) = some (PAIR_CTRL, 0, 0) := decodeReg_addr (b := 14) (by decide) Nat.one_pos Nat.one_pos
  rw [Dev.mirrorWrite, if_neg (by decide)]
  simp only [hd, ← hc]
  rw [if_neg (show ¬((PAIR_CTRL == XPT_CMD_DATA) = true) by decide), if_neg (show mirrorMask PAIR_CTRL ≠ 0 by decide),
    if_pos (beq_self_eq_true PAIR_CTRL), if_pos (by simp [hw])]
  exact if_pos ⟨hcr, hl⟩

theorem Dev.role_of_mirrored (h : d.mirrored = true) : d.role = 3 := by
  simp only [Dev.mirrored, Bool.and_eq_true, beq_iff_eq] at h
  exact h.1.1

theorem Dev.mirrorReceive_commit (xpt : Bool) (b : Nat) (he : e = d.setPair { d.pair with link := true }) (hm : e.mirrored = true) :
    d.mirrorReceive (.commit xpt b) = if xpt = true then e.setPair { e.pair with markX := e.pair.markX ++ [b % 2 ^ 32] }
      else e.setPair { e.pair with markT := e.pair.markT ++ [b % 2 ^ 32] } := by
  subst he
  exact (if_neg (not_not.2 (Dev.role_of_mirrored hm))).trans (if_neg (by simp [hm]))

/-! ### The partner's state -/

theorem Dev.pairPsm_standby (f : PsmFrame) (hr : d.role = 3) : d.pairPsm f = d.setPair { d.pair with
    link := true, psm := d.pair.psm.filter (fun x => x.grp != f.grp) ++ [f] } := if_pos hr

theorem Dev.pairPsm_other (f : PsmFrame) (hr : d.role ≠ 3) : d.pairPsm f = d.setPair { d.pair with
    link := true, psmPartner := tabPut 0 d.pair.psmPartner f.grp (f.state + 1) } := if_neg hr

theorem Dev.healthReceive_sound {bs : List Byte} (hl : bs.length = 64) (hc : crc32 (bs.take 0x3C) = leAt bs 0x3C 4)
    (hf : bitOf (leAt bs 5 1) 4 = 0) : d.healthReceive bs = d.setPair { d.pair with
      link := true, health := bs, resyncRec := d.pair.resyncRec && d.beforeResync (leAt bs 0 4) } :=
  (if_neg (by simp [hl, hc])).trans (if_neg (by simp [hf]))

theorem Dev.pairLinkDown_on (he : e = d.setPair { d.pair with link := false, linkRun := 0 }) (hp : e.pairOn = true) :
    d.pairLinkDown = (e.put PAIR_STAT.UNMIRRORED 1).raise FS.PAIR_LINK := by
  subst he
  exact if_pos hp

theorem Dev.healthRecord_due (hr : d.running = true)
    (ht : d.pair.healthAt = 0 ∨ d.pair.healthAt + max 1 (d.get PAIR_HEALTH_CFG.INT) ≤ d.cyc.k + 1)
    (he : e = (d.ringPush (92 + d.get PAIR_HEALTH_CFG.RING) 6 0 0 0 d.healthBytes).2) (hl : e.pair.link = true) :
    d.healthRecord = (e.setPair { e.pair with acc := {}, healthAt := d.cyc.k + 1 }).emit (.pair 6 [] d.healthBytes) := by
  have hdue : ¬((!d.running || (d.pair.healthAt != 0 && decide (d.cyc.k + 1 < d.pair.healthAt + max 1 (d.get PAIR_HEALTH_CFG.INT)))) = true) := by
    rcases ht with h | h
    · simp [hr, h]
    · simp [hr, Nat.not_lt.2 h]
  have hnear : Near reportWord d e := he ▸ (Near.refl reportWord d).ringPush reportWord_above
  rw [Dev.healthRecord, if_neg hdue]
  dsimp only
  rw [← he, hnear.cyc]
  exact if_pos hl

/-! ### Self-tests -/

/-- A scrub of a word of the shared, local or code memory that holds a corrected error clears and reports it. -/
theorem Dev.scrub_corrected {a err : Nat} {b f : Dev} (hw : eccWord a = true) (ha : a < memSram) (hb : b = d.eccArise a err)
    (he : e = (if memShared ≤ a ∧ a < memCode then b.perfEvent 0x22 1 { master := 69, addr := a - memShared } else b))
    (hbad : a ∉ e.eccBad) (hcor : a ∈ e.eccCor)
    (hf : f = { e.setPair { e.pair with scrubbed := true, scrubBad := e.pair.scrubBad.filter (· != a) } with
      eccCor := e.eccCor.filter (· != a) }) :
    d.scrub a err = (f.setPair { f.pair with acc := { f.pair.acc with corr := f.pair.acc.corr + 1 } }).raiseAt
      FS.THK_ECC_CORR { addr := a, master := 69, ty := 1 } := by
  have hm : isMram a = false := by
    unfold eccWord memLocal at hw
    simp only [memShared, memCode, memSram, Bool.and_eq_true, Bool.or_eq_true, decide_eq_true_eq, beq_iff_eq] at hw
    simp only [memSram] at ha
    simp only [isMram, memScene, memMram, Bool.or_eq_false_iff, Bool.and_eq_false_iff, decide_eq_false_iff_not]
    omega
  have hs : ¬ memSram ≤ a := Nat.not_le.2 ha
  rw [Dev.scrub, if_neg (by simp [hm]), if_neg (by simp [hw])]
  simp only [← hb, ← he, hs, decide_false, Bool.false_eq_true, if_false]
  subst hf
  have hbad' : ¬(e.eccBad.contains a = true) := by simpa using hbad
  have hcor' : e.eccCor.contains a = true := by simpa using hcor
  exact (if_neg hbad').trans (if_pos hcor')

theorem Dev.pleachKernel_idle {m : Nat} (good : Bool) (hr : d.role ≠ 0) (hb : (d.sprig m).busy = false) :
    d.pleachKernel m good = d.setPair { d.pair with
      kern := tabPut 0 d.pair.kern m (if good = true then 1 else 2), kernAt := tabPut 0 d.pair.kernAt m (d.cyc.k + 1) } :=
  if_neg (by simp [hr, hb])

end

/-- Settles O33: a mirrored write does its register's write to the mirrored bits; a scrub reports as corrected what it found corrected. -/
theorem pairLinkCommandsComplete : Obligations.PairLinkCommandsComplete := by
  unfold Obligations.PairLinkCommandsComplete
  refine ⟨?vbus, ?asrc, ?mirror, ?resync, ?commit, ?psm, ?health, ?down, ?record, ?scrub, ?kernel⟩
  case vbus =>
    intro s dt v val g st ceil d e hd haw he hg hm
    rw [exec_pairVbusReceive, State.after_event _ haw, ← hd, Dev.pairVbus_mirrored he hg hm]
  case asrc =>
    intro s dt b k r st ps d e hd haw he
    rw [exec_pairAsrcReceive, State.after_event _ haw, ← hd, he]
    rfl
  case mirror =>
    intro s dt a aux i j r w d c hd haw hr ha hdec hx hp hm hc
    rw [exec_mirrorReceive, State.after_event _ haw, ← hd, Dev.mirrorReceive_write hr, Dev.mirrorWrite_reg ha hdec hx hp hm hc]
  case resync =>
    intro s dt aux w d c hd haw hr hw hc hl
    rw [exec_mirrorReceive, State.after_event _ haw, ← hd, Dev.mirrorReceive_write hr, Dev.mirrorWrite_resync hr hw hc hl]
  case commit =>
    intro s dt b d e hd haw he hm
    refine ⟨?_, ?_⟩
    · rw [exec_mirrorReceive, State.after_event _ haw, ← hd, Dev.mirrorReceive_commit true b he hm, if_pos rfl]
    · rw [exec_mirrorReceive, State.after_event _ haw, ← hd, Dev.mirrorReceive_commit false b he hm, if_neg (by decide)]
  case psm =>
    intro s dt st g xs d hd haw
    refine ⟨fun hr => ?_, fun hr => ?_⟩
    · rw [exec_pairPsmReceive, State.after_event _ haw, ← hd, Dev.pairPsm_standby _ hr]
    · rw [exec_pairPsmReceive, State.after_event _ haw, ← hd, Dev.pairPsm_other _ hr]
  case health =>
    intro s dt bs d hd haw hl hc hf
    rw [exec_healthReceive, State.after_event _ haw, ← hd, Dev.healthReceive_sound hl hc hf]
  case down =>
    intro s dt d e hd haw he hp
    rw [exec_pairLinkDown, State.after_event _ haw, ← hd, Dev.pairLinkDown_on he hp]
  case record =>
    intro s dt d e hd haw hr ht he hl
    rw [exec_healthRecord, State.after_event _ haw, ← hd, Dev.healthRecord_due hr ht he hl]
  case scrub =>
    intro s dt a err d b e f hd haw hw ha hb he hbad hcor hf
    rw [exec_scrub, State.after_event _ haw, ← hd, Dev.scrub_corrected hw ha hb he hbad hcor hf]
  case kernel =>
    intro s dt m good d hd haw hr hb
    rw [exec_pleachKernel, State.after_event _ haw, ← hd, Dev.pleachKernel_idle good hr hb]

end Sys2Proof.Machine
end

section
/-! The groups of the modulators: diagnosis, start and stop (R153 to R166). -/

namespace Sys2Proof.Machine

/-- Repetitions of steps that agree below the bound agree. -/
theorem forN_congr {α : Type} {n : Nat} {f h : Nat → α → α} (hf : ∀ k < n, ∀ a, f k a = h k a) (a : α) : forN n f a = forN n h a := by
  induction n with
  | zero => rfl
  | succ n ih => rw [forN, forN, ih fun k hk => hf k (by omega), hf n (by omega)]

theorem nth_mem {α : Type} (x : α) {l : List α} {k : Nat} (h : k < l.length) : nth x l k ∈ l := by
  induction l generalizing k with
  | nil => cases h
  | cons y l ih =>
    cases k with
    | zero => exact List.mem_cons_self ..
    | succ k => exact List.mem_cons_of_mem _ (ih (Nat.lt_of_succ_lt_succ h))

section

variable {d : Dev} {g : Nat}

/-! ### Start and stop -/

theorem Dev.regWrite_pgCtrl (port : Nat) (w : Word) : d.regWrite port PSM_PG_CTRL g 0 w none =
    if fget w 1 1 == 1 then (if fget w 0 0 == 1 then d.psmStart g else d).psmStop g else if fget w 0 0 == 1 then d.psmStart g else d := rfl

theorem Dev.psmStart_noted (h : d.is FLT_GRAVE.ACTIVE = false) (hs : d.gState g = 0 ∨ d.gState g = 6) :
    d.psmStart g = d.setPgrp g { d.pgrp g with startReq := true } := (if_neg (by simp [h])).trans (if_pos hs)

theorem Dev.stopDone_ended {e : Dev} (hs : d.gState g = 5) (hp : (d.pgrp g).stopP = 0) (he : e = (d.setGState g 0).put PSM_PG_STAT.DEEP 0 g) :
    d.stopDone g = (e.setPgrp g { e.pgrp g with psenOff := 2, clkLost := false }).chansOff g := by
  subst he
  exact if_pos ⟨hs, hp⟩

theorem Dev.psfltAssert_low {e : Dev} (he : e = (d.setPgrp g { d.pgrp g with flt := true }).put PSM_PG_STAT.PSFLT 1 g) (hs : e.gState g ≠ 0) :
    d.psfltAssert g true = (e.groupDown g 6).raise (FS.PSM_PSFLT + g) := by
  rw [Dev.psfltAssert]
  simp only [Bool.not_true, Bool.false_eq_true, if_false]
  rw [← he, if_neg hs]

theorem Dev.psfltAssert_high : d.psfltAssert g false = d.setPgrp g { d.pgrp g with flt := false } := by
  rw [Dev.psfltAssert]
  exact if_pos rfl

/-! ### The leg test -/

theorem legClass_clear {l : Nat × Nat} {kv vg : Nat} (h0 : 256000 * vg ≤ 4 * (l.1 * kv) ∧ 256000 * vg ≤ 4 * (l.2 * kv))
    (h1 : 4 * (l.1 * kv) ≤ 768000 * vg ∧ 4 * (l.2 * kv) ≤ 768000 * vg) : legClass l kv vg = 0 := by
  rw [legClass, if_neg (by omega), if_neg (by omega)]

/-- A channel without a short loses the result that it held, and the FAULT of an earlier test. -/
theorem Dev.legResult_clear (n : Nat) : d.legResult n 0 =
    if ((d.put PSM_CH_STAT.DIAG 0 n).put PSM_CH_RES.R 0xFFFFFFFF n).cState n = 4
    then ((d.put PSM_CH_STAT.DIAG 0 n).put PSM_CH_RES.R 0xFFFFFFFF n).setCState n 0
    else (d.put PSM_CH_STAT.DIAG 0 n).put PSM_CH_RES.R 0xFFFFFFFF n := by
  rw [Dev.legResult, if_neg (by decide)]

theorem Dev.legtestDone_clear {legs : List (Nat × Nat)} {e : Dev} (hs : d.gState g = 1) (hb : d.grpStandby g = false)
    (hd : d.isDue .enable 3000000 g = true) (hc : ∀ k < 8, legClass (nth (0, 0) legs k) (d.get PSM_PG_SENSE.KV g) (d.pgrp g).vg = 0)
    (he : e = forN 8 (fun k d => d.legResult (8 * g + k) 0) d) : d.legtestDone g legs = (e.setGState g 2).setPsen g true := by
  have hloop : forN 8 (fun k e => e.legResult (8 * g + k) (legClass (nth (0, 0) legs k) (d.get PSM_PG_SENSE.KV g) (d.pgrp g).vg)) d = e := by
    rw [he]
    exact forN_congr (fun k hk a => by rw [hc k hk]) d
  have hany : (List.range 8).any (fun k => legClass (nth (0, 0) legs k) (d.get PSM_PG_SENSE.KV g) (d.pgrp g).vg == 7) = false := by
    rw [List.any_eq_false]
    intro k hk
    rw [hc k (List.mem_range.1 hk)]
    decide
  rw [Dev.legtestDone, if_neg (by simp [hs, hb, hd])]
  simp only [hloop, hany, Bool.false_eq_true, if_false]

/-! ### The load test -/

theorem Dev.enableDone_due {a b : Dev} (hs : d.gState g = 2) (hb : d.grpStandby g = false)
    (hd : d.isDue .enable (max 1 (min 5000 (d.get PSM_PG_TIME.TEN g)) * 1000) g = true) (ha : a = d.setGState g 3)
    (hb' : b = a.setPgrp g { a.pgrp g with
      vtest := max 10 (min 200 (a.get PSM_DIAG_CFG.VTEST)), testP := 0,
      rampN := max 1 (min 100 (a.get PSM_DIAG_CFG.RAMP)) * 192 * 2 ^ a.get PSM_PG_CFG.CAR g,
      holdN := max 1 (min 100 (a.get PSM_DIAG_CFG.HOLD)) * 192 * 2 ^ a.get PSM_PG_CFG.CAR g }) :
    d.enableDone g = b.eachCh g (fun n d => d.setPch n { d.pch n with under := decide (d.get PSM_CH_STAT.DIAG n < 6), e := [] }) := by
  subst hb' ha
  exact if_neg (by simp [hs, hb, hd])

/-- The result of a channel's load test, `v` its voltage and `i` its current. -/
theorem Dev.loadResult_eq (n : Nat) (m : Int × Int × Nat) : d.loadResult n m =
    if (d.pch n).under = true then
      (let r := loadClass m.1 m.2.1 m.2.2
       let b := ((d.setPch n { d.pch n with under := false, tA := 0, tB := 0 }).put PSM_CH_STAT.DIAG r n).put PSM_CH_RES.R
         (loadMilliohm m.1 m.2.1 m.2.2) n
       if r = 5 ∨ (r = 4 ∧ b.is PSM_CH_CFG.OPEN_PLAY n = false) then b.setCState n 4 else b.chanReady n)
    else d := by
  cases hu : (d.pch n).under with
  | false => rw [Dev.loadResult, if_pos (by simp [hu]), if_neg (by decide)]
  | true =>
    rw [Dev.loadResult, if_neg (by simp [hu]), if_pos rfl]
    exact if_congr (by simp) rfl rfl

theorem Dev.loadtestDone_ended {meas : List (Int × Int)} {e : Dev} (hs : d.gState g = 3) (hb : d.grpStandby g = false)
    (ht : 2 * (d.pgrp g).rampN + (d.pgrp g).holdN ≤ (d.pgrp g).testP)
    (he : e = (forN 8 (fun k a => a.loadResult (8 * g + k) (d.loadScale g (nth (0, 0) meas k))) d).setGState g 4) :
    d.loadtestDone g meas =
      if (List.range 8).any (fun k => e.get PSM_CH_STAT.DIAG (8 * g + k) != 1) = true then e.raise (FS.PSM_DIAG + g) else e := by
  subst he
  exact if_neg (by simp [hs, hb, PsmGrp.testLen, ht])

theorem Dev.loadtestAbort_shorted {n : Nat} {uv : Int} (hs : d.gState (n / 8) = 3) (hu : (d.pch n).under = true) (hb : d.grpStandby (n / 8) = false)
    (hv : 10 * (d.pgrp (n / 8)).vtest * d.get PSM_PG_SENSE.GI (n / 8) < uv.natAbs) : d.loadtestAbort n uv =
      (((d.setPch n { d.pch n with under := false, tA := 0, tB := 0 }).put PSM_CH_STAT.DIAG 5 n).put PSM_CH_RES.R 0xFFFFFFFF n).setCState n 4 := by
  rw [Dev.loadtestAbort, if_pos ⟨hs, hu, hb, hv⟩]

end

/-- Settles O34: the two tests go channel by channel (`Dev.legResult_clear`, `Dev.loadResult_eq`); the rest is one branch of each event. -/
theorem groupCommandsComplete : Obligations.GroupCommandsComplete := by
  unfold Obligations.GroupCommandsComplete
  refine ⟨?control, ?legs, ?enable, ?load, ?stopped, ?fault, ?recovered, ?abort⟩
  case control =>
    intro s p g w c hc hs hso
    rw [hc] at hso
    have hw := State.after_write_solo hs (b := 13) (by decide) g.isLt Nat.one_pos hso w
    rw [← hc, Dev.regWrite_pgCtrl] at hw
    refine ⟨fun h0 h1 hg hst => ?_, fun h0 h1 => ?_⟩
    · rw [exec_psmStart, hw, h0, h1, if_neg (by decide), if_pos (by decide), Dev.psmStart_noted hg hst]
    · rw [exec_psmStop, hw, h0, h1, if_pos (by decide), if_neg (by decide), Dev.psmStop]
  case legs =>
    intro s dt g legs kv d e hd haw hs hb hdue hlen hkv h0 h1 he
    have hc : ∀ k < 8, legClass (nth (0, 0) legs k) (d.get PSM_PG_SENSE.KV g) (d.pgrp g).vg = 0 := fun k hk =>
      have hm : nth (0, 0) legs k ∈ legs := nth_mem _ (hlen ▸ hk)
      hkv ▸ legClass_clear (h0 _ hm) (h1 _ hm)
    have he' : e = forN 8 (fun k d => d.legResult (8 * g + k) 0) d := by
      simp only [Dev.legResult_clear]
      exact he
    rw [exec_legtestDone, State.after_event _ haw, ← hd, Dev.legtestDone_clear hs hb hdue hc he']
  case enable =>
    intro s dt g d a b hd haw hs hb hdue ha hb'
    rw [exec_enableTimeDone, State.after_event _ haw, ← hd, Dev.enableDone_due hs hb hdue ha hb']
  case load =>
    intro s dt g meas d e hd haw hs hb ht he
    have he' : e = (forN 8 (fun k a => a.loadResult (8 * g + k) (d.loadScale g (nth (0, 0) meas k))) d).setGState g 4 := by
      simp only [Dev.loadResult_eq]
      exact he
    rw [exec_loadtestDone, State.after_event _ haw, ← hd, Dev.loadtestDone_ended hs hb ht he']
  case stopped =>
    intro s dt g d e hd haw hs hp he
    rw [exec_stopRampDone, State.after_event _ haw, ← hd, Dev.stopDone_ended hs hp he]
  case fault =>
    intro s dt g d e hd haw he hs
    rw [exec_psfltAssert, State.after_event _ haw, ← hd, Dev.psfltAssert_low he hs]
  case recovered =>
    intro s dt g d hd haw
    rw [exec_psfltAssert, State.after_event _ haw, ← hd, Dev.psfltAssert_high]
  case abort =>
    intro s dt n uv d hd haw hs hu hb hv
    rw [exec_loadtestAbort, State.after_event _ haw, ← hd, Dev.loadtestAbort_shorted hs hu hb hv]

end Sys2Proof.Machine
end

section
/-! The channels of the modulators (R167 to R183). -/

namespace Sys2Proof.Machine

section

variable {d : Dev} {g n : Nat}

/-! ### A carrier period -/

/-- What a channel's period adds to those before it: whether one was limited, and the device. -/
def chanTurn (g r j p w vfs vg ceil stop dip k : Nat) (acc : Bool × Dev) : Bool × Dev :=
  (acc.1 || (acc.2.chanPeriod (8 * g + k) r j p w vfs vg ceil stop dip).1, (acc.2.chanPeriod (8 * g + k) r j p w vfs vg ceil stop dip).2)

theorem Dev.chanEnter_eq (j : Nat) : d.chanEnter j n =
    (let v := d.setPch n { d.pch n with sleepNow := false, blk := (d.pch n).carried j }
     if (v.pch n).entering && v.cState n == 1 && v.gState (n / 8) == 4 then
       (v.setPch n { v.pch n with entering := false, e := [], fadeOn := true, fadeP := 0 }).setCState n 2
     else v).slpStep n := by
  have hv : (d.setPch n { d.pch n with sleepNow := false, blk := (d.pch n).carried j }).pch n =
      { d.pch n with sleepNow := false, blk := (d.pch n).carried j } := tabGet_tabPut_same ..
  rw [Dev.chanEnter]
  dsimp only
  rw [hv]

/-- A period of an enabled group in RUN whose channels all keep within their limits. -/
theorem Dev.carrierPeriod_run {uv r : Nat} {b u c e f : Dev} {x : PsmGrp} (hen : d.is PSM_PG_CFG.EN g = true) (hr : r = max 1 (d.fcR g))
    (hb : b = (d.groupReading g (d.vbsReading g uv)).periodBegin g r) (hx : x = b.pgrp g)
    (hu : u = b.eachCh g (fun n d => d.chanEnter x.j n)) (hc : c = (u.dipTick g).dipReport g) (hg : c.gState g = 4)
    (he : forN 8 (chanTurn g r x.j (carP (c.get PSM_PG_CFG.CAR g)) (minTaps (c.get PSM_PG_CFG.MINPW g)) (c.get PSM_PG_CFG.VFS g)
      x.vg (c.dip g).values.1 65536 (c.dip g).values.2) (false, c) = (false, e))
    (hf : f = e.periodNext g r) (hd : f.grpDriven g = true) :
    d.carrierPeriod g uv = f.emit (.pwm g (f.psmTrim g) (f.grpLegs g)) := by
  have hen' : ¬ (!d.is PSM_PG_CFG.EN g) = true := by simp [hen]
  rw [Dev.carrierPeriod, if_neg hen']
  simp only [← hr, ← hb, ← hx, ← hu, ← hc, hg, Nat.reduceEqDiff, if_false]
  unfold chanTurn at he
  simp only [he, Bool.false_and, Bool.false_eq_true, if_false, ← hf, hd, if_true]

theorem Dev.periodNext_run {r : Nat} {y : PsmGrp} (hg : d.gState g = 4) (hy : y = d.pgrp g) :
    d.periodNext g r = d.setPgrp g { y with j := (y.j + 1) % r } := by
  subst hy
  rw [Dev.periodNext]
  simp only [hg, Nat.reduceEqDiff, if_false]

/-! ### Deep sleep, the trips of the comparator, the latch -/

theorem Dev.deepSleep_due (hs : d.gState g = 4) (hne : d.get PSM_PG_TIME.DEEP g ≠ 0) (hd : d.is PSM_PG_STAT.DEEP g = false)
    (hi : d.allIdle g = true) (hdue : d.isDue .deep (d.get PSM_PG_TIME.DEEP g * 1000000) g = true) :
    d.deepSleep g = ((d.setPsen g false).put PSM_PG_STAT.DEEP 1 g).psmWake := by
  rw [Dev.deepSleep, if_pos (by simp [hs, hne, hd, hi, hdue])]

theorem Dev.ilimTrip_once {e : Dev} {isns : Int} {va vb : Nat} {recent : List Nat} (ht : d.tripsAt n isns = true)
    (he : e = d.inc PSM_CH_STAT.TRIPS n) (hs : e.cState n = 2) (hr : recent = (d.pch n).trips.filter (fun t => decide (e.tclk ≤ t + 250000)))
    (hl : recent.length < 3) : d.ilimTrip n isns va vb =
      (e.setPch n { d.pch n with tripped := true, tA := 0, tB := 0, trips := (e.tclk :: recent).take 4 }).raiseOnce FS.PSM_ILIM := by
  have ht' : ¬ (!d.tripsAt n isns) = true := by simp [ht]
  rw [Dev.ilimTrip, if_neg ht']
  dsimp only
  rw [← he, if_pos (Or.inl hs), ← hr, if_neg (by omega)]

theorem Dev.regWrite_chStat (port : Nat) (w : Word) :
    d.regWrite port PSM_CH_STAT n 0 w none = if fget w 31 31 == 1 then d.latchClear n else d := rfl

theorem Dev.latchClear_latched {e : Dev} (he : e = d.put PSM_CH_STAT.LATCH 0 n) (hs : e.cState n = 5) :
    d.latchClear n = (e.setCState n 0).zeroState n := by
  subst he
  exact if_pos hs

end

/-- Settles O35: the carrier period stage by stage (`Dev.carrierPeriod_run`, with `chanTurn` for a channel's part); the rest is one branch of each
event. -/
theorem channelCommandsComplete : Obligations.ChannelCommandsComplete := by
  unfold Obligations.ChannelCommandsComplete
  refine ⟨?carrier, ?deep, ?trip, ?latch⟩
  case carrier =>
    intro s dt uv r g d a b u c e f lim x y hd haw ha hen hr hb hx hu hc hg he hl hg' hy hf hdr
    subst hl
    rw [← Dev.periodNext_run hg' hy] at hf
    simp only [← Dev.chanEnter_eq] at hu
    rw [exec_carrierPeriod, State.after_event _ haw, ← hd, Dev.carrierTurn, ← ha,
      Dev.carrierPeriod_run hen hr hb hx hu hc hg he.symm hf hdr, Dev.grpLegs]
  case deep =>
    intro s dt g d hd haw hs hne hdeep hi hdue
    have hall : d.allIdle g = true := List.all_eq_true.2 fun k hk => by
      rw [List.contains_iff_mem]
      exact hi k (List.mem_range.1 hk)
    rw [exec_deepSleep, State.after_event _ haw, ← hd, Dev.deepSleep_due hs hne hdeep hall hdue]
  case trip =>
    intro s dt va vb n isns d recent hd haw hs ht hr hl
    have hs' : (d.inc PSM_CH_STAT.TRIPS n).cState n = 2 := (d.get_put_beside n _ (by decide)).trans hs
    rw [exec_ilimTrip, State.after_event _ haw, ← hd, Dev.ilimTrip_once ht rfl hs' hr hl]
    rfl
  case latch =>
    intro s p n w c hc hs hso hl hst
    rw [hc] at hso
    rw [exec_latchClear, State.after_write_solo hs (b := 13) (by decide) n.isLt Nat.one_pos hso w, ← hc, Dev.regWrite_chStat, hl,
      if_pos (by decide), Dev.latchClear_latched rfl hst]

end Sys2Proof.Machine
end

section
/-! The boot and the loading over a host interface (R21 to R27). -/

namespace Sys2Proof.Machine

section

variable {d : Dev}

/-! ### The choice of the source and of the slot -/

theorem Dev.bootStart_source {sel : Nat} {e a : Dev} (hp : d.pwr.por = false) (hs : d.boot.step = 0) (hi : d.imageApplied = false)
    (he : e = { d with resetN := true }) (ha : a = ((e.wr SYS_BOOT_STATUS 0).put MGMT_STAT.HOSTIF (sel % 2)).setBoot { sel := sel % 4 }) :
    d.bootStart sel = if 2 ≤ sel % 4 then a.awaitHost else ((a.setBoot { a.boot with step := 1 }).setPhase 1).readDirectory := by
  have hidle : ¬ (e.pwr.por || e.boot.step != 0 || e.imageApplied) = true := by
    subst he
    simp [hp, hs, hi]
  rw [Dev.bootStart, ← he, if_neg hidle]
  dsimp only
  rw [← ha]

/-- The next attempt, of a slot that holds an image where 24-bit addresses reach all of it. -/
theorem nextFlash_attempt (n : Nat) {s : Nat} {rest : List Nat} {a b : Dev} (ho : d.boot.order = s :: rest) (hst : d.boot.staging = false)
    (hl : (d.boot.dir.slot s).2 ≠ 0) (hoff : (d.boot.dir.slot s).1 % 4096 = 0)
    (hend : (d.boot.dir.slot s).1 + (d.boot.dir.slot s).2 ≤ 2 ^ 24)
    (ha : a = d.setBoot { d.boot with order := rest, fslot := s, img := [] })
    (hb : b = (a.put SYS_BOOT_STATUS.ATTEMPTS (min 3 (a.get SYS_BOOT_STATUS.ATTEMPTS + 1))).setPhase 2) :
    nextFlash (n + 1) d = (b.setBoot { b.boot with step := 2 }).readSlot (d.boot.dir.slot s).1 := by
  have hst' : ¬ a.boot.staging = true := by
    subst ha
    simp [Dev.setBoot, hst]
  have hreach : ¬ ((d.boot.dir.slot s).1 % 4096 ≠ 0 ∨ (b.boot.dir.addr4 = false ∧ 2 ^ 24 < (d.boot.dir.slot s).1 + (d.boot.dir.slot s).2)) := by
    omega
  rw [nextFlash, ho]
  dsimp only
  rw [if_neg hl, ← ha, if_neg hst', ← hb, if_neg hreach]

theorem Dev.directoryRead_valid {x y : List Byte} {f : FlashDir} (hs : d.boot.step = 1) (hst : d.boot.staging = false) (hf : pickDir x y = some f) :
    d.directoryRead x y = nextFlash 3 (d.setBoot { d.boot with dir := f, order := [f.boot, 1 - f.boot] }) := by
  rw [Dev.directoryRead, if_neg (by simp [hs]), hf]
  simp only [hst, Bool.false_eq_true, if_false]

/-! ### The bytes of the image, its checks, and the image applied -/

theorem Dev.judgeImg_sound {f : Dev} (hh : d.boot.host = false) (hst : d.boot.staging = false)
    (hc : checkArrived d.boot.img false (d.boot.dir.slot d.boot.fslot).2 = 0) (hl : 0x40 + 16 * imgSecs d.boot.img ≤ d.boot.img.length)
    (hf : f = if imgComplete d.boot.img = true then (d.setPhase 3).setPhase 4 else d.setPhase 3) :
    d.judgeImg = if imgComplete d.boot.img = true then f.setBoot { f.boot with step := 3, img := d.boot.img.take (imgLen d.boot.img) } else f := by
  have htable : (decide (0x40 ≤ d.boot.img.length) && decide (0x40 + 16 * imgSecs d.boot.img ≤ d.boot.img.length)) = true := by
    rw [Bool.and_eq_true, decide_eq_true_iff, decide_eq_true_iff]
    omega
  subst hf
  rw [Dev.judgeImg]
  simp only [hh, hst, hc, htable, ne_eq, not_true_eq_false, Bool.false_eq_true, if_false, Bool.not_false, Bool.and_self, Bool.true_or, if_true,
    Bool.and_true]
  cases imgComplete d.boot.img <;> rfl

theorem Dev.imageData_flash {bs : List Byte} (hs : d.boot.step = 2) (hh : d.boot.host = false) :
    d.imageData bs = (d.setBoot { d.boot with img := d.boot.img ++ bs }).judgeImg := by
  rw [Dev.imageData, if_neg (by simp [hs]), if_neg (by simp [hh])]

theorem Dev.signatureVerified_good {f : Dev} (hs : d.boot.step = 3) (hst : d.boot.staging = false) (ha : checkAuth d.boot.img d.fuse = 0)
    (hc : checkContents d.boot.img = 0) (hf : f = (d.put SYS_BOOT_STATUS.AUTH_OK (b2n (imgSigOk d.boot.img))).setPhase 5) :
    d.signatureVerified = f.setBoot { f.boot with step := 4 } := by
  have hst' (v : Nat) : (d.put SYS_BOOT_STATUS.AUTH_OK v).boot.staging = false := hst
  rw [Dev.signatureVerified, if_neg (by simp [hs])]
  simp only [hst, hst', ha, hc, ne_eq, not_true_eq_false, Bool.false_eq_true, if_false, ← hf]

theorem Dev.sectionsApplied_first {a b c e f : Dev} {im : List Byte} {rs : List Region} (hs : d.boot.step = 4) (hst : d.boot.staging = false)
    (him : im = d.boot.img) (hrs : rs = placeRegions [] (imgContent im 5).regions [])
    (ha : a = ((d.loadCode im (bankOf im 0)).initRegions rs).applyImage im (bankOf im 0) rs)
    (hb : b = (((a.put SYS_SLOT_STATUS.REASON 0 0).put SYS_SLOT_STATUS.CODE_BANK (bankOf im 0) 0).setSlotState 0 3).setSlotImg 0 im)
    (hc : c = (b.put SYS_BOOT_STATUS.SLOT 0).put SYS_BOOT_STATUS.FALLBACK (b2n b.boot.fell))
    (he : e = c.put SYS_BOOT_STATUS.FSLOT (if b.boot.host = true then 0 else b.boot.fslot))
    (hf : f = (e.setBoot { e.boot with step := 0, img := [], host := false }).put SYS_BLK_STATUS.STATE 1) :
    d.sectionsApplied = ({ f with flt := { f.flt with cReset := false } } : Dev).pairStart.setPhase 6 := by
  rw [Dev.sectionsApplied, if_neg (by simp [hs, hst])]
  dsimp only
  rw [← him, ← hrs, ← ha, ← hb, ← hc, ← he, hf]
  rfl

/-! ### Errors, and chunks of a host -/

theorem Dev.flashError_image (hs : d.boot.step = 2) (hh : d.boot.host = false) : d.flashError = d.failAttempt 0xE := by
  rw [Dev.flashError, if_neg (by simp [hs]), if_pos ⟨hs, hh⟩]

theorem Dev.hostTimeout_due (hs : d.boot.step = 2) (hh : d.boot.host = true) (hc : d.boot.chunk = none)
    (hd : d.ranFor .hostLoad 1000000001 = true) : d.hostTimeout = d.failAttempt 0xF := by
  rw [Dev.hostTimeout, if_pos ⟨hs, hh, hc, hd⟩]

theorem Dev.regWrite_loadCtrl (port : Nat) (w : Word) : d.regWrite port SYS_LOAD_CTRL 0 0 w none =
    if fget w 15 0 = 0 then d else d.loadChunk (fget w 15 0) (fget w 31 31 == 1) := rfl

theorem Dev.loadChunk_first {len : Nat} {last : Bool} {e : Dev} (hl : len ≠ 0) (hr : d.is SYS_LOAD_STATUS.READY = true)
    (hh : d.boot.host = true) (hst : d.boot.staging = false) (hs : d.boot.step = 5)
    (he : e = (d.setBoot { d.boot with step := 2, chunk := some (min len 0x8000, last, d.boot.gap), arrived := false, gap := false }).put
      SYS_LOAD_STATUS.READY 0) :
    d.loadChunk len last = (e.put SYS_BOOT_STATUS.ATTEMPTS (min 3 (e.get SYS_BOOT_STATUS.ATTEMPTS + 1))).setPhase 2 := by
  rw [Dev.loadChunk, if_neg (by simp [hl, hr, hh, hs])]
  dsimp only
  rw [← he, if_pos (by simp [hs, hst])]

theorem Dev.loadChunk_further {len : Nat} {last : Bool} (hl : len ≠ 0) (hr : d.is SYS_LOAD_STATUS.READY = true)
    (hh : d.boot.host = true) (hs : d.boot.step = 2) : d.loadChunk len last =
      (d.setBoot { d.boot with step := 2, chunk := some (min len 0x8000, last, d.boot.gap), arrived := false, gap := false }).put
        SYS_LOAD_STATUS.READY 0 := by
  rw [Dev.loadChunk, if_neg (by simp [hl, hr, hh, hs])]
  dsimp only
  rw [if_neg (by simp [hs])]

/-- Nothing remains to be taken of a chunk whose bytes have arrived. -/
theorem Dev.chunkArrive_arrived {c : Nat × Bool × Bool} (hc : d.boot.chunk = some c) (ha : d.boot.arrived = true) : d.chunkArrive = d := by
  rw [Dev.chunkArrive, hc]
  exact if_pos ha

theorem Dev.chunkTaken_arrived {n : Nat} {last lacks : Bool} (hr : d.is SYS_LOAD_STATUS.READY = false)
    (hc : d.boot.chunk = some (n, last, lacks)) (ha : d.boot.arrived = true) (hl : last = true → imgComplete d.boot.img = true) :
    d.chunkTaken =
      (((d.setBoot { d.boot with chunk := none, arrived := false }).startTimer .hostLoad).put SYS_LOAD_STATUS.READY 1).raiseVec 5 := by
  have hwhole : ¬ (d.boot.step = 2 ∧ d.boot.host = true ∧ last = true ∧ imgComplete d.boot.img = false) := by
    rintro ⟨-, -, hlast, hpart⟩
    exact Bool.noConfusion ((hl hlast).symm.trans hpart)
  rw [Dev.chunkTaken, if_neg (by simp [hr])]
  simp only [Dev.chunkArrive_arrived hc ha, ite_self, hc, if_neg hwhole]

end

/-- Settles O36: an attempt from flash by `nextFlash_attempt`, the bytes by `Dev.judgeImg_sound`; the rest is one branch of each command. -/
theorem bootAndLoadCommandsComplete : Obligations.BootAndLoadCommandsComplete := by
  unfold Obligations.BootAndLoadCommandsComplete
  refine ⟨?start, ?directory, ?data, ?signature, ?sections, ?error, ?silent, ?chunkWord, ?first, ?last, ?taken⟩
  case start =>
    intro s dt sel d e a hd hp hs hi he ha
    rw [exec_bootStart, State.after_pin, ← hd, Dev.bootStart_source hp hs hi he ha, Nat.mod_eq_of_lt sel.isLt]
  case directory =>
    intro s dt x y d a b f hd haw hs hst hf hl hoff hend ha hb
    rw [exec_flashDirectoryRead, State.after_event _ haw, ← hd, Dev.directoryRead_valid hs hst hf,
      nextFlash_attempt (d := d.setBoot { d.boot with dir := f, order := [f.boot, 1 - f.boot] }) 2 rfl hst hl hoff hend ha hb]
    rfl
  case data =>
    intro s dt bs d e f hd haw hs hh hst he hc hl hf
    have hh' : e.boot.host = false := he ▸ hh
    have hst' : e.boot.staging = false := he ▸ hst
    rw [exec_imageDataArrive, State.after_event _ haw, ← hd, Dev.imageData_flash hs hh, ← he, Dev.judgeImg_sound hh' hst' hc hl hf]
  case signature =>
    intro s dt d f hd haw hs hst ha hc hf
    rw [exec_signatureVerified, State.after_event _ haw, ← hd, Dev.signatureVerified_good hs hst ha hc hf]
  case sections =>
    intro s dt d a b c e f im rs hd haw hs hst him hrs ha hb hc he hf
    have hboot : c.boot = b.boot := hc ▸ rfl
    rw [hboot] at he
    rw [exec_sectionsApplied, State.after_event _ haw, ← hd, Dev.sectionsApplied_first hs hst him hrs ha hb hc he hf]
  case error =>
    intro s dt d hd haw hs hh
    rw [exec_flashReadError, State.after_event _ haw, ← hd, Dev.flashError_image hs hh]
  case silent =>
    intro s dt d hd haw hs hh hc hdue
    rw [exec_hostLoadTimeout, State.after_event _ haw, ← hd, Dev.hostTimeout_due hs hh hc hdue]
  case chunkWord =>
    intro s p i w c hc hs
    rw [exec_chunkWrite_of_served i w hs, ← hc, Dev.chunkWrite]
  case first =>
    intro s p w c e last hc hs hl hr hh hst hstep hlast he
    subst hlast
    rw [exec_loadChunk, State.after_write hs (b := 0) (by decide) Nat.one_pos Nat.one_pos (by decide), ← hc, Dev.regWrite_loadCtrl, if_neg hl,
      Dev.loadChunk_first hl hr hh hst hstep he]
  case last =>
    intro s p w c hc hs hl hlast hr hh hstep
    rw [exec_loadLastChunk, State.after_write hs (b := 0) (by decide) Nat.one_pos Nat.one_pos (by decide), ← hc, Dev.regWrite_loadCtrl, if_neg hl,
      hlast, Dev.loadChunk_further hl hr hh hstep]
    rfl
  case taken =>
    intro s dt n last lacks d hd haw hr hs hh hc ha hl
    rw [exec_chunkTaken, State.after_event _ haw, ← hd, Dev.chunkTaken_arrived hr hc ha hl]

end Sys2Proof.Machine
end

section
/-! A write of MGMT_VEC_PEND0 acts before the count of its own access: a wrap of a counter that this access brings about sets vector 3 after
the write has cleared it. -/

namespace Sys2Proof.Machine

/-- Counter 0 counts the accesses, stands at its last count and interrupts; vector 3 goes to the host. -/
def aboutToWrapState : State :=
  { dev := (((({ State.reset.dev with perf := { effEn := [(0, 1)], cnt := [(0, 2 ^ 48 - 1)] } } : Dev).put PERF_CNT_CFG.EVENT 0x21 0).put
      PERF_CNT_CFG.IRQ 1 0).put MGMT_VEC_CFG.HOST 1 3) }

/-- The pending vectors 0 to 31 of the device of a next state. -/
def pendingVectors : Host.Outcome State Fault Refusal → Nat
  | .next t => t.dev.get MGMT_VEC_PEND0.P
  | _ => 0

/-- The core's write of 1 to vector 3 leaves it pending. -/
theorem pendingVectors_written : pendingVectors (exec (.regWrite .core (MGMT_VEC_PEND0.addr 0 0) 8) aboutToWrapState) = 8 := by decide +kernel

/-- Were the access counted first, the write would clear it. -/
theorem pendingVectors_counted : pendingVectors (aboutToWrapState.ends aboutToWrapState.dev
    ((aboutToWrapState.counted .core (MGMT_VEC_PEND0.addr 0 0)).regWrite (portNum .core) MGMT_VEC_PEND0 0 0 8 none)) = 0 := by decide +kernel

/-- Refutes O39: the write of MGMT_VEC_PEND0 whose access wraps a counter leaves vector 3 pending. -/
theorem not_windowCommandsComplete : ¬ Obligations.WindowCommandsComplete := by
  unfold Obligations.WindowCommandsComplete
  rintro ⟨hwrite, _⟩
  have hserved : aboutToWrapState.served .core := ⟨by decide +kernel, by decide +kernel⟩
  have h := hwrite aboutToWrapState .core 17 0 0 MGMT_VEC_PEND0 8 _ (by decide) Nat.one_pos Nat.one_pos (by decide) rfl hserved
  rw [if_neg (by decide)] at h
  exact absurd (pendingVectors_written.symm.trans ((congrArg pendingVectors h).trans pendingVectors_counted)) (by decide)

end Sys2Proof.Machine
end

section
/-! The scalar and control instructions of a Sprig (R61 to R75). -/

namespace Sys2Proof.Machine

section

variable {d t : Dev} {m : Nat} {x : SprigSt}

theorem Dev.spAlu_legal {op : BitVec 6} {f : RForm} {g : Word → Word → Word} (h : d.fetches m (f.word op)) (ht : t = d.fetched m)
    (hx : x = t.sprig m) (hl : f.legal .s .s .s false false 0 = true) :
    d.spAlu m op f g = t.goesNext m (d.sprig m).pc (x.setS f.d.toNat (g (x.sr f.a.toNat) (x.sr f.b.toNat))) := by
  subst hx
  exact Dev.issue_next h (beq_self_eq_true _) ht (if_neg (by simp [hl]))

theorem Dev.spAddi_next {f : IForm} (h : d.fetches m (f.word 0x0A)) (ht : t = d.fetched m) (hx : x = t.sprig m) :
    d.spAddi m f = t.goesNext m (d.sprig m).pc (x.setS f.d.toNat (x.sr f.a.toNat + f.imm.signExtend 32)) := by
  subst hx
  exact Dev.issue_next h (beq_self_eq_true _) ht rfl

theorem Dev.spLui_legal {f : IForm} (h : d.fetches m (f.word 0x0B)) (ht : t = d.fetched m) (ha : f.a = 0) :
    d.spLui m f = t.goesNext m (d.sprig m).pc ((t.sprig m).setS f.d.toNat (f.imm.zeroExtend 32 <<< 16)) :=
  Dev.issue_next h (beq_self_eq_true _) ht (if_neg (by simp [ha]))

/-! ### Branches and jumps -/

theorem Dev.spBranch_not_taken {op : BitVec 6} {f : BForm} {c : Word → Word → Bool} (h : d.fetches m (f.word op)) (ht : t = d.fetched m)
    (hx : x = t.sprig m) (hl : x.lastOfBody = false) (hc : c (x.sr f.a.toNat) (x.sr f.b.toNat) = false) :
    d.spBranch m op f c = t.goesNext m (d.sprig m).pc x := by
  subst hx
  exact Dev.issue_next h (beq_self_eq_true _) ht ((if_neg (by simp [hl])).trans (if_neg (by simp [hc])))

theorem Dev.spBranch_taken {op : BitVec 6} {f : BForm} {c : Word → Word → Bool} {r : Dev} {npc : Nat} (h : d.fetches m (f.word op))
    (ht : t = d.fetched m) (hx : x = t.sprig m) (hl : x.lastOfBody = false) (hc : c (x.sr f.a.toNat) (x.sr f.b.toNat) = true)
    (hr : t.spTaken m x (relTarget x.pc f.off.toInt) = .ok r npc none false false) :
    d.spBranch m op f c = r.goesOn t m (d.sprig m).pc npc none false false := by
  subst hx
  exact Dev.issue_ok h (beq_self_eq_true _) ht ((if_neg (by simp [hl])).trans ((if_pos hc).trans hr))

theorem Dev.spJal_within {f : JForm} {r : Dev} {npc : Nat} (h : d.fetches m (f.word 0x14)) (ht : t = d.fetched m) (hx : x = t.sprig m)
    (hl : x.lastOfBody = false)
    (hr : t.spTaken m (x.setS f.d.toNat (BitVec.ofNat 32 (x.pc + 4))) (relTarget x.pc f.off.toInt) = .ok r npc none false false) :
    d.spJal m f = r.goesOn t m (d.sprig m).pc npc none false false := by
  subst hx
  exact Dev.issue_ok h (beq_self_eq_true _) ht ((if_neg (by simp [hl])).trans hr)

theorem Dev.spJr_within {f : RForm} {r : Dev} {npc : Nat} (h : d.fetches m (f.word 0x15)) (ht : t = d.fetched m) (hx : x = t.sprig m)
    (hf : f.legal .none .s .none false false 0 = true) (hl : x.lastOfBody = false) (ha : (x.sr f.a.toNat).toNat % 4 = 0)
    (hr : t.spTaken m x (x.sr f.a.toNat).toNat = .ok r npc none false false) :
    d.spJr m f = r.goesOn t m (d.sprig m).pc npc none false false := by
  subst hx
  exact Dev.issue_ok h (beq_self_eq_true _) ht ((if_neg (by simp [hf, hl])).trans ((if_neg (by simp [ha])).trans hr))

/-! ### Loops -/

/-- How often a loop's body runs. -/
def LForm.times (f : LForm) (x : SprigSt) : Nat := if f.imm == 1 then f.cnt.toNat else (x.sr (f.cnt.toNat % 32)).toNat

theorem Dev.spLoop_skipped {f : LForm} (h : d.fetches m (f.word 0x16)) (ht : t = d.fetched m) (hx : x = t.sprig m)
    (hl : x.lastOfBody = false) (hlen : f.len ≠ 0) (ho : x.order.contains f.lc.toNat = false) (hn : LForm.times f x = 0) :
    d.spLoop m f = t.goesOn t m (d.sprig m).pc (x.pc + 4 * f.len.toNat + 4) none false false := by
  subst hx
  have hlegal : ¬ (f.len == 0 || (t.sprig m).lastOfBody || (t.sprig m).order.contains f.lc.toNat) = true := by
    rw [beq_eq_false_iff_ne.2 hlen, hl, ho]
    decide
  exact Dev.issue_ok h (beq_self_eq_true _) ht ((if_neg hlegal).trans (if_pos hn))

theorem Dev.spLoop_entered {f : LForm} (h : d.fetches m (f.word 0x16)) (ht : t = d.fetched m) (hx : x = t.sprig m)
    (hl : x.lastOfBody = false) (hlen : f.len ≠ 0) (ho : x.order.contains f.lc.toNat = false) (hn : LForm.times f x ≠ 0) :
    d.spLoop m f = t.goesNext m (d.sprig m).pc
      { x with lc := tabIns x.lc f.lc.toNat ⟨x.pc + 4, x.pc + 4 * f.len.toNat, LForm.times f x⟩, order := x.order ++ [f.lc.toNat] } := by
  subst hx
  have hlegal : ¬ (f.len == 0 || (t.sprig m).lastOfBody || (t.sprig m).order.contains f.lc.toNat) = true := by
    rw [beq_eq_false_iff_ne.2 hlen, hl, ho]
    decide
  exact Dev.issue_next h (beq_self_eq_true _) ht ((if_neg hlegal).trans (if_neg hn))

theorem Dev.loopIterate_due (hb : (d.sprig m).busy = true) (hi : (d.sprig m).iter = true) (hn : d.thk.inst ≠ none) :
    d.loopIterate m = d.setSprig m (loopBack ((d.sprig m).pc - 4) (d.sprig m).order.reverse (d.sprig m)) :=
  if_pos (by simp [hb, hi, Option.isSome_iff_ne_none, hn])

end

/-- Settles O40: the instructions of one shape by one lemma each (`Dev.spAlu_legal`, `Dev.spBranch_not_taken`, `Dev.spBranch_taken`). -/
theorem sprigScalarCommandsComplete : Obligations.SprigScalarCommandsComplete := by
  unfold Obligations.SprigScalarCommandsComplete
  intro s m d t x pc hd hh ht hx hpc
  subst hd hpc
  refine ⟨?alu, ?addi, ?lui, ?branch, ?jal, ?jr, ?loop, ?iterate⟩
  case alu =>
    intro f hl
    have alu (op : BitVec 6) (g : Word → Word → Word) (h : s.dev.fetches m (f.word op)) :
        s.after (fun d => d.issued (fun d => d.spAlu m op f g)) =
          s.settles (t.goesNext m (s.dev.sprig m).pc (x.setS f.d.toNat (g (x.sr f.a.toNat) (x.sr f.b.toNat)))) := by
      rw [State.after_issued _ hh, Dev.spAlu_legal h ht hx hl]
    simp only [List.forall_mem_cons, exec_add, exec_sub, exec_and, exec_or, exec_xor, exec_sll, exec_srl, exec_sra,
      exec_mul]
    exact ⟨alu _ _, alu _ _, alu _ _, alu _ _, alu _ _, alu _ _, alu _ _, alu _ _, alu _ _, fun _ h => absurd h List.not_mem_nil⟩
  case addi =>
    intro f h
    rw [exec_addi, State.after_issued _ hh, Dev.spAddi_next h ht hx]
  case lui =>
    intro f h ha
    rw [exec_lui, State.after_issued _ hh, Dev.spLui_legal h ht ha, ← hx]
  case branch =>
    intro f r npc
    have branch (op : BitVec 6) (c : Word → Word → Bool) (h : s.dev.fetches m (f.word op)) (hl : x.lastOfBody = false) :
        (c (x.sr f.a.toNat) (x.sr f.b.toNat) = false → s.after (fun d => d.issued (fun d => d.spBranch m op f c)) =
            s.settles (t.goesNext m (s.dev.sprig m).pc x))
          ∧ (c (x.sr f.a.toNat) (x.sr f.b.toNat) = true → t.spTaken m x (relTarget x.pc f.off.toInt) = .ok r npc none false false →
            s.after (fun d => d.issued (fun d => d.spBranch m op f c)) =
              s.settles (r.goesOn t m (s.dev.sprig m).pc npc none false false)) := by
      rw [State.after_issued _ hh]
      exact ⟨fun hc => by rw [Dev.spBranch_not_taken h ht hx hl hc], fun hc hr => by rw [Dev.spBranch_taken h ht hx hl hc hr]⟩
    simp only [List.forall_mem_cons, exec_beq, exec_bne, exec_blt, exec_bge]
    exact ⟨branch 0x10 (fun a b => a == b), branch 0x11 (fun a b => a != b), branch 0x12 (fun a b => a.slt b), branch 0x13 (fun a b => !a.slt b),
      fun _ h => absurd h List.not_mem_nil⟩
  case jal =>
    intro f r npc h hl hr
    rw [exec_jal, State.after_issued _ hh, Dev.spJal_within h ht hx hl hr]
  case jr =>
    intro f r npc h hf hl ha hr
    rw [exec_jr, State.after_issued _ hh, Dev.spJr_within h ht hx hf hl ha hr]
  case loop =>
    intro f n last h hl hlen ho hn hlast
    have hn' : LForm.times f x = n := by rw [hn, LForm.times]; exact if_congr beq_iff_eq rfl rfl
    rw [exec_loop, State.after_issued _ hh]
    split
    next h0 => rw [Dev.spLoop_skipped h ht hx hl hlen ho (hn'.trans h0), hlast]
    next h0 => rw [Dev.spLoop_entered h ht hx hl hlen ho (hn'.trans_ne h0), hlast, hn']
  case iterate =>
    intro hb hi hn
    rw [exec_loopIterate, State.after_issued _ hh, Dev.loopIterate_due hb hi hn]

end Sys2Proof.Machine
end

section
/-! The system instructions of a Sprig, and the exceptions of brk and of an unassigned opcode (R76 to R83). -/

namespace Sys2Proof.Machine

section

variable {d t : Dev} {m : Nat} {x : SprigSt}

theorem Dev.spRdpace_seen {f : RForm} (h : d.fetches m (f.word 0x38)) (ht : t = d.fetched m) (hx : x = t.sprig m)
    (hl : f.legal .s .none .none false false 0 = true) (hn : (t.job x.job).ndet = true) :
    d.spRdpace m f = t.goesNext m (d.sprig m).pc (x.setS f.d.toNat (BitVec.ofNat 32 t.pace)) := by
  subst hx
  exact Dev.issue_next h (beq_self_eq_true _) ht ((if_neg (by simp [hl])).trans (if_neg (by simp [hn])))

theorem Dev.spCsrr_seen {f : CForm} (h : d.fetches m (f.word 0x39)) (ht : t = d.fetched m) (hx : x = t.sprig m) (hz : f.zero = 0)
    (ha : f.a = 0) (hk : csrKnown f.csr.toNat = true)
    (hs : 0x100 ≤ f.csr.toNat → (t.job x.job).sys = true ∧ (t.job x.job).ndet = true) :
    d.spCsrr m f = t.goesNext m (d.sprig m).pc (x.setS f.d.toNat (BitVec.ofNat 32 (t.csrVal m f.csr.toNat x))) := by
  subst hx
  have hsys : ¬ (decide (0x100 ≤ f.csr.toNat) && !(t.job (t.sprig m).job).sys) = true := by simpa using fun hc => (hs hc).1
  have hndet : ¬ (decide (0x100 ≤ f.csr.toNat) && !(t.job (t.sprig m).job).ndet) = true := by simpa using fun hc => (hs hc).2
  exact Dev.issue_next h (beq_self_eq_true _) ht ((if_neg (by simp [hz, ha, hk])).trans ((if_neg hsys).trans (if_neg hndet)))

theorem Dev.spCsrw_sst {f : CForm} (h : d.fetches m (f.word 0x3A)) (ht : t = d.fetched m) (hx : x = t.sprig m) (hz : f.zero = 0)
    (hd : f.d = 0) (hc : f.csr = 0) :
    d.spCsrw m f = t.goesNext m (d.sprig m).pc { x with sst := (x.sr f.a.toNat).toNat % 32 } := by
  subst hx
  have hknown : csrKnown f.csr.toNat = true := by rw [hc]; decide
  exact Dev.issue_next h (beq_self_eq_true _) ht
    ((if_neg (by simp [hz, hd, hknown])).trans ((if_neg (by simp [hc])).trans (if_neg (by simp [hc]))))

theorem Dev.spFence_legal {f : RForm} (h : d.fetches m (f.word 0x3B)) (ht : t = d.fetched m)
    (hl : f.legal .none .none .none false false 0 = true) : d.spFence m f =
      ((t.spFlush m).setSprig m ((t.spFlush m).sprig m)).goesOn t m (d.sprig m).pc (((t.spFlush m).sprig m).pc + 4) none false false :=
  Dev.issue_ok h (beq_self_eq_true _) ht (if_neg (by simp [hl]))

theorem Dev.spBrk_legal {f : RForm} (h : d.fetches m (f.word 0x3E)) (ht : t = d.fetched m) (hx : x = t.sprig m)
    (hf : f.legal .none .none .none false false 0 = true) (hl : x.lastOfBody = false) : d.spBrk m f = t.spExcept m 9 0 0 none := by
  subst hx
  exact Dev.issue_exc h (beq_self_eq_true _) ht (if_neg (by simp [hf, hl]))

theorem Dev.spEnd_legal {f : RForm} (h : d.fetches m (f.word 0x3F)) (ht : t = d.fetched m) (hx : x = t.sprig m)
    (hf : f.legal .none .none .none false false 0 = true) (hl : x.lastOfBody = false) :
    d.spEnd m f = t.goesNext m (d.sprig m).pc { x with ended := true, lc := [], order := [] } := by
  subst hx
  exact Dev.issue_next h (beq_self_eq_true _) ht (if_neg (by simp [hf, hl]))

theorem Dev.spUnassigned_illegal {w : Word} (h : d.fetches m w) (ht : t = d.fetched m) (ho : opAssigned (opcodeOf w).toNat = false) :
    d.spUnassigned m w = t.spExcept m 1 0 0 none :=
  Dev.issue_exc h (by simp [ho]) ht rfl

end

/-- Settles O41: an instruction that the job may issue goes on, brk and an unassigned opcode take their exceptions. -/
theorem sprigSystemCommandsComplete : Obligations.SprigSystemCommandsComplete := by
  unfold Obligations.SprigSystemCommandsComplete
  intro s m d t x pc hd hh ht hx hpc
  subst hd hpc
  refine ⟨?rdpace, ?csrr, ?csrw, ?fence, ?brk, ?ends, ?unassigned⟩
  case rdpace =>
    intro f h hl hn
    rw [exec_rdpace, State.after_issued _ hh, Dev.spRdpace_seen h ht hx hl hn]
  case csrr =>
    intro f h hz ha hk hs
    rw [exec_csrr, State.after_issued _ hh, Dev.spCsrr_seen h ht hx hz ha hk hs]
  case csrw =>
    intro f h hz hd hc
    rw [exec_csrw, State.after_issued _ hh, Dev.spCsrw_sst h ht hx hz hd hc]
  case fence =>
    intro f h hl
    rw [exec_fence, State.after_issued _ hh, Dev.spFence_legal h ht hl]
  case brk =>
    intro f h hf hl
    rw [exec_brk, State.after_issued _ hh, Dev.spBrk_legal h ht hx hf hl]
  case ends =>
    intro f h hf hl
    rw [exec_endJob, State.after_issued _ hh, Dev.spEnd_legal h ht hx hf hl]
  case unassigned =>
    intro w h ho
    rw [exec_unassignedOpcode, State.after_issued _ hh, Dev.spUnassigned_illegal h ht ho]

end Sys2Proof.Machine
end

section
/-! The memory instructions of a Sprig, and its circular-address registers (R84 to R93). -/

namespace Sys2Proof.Machine

section

variable {d t u : Dev} {m : Nat} {x y : SprigSt}

/-! ### Loads -/

/-- A load that reads its words reports those with a corrected error before it writes its register. -/
theorem Dev.spLoadTo_read {n w : Nat} {as ws cor : List Nat} {g : SprigSt → List Nat → SprigSt} (hl : d.spLoad m n as = .ok (ws, cor, w))
    (hu : u = cor.foldl (fun d k => d.corrected FS.THK_ECC_CORR { addr := k, master := m, ty := 1 }) d) :
    d.spLoadTo m n as g = .ok (u.setSprig m (g (u.sprig m) ws)) ((u.sprig m).pc + 4) (some (w, as.headD 0)) true false := by
  rw [Dev.spLoadTo, hl, hu]

section

variable {ws cor : List Nat} {w : Nat} (ht : t = d.fetched m) (hx : x = t.sprig m)
  (hu : u = cor.foldl (fun d k => d.corrected FS.THK_ECC_CORR { addr := k, master := m, ty := 1 }) t) (hy : y = u.sprig m)

include ht hx hu hy

theorem Dev.spLdw_read {f : IForm} (h : d.fetches m (f.word 0x18)) (hl : t.spLoad m 4 [eaOf x f] = .ok (ws, cor, w)) : d.spLdw m f =
    (u.setSprig m (y.setS f.d.toNat (BitVec.ofNat 32 (ws.headD 0)))).goesOn t m (d.sprig m).pc (y.pc + 4) (some (w, eaOf x f)) true false := by
  subst hx hy
  exact Dev.issue_ok h (beq_self_eq_true _) ht (Dev.spLoadTo_read hl hu)

theorem Dev.spVld_read {f : IForm} (h : d.fetches m (f.word 0x1C)) (hd : f.d.toNat < 8)
    (hl : t.spLoad m 16 [eaOf x f] = .ok (ws, cor, w)) : d.spVld m f =
    (u.setSprig m (y.setV f.d.toNat (ofLanes 0 ws))).goesOn t m (d.sprig m).pc (y.pc + 4) (some (w, eaOf x f)) true false := by
  subst hx hy
  exact Dev.issue_ok h (beq_self_eq_true _) ht ((if_neg (by simp [RFile.ok, hd])).trans (Dev.spLoadTo_read hl hu))

theorem Dev.spVlds_read {f : IForm} (h : d.fetches m (f.word 0x20)) (hd : f.d.toNat < 8)
    (hl : t.spLoad m 4 [eaOf x f] = .ok (ws, cor, w)) : d.spVlds m f =
    (u.setSprig m (y.setV f.d.toNat (ofLanes 0 (List.replicate 4 (ws.headD 0))))).goesOn t m (d.sprig m).pc (y.pc + 4)
      (some (w, eaOf x f)) true false := by
  subst hx hy
  exact Dev.issue_ok h (beq_self_eq_true _) ht ((if_neg (by simp [RFile.ok, hd])).trans (Dev.spLoadTo_read hl hu))

theorem Dev.spVldc_read {f : MForm} {c : CaSt} (h : d.fetches m (f.word 0x1E)) (hf : f.legal = true) (hc : c = x.car f.c.toNat)
    (hn : c.len ≠ 0) (hl : t.spLoad m 4 (c.lanes (f.lanes.toNat + 1)) = .ok (ws, cor, w)) : d.spVldc m f =
    (u.setSprig m ((y.setV f.d.toNat (ofLanes 0 ws)).setCa f.c.toNat (c.advance f.step.toInt))).goesOn t m (d.sprig m).pc (y.pc + 4)
      (some (w, (c.lanes (f.lanes.toNat + 1)).headD 0)) true false := by
  subst hx hy hc
  exact Dev.issue_ok h (beq_self_eq_true _) ht ((if_neg (by simp [hf])).trans ((if_neg hn).trans (Dev.spLoadTo_read hl hu)))

end

/-! ### Stores -/

/-- A store to addresses that the job may write enters the store buffer, the oldest entries having completed where it was full. -/
theorem Dev.spStoreAt_entered {n w k : Nat} {as : List Nat} {vals : List (List Byte)} {es : List (Nat × List Byte)} {g : SprigSt → SprigSt}
    (hne : as ≠ []) (ha : ∀ a ∈ as, a % n = 0 ∧ d.spMap m a n true ≠ none)
    (hes : es = (as.zip vals).map (fun e => (((d.spMap m e.1 n true).getD (0, 0)).2, e.2)))
    (hu : u = d.spDrain m ((d.sprig m).buf.length + es.length - 16)) (hw : u.spMap m (as.headD 0) n true = some (w, k)) :
    d.spStoreAt m n as vals g = .ok (u.setSprig m (g { u.sprig m with buf := (u.sprig m).buf ++ es })) ((u.sprig m).pc + 4)
      (some (w, as.headD 0)) false true := by
  have haligned : as.find? (fun a => a % n != 0) = none := List.find?_eq_none.2 fun a hm => by simp [(ha a hm).1]
  have hmapped : as.find? (fun a => (d.spMap m a n true).isNone) = none := List.find?_eq_none.2 fun a hm => by simp [(ha a hm).2]
  have hwindow : ((as.head?.bind (fun a => u.spMap m a n true)).getD (0, 0)).1 = w := by
    cases as with
    | nil => exact absurd rfl hne
    | cons a as => exact congrArg (fun o : Option (Nat × Nat) => (o.getD (0, 0)).1) hw
  rw [Dev.spStoreAt, haligned, hmapped]
  dsimp only
  rw [← hes, ← hu, hwindow]

section

variable {w k : Nat} (ht : t = d.fetched m) (hx : x = t.sprig m) (hy : y = u.sprig m)

include ht hx hy

theorem Dev.spStw_entered {f : IForm} (hu : u = t.spDrain m (x.buf.length + 1 - 16)) (h : d.fetches m (f.word 0x19))
    (ha : eaOf x f % 4 = 0) (hw : t.spMap m (eaOf x f) 4 true = some (w, k)) (hw' : u.spMap m (eaOf x f) 4 true = some (w, k)) :
    d.spStw m f = (u.setSprig m { y with buf := y.buf ++ [(k, leBytes 4 (x.sr f.d.toNat).toNat)] }).goesOn t m (d.sprig m).pc (y.pc + 4)
      (some (w, eaOf x f)) false true := by
  subst hx hy
  refine Dev.issue_ok h (beq_self_eq_true _) ht (Dev.spStoreAt_entered (List.cons_ne_nil _ _) ?_ ?_ hu hw')
  · simp [ha, hw]
  · simp [hw]

theorem Dev.spVst_entered {f : IForm} (hu : u = t.spDrain m (x.buf.length + 1 - 16)) (h : d.fetches m (f.word 0x1D))
    (hd : f.d.toNat < 8) (ha : eaOf x f % 16 = 0) (hw : t.spMap m (eaOf x f) 16 true = some (w, k))
    (hw' : u.spMap m (eaOf x f) 16 true = some (w, k)) :
    d.spVst m f = (u.setSprig m { y with buf := y.buf ++ [(k, leBytes 16 (x.vr f.d.toNat).toNat)] }).goesOn t m (d.sprig m).pc (y.pc + 4)
      (some (w, eaOf x f)) false true := by
  subst hx hy
  refine Dev.issue_ok h (beq_self_eq_true _) ht
    ((if_neg (by simp [RFile.ok, hd])).trans (Dev.spStoreAt_entered (List.cons_ne_nil _ _) ?_ ?_ hu hw'))
  · simp [ha, hw]
  · simp [hw]

theorem Dev.spVstc_entered {f : MForm} {c : CaSt} {n : Nat} {as : List Nat} {es : List (Nat × List Byte)}
    (hu : u = t.spDrain m (x.buf.length + es.length - 16)) (hw : u.spMap m (as.headD 0) 4 true = some (w, k)) (h : d.fetches m (f.word 0x1F))
    (hf : f.legal = true) (hc : c = x.car f.c.toNat) (hl : c.len ≠ 0) (hn : n = f.lanes.toNat + 1) (has : as = c.lanes n)
    (ha : ∀ a ∈ as, a % 4 = 0 ∧ t.spMap m a 4 true ≠ none)
    (hes : es = (as.zip ((List.range n).map (fun i => leBytes 4 (laneOf 0 (x.vr f.d.toNat) i)))).map
      (fun e => (((t.spMap m e.1 4 true).getD (0, 0)).2, e.2))) :
    d.spVstc m f = (u.setSprig m (({ y with buf := y.buf ++ es } : SprigSt).setCa f.c.toNat (c.advance f.step.toInt))).goesOn t m (d.sprig m).pc
      (y.pc + 4) (some (w, as.headD 0)) false true := by
  have hne : as ≠ [] := by simp [has, hn, CaSt.lanes]
  subst hx hy hc hn has
  exact Dev.issue_ok h (beq_self_eq_true _) ht
    ((if_neg (by simp [hf])).trans ((if_neg hl).trans (Dev.spStoreAt_entered hne ha hes hu hw)))

end

/-! ### The circular-address registers -/

theorem Dev.spSetca_legal {f : RForm} {b l : Nat} (h : d.fetches m (f.word 0x34)) (ht : t = d.fetched m) (hx : x = t.sprig m)
    (hf : f.legal .ca .s .s false false 0 = true) (hb : b = (x.sr f.a.toNat).toNat) (hl : l = (x.sr f.b.toNat).toNat) (hb4 : b % 4 = 0)
    (hl4 : l % 4 = 0) (hmax : l ≤ 2 ^ 24) : d.spSetca m f = t.goesNext m (d.sprig m).pc (x.setCa f.d.toNat ⟨b, l, 0⟩) := by
  have hfit : ¬ (b % 4 ≠ 0 ∨ l % 4 ≠ 0 ∨ 2 ^ 24 < l) := by omega
  subst hx hb hl
  exact Dev.issue_next h (beq_self_eq_true _) ht ((if_neg (by simp [hf])).trans (if_neg hfit))

/-- A legal word of a form without modifiers holds AUX 0. -/
theorem RForm.aux_of_legal {f : RForm} {d a b : RFile} {fmt neg : Bool} (h : f.legal d a b fmt neg 0 = true) : f.aux.toNat = 0 := by
  unfold RForm.legal at h
  obtain ⟨-, haux⟩ := Bool.and_eq_true_iff.1 h
  have hmask : f.aux.toNat &&& 255 = 0 := beq_iff_eq.1 haux
  have hlow : f.aux.toNat &&& 255 = f.aux.toNat := (Nat.and_two_pow_sub_one_eq_mod _ 8).trans (Nat.mod_eq_of_lt f.aux.isLt)
  exact hlow.symm.trans hmask

theorem Dev.spCaoff_legal {f : RForm} (h : d.fetches m (f.word 0x35)) (ht : t = d.fetched m) (hx : x = t.sprig m)
    (hf : f.legal .s .ca .none false false 0 = true) :
    d.spCaoff m f = t.goesNext m (d.sprig m).pc (x.setS f.d.toNat (BitVec.ofNat 32 (x.car f.a.toNat).off)) := by
  subst hx
  exact Dev.issue_next h (by rw [RForm.aux_of_legal hf, beq_self_eq_true]; decide) ht (if_neg (by simp [hf]))

theorem Dev.spCaoffW_legal {f : RForm} {c : CaSt} (h : d.fetches m (f.word 0x35)) (ht : t = d.fetched m) (hx : x = t.sprig m) (ha : f.aux = 1)
    (hf : f.legal .ca .s .none false false 1 = true) (hc : c = x.car f.d.toNat) (hl : c.len ≠ 0) :
    d.spCaoffW m f = t.goesNext m (d.sprig m).pc (x.setCa f.d.toNat { c with off := ((x.sr f.a.toNat).toInt % c.len).toNat }) := by
  subst hx hc
  refine Dev.issue_next h (by rw [ha, beq_self_eq_true]; decide) ht ((if_neg (by simp [hf])).trans ?_)
  rw [if_neg hl]

end

/-- Settles O42: loads by `Dev.spLoadTo_read`, stores by `Dev.spStoreAt_entered`. -/
theorem sprigMemoryCommandsComplete : Obligations.SprigMemoryCommandsComplete := by
  unfold Obligations.SprigMemoryCommandsComplete
  intro s m d t x pc hd hh ht hx hpc
  subst hd hpc
  refine ⟨?load, ?store, ?vldc, ?vstc, ?setca, ?caoff, ?caoffW⟩
  case load =>
    intro f ws cor w u y hu hy
    refine ⟨fun h hl => ?_, fun h hd hl => ?_, fun h hd hl => ?_⟩
    · rw [exec_ldw, State.after_issued _ hh, Dev.spLdw_read ht hx hu hy h hl]
    · rw [exec_vld, State.after_issued _ hh, Dev.spVld_read ht hx hu hy h hd hl]
    · rw [exec_vlds, State.after_issued _ hh, Dev.spVlds_read ht hx hu hy h hd hl]
  case store =>
    intro f w k u y hu hy
    refine ⟨fun h ha hw hw' => ?_, fun h hd ha hw hw' => ?_⟩
    · rw [exec_stw, State.after_issued _ hh, Dev.spStw_entered ht hx hy hu h ha hw hw']
    · rw [exec_vst, State.after_issued _ hh, Dev.spVst_entered ht hx hy hu h hd ha hw hw']
  case vldc =>
    intro f c ws cor w u y hu hy h hf hc hn hl
    rw [exec_vldc, State.after_issued _ hh, Dev.spVldc_read ht hx hu hy h hf hc hn hl]
  case vstc =>
    intro f c n w k as es u y hu hy hw h hf hc hl hn has ha _ hes
    rw [exec_vstc, State.after_issued _ hh, Dev.spVstc_entered ht hx hy hu hw h hf hc hl hn has ha hes]
  case setca =>
    intro f b l h hf hb hl hb4 hl4 hmax
    rw [exec_setca, State.after_issued _ hh, Dev.spSetca_legal h ht hx hf hb hl hb4 hl4 hmax]
  case caoff =>
    intro f h hf
    rw [exec_caoff, State.after_issued _ hh, Dev.spCaoff_legal h ht hx hf]
  case caoffW =>
    intro f c h ha hf hc hl
    rw [exec_caoffW, State.after_issued _ hh, Dev.spCaoffW_legal h ht hx ha hf hc hl]

end Sys2Proof.Machine
end

section
/-! The vector and accumulator instructions of a Sprig (R94 to R109). -/

namespace Sys2Proof.Machine

section

variable {d t : Dev} {m fmt : Nat} {x : SprigSt} {f : RForm} (ht : t = d.fetched m) (hx : x = t.sprig m) (hfmt : fmt = f.fmt.toNat)

include ht hx

/-! ### Lane by lane -/

section

include hfmt

theorem Dev.spLanes_legal {op : BitVec 6} {neg fixed : Bool} {g : Nat → Nat → Nat → Nat × Nat} {r : List Nat × Nat}
    (h : d.fetches m (f.word op)) (hl : f.legal .v .v .v true neg 0 = true) (hn : fixed = false → fmt ≠ 0)
    (hr : r = lanes (laneCount fmt) (fun k => g fmt (laneOf fmt (x.vr f.a.toNat) k) (laneOf fmt (x.vr f.b.toNat) k))) :
    d.spLanes m op f neg fixed g = t.goesNext m (d.sprig m).pc ((x.setV f.d.toNat (ofLanes fmt r.1)).flags r.2) := by
  subst hx hfmt hr
  have hfloat : ¬ (!fixed && f.fmt.toNat == 0) = true := by simpa using hn
  exact Dev.issue_next h (beq_self_eq_true _) ht ((if_neg (by simp [hl])).trans (if_neg hfloat))

theorem Dev.spVabs_legal {r : List Nat × Nat} (h : d.fetches m (f.word 0x27)) (hl : f.legal .v .v .none true true 0 = true)
    (hr : r = lanes (laneCount fmt) (fun k => laneAbs (f.neg == 1) fmt (laneOf fmt (x.vr f.a.toNat) k))) :
    d.spVabs m f = t.goesNext m (d.sprig m).pc ((x.setV f.d.toNat (ofLanes fmt r.1)).flags r.2) := by
  subst hx hfmt hr
  exact Dev.issue_next h (beq_self_eq_true _) ht (if_neg (by simp [hl]))

theorem Dev.spVcvt_legal {r : List Nat × Nat} {dst : Nat} (h : d.fetches m (f.word 0x2B)) (hl : f.legal .v .v .none true false 3 = true)
    (hd : dst = f.aux.toNat % 4) (h3 : dst ≠ 3)
    (hr : r = lanes (if fmt = 2 ∨ dst = 2 then 2 else 4) (fun k => laneCvt fmt dst (laneOf fmt (x.vr f.a.toNat) k))) :
    d.spVcvt m f = t.goesNext m (d.sprig m).pc ((x.setV f.d.toNat (ofLanes dst r.1)).flags r.2) := by
  subst hx hfmt hd hr
  exact Dev.issue_next h (beq_self_eq_true _) ht (if_neg (by simp [hl, h3]))

end

theorem Dev.spVshf_legal (h : d.fetches m (f.word 0x2A)) (hl : f.legal .v .v .none true false 255 = true) :
    d.spVshf m f = t.goesNext m (d.sprig m).pc (x.setV f.d.toNat (ofLanes 0
      [laneOf 0 (x.vr f.a.toNat) (f.aux.toNat % 4), laneOf 0 (x.vr f.a.toNat) (f.aux.toNat / 4 % 4),
       laneOf 0 (x.vr f.a.toNat) (f.aux.toNat / 16 % 4), laneOf 0 (x.vr f.a.toNat) (f.aux.toNat / 64 % 4)])) := by
  subst hx
  have hfields : (List.range 4).map (fun i => laneOf 0 ((t.sprig m).vr f.a.toNat) (f.aux.toNat / 4 ^ i % 4)) = _ :=
    congrArg (fun n => laneOf 0 ((t.sprig m).vr f.a.toNat) (n % 4) :: _) (Nat.div_one f.aux.toNat)
  exact hfields ▸ Dev.issue_next h (beq_self_eq_true _) ht (if_neg (by simp [hl]))

theorem Dev.spVins_legal (h : d.fetches m (f.word 0x2C)) (hl : f.legal .v .s .none false false 3 = true) :
    d.spVins m f = t.goesNext m (d.sprig m).pc (x.setV f.d.toNat (ofLanes 0
      (setNth ((List.range 4).map (laneOf 0 (x.vr f.d.toNat))) (f.aux.toNat % 4) (x.sr f.a.toNat).toNat))) := by
  subst hx
  exact Dev.issue_next h (beq_self_eq_true _) ht (if_neg (by simp [hl]))

theorem Dev.spVext_legal (h : d.fetches m (f.word 0x2D)) (hl : f.legal .s .v .none false false 3 = true) :
    d.spVext m f = t.goesNext m (d.sprig m).pc (x.setS f.d.toNat
      (BitVec.ofNat 32 (laneOf 0 (x.vr f.a.toNat) (f.aux.toNat % 4)))) := by
  subst hx
  exact Dev.issue_next h (beq_self_eq_true _) ht (if_neg (by simp [hl]))

/-! ### The accumulators -/

include hfmt

theorem Dev.spMac_vectors {u : Dev} {r : AccSt × Nat} (htag : (x.ac f.d.toNat).tag = fmt)
    (hu : u = t.perfEvent 0x04 (laneCount fmt) { s := (t.job x.job).sys, master := m }) (h : d.fetches m (f.word 0x23))
    (hl : f.legal .acc .v .v true true 0 = true)
    (hr : r = macLanes (f.neg == 1) fmt (x.ac f.d.toNat) (laneOf fmt (x.vr f.a.toNat)) (laneOf fmt (x.vr f.b.toNat))) :
    d.spMac m 0x23 false f = (u.setSprig m ((x.setAc f.d.toNat r.1).flags r.2)).goesOn t m (d.sprig m).pc (x.pc + 4) none false false := by
  subst hx hfmt hr hu
  exact Dev.issue_ok h (beq_self_eq_true _) ht ((if_neg (by simp [hl])).trans (if_neg (by simp [htag])))

theorem Dev.spMac_scalar {u : Dev} {r : AccSt × Nat} (htag : (x.ac f.d.toNat).tag = fmt)
    (hu : u = t.perfEvent 0x04 (laneCount fmt) { s := (t.job x.job).sys, master := m }) (h : d.fetches m (f.word 0x24))
    (hl : f.legal .acc .v .s true true 0 = true) (h2 : fmt ≠ 2)
    (hr : r = macLanes (f.neg == 1) fmt (x.ac f.d.toNat) (laneOf fmt (x.vr f.a.toNat)) (fun _ => (x.sr f.b.toNat).toNat)) :
    d.spMac m 0x24 true f = (u.setSprig m ((x.setAc f.d.toNat r.1).flags r.2)).goesOn t m (d.sprig m).pc (x.pc + 4) none false false := by
  subst hx hfmt hr hu
  exact Dev.issue_ok h (beq_self_eq_true _) ht ((if_neg (by simp [hl])).trans (if_neg (by simp [htag, h2])))

theorem Dev.spAccz_legal (h : d.fetches m (f.word 0x30)) (hl : f.legal .acc .none .none true false 0 = true) :
    d.spAccz m f = t.goesNext m (d.sprig m).pc (x.setAc f.d.toNat { lanes := [0, 0, 0, 0], tag := fmt }) := by
  subst hx hfmt
  exact Dev.issue_next h (beq_self_eq_true _) ht (if_neg (by simp [hl]))

theorem Dev.spAccrd_legal {r : List Nat × Nat} (h : d.fetches m (f.word 0x31)) (hl : f.legal .v .acc .none true false 63 = true)
    (htag : (x.ac f.a.toNat).tag = fmt)
    (hr : r = lanes (laneCount fmt) (fun k => laneRead fmt (nth 0 (x.ac f.a.toNat).lanes k) (sgnW 6 f.aux.toNat))) :
    d.spAccrd m f = t.goesNext m (d.sprig m).pc ((x.setV f.d.toNat (ofLanes fmt r.1)).flags r.2) := by
  subst hx hfmt hr
  exact Dev.issue_next h (beq_self_eq_true _) ht ((if_neg (by simp [hl])).trans (if_neg (by simp [htag])))

theorem Dev.spAccred_legal {p q r : Nat × Nat} {l : Nat → Nat} (h : d.fetches m (f.word 0x32))
    (hl : f.legal .acc .none .none true false 0 = true) (htag : (x.ac f.d.toNat).tag = fmt) (hlanes : l = nth 0 (x.ac f.d.toNat).lanes)
    (hp : p = laneSum fmt (l 0) (l 1)) (hq : q = laneSum fmt (l 2) (l 3)) (hr : r = laneSum fmt p.1 q.1) :
    d.spAccred m f = t.goesNext m (d.sprig m).pc
      ((x.setAc f.d.toNat { x.ac f.d.toNat with lanes := [if fmt = 2 then p.1 else r.1, 0, 0, 0] }).flags
        (if fmt = 2 then p.2 else p.2 ||| q.2 ||| r.2)) := by
  subst hx hfmt hlanes hr
  refine Dev.issue_next h (beq_self_eq_true _) ht ((if_neg (by simp [hl])).trans ((if_neg (by simp [htag])).trans ?_))
  simp only [← hp, ← hq]
  split <;> rfl

end

/-- Settles O43: an instruction with legal fields takes the one branch of its effect that is left; the lane-wise ones share
`Dev.spLanes_legal`. -/
theorem sprigVectorCommandsComplete : Obligations.SprigVectorCommandsComplete := by
  unfold Obligations.SprigVectorCommandsComplete
  intro s m d t x pc f fmt hd hh ht hx hpc hfmt
  subst hd hpc
  refine ⟨?twoOperands, ?vabs, ?mac, ?vshf, ?vcvt, ?vins, ?vext, ?accz, ?accrd, ?accred⟩
  case twoOperands =>
    intro r
    have two (op : BitVec 6) (neg fixed : Bool) (g : LaneOp) (h : s.dev.fetches m (f.word op)) (hl : f.legal .v .v .v true neg 0 = true)
        (hn : fixed = false → fmt ≠ 0)
        (hr : r = lanes (laneCount fmt) (fun k => lane2 g fmt (laneOf fmt (x.vr f.a.toNat) k) (laneOf fmt (x.vr f.b.toNat) k))) :
        s.after (fun d => d.issued (fun d => d.spLanes m op f neg fixed (lane2 g))) =
          s.settles (t.goesNext m (s.dev.sprig m).pc ((x.setV f.d.toNat (ofLanes fmt r.1)).flags r.2)) := by
      rw [State.after_issued _ hh, Dev.spLanes_legal ht hx hfmt h hl hn hr]
    simp only [List.forall_mem_cons, exec_vadd, exec_vmul, exec_vmin, exec_vmax, exec_vdiv]
    exact ⟨fun h hl _ => two _ _ _ _ h hl nofun, fun h hl _ => two _ _ _ _ h hl nofun, fun h hl _ => two _ _ _ _ h hl nofun,
      fun h hl _ => two _ _ _ _ h hl nofun, fun h hl hn => two _ _ _ _ h hl fun _ => hn trivial, fun _ h => absurd h List.not_mem_nil⟩
  case vabs =>
    intro r h hl hr
    rw [exec_vabs, State.after_issued _ hh, Dev.spVabs_legal ht hx hfmt h hl hr]
  case mac =>
    intro u r htag hu
    refine ⟨fun h hl hr => ?_, fun h hl h2 hr => ?_⟩
    · rw [exec_vmac, State.after_issued _ hh, Dev.spMac_vectors ht hx hfmt htag hu h hl hr]
    · rw [exec_vmacs, State.after_issued _ hh, Dev.spMac_scalar ht hx hfmt htag hu h hl h2 hr]
  case vshf =>
    intro h hl
    rw [exec_vshf, State.after_issued _ hh, Dev.spVshf_legal ht hx h hl]
  case vcvt =>
    intro r dst h hl hd h3 hr
    rw [exec_vcvt, State.after_issued _ hh, Dev.spVcvt_legal ht hx hfmt h hl hd h3 hr]
  case vins =>
    intro h hl
    rw [exec_vins, State.after_issued _ hh, Dev.spVins_legal ht hx h hl]
  case vext =>
    intro h hl
    rw [exec_vext, State.after_issued _ hh, Dev.spVext_legal ht hx h hl]
  case accz =>
    intro h hl
    rw [exec_accz, State.after_issued _ hh, Dev.spAccz_legal ht hx hfmt h hl]
  case accrd =>
    intro r h hl htag hr
    rw [exec_accrd, State.after_issued _ hh, Dev.spAccrd_legal ht hx hfmt h hl htag hr]
  case accred =>
    intro p q r l h hl htag hlanes hp hq hr
    rw [exec_accred, State.after_issued _ hh, Dev.spAccred_legal ht hx hfmt h hl htag hlanes hp hq hr]

end Sys2Proof.Machine
end
